-- ==== Sys2Proof/Word.lean ====
section
/-! DEFINITION. The word types of the model: what the spec treats as bits is a bit vector, everything else is not. -/

namespace Sys2Proof

/-- One byte. -/
abbrev Byte := BitVec 8
/-- A register, a scalar register or an instruction word: 32 bits (R3, R261). -/
abbrev Word := BitVec 32
/-- A hit word, a Saonjo word, a queue word: 64 bits (R44, R225). -/
abbrev DWord := BitVec 64
/-- A store word: 16 bytes (R72). -/
abbrev QWord := BitVec 128
/-- A management address (R1). -/
abbrev Addr := BitVec 48

/-- A sparse table: pairs of a key and a value, the keys strictly rising. What an unlisted key reads as is said by the
reader. -/
abbrev Tab (α : Type) := List (Nat × α)

end Sys2Proof
end

