-- ==== Sys2Proof/Syntax.lean ====
section
/-! DEFINITION. The commands of the block: one constructor of `Instr` for each row of spec/opcode_table.json, with the
types of their operands. -/

namespace Sys2Proof

/-! ### Units -/

/-- A physical engine, VE0 to VE67 (R103). -/
abbrev VE := Fin 68
/-- An engine slot (R118). -/
abbrev Slot := Fin 64
/-- A lane, L0 to L127. -/
abbrev Lane := Fin 128
/-- A hardware queue, Q0 to Q8191 (R223). -/
abbrev Queue := Fin 8192
/-- A master of the management matrix (R345). -/
abbrev Master := Fin 12
/-- One of the three cores of the Triad (R323). -/
abbrev Core3 := Fin 3

/-- Where a scalar instruction executes: the sequencer of an engine, or the voted Triad. -/
inductive CoreId where
  | seq (n : VE)
  | triad
deriving DecidableEq, Repr

/-! ### The store -/

/-- What is wrong with a 64-bit half of the store (R86, R87). -/
inductive ErrKind where
  /-- A single-bit error, which a read corrects. -/
  | single
  /-- An uncorrectable syndrome. -/
  | uncorrectable
  /-- An uncorrectable syndrome whose folded-address part is not zero. -/
  | address
  /-- A half written poisoned. -/
  | poison
  /-- Three or more bits that alias to a correctable syndrome: what is delivered is wrong, and counts as corrected (R391).
  Only an upset; what it leaves in the memory is a wrong value with a single-bit error. -/
  | aliased
  /-- Three or more bits that pass undetected (R391). Only an upset; it leaves a wrong value. -/
  | silent
deriving DecidableEq, Repr

/-- An upset of the store: the half (store byte address / 8) that takes the error. -/
structure Upset where
  half : Nat
  kind : ErrKind
deriving DecidableEq, Repr

/-- The element types of R115. -/
inductive ElemTy where
  | i8 | u8 | i16 | u16 | i32 | u32 | q15 | q31 | f16 | f32
deriving DecidableEq, Repr

/-- The combines of R174. -/
inductive Comb where
  | add | sadd | min | max | or | hist
deriving DecidableEq, Repr

/-- Who sends a request to a bank (R83, R84). -/
inductive StoreAgent where
  /-- A pipe of an engine; the request carries the lowest element that contributed to it (R178). -/
  | pipe (n : VE) (elem : BitVec 16)
  /-- The sequencer of an engine. -/
  | seq (n : VE)
  /-- The ingress router. -/
  | router
  /-- Background traffic (R83): of readout and the queue fabric, or else of the management matrix. -/
  | background (fabric : Bool)
deriving DecidableEq, Repr

/-- What a request asks of its bank (R84, R88, R91, R92). -/
inductive StoreOp where
  /-- A read of the named bytes of the word. -/
  | read
  /-- A write of the named bytes of the word. -/
  | write (data : QWord)
  /-- A combine on the named elements. -/
  | combine (op : Comb) (ty : ElemTy) (data : QWord)
  /-- A load-linked read of 4 bytes. -/
  | loadLinked
  /-- A store-conditional of the named bytes. -/
  | storeCond (data : QWord)
deriving DecidableEq, Repr

/-- A request accepted at a bank: the word it addresses, its byte enables, and the bank cycle of its acceptance. -/
structure StoreReq where
  agent : StoreAgent
  /-- Word address (byte address / 16, R73). -/
  word  : Nat
  /-- Byte enables: bit j names byte j of the word. -/
  bytes : BitVec 16
  op    : StoreOp
  /-- The bank cycle in which it was accepted. -/
  accepted : Nat
deriving DecidableEq, Repr

/-! ### Vector instructions (R132) -/

/-- The vector opcodes of R148 to R164. -/
inductive VOp where
  | add | sub | min | max | abs | neg | absdiff | avg | clamp | mov | raw | sel
  | and | or | xor | andn | not | shl | shr | bfx
  | mul | mulh | mulw | mac | macw
  | cmpeq | cmpne | cmplt | cmple | cmpgt | cmpge
  | fadd | fsub | fmul | fma | fmin | fmax | fabs | fneg | cvt | tlu | twr
  | div | sqrt | rsqrt
  | rsum | rmin | rmax | rand | ror
  | mand | mor | mxor | mandn | mnot | mfill | mpop | mfirst
  | compress | expand
  | ld | ldg | st | sts | stc
deriving DecidableEq, Repr

/-- The fields of a vector instruction other than its opcode (R132). -/
structure VFields where
  chain : Bool
  pipe  : BitVec 2
  ty    : BitVec 4
  ty2   : BitVec 4
  mask  : BitVec 3
  src1  : BitVec 6
  src2  : BitVec 6
  dkind : BitVec 2
  dreg  : BitVec 5
  rm    : BitVec 2
  sat   : Bool
  trap  : Bool
  imm   : BitVec 16
deriving DecidableEq, Repr

/-- An upset of an engine's own state: a 64-bit group of a mask register, or an entry of T (R113, R114, R391). -/
inductive EngUpset where
  | mask (m : Fin 8) (group : Fin 1024) (kind : ErrKind)
  | table (entry : Fin 3072) (kind : ErrKind)
  | store (u : Upset)
deriving DecidableEq, Repr


/-! ### Registers of two halves -/

/-- The writable LO and HI pairs of R364. -/
inductive Pair where
  | tmrCmp (n : Fin 8)
  | tmrTop (n : Fin 8)
  | calSet
  | calAlarm
  | crcPoly (u : Fin 16)
  | crcInit (u : Fin 16)
  | crcXorout (u : Fin 16)
  | crcValue (u : Fin 16)
  | crcExpect (u : Fin 16)
  | lbistExp
deriving DecidableEq, Repr

/-- What a random tag records of the instruction that retired last, beside what State holds of it (R389): its five stage stamps,
and whether it raised an exception. [DEDUCED, unsafe: assumption 84] -/
structure TagInfo where
  s0     : BitVec 16
  s1     : BitVec 16
  s2     : BitVec 16
  s3     : BitVec 16
  s4     : BitVec 16
  exc    : Bool
deriving DecidableEq, Repr

/-- What the serial flash's JESD216 tables declare (R415, R454): its size in bytes, whether it can suspend an erase, the
latency of that suspend and the maximum time of a page program, both in ns, and whether it has a 4 KiB erase, a 1-1-4 or 1-4-4
fast read and 4-byte addressing. [DESIGN CHOICE, unsafe: assumption 14; DEDUCED, unsafe: assumption 56] -/
structure FlashInfo where
  size      : Nat
  suspend   : Bool
  suspendNs : Nat
  pageNs    : Nat
  erase4k   : Bool
  quadRead  : Bool
  addr4     : Bool
deriving DecidableEq, Repr

/-- Whether the suspend latency plus five maximum page-program times exceed 1.9 ms (R415). -/
def FlashInfo.slow (i : FlashInfo) : Bool := decide (1900000 < i.suspendNs + 5 * i.pageNs)

/-- What the boot ROM requires the flash to declare: a 4 KiB erase, a four-line fast read, and 4-byte addressing beyond
128 Mbit; flashes up to 1 Gbit are supported (R454). -/
def FlashInfo.usable (i : FlashInfo) : Bool :=
  i.erase4k && i.quadRead && (decide (i.size ≤ 2 ^ 24) || i.addr4) && decide (i.size ≤ 2 ^ 27)

/-- What the boot ROM meets at the release of reset (R452 to R461): the code that the converter reads at CFGSEL; what the
flash declares, where it has the tables; whether reading slot A or B of the flash fails; the engines that fail LBIST
and the lanes that fail their loopback, where the image asks for these tests; and the time until the last step, in µs.
[DESIGN CHOICE, safe: assumption 8] -/
structure BootIn where
  code    : BitVec 6
  sfdp    : Option FlashInfo
  errA    : Bool
  errB    : Bool
  lbist   : BitVec 68
  loop    : BitVec 128
  timeUs  : Word
deriving DecidableEq, Repr

/-! ### The Triad's votes (R325) -/

/-- What each of the three cores offers for one thing that is voted. -/
structure Votes (α : Type) where
  v0 : α
  v1 : α
  v2 : α
deriving DecidableEq, Repr

/-- A voted write: the register as `VT_LAST.REG` numbers it (R343), and the value of each core; a capability's tag is bit
128. -/
structure VoteWrite where
  reg  : Fin 60
  vals : Votes (BitVec 129)
deriving DecidableEq, Repr

/-- A request that a Triad core presents to the matrix: the 16 bytes it lies in, their data and the byte enables (R325). -/
structure CoreReq where
  write : Bool
  addr  : BitVec 48
  data  : BitVec 128
  en    : BitVec 16
deriving DecidableEq, Repr

/-- A write request that a core folds into its signature, with its mc offset within the window (R325). -/
structure SigWrite where
  addr : BitVec 48
  data : BitVec 128
  en   : BitVec 16
  off  : BitVec 6
deriving DecidableEq, Repr

/-- What is compared in one mc beside the voted writes: the signatures of a window that ends in it, and the requests that the
cores present to the matrix (R325, R332). -/
structure Compared where
  sig : Option (Votes (List SigWrite)) := none
  req : Option (Votes CoreReq) := none
deriving DecidableEq, Repr

/-- A new level on an input-capture pin, and for how many mc the pin holds it (R372, R496). -/
structure Edge where
  rising : Bool
  mc     : BitVec 8
deriving DecidableEq, Repr

/-- Samples of VDD_CORE, one each 8 mc: so many in a row of the same voltage, in mV (R440). -/
structure SampleRun where
  mv : BitVec 10
  n  : BitVec 24
deriving DecidableEq, Repr

/-! ### Requests on the management matrix (R347, R479) -/

/-- An upset of a memory of the matrix: a half of the store, a half of local memory or of the vault, the three copies of a
tag of local memory (R86, R357), or the pointers of a queue, one copy of them or `both` (R394). -/
inductive MemUpset where
  | store (u : Upset)
  | localMemory (half : Fin 262144) (kind : ErrKind)
  | tag (slot : Fin 131072)
  | vault (half : Fin 8192) (kind : ErrKind)
  | queue (q : Queue) (both : Bool)
deriving DecidableEq, Repr

/-- A transaction of a master: its address, how many bytes it covers less 1, the bytes it writes (byte 0 lowest) where it is
a write, whether a read carries the peek attribute, and an upset that strikes before it. -/
structure MxReq where
  addr  : Addr
  last  : BitVec 8
  write : Option (BitVec 2048)
  peek  : Bool
  up    : Option MemUpset
deriving DecidableEq, Repr

/-- The registers of the endpoint's configuration space that R466 and R471 speak of, each by its name in the PCI Express
specification: Vendor and Device ID, Revision ID and class code, the identifiers of the seven capabilities, Device Capabilities,
Link Control, the correctable errors of AER, and the serial number. -/
inductive CfgReg where
  | ids | revClass | cap (i : Fin 7) | devCap | linkControl | aerCorrectable | serial
deriving DecidableEq, Repr

/-- A TLP to a BAR: whether to BAR2, the offset in the BAR, how many bytes it covers less 1 (a read up to 4,096 bytes, a write
up to 512), the bytes it writes, byte 0 lowest, where it is a write, and an upset that strikes before it (R466 to R468). -/
structure BarReq where
  bar2  : Bool
  addr  : BitVec 32
  last  : BitVec 12
  write : Option (BitVec 4096)
  up    : Option MemUpset
  /-- The TLP is a configuration request for this register instead (R466). -/
  cfg   : Option CfgReg := none
deriving DecidableEq, Repr

/-- An exit that the host begins: PCIE_PERST_N rises and stays high for so many mc, or the link leaves L1 or L2 (R473, R496). -/
inductive HostExit where
  | perst (mc : BitVec 8)
  | link
deriving DecidableEq, Repr

/-- An SMBus transaction: the 7-bit address, the command byte, whether it reads a word or a block, or writes, and how its
PEC stands (R475). -/
inductive SmbKind where
  | readWord | blockRead | write
deriving DecidableEq, Repr

@[inherit_doc SmbKind]
inductive SmbPec where
  | absent | good | bad
deriving DecidableEq, Repr

@[inherit_doc SmbKind]
structure SmbReq where
  addr : BitVec 7
  code : BitVec 8
  kind : SmbKind
  pec  : SmbPec
deriving DecidableEq, Repr

/-- What the sensors measure at a snapshot: die temperatures in 1/8 °C, the seven supply voltages of R476 in mV, and the
power estimate in 0.1 W. -/
structure Telemetry where
  temps    : Vector (BitVec 16) 8
  supplies : Vector (BitVec 16) 7
  power    : BitVec 16
deriving DecidableEq, Repr

/-- The request of a DBGACC access, bits [127:0] as Update-DR takes them (R478): ADDR, WRITE, EFFECT, SIZE8 and DATA. -/
structure DbgReq where
  addr   : Addr
  write  : Bool
  effect : Bool
  size8  : Bool
  data   : DWord
  up     : Option MemUpset
deriving DecidableEq, Repr

/-! ### Scalar instructions (R262)

Each structure holds the fields of one format that an instruction's row does not fix. A field named `z` must be 0. -/

/-- Format R. -/
structure RInsn where
  rd : BitVec 5
  ra : BitVec 5
  rb : BitVec 5
  z  : BitVec 7
deriving DecidableEq, Repr

/-- Format I. -/
structure IInsn where
  rd  : BitVec 5
  ra  : BitVec 5
  imm : BitVec 14
deriving DecidableEq, Repr

/-- Format U. -/
structure UInsn where
  rd  : BitVec 5
  imm : BitVec 23
deriving DecidableEq, Repr

/-- Format M. With AM 3, `imm` holds RX in bits [4:0], SC in [6:5] and 0 in [9:7]. -/
structure MInsn where
  rd  : BitVec 5
  ra  : BitVec 5
  cap : BitVec 3
  am  : BitVec 2
  imm : BitVec 10
deriving DecidableEq, Repr

/-- Format B. -/
structure BInsn where
  ra  : BitVec 5
  rb  : BitVec 5
  off : BitVec 15
deriving DecidableEq, Repr

/-- Format J. -/
structure JInsn where
  z   : BitVec 1
  off : BitVec 26
deriving DecidableEq, Repr

/-- Format S. -/
structure SInsn where
  rd  : BitVec 5
  ra  : BitVec 5
  imm : BitVec 12
deriving DecidableEq, Repr

/-- Format P: REG, bits [21:6] (COUNT, or RS in the low five), bits [31:22]; `next` says that the instruction which follows
is one that R273 allows. -/
structure PInsn where
  reg   : Bool
  count : BitVec 16
  z     : BitVec 10
  next  : Bool
deriving DecidableEq, Repr

/-! ### The commands -/

/-- A command of the block: one constructor for each row of spec/opcode_table.json. Operands named `m` are the master that
sends a register access, `up` and `err` an error that strikes with it. -/
inductive Instr where
  /-- LOCK_REQ (R42): A write of 1 to FT_CTRL.LOCK_REQ in UNLOCKED or REFUSED starts the lock sequence in MEASURING;
  in any other state it is ignored. -/
  | lockReq (m : Master) (v : Word)
  /-- REF_MEASURE_DONE (R16): After 1 ms of counting REFCLK edges the unit writes REF_KHZ, makes the refusal checks
  (codes 1 to 4) and either refuses or starts PLL_LOCKING. -/
  | refMeasureDone (khz : BitVec 17)
  /-- PLL_LOCK_DONE (R16): The CCLK PLL locks to REFCLK and the unit enters SEEKING. -/
  | pllLockDone
  /-- PLL_LOCK_TIMEOUT (R493): The PLL has not locked within 200 µs and the unit refuses with code 5. -/
  | pllLockTimeout
  /-- FSYNC_MARKER (R39): A rising FSYNC transition is sampled: while SEEKING it advances or restarts the marker
  count; while LOCKED an unexpected marker is an extra marker that sets SYNC and adds to FT_SYNC_ERR_CNT. -/
  | fsyncMarker
  /-- CROSSING_TICK (R43): At each REFCLK rising edge while LOCKED, the crossing tick advances the crossing count, the
  timers that count crossings, and the emission of one verdict word. -/
  | crossingTick
  /-- FRAME_TICK (R18): At cc 0 of every frame the frame buffers rotate, the collection buffer is sealed, staged
  changes apply, reservations break and the frame number advances. -/
  | frameTick
  /-- CHECKPOINT_TRAILER_WRITE (R120): Once every context word has been performed at its bank, the engine writes the
  checkpoint trailer. -/
  | checkpointTrailerWrite (n : VE)
  /-- FRAME_PROGRAM_START (R120): At cc 96 the engine writes s1 to s6, loads the slot's entry address (or the lean
  entry under the heart note) and begins to execute. -/
  | frameProgramStart
  /-- DEADLINE_GUARD (R24): At cc W every late slot is stopped, its accords abandoned, and LATE, the late bits,
  FT_OVERRUN_CNT and OVERRUN are set. -/
  | deadlineGuard
  /-- VERDICT_ASSEMBLY (R246): From cc W + 32 the verdict unit reads the partials, substitutes defaults per bit and
  assembles F verdict words. -/
  | verdictAssembly
  /-- SILLAGE_WRITE (R253): From cc W + 160 the frame's words and its header are written to the sillage rings and the
  frame counters are updated. -/
  | sillageWrite
  /-- VERDICT_FRAME_SEND (R250): From cc W + 224 each chunk is sent as a PARTIAL Saonjo frame on every enabled lane,
  counting frames for lanes out of service. -/
  | verdictFrameSend
  /-- REF_LOSS (R40): No REFCLK edge for 1 µs in a watched state lowers VVALID, discards all frame buffers, switches
  CCLK to the crystal and enters UNLOCKED. -/
  | refLoss
  /-- UNLOCK (R41): A write of 1 to FT_CTRL.UNLOCK ends a lock sequence at once, or while LOCKED unlocks at the next
  cc 0. -/
  | unlock (m : Master) (v : Word)
  /-- EVAL_EN_WRITE (R38): A write of FT_CTRL.EVAL_EN is checked against F × M and PROVED_W and takes effect at a
  frame boundary. -/
  | evalEnWrite (m : Master) (v : Word)
  /-- REGISTER_WRITE (R7): A write to a register without a row of its own passes ownership, state and value checks and
  sets, clears or triggers its fields by their access codes. -/
  | registerWrite (m : Master) (a : Addr) (wide : Bool) (v : DWord)
  /-- RC_READ (R7): A non-peek read of an RC field returns its value and sets the field to its reset value. -/
  | rcRead (m : Master) (a : Addr) (wide : Bool)
  /-- PEEK_READ (R479): A read carrying the peek attribute returns the target's value with no side effect. -/
  | peekRead (m : Master) (a : Addr) (last : BitVec 4) (up : Option MemUpset)
  /-- FLIT_RECEIVE (R424): A received flit is checked and its bytes added to the frame in progress on its virtual
  channel, or discarded with its frame. -/
  | flitReceive (l : Lane) (f : BitVec 256) (fec : Option (List (BitVec 10)))
  /-- SAONJO_FRAME_ACCEPT (R51): A complete Saonjo frame is accepted when its CRC check completes, is checked whole
  and is routed, filed, delivered to a lane queue or discarded per R69. -/
  | saonjoFrameAccept (l : Lane) (vc : Fin 8) (up : Option Upset)
  /-- IR_ENABLE_WRITE (R58): A write of 1 to IR_CTRL.ENABLE is refused and sets CFG_ERR when the buffer placement is
  broken. -/
  | irEnableWrite (m : Master) (v : Word)
  /-- STORE_REQUEST (R84): A bank performs one chosen access in a bank cycle: a read, write, read-modify-write,
  combine, load-linked or store-conditional. -/
  | storeRequest (bc : Nat) (reqs : List StoreReq) (up : Option Upset)
  /-- ECC_WRITEBACK (R87): In a later background cycle the bank atomically rereads, corrects and writes back the
  corrected word. -/
  | eccWriteback
  /-- SCRUB_ACCESS (R95): A bank-group controller reads one row of a mapped bank and writes back single-bit
  corrections atomically. -/
  | scrubAccess (g : Fin 128) (bank : Fin 64) (row : Fin 4096) (up : Option Upset)
  /-- SCRUB_LATE (R96): A group that has not finished a pass within PERIOD_MS sets SCRUB_LATE and continues. -/
  | scrubLate
  /-- ROTATION_STEP_START (R98): Every STEP_MS an automatic rotation step begins copying the next physical bank into
  the spare with mirrored writes. -/
  | rotationStepStart
  /-- ROT_STEP_CMD (R101): A write of ST_ROT_CMD.GO starts a rotation step now or after the step in progress. -/
  | rotStepCmd (m : Master) (v : Word)
  /-- ROT_TARGETED_CMD (R99): ST_ROT_CMD with TARGETED set starts a step whose source is the physical bank holding
  TARGET_LOG, refused while NO_SPARE. -/
  | rotTargetedCmd (m : Master) (log : BitVec 13)
  /-- ROTATION_COPY_DONE (R97): The copy of all 4,096 rows completes and the switch is staged for a frame boundary. -/
  | rotationCopyDone
  /-- ROTATION_TEST_START (R97): When the last mirrored request has been performed, mirroring ends and the MBIST march
  of the old source begins. -/
  | rotationTestStart
  /-- ROTATION_TEST_DONE (R100): The source passes and becomes the spare, or fails and is retired leaving the store
  with no spare. -/
  | rotationTestDone (pass : Bool)
  /-- ACCORD_BEGIN (R109): An accord begins when the previous one has finished, latching VL and descriptors, making
  the issue checks and taking queue items. -/
  | accordBegin (n : VE)
  /-- ACCORD_FINISH (R108): The accord finishes when its last store is accepted or last result leaves, writing scalar
  destinations, VSAT and queue counts. -/
  | accordFinish (n : VE)
  /-- MID_VECTOR_FAULT (R191): An arithmetic trap, uncorrectable load word or engine-state error found while elements
  stream stops the accord's requests and reports the fault. -/
  | midVectorFault (n : VE) (up : Option EngUpset)
  /-- QUEUE_STORE_ALLOCATE (R230): A queue store stream allocates an item when its elements are complete, or discards
  it and the rest of the stream when it does not fit. -/
  | queueStoreAllocate (n : VE) (err : Option Bool)
  /-- V_ADD (R148): Vector ADD: a + b per element. -/
  | vAdd (n : VE) (f : VFields)
  /-- V_SUB (R148): Vector SUB: a − b per element. -/
  | vSub (n : VE) (f : VFields)
  /-- V_MIN (R148): Vector MIN: the lesser of a and b. -/
  | vMin (n : VE) (f : VFields)
  /-- V_MAX (R148): Vector MAX: the greater of a and b. -/
  | vMax (n : VE) (f : VFields)
  /-- ABS (R148): Vector ABS: |a|. -/
  | abs (n : VE) (f : VFields)
  /-- NEG (R148): Vector NEG: −a for signed types. -/
  | neg (n : VE) (f : VFields)
  /-- ABSDIFF (R148): Vector ABSDIFF: |a − b|. -/
  | absdiff (n : VE) (f : VFields)
  /-- AVG (R148): Vector AVG: (a + b) / 2 rounded per RM. -/
  | avg (n : VE) (f : VFields)
  /-- CLAMP (R148): Vector CLAMP: min(max(a, b), c), counting changed elements. -/
  | clamp (n : VE) (f : VFields)
  /-- MOV (R148): Vector MOV: copies a. -/
  | mov (n : VE) (f : VFields)
  /-- RAW (R148): Vector RAW: the bits of a retyped as TYPE2. -/
  | raw (n : VE) (f : VFields)
  /-- SEL (R148): Vector SEL: a where the named mask bit is 1, else b. -/
  | sel (n : VE) (f : VFields)
  /-- V_AND (R148): Vector AND. -/
  | vAnd (n : VE) (f : VFields)
  /-- V_OR (R148): Vector OR. -/
  | vOr (n : VE) (f : VFields)
  /-- V_XOR (R148): Vector XOR. -/
  | vXor (n : VE) (f : VFields)
  /-- V_ANDN (R148): Vector ANDN: a AND NOT b. -/
  | vAndn (n : VE) (f : VFields)
  /-- NOT (R148): Vector NOT. -/
  | not (n : VE) (f : VFields)
  /-- V_SHL (R148): Vector SHL: raw a × 2^b. -/
  | vShl (n : VE) (f : VFields)
  /-- V_SHR (R148): Vector SHR: raw a / 2^b rounded per RM. -/
  | vShr (n : VE) (f : VFields)
  /-- BFX (R148): Vector BFX: extracts and extends a bit field of a. -/
  | bfx (n : VE) (f : VFields)
  /-- V_MUL (R149): Vector MUL, integer or Q. -/
  | vMul (n : VE) (f : VFields)
  /-- V_MULH (R149): Vector MULH: high half of the exact product. -/
  | vMulh (n : VE) (f : VFields)
  /-- MULW (R149): Vector MULW: exact widening product as TYPE2. -/
  | mulw (n : VE) (f : VFields)
  /-- MAC (R149): Vector MAC: a × b + c rounded once. -/
  | mac (n : VE) (f : VFields)
  /-- MACW (R149): Vector MACW: widening product plus c as TYPE2. -/
  | macw (n : VE) (f : VFields)
  /-- CMPEQ (R150): Vector compare a = b into a mask. -/
  | cmpeq (n : VE) (f : VFields)
  /-- CMPNE (R150): Vector compare a ≠ b into a mask. -/
  | cmpne (n : VE) (f : VFields)
  /-- CMPLT (R150): Vector compare a < b into a mask. -/
  | cmplt (n : VE) (f : VFields)
  /-- CMPLE (R150): Vector compare a ≤ b into a mask. -/
  | cmple (n : VE) (f : VFields)
  /-- CMPGT (R150): Vector compare a > b into a mask. -/
  | cmpgt (n : VE) (f : VFields)
  /-- CMPGE (R150): Vector compare a ≥ b into a mask. -/
  | cmpge (n : VE) (f : VFields)
  /-- FADD (R151): Float add. -/
  | fadd (n : VE) (f : VFields)
  /-- FSUB (R151): Float subtract. -/
  | fsub (n : VE) (f : VFields)
  /-- FMUL (R151): Float multiply. -/
  | fmul (n : VE) (f : VFields)
  /-- FMA (R151): Float fused multiply-add. -/
  | fma (n : VE) (f : VFields)
  /-- FMIN (R151): Float minimum per R159. -/
  | fmin (n : VE) (f : VFields)
  /-- FMAX (R151): Float maximum per R159. -/
  | fmax (n : VE) (f : VFields)
  /-- FABS (R151): Float absolute value by sign bit. -/
  | fabs (n : VE) (f : VFields)
  /-- FNEG (R151): Float negate by sign bit. -/
  | fneg (n : VE) (f : VFields)
  /-- CVT (R152): Converts a to TYPE2 by value. -/
  | cvt (n : VE) (f : VFields)
  /-- TLU (R153): Table lookup in T with clamped index. -/
  | tlu (n : VE) (f : VFields)
  /-- TWR (R153): Writes active elements into table memory T. -/
  | twr (n : VE) (f : VFields)
  /-- V_DIV (R154): Divide-unit DIV with the special cases of R155. -/
  | vDiv (n : VE) (f : VFields)
  /-- SQRT (R154): Divide-unit square root. -/
  | sqrt (n : VE) (f : VFields)
  /-- RSQRT (R154): Divide-unit reciprocal square root. -/
  | rsqrt (n : VE) (f : VFields)
  /-- RSUM (R160): Sum reduction into a scalar register. -/
  | rsum (n : VE) (f : VFields)
  /-- RMIN (R160): Minimum reduction into a scalar register. -/
  | rmin (n : VE) (f : VFields)
  /-- RMAX (R160): Maximum reduction into a scalar register. -/
  | rmax (n : VE) (f : VFields)
  /-- RAND (R160): Bitwise AND reduction. -/
  | rand (n : VE) (f : VFields)
  /-- V_ROR (R160): Bitwise OR reduction (vector ROR). -/
  | vRor (n : VE) (f : VFields)
  /-- MAND (R161): Mask AND. -/
  | mand (n : VE) (f : VFields)
  /-- MOR (R161): Mask OR. -/
  | mor (n : VE) (f : VFields)
  /-- MXOR (R161): Mask XOR. -/
  | mxor (n : VE) (f : VFields)
  /-- MANDN (R161): Mask AND NOT. -/
  | mandn (n : VE) (f : VFields)
  /-- MNOT (R161): Mask NOT. -/
  | mnot (n : VE) (f : VFields)
  /-- MFILL (R161): Fills active mask bits with IMM[0]. -/
  | mfill (n : VE) (f : VFields)
  /-- MPOP (R161): Counts active set mask bits into a scalar. -/
  | mpop (n : VE) (f : VFields)
  /-- MFIRST (R161): Index of the first active set mask bit into a scalar. -/
  | mfirst (n : VE) (f : VFields)
  /-- COMPRESS (R162): Packs active elements to the front and writes their count. -/
  | compress (n : VE) (f : VFields)
  /-- EXPAND (R163): Spreads load elements to active positions. -/
  | expand (n : VE) (f : VFields)
  /-- LD (R165): Strided or queue load stream. -/
  | ld (n : VE) (f : VFields)
  /-- LDG (R172): Gather load stream. -/
  | ldg (n : VE) (f : VFields)
  /-- ST (R165): Strided or queue store stream. -/
  | st (n : VE) (f : VFields)
  /-- STS (R173): Scatter store stream. -/
  | sts (n : VE) (f : VFields)
  /-- STC (R174): Scatter-combine stream. -/
  | stc (n : VE) (f : VFields)
  /-- ADD (R264): Scalar add. -/
  | add (u : CoreId) (i : RInsn)
  /-- ADDI (R264): Scalar add immediate. -/
  | addi (u : CoreId) (i : IInsn)
  /-- SUB (R264): Scalar subtract. -/
  | sub (u : CoreId) (i : RInsn)
  /-- AND (R264): Scalar AND. -/
  | and (u : CoreId) (i : RInsn)
  /-- ANDI (R264): Scalar AND immediate. -/
  | andi (u : CoreId) (i : IInsn)
  /-- OR (R264): Scalar OR. -/
  | or (u : CoreId) (i : RInsn)
  /-- ORI (R264): Scalar OR immediate. -/
  | ori (u : CoreId) (i : IInsn)
  /-- XOR (R264): Scalar XOR. -/
  | xor (u : CoreId) (i : RInsn)
  /-- XORI (R264): Scalar XOR immediate. -/
  | xori (u : CoreId) (i : IInsn)
  /-- ANDN (R264): Scalar AND NOT. -/
  | andn (u : CoreId) (i : RInsn)
  /-- SHL (R264): Scalar shift left. -/
  | shl (u : CoreId) (i : RInsn)
  /-- SHLI (R264): Scalar shift left immediate. -/
  | shli (u : CoreId) (i : IInsn)
  /-- SHR (R264): Scalar logical shift right. -/
  | shr (u : CoreId) (i : RInsn)
  /-- SHRI (R264): Scalar logical shift right immediate. -/
  | shri (u : CoreId) (i : IInsn)
  /-- SRA (R264): Scalar arithmetic shift right. -/
  | sra (u : CoreId) (i : RInsn)
  /-- SRAI (R264): Scalar arithmetic shift right immediate. -/
  | srai (u : CoreId) (i : IInsn)
  /-- SLT (R264): Set if less than, signed. -/
  | slt (u : CoreId) (i : RInsn)
  /-- SLTI (R264): Set if less than immediate, signed. -/
  | slti (u : CoreId) (i : IInsn)
  /-- SLTU (R264): Set if less than, unsigned. -/
  | sltu (u : CoreId) (i : RInsn)
  /-- SLTIU (R264): Set if less than immediate, unsigned. -/
  | sltiu (u : CoreId) (i : IInsn)
  /-- MIN (R264): Scalar signed minimum. -/
  | min (u : CoreId) (i : RInsn)
  /-- MAX (R264): Scalar signed maximum. -/
  | max (u : CoreId) (i : RInsn)
  /-- MINU (R264): Scalar unsigned minimum. -/
  | minu (u : CoreId) (i : RInsn)
  /-- MAXU (R264): Scalar unsigned maximum. -/
  | maxu (u : CoreId) (i : RInsn)
  /-- ROR (R264): Scalar rotate right. -/
  | ror (u : CoreId) (i : RInsn)
  /-- ADDS (R264): Scalar saturating add. -/
  | adds (u : CoreId) (i : RInsn)
  /-- SUBS (R264): Scalar saturating subtract. -/
  | subs (u : CoreId) (i : RInsn)
  /-- CLZ (R264): Count leading zeros. -/
  | clz (u : CoreId) (i : RInsn)
  /-- POPC (R264): Population count. -/
  | popc (u : CoreId) (i : RInsn)
  /-- BSWAP (R264): Byte reverse. -/
  | bswap (u : CoreId) (i : RInsn)
  /-- SEXTB (R264): Sign-extend byte. -/
  | sextb (u : CoreId) (i : RInsn)
  /-- SEXTH (R264): Sign-extend half-word. -/
  | sexth (u : CoreId) (i : RInsn)
  /-- LUI (R263): Load upper immediate. -/
  | lui (u : CoreId) (i : UInsn)
  /-- MUL (R265): Scalar multiply, low 32 bits. -/
  | mul (u : CoreId) (i : RInsn)
  /-- MULH (R265): Scalar signed multiply high. -/
  | mulh (u : CoreId) (i : RInsn)
  /-- MULHU (R265): Scalar unsigned multiply high. -/
  | mulhu (u : CoreId) (i : RInsn)
  /-- DIV (R265): Scalar signed divide, a long operation. -/
  | div (u : CoreId) (i : RInsn)
  /-- DIVU (R265): Scalar unsigned divide, a long operation. -/
  | divu (u : CoreId) (i : RInsn)
  /-- REM (R265): Scalar signed remainder, a long operation. -/
  | rem (u : CoreId) (i : RInsn)
  /-- REMU (R265): Scalar unsigned remainder, a long operation. -/
  | remu (u : CoreId) (i : RInsn)
  /-- LONG_OP_COMPLETE (R277): A long operation writes its result 34 cc after its X. -/
  | longOpComplete (u : CoreId)
  /-- LB (R266): Load byte, sign-extended. -/
  | lb (u : CoreId) (i : MInsn)
  /-- LBU (R266): Load byte, zero-extended. -/
  | lbu (u : CoreId) (i : MInsn)
  /-- LH (R266): Load half-word, sign-extended. -/
  | lh (u : CoreId) (i : MInsn)
  /-- LHU (R266): Load half-word, zero-extended. -/
  | lhu (u : CoreId) (i : MInsn)
  /-- LW (R266): Load word. -/
  | lw (u : CoreId) (i : MInsn)
  /-- DLD (R266): Load a 16-byte descriptor register. -/
  | dld (u : CoreId) (i : MInsn)
  /-- SB (R266): Store byte. -/
  | sb (u : CoreId) (i : MInsn)
  /-- SH (R266): Store half-word. -/
  | sh (u : CoreId) (i : MInsn)
  /-- SW (R266): Store word. -/
  | sw (u : CoreId) (i : MInsn)
  /-- DST (R266): Store a descriptor register. -/
  | dst (u : CoreId) (i : MInsn)
  /-- LOAD_DATA_RETURN (R276): Data of a scalar load returns from the store 12 cc after its X and is written to its
  register. -/
  | loadDataReturn (u : CoreId)
  /-- LL (R267): Load-linked: loads 4 bytes and reserves their 16-byte word. -/
  | ll (u : CoreId) (i : MInsn)
  /-- SC (R267): Store-conditional: writes only while the reservation is held and returns success. -/
  | sc (u : CoreId) (i : MInsn)
  /-- LL_LOCK_TIMEOUT (R289): SST.LOCKED is cleared 32 instructions after an LL not followed by an SC. -/
  | llLockTimeout (u : CoreId)
  /-- STORE_BUFFER_ISSUE (R285): The oldest store-buffer entry is issued to the store, at most one per cc. -/
  | storeBufferIssue (u : CoreId)
  /-- BEQ (R268): Branch if equal. -/
  | beq (u : CoreId) (i : BInsn)
  /-- BNE (R268): Branch if not equal. -/
  | bne (u : CoreId) (i : BInsn)
  /-- BLT (R268): Branch if less, signed. -/
  | blt (u : CoreId) (i : BInsn)
  /-- BGE (R268): Branch if greater or equal, signed. -/
  | bge (u : CoreId) (i : BInsn)
  /-- BLTU (R268): Branch if less, unsigned. -/
  | bltu (u : CoreId) (i : BInsn)
  /-- BGEU (R268): Branch if greater or equal, unsigned. -/
  | bgeu (u : CoreId) (i : BInsn)
  /-- J (R268): Jump. -/
  | j (u : CoreId) (i : JInsn)
  /-- CALL (R268): Call: pushes the return address and jumps. -/
  | call (u : CoreId) (i : JInsn)
  /-- JR (R268): Jump to register. -/
  | jr (u : CoreId) (i : RInsn)
  /-- CALLR (R268): Call through register. -/
  | callr (u : CoreId) (i : RInsn)
  /-- RET (R268): Return: pops the return stack and jumps. -/
  | ret (u : CoreId) (i : RInsn)
  /-- NOP (R269): No operation. -/
  | nop (u : CoreId) (_i : SInsn)
  /-- FEND (R269): Waits for accords and the store buffer, retires as frame completion, and waits for cc 0. -/
  | fend (u : CoreId) (_i : SInsn) (cc : BitVec 16)
  /-- IFENCE (R283): Drains the store buffer, invalidates the instruction and target caches. -/
  | ifence (u : CoreId) (_i : SInsn)
  /-- PFLUSH (R269): Empties the branch target cache. -/
  | pflush (u : CoreId) (_i : SInsn)
  /-- PBAR (R280): Sets SST.PBAR, barring prediction. -/
  | pbar (u : CoreId) (_i : SInsn)
  /-- PALLOW (R269): Clears SST.PBAR. -/
  | pallow (u : CoreId) (_i : SInsn)
  /-- SYNC (R269): Waits until every store-buffer entry has been accepted. -/
  | sync (u : CoreId) (_i : SInsn)
  /-- MODE (R269): Sets SST.MODE to exposed or compatibility. -/
  | mode (u : CoreId) (i : SInsn)
  /-- RDST (R269): Reads SST into a register. -/
  | rdst (u : CoreId) (i : SInsn)
  /-- IPRIME (R282): Fills a range of instruction-cache lines and clears ICOLD. -/
  | iprime (u : CoreId) (i : SInsn)
  /-- RDRS (R269): Reads the return-stack depth. -/
  | rdrs (u : CoreId) (i : SInsn)
  /-- ERELEASE (R310): Clears SST.HOLD. -/
  | erelease (u : CoreId) (_i : SInsn)
  /-- ERET (R310): Returns from an exception, restoring PC, SST, c0 and c6, and restarting any held accord. -/
  | eret (u : CoreId) (_i : SInsn)
  /-- TRAP (R269): Raises a software exception with a code. -/
  | trap (u : CoreId) (i : SInsn)
  /-- BRK (R482): Halts when a debugger is attached, else raises code 12. -/
  | brk (u : CoreId) (_i : SInsn)
  /-- SETVL (R270): Sets VL, stalling while a waiting accord has not begun. -/
  | setvl (u : CoreId) (i : SInsn)
  /-- GETVL (R270): Reads VL. -/
  | getvl (u : CoreId) (i : SInsn)
  /-- VGET (R270): Reads an engine-window register as a peek after the last accord finishes. -/
  | vget (u : CoreId) (i : SInsn)
  /-- VPUT (R270): Writes VE_VFCTL. -/
  | vput (u : CoreId) (i : SInsn)
  /-- DSETW (R270): Writes one word of a descriptor register. -/
  | dsetw (u : CoreId) (i : SInsn)
  /-- DGETW (R270): Reads one word of a descriptor register. -/
  | dgetw (u : CoreId) (i : SInsn)
  /-- REP (R273): Repeats the next instruction COUNT times, locked against interrupts. -/
  | rep (u : CoreId) (i : PInsn)
  /-- REPI (R273): Repeats the next instruction, interruptible between iterations. -/
  | repi (u : CoreId) (i : PInsn)
  /-- ICACHE_FILL (R281): A missed instruction line is filled from the store in 14 cc, or raises a fetch trap if
  uncorrectable. -/
  | icacheFill (u : CoreId) (par : Bool)
  /-- CCOPY (R298): Copies a capability with its tag. -/
  | ccopy (u : CoreId) (i : RInsn)
  /-- CCLIP (R299): Narrows a capability's range. -/
  | cclip (u : CoreId) (i : RInsn)
  /-- CDROP (R299): Removes permissions from a capability. -/
  | cdrop (u : CoreId) (i : RInsn)
  /-- CTYPE (R300): Gives a sealer of OTYPE 0 a type. -/
  | ctype (u : CoreId) (i : RInsn)
  /-- CSEAL (R300): Seals a capability with a sealer's type. -/
  | cseal (u : CoreId) (i : RInsn)
  /-- CUNSEAL (R300): Unseals a capability with a matching sealer. -/
  | cunseal (u : CoreId) (i : RInsn)
  /-- CGET (R298): Reads a field of a capability. -/
  | cget (u : CoreId) (i : RInsn)
  /-- CCLR (R298): Invalidates a capability register's tag. -/
  | cclr (u : CoreId) (i : RInsn)
  /-- DCALL (R301): Enters a domain through a portal, forming a return portal. -/
  | dcall (u : CoreId) (i : RInsn)
  /-- DRET (R301): Leaves a domain through a return portal. -/
  | dret (u : CoreId) (i : RInsn)
  /-- CLD (R299): Loads a capability from a tagged slot (Triad only). -/
  | cld (u : CoreId) (i : RInsn)
  /-- CST (R299): Stores a capability into a tagged slot (Triad only). -/
  | cst (u : CoreId) (i : RInsn)
  /-- EGET (R307): Reads an exception or save-set register. -/
  | eget (u : CoreId) (i : RInsn)
  /-- EPUT (R307): Writes an exception or save-set register and sets HOLD. -/
  | eput (u : CoreId) (i : RInsn)
  /-- DI (R298): Clears SST.IE on the Triad. -/
  | di (u : CoreId) (i : RInsn)
  /-- EI (R298): Sets SST.IE on the Triad. -/
  | ei (u : CoreId) (i : RInsn)
  /-- CSVGET (R298): Reads a saved c0 or c6 of a save set. -/
  | csvget (u : CoreId) (i : RInsn)
  /-- CSVPUT (R298): Writes a saved c0 or c6 of a save set. -/
  | csvput (u : CoreId) (i : RInsn)
  /-- EXCEPTION_ENTRY (R309): After draining, a sequencer writes ERA, EST, ECTX, EADDR, reads its descriptor and
  enters the handler, or escalates. -/
  | exceptionEntry (n : VE)
  /-- VE_IRQ_SET (R322): A W1S write of VE_IRQ_PEND makes sequencer interrupts pending. -/
  | veIrqSet (m : Master) (n : VE) (v : Word)
  /-- TRIAD_INTERRUPT_ENTRY (R314): An accepted interrupt writes save set 1, stacks s1 to s7 on entry 17's c6 and
  enters its handler in 12 mc. -/
  | triadInterruptEntry (late : List (BitVec 8))
  /-- TRIAD_FAULT_ENTRY (R317): An exception on the Triad enters level 2, or level 3 with DOUBLE from level 2. -/
  | triadFaultEntry
  /-- NMI_ENTRY (R317): NMI_N or a voter event enters level 3 at the next boundary, or is held PENDING at level 3. -/
  | nmiEntry (pin : Option (BitVec 8))
  /-- SW_INTERRUPT_SET (R321): A write of IC_SRCn.SW makes a software source pending. -/
  | swInterruptSet (m : Master) (n : BitVec 8) (v : Word)
  /-- REGISTER_DISSENT (R326): A core's voted write differs from an agreeing pair: the majority is written and the
  core fenced. -/
  | registerDissent (ws : List VoteWrite) (cmp : Compared)
  /-- SIGNATURE_COMPARE (R325): At the first mc of each 64-mc window the cores' write signatures are compared, fencing
  a dissenter. -/
  | signatureCompare (sig : Votes (List SigWrite))
  /-- RESYNC_START (R329): At the first resync point after a fence, the pair quiesces for the resync. -/
  | resyncStart
  /-- RESYNC_QUIESCE_DONE (R329): Outstanding transactions complete and the state copy into the fenced core begins. -/
  | resyncQuiesceDone
  /-- RESYNC_QUIESCE_TIMEOUT (R330): A quiesce not complete within 512 mc fails the resync and adds to FAILSn. -/
  | resyncQuiesceTimeout
  /-- RESYNC_COPY_DONE (R329): After 800 mc of copy, the three cores compute and compare state CRCs. -/
  | resyncCopyDone
  /-- RESYNC_CHECK (R330): The state CRC comparison completes, passing to probation, failing the resync, or handing to
  last resort. -/
  | resyncCheck (crc : Votes Word)
  /-- RESYNC_DONE (R330): Probation windows close without dissent and the Triad runs in triple mode. -/
  | resyncDone
  /-- VOTER_INJECT (R343): VT_CMD.INJECT inverts bit 0 of the named core's next voted write. -/
  | voterInject (m : Master) (v : Word)
  /-- MATRIX_REQUEST (R351): A master's matrix request is checked by window, target, ownership and last resort and
  performed or answered with an error code. -/
  | matrixRequest (m : Master) (r : MxReq)
  /-- VAULT_WIPE_CMD (R359): VAULT_CMD.WIPE starts a vault wipe. -/
  | vaultWipeCmd (m : Master) (v : Word)
  /-- TAMPER_EVENT (R359): A voltage, clock or temperature glitch records its cause, raises source 33 and starts a
  vault wipe. -/
  | tamperEvent (cause : Fin 3)
  /-- VAULT_WIPE_DONE (R359): After 4,096 mc of zeroing the wipe ends and WIPING clears. -/
  | vaultWipeDone
  /-- PAIR_LO_WRITE (R364): A write to the LO half of a writable pair is held for its side with no other effect. -/
  | pairLoWrite (m : Master) (p : Pair) (v : Word)
  /-- PAIR_HI_COMMIT (R364): A write to the HI half applies both halves of its side's value in one cycle. -/
  | pairHiCommit (m : Master) (p : Pair) (v : Word)
  /-- TIMER_TICK (R367): A tick of its source advances a timer, wrapping at TMR_TOP and testing the match. -/
  | timerTick
  /-- TIMER_RESTART (R374): TMR_CMD.RESTART sets the count to 0 at the next tick. -/
  | timerRestart (m : Master) (n : Fin 8) (v : Word)
  /-- CAP_POP (R372): TMR_CMD.CAP_POP removes the oldest capture. -/
  | capPop (m : Master) (n : Fin 8) (v : Word)
  /-- OUT_SET (R371): TMR_CMD.OUT_SET drives the timer pin level high. -/
  | outSet (m : Master) (n : Fin 8) (v : Word)
  /-- OUT_CLR (R371): TMR_CMD.OUT_CLR drives the timer pin level low. -/
  | outClr (m : Master) (n : Fin 8) (v : Word)
  /-- TIMER_CAPTURE (R372): A filtered TMR_IN edge appends the count to the capture queue, or sets CAP_OVF when full.
  -/
  | timerCapture (pin : Fin 4) (edge : Edge)
  /-- CAL_TICK (R375): A 32.768 kHz tick advances the calendar and fires the alarm on reaching CAL_ALARM. -/
  | calTick
  /-- CAL_TRIM (R377): Every 64 s of count the calendar adds or skips TRIM ticks. -/
  | calTrim
  /-- CAL_SET_DONE (R376): Within 3 ticks the set completes, BUSY clears and VALID is set. -/
  | calSetDone
  /-- OSC_FAIL (R378): A stopped 32.768 kHz crystal sets OSC_FAIL and clears VALID. -/
  | oscFail
  /-- CRC_DATA8 (R382): Feeds one byte to a CRC unit. -/
  | crcData8 (m : Master) (u : Fin 16) (v : Word)
  /-- CRC_DATA16 (R382): Feeds two bytes to a CRC unit. -/
  | crcData16 (m : Master) (u : Fin 16) (v : Word)
  /-- CRC_DATA32 (R382): Feeds four bytes to a CRC unit. -/
  | crcData32 (m : Master) (u : Fin 16) (v : Word)
  /-- CRC_ABSORB_DONE (R382): The unit finishes absorbing fed bytes and releases held accesses. -/
  | crcAbsorbDone (u : Fin 16)
  /-- CRC_START (R380): CRC_CMD.START sets reg to INIT. -/
  | crcStart (m : Master) (u : Fin 16) (v : Word)
  /-- CRC_CHECK (R383): CRC_CMD.CHECK compares RESULT with CRC_EXPECT and sets CHECK_OK or MISMATCH. -/
  | crcCheck (m : Master) (u : Fin 16) (v : Word)
  /-- CLEAR_ALL (R385): EC_CTRL.CLEAR_ALL sets all 128 event counts to 0. -/
  | clearAll (m : Master) (n : VE) (v : Word)
  /-- TAG_RECORD (R388): After the random interval a retired instruction is tagged, its record held and optionally
  pushed to a queue. -/
  | tagRecord (n : VE) (t : TagInfo)
  /-- LOADER_ITEM (R212): The calibration loader takes one item from its queue and writes the selected fields in one
  access, or rejects it. -/
  | loaderItem (up : Option Upset)
  /-- SWEEP_PASS_START (R214): Every PERIOD_MS a noise sweep pass begins, or SWEEP_LATE is set if the last has not
  finished. -/
  | sweepPassStart
  /-- SWEEP_VISIT (R215): The sweep tests one record against the noise limits and updates STRIKES or retires the
  channel. -/
  | sweepVisit (ch : BitVec 23) (up : Option Upset)
  /-- TABLE_RECORD_WRITE (R209): One device write of a marking, reinstatement or command to a record's word 0 is
  performed in one hold. -/
  | tableRecordWrite (ch : BitVec 23) (up : Option Upset)
  /-- ORPHAN_MARKING_DONE (R217): The marking completes, raising ORPHAN for a journal record. -/
  | orphanMarkingDone
  /-- REINSTATED (R218): The automatic reinstatement completes and REINSTATED is raised. -/
  | reinstated
  /-- CT_CMD_GO (R219): CT_CMD.GO starts reinstating channels FIRST to LAST. -/
  | ctCmdGo (m : Master) (v : Word)
  /-- CMD_DONE (R219): The reinstatement command completes and CMD_DONE is raised. -/
  | cmdDone
  /-- Q_PUSH_LEN (R233): A management master opens an item of LEN words if it fits, else DROP. -/
  | qPushLen (m : Master) (n : Queue) (v : Word) (err : Option Bool)
  /-- Q_PUSH_DATA (R233): Writes the next payload word of the open item, committing on the last. -/
  | qPushData (m : Master) (n : Queue) (v : DWord) (up : Option Upset)
  /-- QUEUE_POP (R234): Q_CMD.POP releases the head deliverable item. -/
  | queuePop (m : Master) (n : Queue) (v : Word) (err : Option Bool)
  /-- QUEUE_FLUSH (R236): Q_CMD.FLUSH sets HEAD and TAIL to ALLOC, discarding earlier items. -/
  | queueFlush (m : Master) (n : Queue) (v : Word)
  /-- QUEUE_ENABLE (R223): A write of 1 to Q_CFG.ENABLE checks placement and resets HEAD, TAIL and ALLOC to 0. -/
  | queueEnable (m : Master) (n : Queue) (v : Word)
  /-- QUEUE_DISABLE (R237): A write of 0 to Q_CFG.ENABLE flushes and disables the queue. -/
  | queueDisable (m : Master) (n : Queue) (v : Word)
  /-- ITEM_TORN (R235): An open management item not committed within 4,096 mc is torn. -/
  | itemTorn (n : Queue)
  /-- FREEZE (R254): VU_SIL_CFG.FREEZE stops sillage writing and sets FROZEN. -/
  | freeze (m : Master) (v : Word)
  /-- SILLAGE_UNFREEZE (R254): Writing 1 to FROZEN clears it and sillage writing resumes at the next frame. -/
  | sillageUnfreeze (m : Master) (v : Word)
  /-- READOUT_ENABLE (R256): A write of RD_CFG.ENABLE starts a readout channel, refused for a bad or shared queue. -/
  | readoutEnable (m : Master) (r : Fin 16) (v : Word)
  /-- READOUT_ITEM_SEND (R256): A readout channel reads a whole item and sends it to its lane or host ring, then
  releases it. -/
  | readoutItemSend (r : Fin 16) (up : Option Upset)
  /-- READOUT_RESUME (R257): RD_CMD.RESUME retries the head item of a halted channel. -/
  | readoutResume (m : Master) (r : Fin 16) (v : Word)
  /-- MIGRATE (R125): EM_CMD with OP MIGRATE requests a migration of a slot to a target at a frame boundary. -/
  | migrate (m : Master) (v : Word)
  /-- ENGINE_RETIRE (R129): EM_CMD with OP RETIRE retires a SPARE engine. -/
  | engineRetire (m : Master) (v : Word)
  /-- ENGINE_RETURN (R129): EM_CMD with OP RETURN returns a RETIRED engine to SPARE if its latest test passed. -/
  | engineReturn (m : Master) (v : Word)
  /-- COPY_ABANDON (R127): A failing source abandons the migration copy and the target restores from the other half,
  goes cold, or leaves the slot without an engine. -/
  | copyAbandon (slot : Slot) (byTarget : Bool) (sent : BitVec 13)
  /-- CHECKPOINT_RESTORE (R127): The target finishes reading a valid checkpoint half into its context. -/
  | checkpointRestore (slot : Slot)
  /-- SRESET (R130): VE_CTRL.SRESET sets the cold context of a SPARE or RETIRED engine. -/
  | sreset (m : Master) (n : VE) (v : Word)
  /-- DRYDOWN_TIER_ENTER (R441): VDD_CORE below a tier threshold for SUSTAIN_US enters the deepest crossed tier and
  sheds its units. -/
  | drydownTierEnter (samples : List SampleRun)
  /-- DRYDOWN_TIER_LEAVE (R444): After GOOD_FRAMES good frames the device leaves one tier at the next cc 0. -/
  | drydownTierLeave (samples : List SampleRun)
  /-- DRYDOWN_FORCE (R443): DD_CTRL.FORCE makes the device act as if the voltage held at least that tier. -/
  | drydownForce (m : Master) (tier : BitVec 2) (v : Word)
  /-- ENGINE_POWER_READY (R445): Powered-on engines are ready and take their slots with a restore at the next cc 0. -/
  | enginePowerReady
  /-- FINAL_SAG (R446): VDD_CORE below 0.670 V stops engines and lanes, writes a FINAL record and asserts reset. -/
  | finalSag (mv : BitVec 10) (us : Word) (ops : BitVec 4)
  /-- SUPPLY_LOW (R439): A supply other than VBAT below its detector threshold asserts reset. -/
  | supplyLow (supply : Fin 6) (mv : BitVec 12)
  /-- PORST (R448): A PORST_N low pulse of 5 µs or more resets the device. -/
  | porst (ns : Word)
  /-- RESET_RELEASE (R453): Reset is released and the boot ROM runs the start-up steps. -/
  | resetRelease (b : BootIn)
  /-- LANE_BLOCK_RESET (R451): RST_BLK KIND 1 resets an idle lane's serial, FEC and flit logic. -/
  | laneBlockReset (m : Master) (index : BitVec 7)
  /-- READOUT_BLOCK_RESET (R451): RST_BLK KIND 2 resets an idle readout channel. -/
  | readoutBlockReset (m : Master) (index : BitVec 7)
  /-- CRC_BLOCK_RESET (R451): RST_BLK KIND 3 resets an idle CRC unit. -/
  | crcBlockReset (m : Master) (index : BitVec 7)
  /-- FLASH_BLOCK_RESET (R451): RST_BLK KIND 4 resets an idle flash controller. -/
  | flashBlockReset (m : Master) (index : BitVec 7)
  /-- BOOT_CONFIRM (R465): Sets BK_BOOT.CONFIRMED for the booted image. -/
  | bootConfirm (m : Master) (v : Word)
  /-- BOOT_GO (R452): Continues a boot held by strap choice 6. -/
  | bootGo (m : Master) (v : Word)
  /-- HOST_LOAD_GO (R474): HB_LOAD.GO makes the ROM check the loaded image and continue the boot or wait again. -/
  | hostLoadGo (m : Master) (v : Word) (up : Option Upset)
  /-- ADVANCE (R463): LC_CMD ADVANCE moves BLANK to DEVELOP or DEVELOP to FIELD. -/
  | advance (m : Master) (v : Word)
  /-- LC_RETIRE (R463): LC_CMD RETIRE moves the device to the RETIRED life-cycle state. -/
  | lcRetire (m : Master) (v : Word)
  /-- REVOKE (R463): LC_CMD REVOKE revokes a fused key. -/
  | revoke (m : Master) (v : Word)
  /-- PROGRAM (R463): LC_CMD PROGRAM fuses a key hash from local memory. -/
  | program (m : Master) (v : Word)
  /-- SVN_INCREMENT (R463): LC_CMD SVN + 1 raises the security version floor. -/
  | svnIncrement (m : Master) (v : Word)
  /-- FUSE_CHANGE_DONE (R463): After 1 ms the fuse change completes and BUSY clears. -/
  | fuseChangeDone
  /-- JOURNAL_ENABLE (R415): JNL_CTRL.ENABLE reads the flash tables and starts the scan. -/
  | journalEnable (m : Master) (v : Word) (info : FlashInfo)
  /-- JOURNAL_SCAN_DONE (R416): The scan classifies headers and slots, sets SEQ and the write position, and sets
  READY. -/
  | journalScanDone
  /-- JNL_PUSH_GO (R412): JNL_PUSH.GO submits the staged record at TAIL. -/
  | jnlPushGo (m : Master) (v : Word)
  /-- JOURNAL_RECORD_WRITE (R413): The journal engine starts writing a staged or urgent record in three program
  operations. -/
  | journalRecordWrite
  /-- FLASH_OPERATION_DONE (R413): A flash program or erase completes or reports failure, advancing the record or
  sector preparation. -/
  | flashOperationDone (ok : Bool)
  /-- SECTOR_PREPARE (R414): The engine erases and prepares the next sector that is not BAD. -/
  | sectorPrepare
  /-- BUCKET_LEAK (R395): Every LEAK_FRAMES advances of the policy frame count lower every non-zero bucket by 1. -/
  | bucketLeak
  /-- LBIST (R403): BL_CMD OP 1 starts an LBIST of an engine. -/
  | lbist (m : Master) (t : BitVec 13)
  /-- MBIST_SPARE (R404): BL_CMD OP 2 starts the march test of the spare bank. -/
  | mbistSpare (m : Master) (t : BitVec 13)
  /-- MBIST_ROTATION (R404): BL_CMD OP 3 issues a targeted rotation step of a logical bank. -/
  | mbistRotation (m : Master) (t : BitVec 13)
  /-- LOOPBACK (R405): BL_CMD OP 4 starts a PRBS31 loopback of a lane. -/
  | loopback (m : Master) (t : BitVec 13)
  /-- LBIST_DONE (R403): The LBIST signature is compared and the engine returns to SPARE or is RETIRED. -/
  | lbistDone (sig : DWord)
  /-- MBIST_DONE (R404): The spare march completes; a failing spare is retired. -/
  | mbistDone (pass : Bool)
  /-- LOOPBACK_DONE (R405): After LOOP_MS the loopback passes with zero bit errors or fails. -/
  | loopbackDone (errors : Word)
  /-- AUTO_LBIST (R406): Every AUTO_PERIOD_S an LBIST starts on the next SPARE engine, or is skipped. -/
  | autoLbist
  /-- TEST_ABORT (R407): A migration or the top note abandons a running test. -/
  | testAbort
  /-- LANE_ENABLE (R420): A write of 1 to LN_CTRL.ENABLE from OFF starts FULL training, refused for a third rate in
  the quad. -/
  | laneEnable (m : Master) (l : Lane) (v : Word)
  /-- LOSS_OF_LINK (R429): An in-service lane loses signal, lock, flits or codewords, discards frames in progress and
  enters RETRAIN with a strike. -/
  | lossOfLink (l : Lane) (cause : Fin 4)
  /-- SCRIPT_RESULT (R431): A lane script reports PASS or FAIL for its FULL, FAST or ADAPT event. -/
  | scriptResult (l : Lane) (pass : Bool) (aligned : Bool) (tx : BitVec 24) (rx : BitVec 10) (snr : BitVec 16)
  /-- SCRIPT_TIMEOUT (R431): A lane script exceeds its time limit and counts as failed or skipped. -/
  | scriptTimeout (l : Lane)
  /-- ADAPT_TICK (R431): Every ADAPT_US an in-service lane starts an ADAPT script. -/
  | adaptTick (l : Lane)
  /-- LANE_RETIRE (R433): LN_CMD.RETIRE retires a lane at once, clearing its expected SEQ and journalling it. -/
  | laneRetire (m : Master) (l : Lane) (v : Word)
  /-- LANE_RETURN (R434): LN_CMD.RETURN starts the return sequence of a RETIRED lane. -/
  | laneReturn (m : Master) (l : Lane) (v : Word)
  /-- AUTO_RETURN (R434): Every RETURN_S after retirement a lane with AUTO_RETURN starts its return. -/
  | autoReturn (l : Lane)
  /-- RETRAIN (R437): LN_CMD.RETRAIN starts a FAST attempt without a strike. -/
  | retrain (m : Master) (l : Lane) (v : Word)
  /-- LANE_TRANSMIT_FRAME (R425): Between frames the transmitter picks the next verdict or readout frame, or sends
  idle flits. -/
  | laneTransmitFrame (l : Lane)
  /-- BAR_ACCESS (R468): A PCIe TLP to a BAR becomes master-1 matrix requests and completes per R469. -/
  | barAccess (r : BarReq)
  /-- PCIE_PERST (R471): PCIE_PERST_N low resets the host bridge and link only. -/
  | pciePerst
  /-- HOST_EXIT (R473): A host-begun exit from reset, L1 or L2 satisfies any pending wake. -/
  | hostExit (e : HostExit)
  /-- WAKE_REQ (R472): HB_WAKE.REQ sets a pending wake and drives WAKE_N low. -/
  | wakeReq (m : Master) (v : Word)
  /-- MSI_TRIG (R470): HB_MSI_TRIG.GO sends an MSI-X vector. -/
  | msiTrig (m : Master) (v : Word)
  /-- SMBUS_TRANSACTION (R476): An SMBus command byte takes a snapshot and the Read Word or Block Read returns from
  it. -/
  | smbusTransaction (r : SmbReq) (t : Telemetry)
  /-- BYPASS (R477): Selects the 1-bit bypass register. -/
  | bypass (c : BitVec 8)
  /-- IDCODE (R477): Selects the 32-bit IDCODE register. -/
  | idcode
  /-- SAMPLE_PRELOAD (R477): Selects the boundary register for sampling. -/
  | samplePreload (cells : List Bool)
  /-- EXTEST (R477): Drives pins from the boundary register. -/
  | extest (cells : List Bool)
  /-- EXTEST_PULSE (R477): IEEE 1149.6 pulse test on lane and PCIe pins. -/
  | extestPulse (cells : List Bool)
  /-- EXTEST_TRAIN (R477): IEEE 1149.6 train test on lane and PCIe pins. -/
  | extestTrain (cells : List Bool)
  /-- HIGHZ (R477): Places outputs in high impedance. -/
  | highz
  /-- DBGACC (R478): Each Update-DR issues one master-2 matrix access and captures the previous result. -/
  | dbgacc (r : DbgReq)
  /-- ENGINE_HALT (R480): DBG_CTRL.HALT requests a halt of an engine. -/
  | engineHalt (m : Master) (n : VE) (v : Word)
  /-- ENGINE_STEP (R480): DBG_CTRL.STEP executes one instruction or iteration and halts again. -/
  | engineStep (m : Master) (n : VE) (v : Word)
  /-- ENGINE_RESUME (R483): DBG_CTRL.RESUME continues a halted engine, at the next cc 0 if a tick passed. -/
  | engineResume (m : Master) (n : VE) (v : Word)
  /-- TRIAD_HALT (R480): TD_CTRL.HALT requests a halt of the Triad through the IDR. -/
  | triadHalt (m : Master) (v : Word)
  /-- TRIAD_STEP (R480): TD_CTRL.STEP executes one Triad instruction. -/
  | triadStep (m : Master) (v : Word)
  /-- TRIAD_RESUME (R480): TD_CTRL.RESUME resumes the halted Triad. -/
  | triadResume (m : Master) (v : Word)
  /-- HALT_EFFECTIVE (R480): After the store buffer drains at a boundary the engine or Triad enters the halted state.
  -/
  | haltEffective (u : CoreId)
  /-- LOCK_BREAK (R481): A halt still blocked by LOCKED after 256 cycles breaks the lock and sets LOCK_BROKEN. -/
  | lockBreak (u : CoreId)
  /-- BREAKPOINT (R482): An instruction at an enabled DBG_BPb address halts an attached engine before it executes. -/
  | breakpoint (n : VE)
  /-- CLAMP_INSTRUCTION (R477): The JTAG CLAMP instruction (code 0x06) selects the 1-bit register while the pins hold
  the boundary values. -/
  | clampInstruction
  /-- TAP_RESET (R496): TRST_N asserted, after its filter, resets the JTAG TAP and its instruction register. -/
  | tapReset
  /-- DSTATE_CHANGE (R471): The host moves the endpoint between D0, D3hot and D3cold, changing BAR behaviour, DEST 1
  waiting and HB_STATUS.DSTATE. -/
  | dstateChange (d : Fin 3)
  /-- LINK_STATE_CHANGE (R484): The PCIe link trains up, enters L1 or L2, or leaves L0 without host request, updating
  LSTATE, SPEED and WIDTH and raising LINK_DOWN. -/
  | linkStateChange (lstate : Fin 6) (speed : Fin 3) (width : Fin 4) (host : Bool)
  /-- SMBUS_TIMEOUT (R475): After 25 ms of SMB_SCL held low the target releases the bus and counts a timeout in
  TM_SMB_ERR_CNT. -/
  | smbusTimeout
  /-- THERMAL_ALERT (R501): The hottest die sensor reaches PAD_THERM.ALERT, which sets ALERT_ST and raises telemetry
  source 37. -/
  | thermalAlert (temps : Vector (BitVec 16) 8)
  /-- CRYSTAL_STOP (R500): A stopped 25 MHz crystal holds the device in reset through the power-on detector. -/
  | crystalStop
  /-- BACKUP_DOMAIN_POWER_UP (R375): The backup domain powers up and the calendar registers and BK_BOOT take their
  reset values. -/
  | backupDomainPowerUp
  /-- FULL_TRAINING_REPEAT (R431): A FULL training that failed is started again once TRAIN_MS has passed. -/
  | fullTrainingRepeat (l : Lane)
  /-- SSC_CHANGE_DONE (R499): Within 100 µs of a change of PAD_SSC.MGMT_SSC_EN the management-clock spread takes
  effect without a glitch and PAD_SSC.ACTIVE follows it. -/
  | sscChangeDone
deriving DecidableEq, Repr

end Sys2Proof
end

