-- ==== Sys2Proof/Decode.lean ====
section
/-! DEFINITION. The decoder of the command table. No row of spec/opcode_table.json gives bits: a command is a register access,
an event or an instruction with its operands, and no word spells one by the table's bits (assumption 6). The second half reads
the words of an instruction stream as R131, R132 and R262 to R270 lay them out: which command stands for the instruction that a
word encodes. -/

namespace Sys2Proof

/-- The command that a word of `nbits` bits spells by the table's bits: none, since no row gives bits.
[DESIGN CHOICE, safe: assumption 6] -/
def decodeTableWord (_nbits _w : Nat) : Option Instr := none

/-! ### The fields of the scalar formats (R262) -/

/-- Format R. -/
def fieldsR (w : Word) : RInsn := ⟨w.extractLsb' 4 5, w.extractLsb' 9 5, w.extractLsb' 14 5, w.extractLsb' 25 7⟩
/-- Format I. -/
def fieldsI (w : Word) : IInsn := ⟨w.extractLsb' 4 5, w.extractLsb' 9 5, w.extractLsb' 18 14⟩
/-- Format U. -/
def fieldsU (w : Word) : UInsn := ⟨w.extractLsb' 4 5, w.extractLsb' 9 23⟩
/-- Format M. -/
def fieldsM (w : Word) : MInsn :=
  ⟨w.extractLsb' 4 5, w.extractLsb' 9 5, w.extractLsb' 14 3, w.extractLsb' 20 2, w.extractLsb' 22 10⟩
/-- Format B. -/
def fieldsB (w : Word) : BInsn := ⟨w.extractLsb' 4 5, w.extractLsb' 9 5, w.extractLsb' 17 15⟩
/-- Format J. -/
def fieldsJ (w : Word) : JInsn := ⟨w.extractLsb' 5 1, w.extractLsb' 6 26⟩
/-- Format S. -/
def fieldsS (w : Word) : SInsn := ⟨w.extractLsb' 4 5, w.extractLsb' 9 5, w.extractLsb' 20 12⟩

/-- The word that follows is one that a prefix may repeat: majors 0x1 to 0x5 and 0x9, and NOP (R273). -/
def mayRepeat (w : Word) : Bool :=
  [1, 2, 3, 4, 5, 9].contains (w.extractLsb' 0 4).toNat || (w.extractLsb' 0 4 == 0 && w.extractLsb' 14 6 == 0)

/-- Format P, before the word `next`. -/
def fieldsP (w next : Word) : PInsn := ⟨w.getLsbD 5, w.extractLsb' 6 16, w.extractLsb' 22 10, mayRepeat next⟩

/-! ### The tables of the majors, by FN, SZ or CC (R264 to R270, R298) -/

/-- Major 0x1: ALU, register. -/
def fnAluR : List (CoreId → RInsn → Instr) := [.add, .sub, .and, .or, .xor, .andn, .shl, .shr, .sra, .slt, .sltu, .min,
  .max, .minu, .maxu, .ror, .adds, .subs, .clz, .popc, .bswap, .sextb, .sexth]
/-- Major 0x2: ALU, immediate. -/
def fnAluI : List (CoreId → IInsn → Instr) := [.addi, .andi, .ori, .xori, .slti, .sltiu, .shli, .shri, .srai]
/-- Major 0x4: loads, by SZ. -/
def szLoad : List (Nat × (CoreId → MInsn → Instr)) := [(0, .lb), (1, .lbu), (2, .lh), (3, .lhu), (4, .lw), (5, .dld)]
/-- Major 0x5: stores, by SZ. -/
def szStore : List (Nat × (CoreId → MInsn → Instr)) := [(0, .sb), (2, .sh), (4, .sw), (5, .dst)]
/-- Major 0xA: LL and SC, by SZ. -/
def szLock : List (Nat × (CoreId → MInsn → Instr)) := [(4, .ll), (5, .sc)]
/-- Major 0x6: conditional branches, by CC. -/
def ccBranch : List (CoreId → BInsn → Instr) := [.beq, .bne, .blt, .bge, .bltu, .bgeu]
/-- Major 0x8: jumps through a register. -/
def fnJump : List (CoreId → RInsn → Instr) := [.jr, .callr, .ret]
/-- Major 0x9: multiply and divide. -/
def fnMul : List (CoreId → RInsn → Instr) := [.mul, .mulh, .mulhu, .div, .divu, .rem, .remu]
/-- Major 0xC: capabilities. -/
def fnCap : List (CoreId → RInsn → Instr) := [.ccopy, .cclip, .cdrop, .ctype, .cseal, .cunseal, .cget, .cclr, .dcall, .dret,
  .cld, .cst, .eget, .eput, .di, .ei, .csvget, .csvput]
/-- Major 0xB: vector control. -/
def fnVec : List (CoreId → SInsn → Instr) := [.setvl, .getvl, .vget, .vput, .dsetw, .dgetw]
/-- Major 0x0: system; `cc` is where in the frame a FEND retires. -/
def fnSys (cc : BitVec 16) : List (Nat × (CoreId → SInsn → Instr)) := [(0, .nop), (1, fun u i => .fend u i cc), (2, .ifence),
  (3, .pflush), (4, .pbar), (5, .pallow), (6, .sync), (7, .mode), (8, .rdst), (9, .iprime), (10, .rdrs), (16, .erelease),
  (17, .eret), (18, .trap), (19, .brk)]

/-- The command of a scalar word of core `u`, before the word `next`; none for major 0xE and for an FN, SZ or CC that no table
lists: an illegal instruction (R263). -/
def decodeScalar (u : CoreId) (cc : BitVec 16) (w next : Word) : Option Instr :=
  let fnR := (w.extractLsb' 19 6).toNat
  let fnS := (w.extractLsb' 14 6).toNat
  let sz := (w.extractLsb' 17 3).toNat
  match (w.extractLsb' 0 4).toNat with
  | 0x0 => ((fnSys cc).lookup fnS).map fun f => f u (fieldsS w)
  | 0x1 => fnAluR[fnR]?.map fun f => f u (fieldsR w)
  | 0x2 => fnAluI[(w.extractLsb' 14 4).toNat]?.map fun f => f u (fieldsI w)
  | 0x3 => some (.lui u (fieldsU w))
  | 0x4 => (szLoad.lookup sz).map fun f => f u (fieldsM w)
  | 0x5 => (szStore.lookup sz).map fun f => f u (fieldsM w)
  | 0x6 => ccBranch[(w.extractLsb' 14 3).toNat]?.map fun f => f u (fieldsB w)
  | 0x7 => some (if w.getLsbD 4 then .call u (fieldsJ w) else .j u (fieldsJ w))
  | 0x8 => fnJump[fnR]?.map fun f => f u (fieldsR w)
  | 0x9 => fnMul[fnR]?.map fun f => f u (fieldsR w)
  | 0xA => (szLock.lookup sz).map fun f => f u (fieldsM w)
  | 0xB => fnVec[fnS]?.map fun f => f u (fieldsS w)
  | 0xC => fnCap[fnR]?.map fun f => f u (fieldsR w)
  | 0xD => some (if w.getLsbD 4 then .repi u (fieldsP w next) else .rep u (fieldsP w next))
  | _ => none

/-! ### Vector instructions (R131, R132) -/

/-- A word is the low half of a vector instruction. -/
def vectorLow (w : Word) : Bool := w.extractLsb' 0 4 == 0xF

/-- The fields of a vector instruction. -/
def fieldsV (w : BitVec 64) : VFields where
  chain := w.getLsbD 4
  pipe := w.extractLsb' 12 2
  ty := w.extractLsb' 14 4
  ty2 := w.extractLsb' 18 4
  mask := w.extractLsb' 22 3
  src1 := w.extractLsb' 25 6
  src2 := w.extractLsb' 31 6
  dkind := w.extractLsb' 37 2
  dreg := w.extractLsb' 39 5
  rm := w.extractLsb' 44 2
  sat := w.getLsbD 46
  trap := w.getLsbD 47
  imm := w.extractLsb' 48 16

/-- The commands of the vector opcodes (R148 to R164). -/
def vectorOps : List (Nat × (VE → VFields → Instr)) := [
  (0x00, .vAdd), (0x01, .vSub), (0x02, .vMin), (0x03, .vMax), (0x04, .abs), (0x05, .neg), (0x06, .absdiff), (0x07, .avg),
  (0x08, .clamp), (0x09, .mov), (0x0A, .raw), (0x0B, .sel), (0x10, .vAnd), (0x11, .vOr), (0x12, .vXor), (0x13, .vAndn),
  (0x14, .not), (0x15, .vShl), (0x16, .vShr), (0x17, .bfx), (0x20, .vMul), (0x21, .vMulh), (0x22, .mulw), (0x23, .mac),
  (0x24, .macw), (0x28, .cmpeq), (0x29, .cmpne), (0x2A, .cmplt), (0x2B, .cmple), (0x2C, .cmpgt), (0x2D, .cmpge),
  (0x30, .fadd), (0x31, .fsub), (0x32, .fmul), (0x33, .fma), (0x34, .fmin), (0x35, .fmax), (0x36, .fabs),
  (0x37, .fneg), (0x38, .cvt), (0x3C, .tlu), (0x3D, .twr), (0x40, .vDiv), (0x41, .sqrt), (0x42, .rsqrt), (0x48, .rsum),
  (0x49, .rmin), (0x4A, .rmax), (0x4B, .rand), (0x4C, .vRor), (0x50, .mand), (0x51, .mor), (0x52, .mxor), (0x53, .mandn),
  (0x54, .mnot), (0x55, .mfill), (0x56, .mpop), (0x57, .mfirst), (0x58, .compress), (0x59, .expand), (0x60, .ld),
  (0x61, .ldg), (0x68, .st), (0x69, .sts), (0x6A, .stc)]

/-- The command of a vector instruction of engine `n`; none where OP is not in the opcode tables, an encoding fault (R140). -/
def decodeVector (n : VE) (w : BitVec 64) : Option Instr :=
  (vectorOps.lookup (w.extractLsb' 5 7).toNat).map fun f => f n (fieldsV w)

/-- The command of the instruction that begins with word `w` of a core's stream, `next` being the word after it, and how many
words it takes: the two halves of a vector instruction are joined, the low one first (R131). The Triad has no vector unit, and
a vector instruction is illegal there. -/
def decodeStream (u : CoreId) (cc : BitVec 16) (w next : Word) : Option (Instr × Nat) :=
  if vectorLow w then
    match u with
    | .seq n => (decodeVector n (next ++ w)).map fun i => (i, 2)
    | .triad => none
  else (decodeScalar u cc w next).map fun i => (i, 1)

end Sys2Proof
end

