-- ==== Sys2Proof/Config.lean ====
section
/-! DEFINITION. What the spec leaves open: free values, which nothing in Lean can evaluate or prove a value of, and the
functions the spec names but does not define. A statement that holds, holds whatever they are. -/

namespace Sys2Proof.Config

/-- The free values of the model, one for each value of the counter `State.freeCtr` that a step reads and advances. It
has no body. Assumption 1. [DESIGN CHOICE, safe: assumption 1] -/
opaque free : Nat → Nat

/-- SHA-384 over a list of bytes, as the boot ROM computes it (R457, R458). Its standard is not part of the spec.
Assumption 2. [DESIGN CHOICE, safe: assumption 2] -/
opaque sha384 : List Nat → Nat

/-- Whether an ECDSA P-384 signature (second argument) of a digest (third argument) verifies under a public key (first
argument) (R458). Assumption 2. [DESIGN CHOICE, safe: assumption 2] -/
opaque ecdsaVerifies : Nat → Nat → Nat → Bool

/-- A reciprocal square root: for an operand's bits, which of the values within one unit in the last place of the exact
result the divide unit gives (R157). Assumption 3. [DESIGN CHOICE, safe: assumption 3] -/
opaque rsqrtChoice : Nat → Nat → Nat

/-- The bytes of the boot ROM, by offset: they are fixed in the silicon and the spec does not list them (R360).
Assumption 4. [DESIGN CHOICE, safe: assumption 4] -/
opaque bootRom : Nat → Nat

/-- Where the rotating priority of a bank stands at cc 0 of a frame, by bank and frame since the lock: R84 gives no start.
[DESIGN CHOICE, safe: assumption 32] -/
opaque bankTurn : Nat → Nat → Nat

/-- Exwald's PCI-SIG identifier, which Vendor ID reads as, and the device's serial number (R466): the spec gives neither.
[PRESUMED, unsafe: assumption 134] -/
opaque vendorId : BitVec 16
@[inherit_doc vendorId] opaque serialNo : BitVec 64

/-- The levels of the pins that the device drives, as a probe sees them: VERDICT[15:0] with VVALID, TMR_OUT[7:0], each none where
no driver is on; FAULT_N, WAKE_N and CAL_ALARM_N driven low. -/
structure PinLevels where
  verdict  : Option (Nat × Bool)
  timers   : List (Option Bool)
  faultLow : Bool
  wakeLow  : Bool
  alarmLow : Bool
deriving DecidableEq, Repr

/-- The levels that the boundary register drives (R477): the order of its cells is that of a file which the spec does not hold.
[DESIGN CHOICE, safe: assumption 135] -/
opaque boundaryPins : List Bool → Option PinLevels

end Sys2Proof.Config
end

