-- ==== Sys2Proof/Machine/State.lean ====
section
/-! DEFINITION. The state of the block: plain data. Every software-visible register field lives in `regs`, under the
address, place, width and reset value that Machine/Regs.lean gives it; everything else the spec gives the device stands
in fields of its own. -/

namespace Sys2Proof.Machine

/-! ### Registers -/

/-- A field of a register: byte address of its register, lowest bit, width and reset value (R11). -/
structure Fld where
  addr : Nat
  lo   : Nat
  w    : Nat
  rst  : Nat
deriving DecidableEq, Repr

/-- The access codes of R7. -/
inductive Acc where
  | rw | ro | wo | w1c | w1s | rc
deriving DecidableEq, Repr

/-- A row of the register table: its name, first address, the strides and counts of its two indices, its width in bytes
and its fields with their access codes. -/
structure RegRow where
  name : String
  base : Nat
  s1   : Nat
  c1   : Nat
  s2   : Nat
  c2   : Nat
  bytes : Nat
  /-- The bits of its fields of level E (R12). -/
  eMask : Nat
  flds : Nat → Nat → List (Fld × Acc)

/-- A change that takes effect at a frame boundary (R26): the field's key and reset value, the new value, and how many
boundaries are still to come. -/
structure Staged where
  key : Nat
  rst : Nat
  val : Nat
  due : Nat
deriving DecidableEq, Repr

/-! ### The store and the queues -/

/-- A reservation: the sequencer that holds it and its word (R90). -/
structure Resv where
  seq  : Nat
  word : Nat
deriving DecidableEq, Repr

/-- The phase of a bank-rotation step (R97), with the logical bank that moves and its old physical bank. -/
inductive Rotation where
  | idle
  | copying (log src : Nat)
  /-- The switch is staged; `due` boundaries are still to come. -/
  | switching (log src due : Nat)
  /-- Switched; mirrored requests still drain. -/
  | draining (log src : Nat)
  | testing (log src : Nat)
deriving DecidableEq, Repr

/-- A strike record of one unit (R397). -/
structure Strike where
  cnt   : Nat
  start : Nat
deriving DecidableEq, Repr

/-- Who produced a queue item: SRCKIND and SRC of R225. -/
structure QSrc where
  kind : Nat
  src  : Nat
deriving DecidableEq, Repr

/-- An item of a queue between HEAD and ALLOC (R225 to R227). -/
structure QItem where
  len       : Nat
  committed : Bool
  torn      : Bool
deriving DecidableEq, Repr

/-- The open management item of a queue (R233): its master and the payload words written so far. -/
structure QOpen where
  master : Nat
  pos    : Nat
  len    : Nat
  done   : Nat
deriving DecidableEq, Repr

/-- What the fabric keeps for one queue beside its registers: the counters HEAD and ALLOC modulo 2N and the items between
them, oldest first (R226). -/
structure QState where
  head  : Nat := 0
  alloc : Nat := 0
  items : List QItem := []
  opn   : Option QOpen := none
deriving DecidableEq, Repr

/-! ### Capabilities -/

/-- A capability: 128 bits and its tag (R291). -/
structure Cap where
  tag  : Bool
  bits : QWord
deriving DecidableEq, Repr

/-! ### Vector units -/

/-- A vector instruction issued to the vector unit: the scalar operands are taken at its place in program order (R136).
-/
structure VInsn where
  op   : VOp
  f    : VFields
  sc1  : Word
  sc2  : Word
  sc3  : Word
  addr : Word
deriving DecidableEq, Repr

/-- An accord (R104). `broken` says that a scalar instruction stood where CHAIN promised a vector one (R134). -/
structure Accord where
  insns  : List VInsn
  broken : Bool
deriving DecidableEq, Repr

/-- A store byte an accord is about to write: address, byte and the element of the store. -/
structure PendByte where
  addr : Nat
  byte : Byte
  elem : Nat
deriving DecidableEq, Repr

/-- A pending element of an indexed store: address, data bits, element of the store, and the element of the accord's sources
that it was when it reached the store, which COMPRESS makes another one (R162). -/
structure PendElem where
  addr : Nat
  data : Nat
  elem : Nat
  src  : Nat
deriving DecidableEq, Repr

/-- An accord that has begun: what it latched (R189) and how far its elements have streamed. -/
structure Exec where
  acc     : Accord
  vl      : Nat
  descs   : Tab QWord
  /-- Attempts so far, this one included (R197). -/
  attempt : Nat
  /-- Traps disabled by a restart (R196). -/
  off     : Bool
  /-- Overlapping (R194). -/
  overlap : Bool
  /-- The next element to stream. -/
  pos     : Nat := 0
  /-- Payload bytes taken from queues by L0 and L1 (R229); none stands for a byte of an uncorrectable half. -/
  q0      : List (Option Byte) := []
  q1      : List (Option Byte) := []
  /-- The addresses of the ring words these bytes come from. -/
  qa0     : List Nat := []
  qa1     : List Nat := []
  /-- Stream elements that EXPAND has not used yet (R163). -/
  fifo    : List (Option Nat) := []
  /-- Data and index elements that a store of a compressed stream has not used yet. -/
  dfifo   : List (Option Nat) := []
  ififo   : List (Option Nat) := []
  /-- Active elements of each reduction, by its place in the accord, newest first. -/
  red     : Tab (List (Nat × Nat)) := []
  /-- Elements COMPRESS has packed (R162). -/
  comp    : Nat := 0
  /-- Elements counted so far (R145). -/
  sat     : Nat := 0
  /-- Elements that are counted and not in `sat` yet: those of the current group, and those whose combine is still to be sent. -/
  satGrp  : List Nat := []
  /-- Bytes of a strided store not yet sent. -/
  pend    : List PendByte := []
  /-- Elements of the current group of an indexed store (R171). -/
  grp     : List PendElem := []
  /-- Bytes of a queue store's item in the making, the elements and items it has written, and whether an item did not
  fit (R230). -/
  qbuf    : List Byte := []
  qelems  : Nat := 0
  qfull   : Bool := false
  /-- Bytes this accord writes that its loads may meet: the value before, then the values written (R179). -/
  written : Tab (List Byte) := []
  /-- Elements of the current group for which an instruction, by its place, has written its mask (R200). -/
  mwr     : Tab Nat := []
  /-- Halves that the current group has read, by 2 ^ 40 × pipe + half: what the read gave, none where it gave no data
  (R172); and the words it has read (event 26 of R386). -/
  rdc     : Tab (Option (List Byte)) := []
  rdw     : List Nat := []
  /-- Lowest element of a deferred store error, and its instruction's place (R178, R193). -/
  deferAt : Option (Nat × Nat) := none
deriving DecidableEq, Repr

/-- An exception raised: its code (R302), and the SUB, CODE and address that it records, none where the spec gives none (R303,
R307). [DESIGN CHOICE, safe: assumption 73] -/
structure Exc where
  code : Nat
  sub  : Option Nat := none
  reg  : Option Nat := none
  addr : Option Nat := none
deriving DecidableEq, Repr

/-- An entry of a store buffer: its 48-bit address and its bytes (R285). -/
structure SbEntry where
  addr  : Nat
  bytes : List Byte
deriving DecidableEq, Repr

/-- A result on its way to a scalar register: of a load, LL or SC, or of a multiply (R275, R276). `newest` says that the
instruction before the next one produced it; `back` that its data has come, as a multiply's has from the start. -/
structure Land where
  rd     : Nat
  val    : Word
  newest : Bool
  back   : Bool
deriving DecidableEq, Repr

/-- A return stack: the entries held, newest first, how many stand in the spill area, and the spill pointer (R272). -/
structure RetStack where
  held    : List Word := []
  spilled : Nat := 0
  ptr     : Nat := 0
deriving DecidableEq, Repr

/-- A transfer whose delay slot comes next: its own address, where it goes, and the return stack as it stood before
it (R274, R278). -/
structure Branch where
  pc     : Word
  target : Word
  before : RetStack
deriving DecidableEq, Repr

/-- A repetition: its prefix's address, the iterations left, and whether it is interruptible (R273). -/
structure Rep where
  pc    : Word
  left  : Nat
  inter : Bool
deriving DecidableEq, Repr

/-- One engine: its sequencer and its vector unit (R103). Registers that software sees in the engine's window are in
`State.regs`. The voted Triad, which has the same scalar core (R323), is the record with number 68.
[DESIGN CHOICE, unsafe: assumption 105] -/
structure Engine where
  /-- s0 to s31; s0 reads 0. -/
  sregs : Tab Word := []
  /-- d0 to d15 (R115). -/
  descs : Tab QWord := []
  /-- VL (R111). -/
  vl    : Word := 0
  /-- m1 to m7: key 65536 m + i for bit i (R112). -/
  masks : Tab Bool := []
  /-- The table memory T (R114). -/
  table : Tab Word := []
  /-- Errors of the mask groups (key 1024 m + group) and of T (key 8192 + entry); true is uncorrectable (R113). -/
  stErr : Tab Bool := []
  /-- c0 to c7 (R296). -/
  caps  : Tab Cap := []
  /-- The vector instructions of an accord whose last one has not come yet, oldest first (R104). -/
  coll  : List VInsn := []
  /-- The waiting accord (R109). -/
  wait  : Option Accord := none
  /-- The executing accord. -/
  exe   : Option Exec := none
  /-- The accord held for restart (R196). -/
  helda : Option Exec := none
  /-- The program counter: the address of the next instruction (R261). -/
  pc     : Word := 0
  /-- Whether the program executes: between cc 96 and FEND for a sequencer (R120), always for the Triad. -/
  run    : Bool := false
  /-- MODE of SST: true in compatibility mode (R290). -/
  mode   : Bool := false
  hold   : Bool := false
  pbar   : Bool := false
  repAct : Bool := false
  dslot  : Bool := false
  locked : Bool := false
  icold  : Bool := true
  repCnt : Nat := 0
  /-- LEVEL and IE of the Triad's SST (R312). -/
  level  : Nat := 0
  ie     : Bool := false
  /-- Instructions retired from the LL that set LOCKED on, it among them (R289); none: no LL. -/
  llAge  : Option Nat := none
  rstack : RetStack := {}
  /-- The store buffer, oldest first (R285). -/
  sb     : List SbEntry := []
  /-- A narrow entry met an uncorrectable word, or a Triad store an error response: SUB and the address of the deferred
  store error (R285, R352). -/
  sbErr  : Option Exc := none
  /-- Entries of the store buffer that stand before the collected accord and before the waiting one (R181). -/
  collSb : Nat := 0
  waitSb : Nat := 0
  lands  : List Land := []
  /-- A DLD's result on its way to a descriptor register: the register, the value, and whether the instruction before the
  next one produced it (R275). -/
  dland  : Option (Nat × QWord × Bool) := none
  /-- The long operation under way: its destination and its result (R277). -/
  long   : Option (Nat × Word) := none
  branch : Option Branch := none
  rep    : Option Rep := none
  /-- The branch target cache: address and target, most recently filled first (R280). -/
  btc    : List (Word × Word) := []
  /-- The instruction cache: the tag of each line present, by index (R281). -/
  lines  : Tab Nat := []
  /-- The line in the line buffer: its address / 64. -/
  lineBuf : Option Nat := none
  /-- The vector of the handler that runs, 0 for the program (FROM of R307). -/
  fromV  : Nat := 0
  /-- The exception raised and not yet entered (R302). -/
  exc   : Option Exc := none
  /-- A vector fault exception has been raised and not yet entered (R192). -/
  vfDue : Bool := false
  /-- A vector fault is being handled: no accord begins until its handler returns (R192). -/
  vfBusy : Bool := false
  /-- The engine's frame work has ended through a fault in this frame (R199). -/
  ended : Bool := false
  /-- A halt that waits to take effect, and whether the core is halted (R480). -/
  haltReq : Option Nat := none
  halted : Bool := false
  /-- One instruction or iteration may execute before the core halts again (R480). -/
  stepping : Bool := false

  /-- The address of the last instruction retired (`SEQ_PC`, R290), and whether it was a vector instruction or an iteration
  (R389). -/
  lastPc : Word := 0
  lastVec : Bool := false
  lastIter : Bool := false
  /-- The next instruction meets no breakpoint: a debugger resumed or stepped the core where it stood. -/
  skipBp : Bool := false
deriving DecidableEq, Repr

/-! ### The frame/tick unit -/

/-- What the frame/tick unit holds beside its registers. -/
structure FrameTick where
  /-- The cc of the frame that the last timed event reached. -/
  cc        : Nat := 0
  /-- Crossings since crossing 0 of the first collection frame. -/
  cross     : Nat := 0
  /-- Markers counted while SEEKING, and crossings since the last one (R39). -/
  seekCount : Nat := 0
  seekGap   : Nat := 0
  /-- Whether a marker was sampled in the present crossing. -/
  marker    : Bool := false
  /-- Bad positions of the present run (R39). -/
  badRun    : Nat := 0
  /-- SYNC_LOST has been raised for the present run (R39). -/
  lostRun   : Bool := false
  /-- Marker trouble in the frame being collected: its SYNC flag (R39). -/
  sync      : Bool := false
  /-- An unlock waits for cc 0 (R41). -/
  unlockReq : Bool := false
  /-- After an unlock: the crossings still to come before the first word that is left leaves (R35, R41). -/
  hold      : Nat := 0
  /-- Frames since the lock: 0 while the first one is in collection (R508). -/
  frames    : Nat := 0
  /-- The number the next lock gives its first frame when it is a re-lock (R39). -/
  relock    : Option Nat := none
  /-- The timed phases of the present frame that have been performed (R21). -/
  phase     : Nat := 0

  /-- Crossing ticks of the present frame. -/
  inFrame   : Nat := 0
  /-- A crossing is open: its markers are still to be counted. -/
  crossOpen : Bool := false
  /-- Frame programs run on the frame now in evaluation: its frame start was made (R120). -/
  evalRun   : Bool := false
  /-- The base note stopped the evaluation of this frame before its words were assembled (R443). -/
  baseStop  : Bool := false
  /-- Some frame program started in this frame, and whether its words carry LEAN (R32, R445). -/
  anyRun    : Bool := false
  leanRun   : Bool := false
  /-- Slots whose program starts, or started, in this frame; slots that a migration leaves to their defaults in it (R120,
  R127). -/
  starts    : List Nat := []
  back      : List Nat := []
deriving DecidableEq, Repr

/-- Who asks for a migration (R125). -/
inductive MigWhy where
  | command | policy | blotter
deriving DecidableEq, Repr

/-- A migration asked for: the slot, the target where the request names one, who asks, how many frame boundaries are still to
come before it takes effect, and whether it has found no target and waits for one (R125, R26, R128). -/
structure MigReq where
  slot   : Nat
  target : Option Nat
  why    : MigWhy
  due    : Nat
  waits  : Bool := false
deriving DecidableEq, Repr

/-- The answer of a bank to the last STORE_REQUEST: whether it was performed as asked, and the 16 data bytes read. -/
structure BankAns where
  ok   : Bool
  data : QWord
deriving DecidableEq, Repr
/-- An operation of the serial flash that the journal engine has under way (R413, R414). -/
inductive FlashOp where
  /-- Program operation 1, 2 or 3 of the record in hand. -/
  | record (n : Nat)
  /-- The erase of a sector; its new ERASE_COUNT. -/
  | erase (sector count : Nat)
  /-- Bytes 0x00 to 0x3B of a sector's header. -/
  | header (sector count : Nat)
  /-- HSTATE of a sector's header. -/
  | hstate (sector : Nat)
deriving DecidableEq, Repr

/-- The record in hand: its 60 bytes, where it goes, and whether it is urgent (R413, R415). -/
structure JRec where
  body   : List Byte
  sector : Nat
  slot   : Nat
  urgent : Bool
deriving DecidableEq, Repr

/-- What the journal engine holds beside its registers. -/
structure Journal where
  scanning : Bool := false
  op       : Option FlashOp := none
  /-- An erase suspended for an urgent record (R415). -/
  susp     : Option FlashOp := none
  /-- The record being written (R413). -/
  hand     : Option JRec := none
  /-- Urgent records that wait: type and payload (R411, R415). -/
  urgent   : List (List Byte) := []
  /-- The sector prepared next, when it is prepared (R414). -/
  next     : Option Nat := none
  /-- The scan left the current sector: no record goes there any more (R415). -/
  left     : Bool := false
  /-- SSEQ of the sector prepared last. -/
  sseq     : Nat := 0
deriving DecidableEq, Repr

/-- Work of the device on ranges of channel records: the marking of a retired lane, the reinstatement of a returned one,
or a command's (R217 to R219). -/
inductive CtKind where
  | orphan (lane : Nat)
  | reinstate (lane : Nat)
  | command (first last : Nat)
deriving DecidableEq, Repr

/-- A task on records: its kind, the channels it covers as they stood when it began, and those it has done. -/
structure CtTask where
  kind   : CtKind
  ranges : List (Nat × Nat)
  done   : List Nat
deriving DecidableEq, Repr

/-- A noise sweep pass: the channels visited, the channels retired, whether the cap was met, whether the next pass is due, and
whether the top note interrupted it (R214, R215, R220). -/
structure Sweep where
  visited : List Nat
  retired : Nat
  capped  : Bool
  next    : Bool
  cut     : Bool := false
deriving DecidableEq, Repr

/-- The words of a frame, as assembled: its number, its F words, its quality flags, and the maps of its header (R246,
R253). -/
structure VFrame where
  frame   : Nat
  words   : List Nat
  quality : Nat
  late    : Nat
  fault   : Nat
deriving DecidableEq, Repr

/-- What the verdict unit holds beside its registers. -/
structure Verdict where
  /-- Words that have not left yet, oldest first. -/
  fifo    : List Nat := []
  /-- The word on the pins; VVALID is high while there is one. -/
  out     : Option Nat := none
  /-- The frame assembled in the present frame. -/
  cur     : Option VFrame := none
  /-- X (R253). -/
  silX    : Nat := 0
  /-- FROZEN was cleared in this frame: writing resumes at the next one (R254). -/
  silWait : Bool := false
  /-- Slots late, and slots faulted, without an engine or not run, in the frame in evaluation; and whether its quality
  carries FAULT (R31, R32). -/
  late    : Nat := 0
  fault   : Nat := 0
  qFault  : Bool := false
deriving DecidableEq, Repr

/-- A Saonjo frame that waits to be sent on a lane: its header and payload words, and its virtual channel (R250, R256). -/
structure TxFrame where
  lane   : Nat
  vc     : Nat
  words  : List Nat
deriving DecidableEq, Repr

/-- An item that a readout channel holds ready for its lane: the frame, and HEAD of its queue when it was read (R256). -/
structure RdItem where
  tx   : TxFrame
  head : Nat
deriving DecidableEq, Repr

/-- A Saonjo frame as the lane delivered it: lane, virtual channel, its words, and whether it is complete (R51). -/
structure SFrame where
  lane  : Nat
  vc    : Nat
  words : List Nat
  whole : Bool
deriving DecidableEq, Repr

/-- Where a lane stands in its return sequence (R434). -/
inductive ReturnStep where
  | waitLoopback
  | loopback
  | training
  | reinstate
  /-- Reinstated; this many frame boundaries are still to come. -/
  | enter (due : Nat)
deriving DecidableEq, Repr

/-- What a lane holds beside its registers. -/
structure LaneState where
  /-- Bytes of the frame in progress on each virtual channel (R424). -/
  prog   : Tab (List Byte) := []
  /-- FSEQ of the last flit. -/
  fseq   : Option Nat := none
  /-- Consecutive flits with an error, and uncorrectable codewords in the present frame (R429). -/
  badRun : Nat := 0
  uncorr : Nat := 0
  /-- Corrected symbols that have not made a correctable event yet (R430). -/
  corr   : Nat := 0
  /-- A FULL training failed and its repetition is still to come (R431). -/
  repeatWait : Bool := false
  /-- An ADAPT script runs. -/
  adapting : Bool := false
  /-- The return sequence. -/
  ret    : Option ReturnStep := none
  /-- FSEQ of the next flit sent (R423). -/
  txFseq : Nat := 0
  /-- Bits of the flit stream that no codeword carries yet: how many, and the bits, the first one lowest (R422, R423). -/
  txBits : Nat × Nat := (0, 0)
  /-- SEQ of the next frame sent on each virtual channel (R49). -/
  txSeq  : Tab Nat := []
  /-- Verdict frames that wait to be sent. -/
  txq    : List TxFrame := []
  /-- Hits may have been lost since a loss of link (R432). -/
  lost   : Bool := false
deriving DecidableEq, Repr

/-- The checkpoint an engine is writing: its slot, its frame, whether its context words have all been sent, the CRC of
what was sent, and whether a word was sent poisoned (R120, R122, R200). -/
structure Chk where
  slot   : Nat
  frame  : Nat
  sent   : Bool
  crc    : Nat
  poison : Bool
deriving DecidableEq, Repr

/-- A copy of a slot's context under way between cc 0 and cc 96 (R126). -/
structure Copy where
  slot   : Nat
  source : Nat
  target : Nat
  why    : MigWhy
deriving DecidableEq, Repr

/-- A restore under way: the slot, its target, and the address of the checkpoint half it reads (R127). `sag` says that
the engine comes back from drydown (R445). -/
structure Restore where
  slot   : Nat
  target : Nat
  half   : Nat
  sag    : Bool
deriving DecidableEq, Repr

/-- What the drydown monitor holds beside its registers. -/
structure Drydown where
  /-- The lean programs are in force (R120, R443). -/
  lean    : Bool := false
  /-- The heart note waits for cc 0 (R443). -/
  heartDue : Bool := false
  /-- The good frames of the present tier are complete: it is left at this cc 0 (R444). -/
  leaveDue : Bool := false
  /-- Frames begun since the present tier was entered (R444): 0 while the present one is not a whole frame of it. -/
  since   : Nat := 0
  /-- The present frame holds a sample below the limit of R444. -/
  badFrame : Bool := false
  /-- How many samples in a row, the latest ones, lie below the thresholds of tiers 1 to 3 (R440). -/
  runs    : Tab Nat := []
  /-- Engines powered on, and whether they are ready (R445). -/
  power   : List Nat := []
  ready   : Bool := false
  /-- Slots that the frame in evaluation restores after a sag: they contribute defaults without FAULT. -/
  back    : List Nat := []
  /-- The lowest sample since the top note was entered, the tiers passed through, and the frame in collection at that
  entry (R447). -/
  minMv   : Nat := 0x3FF
  path    : Nat := 0
  topFrame : Nat := 0
deriving DecidableEq, Repr
/-- A save set of the Triad (R312). [DESIGN CHOICE, unsafe: assumption 105] -/
structure SaveSet where
  pc    : Word := 0
  sst   : Nat := 0
  cause : Nat := 0
  addr  : Nat := 0
  s29   : Word := 0
  c0    : Cap := ⟨false, 0⟩
  c6    : Cap := ⟨false, 0⟩
deriving DecidableEq, Repr

/-- Where a resync of a fenced core stands (R329). -/
inductive Resync where
  | idle
  | quiesce
  | copy
  | check
  /-- This many signature comparisons are still to come. -/
  | probation (left : Nat)
deriving DecidableEq, Repr

/-- What the Triad and its voter hold beside their registers. [DESIGN CHOICE, unsafe: assumption 102] -/
structure Triad where
  /-- Save sets, by level 1 to 3 (R312). -/
  saves  : Tab SaveSet := []
  /-- Where the resync of the fenced core stands (R329). -/
  resync : Resync := .idle
  /-- Cores whose next voted write has bit 0 inverted (R343). -/
  inject : List Nat := []
  /-- While it is not 0, the IDR delivers the last frame tick: it reaches the IDR within 2 mc of cc 0 (R324). -/
  tick   : Nat := 0
  /-- The signature window that has begun, by its mc count / 64: those before it have been compared (R325). -/
  window : Nat := 0
  /-- The mc in which the core was fenced last, which is no resync point of that fence (R329). -/
  fenceAt : Option Nat := none
  /-- The last retired PC of the core out of the vote, while it is known: it runs on by itself (R327, R336). -/
  awayPc : Option Word := none
  /-- A JTAG debugger has selected DBGACC since reset (R482). -/
  dbgSel : Bool := false
deriving DecidableEq, Repr

/-- What the boot ROM waits for (R452, R453, R460, R474). -/
inductive RomWait where
  /-- The firmware runs, or nothing does. -/
  | none
  /-- An image written by the host or over JTAG. -/
  | load
  /-- `BOOT_GO`: the source of the image and its entry address are held (R452 choice 6). -/
  | go (entry : Nat) (autoLock : Bool)
deriving DecidableEq, Repr

/-- The instruction that the JTAG instruction register holds (R477). -/
inductive JtagInsn where
  | bypass | idcode | samplePreload | extest | extestPulse | extestTrain | clamp | highz | dbgacc
deriving DecidableEq, Repr

/-- The device drives its pins: no instruction has given them to the boundary register, and HIGHZ does not release them
(R477). -/
def JtagInsn.ownPins : JtagInsn → Bool
  | .extest | .extestPulse | .extestTrain | .clamp | .highz => false
  | _ => true

/-- The result that Capture-DR of DBGACC returns (R478). -/
structure DbgRes where
  err  : Nat := 0
  done : Bool := true
  data : Nat := 0
deriving DecidableEq, Repr

/-! ### The block -/

/-- Something that leaves the device, or that it shows on a pin.
[DESIGN CHOICE, safe: assumption 9; DESIGN CHOICE, unsafe: assumption 104] -/
inductive Output where
  /-- A verdict word, with its quality and its crossing, on the verdict pins (R35). -/
  | verdict (word : Nat)
  /-- A Saonjo frame sent on a lane and virtual channel, header to trailer, and the consecutive flits that carry it (R423,
  R425). -/
  | laneFrame (lane vc : Nat) (words : List Nat) (flits : List (BitVec 256))
  /-- A codeword that carries 5,140 bits of a lane's flits, its 544 symbols in the order in which they leave (R422). -/
  | laneCodeword (lane : Nat) (symbols : List Nat)
  /-- An idle flit sent on a lane (R423, R425). -/
  | idleFlit (lane : Nat) (flit : BitVec 256)
  /-- A posted PCIe memory write of 64-bit words from a host address on (R470). -/
  | pcieWrite (addr : Nat) (words : List Nat)
  /-- An MSI-X message of a vector: address and data (R470). -/
  | msi (vector addr data : Nat)
  /-- A completion of a BAR access: 0 successful, 1 Unsupported Request, 2 Completer Abort, and the data read (R469). -/
  | completion (status : Nat) (data : Nat)
  /-- What the SMBus target answers: whether it acknowledged the transaction, and the bytes it returns (R475, R476). -/
  | smbus (ack : Bool) (bytes : List Nat)
  /-- What Capture-DR of DBGACC returns: ERR, DONE and DATA (R478). -/
  | dbgacc (err : Nat) (done : Bool) (data : Nat)
  /-- The 32 bits that Capture-DR of IDCODE returns (R477). -/
  | idcode (v : Nat)
  /-- The pin levels that Capture-DR of SAMPLE takes (R477). -/
  | sampled (p : Config.PinLevels)
  /-- A Latency Tolerance Report, in µs (R471). -/
  | ltr (us : Nat)
deriving DecidableEq, Repr

/-- The answer to a request on the management matrix: the master, the error code (0: performed) and the data read
(R352). [DESIGN CHOICE, safe: assumption 9] -/
structure Resp where
  master : Nat
  code   : Nat
  data   : Nat
  /-- The data of each beat of a read; none for a beat answered with an error (R351). -/
  beats  : List (Option Nat) := []
deriving DecidableEq, Repr

/-- The state of the block. -/
structure State where
  /-- Commands that wait, first in, first out. -/
  pending   : List Instr := []
  /-- Register fields that do not hold their reset value, by `Fld.key`. -/
  regs      : Tab Nat := []
  /-- Values in force in the frame pipeline, by `Fld.key` (R26). -/
  inForce   : Tab Nat := []
  /-- Staged changes, oldest first. -/
  staged    : List Staged := []
  /-- The model's own counter of free values (assumption 1). -/
  freeCtr   : Nat := 0
  /-- What has left the device, newest first. -/
  sent      : List Output := []
  /-- The last answer on the management matrix. -/
  resp      : Option Resp := none
  /-- The frame/tick unit. -/
  ft        : FrameTick := {}
  /-- Bytes of the Interleaved Store that are not 0, by byte address (R73). -/
  store     : Tab Byte := []
  /-- Halves of the store that hold an error, by byte address / 8 (R86). -/
  storeErr  : Tab (Option ErrKind) := []
  /-- Reservations, oldest first (R90). -/
  resv      : List Resv := []
  /-- Words whose corrected value is still to be written back, oldest first (R87). -/
  writeBacks : List Nat := []
  /-- Banks held by a read-modify-write: the bank cycle up to which each is held (R72). -/
  bankHeld  : Tab Nat := []
  /-- The rotation step in progress (R97). -/
  rot       : Rotation := .idle
  /-- While a step copies: the words whose rows a mirrored write has marked in the spare, and the halves that stand poisoned
  there (R87, R97). -/
  rotMarks  : List Nat := []
  rotBad    : List Nat := []
  /-- Rotation steps asked for while one is in progress: a logical bank, or the automatic choice (R99, R101). -/
  rotWant   : List (Option Nat) := []
  /-- Bytes of local memory that are not 0, by offset (R355), its slots that hold a tag (R296), and halves in error. -/
  localMem  : Tab Byte := []
  tags      : Tab Bool := []
  lmErr     : Tab (Option ErrKind) := []
  /-- Bytes of the vault that are not 0 (R358), and halves in error. -/
  vault     : Tab Byte := []
  vtErr     : Tab (Option ErrKind) := []
  /-- The queues (R226). -/
  queues    : Tab QState := []
  /-- Queues whose pointers hold a parity error that no use has met yet: in one copy, or in both (R394). -/
  qPtrBad   : Tab (Option Bool) := []
  /-- The engines (R103). -/
  engines   : Tab Engine := []
  /-- Policy frame count (R395), and the advances since the last leak. -/
  polFrames : Nat := 0
  polLeak   : Nat := 0
  /-- Strikes: key 65536 × class + unit (R397). -/
  strikes   : Tab Strike := []
  /-- Strike windows of logical banks in use, at most 16 (R399). -/
  bankTrack : List Nat := []
  /-- The group's most recent corrected logical bank, by group (R396). -/
  lastCeBank : Tab Nat := []
  /-- Migrations asked for (R125), oldest first. -/
  migReqs   : List MigReq := []
  /-- Expected SEQ of a lane and virtual channel: key 8 × lane + vc (R69). -/
  expSeq    : Tab Nat := []
  /-- The answer to the last STORE_REQUEST. -/
  bankAns   : Option BankAns := none
  /-- The logical bank whose rotation step Blotter waits for (OP 3, R404). -/
  blMbist   : Option Nat := none

  /-- The device is held in reset: no command but those that end it, or that act on the backup domain, does anything. -/
  held      : Bool := false
  /-- The LO halves held for their pairs: key 2 × address + side, side 1 the host's (R364). -/
  heldLo    : Tab Nat := []
  /-- Tags of local memory whose three copies have no majority, by slot (R357). -/
  tagBad    : Tab Bool := []

  /-- Timers whose match fires in the next mc (R369), and timers that RESTART sets to 0 at their next tick. -/
  tmrFire   : List Nat := []
  tmrZero   : List Nat := []
  /-- Timers whose match of R369 fired in this mc: a match or an overflow of the same mc is part of that event (R371,
  R373). -/
  tmrFired  : List Nat := []
  /-- Captures of each timer, oldest first (R372). -/
  tmrCaps   : Tab (List Nat) := []
  /-- Calendar ticks counted since the last trim, and ticks still to be skipped (R377). -/
  calCount  : Nat := 0
  calSkip   : Nat := 0
  /-- Instructions that each engine retires before its next tag (R388). -/
  tagWait   : Tab Nat := []

  /-- The engine a running LBIST tests (R403), and the engine the last automatic one tested (R406). -/
  blLbist   : Option Nat := none
  blLast    : Nat := 67
  /-- The journal engine (R408 to R417). -/
  jnl       : Journal := {}
  /-- The serial flash: bytes that are not 0xFF, by flash address. -/
  flash     : Tab Byte := []
  /-- What the flash's own tables declare (R415, R454). -/
  flashInfo : FlashInfo := ⟨2 ^ 27, true, 0, 0, true, true, true⟩

  /-- Record work under way, oldest first. -/
  ctTasks   : List CtTask := []
  /-- The noise sweep's pass, while one runs. -/
  ctSweep   : Option Sweep := none
  /-- Fenced device accesses to the table in the present frame, by logical bank, and the loader's items among them (R211,
  R213). -/
  ctUsed    : Tab Nat := []
  ctItems   : Nat := 0


  /-- The verdict unit (R244 to R259). -/
  vu        : Verdict := {}
  /-- Items that readout channels hold ready for their lanes, by channel. -/
  rdHold    : Tab (Option RdItem) := []
  /-- The channel whose turn it was last, by lane (R425). -/
  rdTurn    : Tab Nat := []
  /-- The lanes. -/
  lanes     : Tab LaneState := []
  /-- Complete frames that the lanes have handed to the router, oldest first (R51). -/
  rxDone    : List SFrame := []
  /-- Checkpoints under way, by engine. -/
  chks      : Tab (Option Chk) := []
  /-- Copies and restores under way, oldest first. -/
  copies    : List Copy := []
  restores  : List Restore := []
  /-- The start reason of a slot's next frame start, where it is not 0 (R120). -/
  reason    : Tab Nat := []
  /-- The drydown monitor (R440 to R447). -/
  dd        : Drydown := {}
  /-- Bytes of the MSI-X table, by offset from BAR0 + 0x1_0000, and the vectors whose pending bit is set (R467, R470). -/
  msix      : Tab Nat := []
  msixPend  : List Nat := []
  /-- A host exit from reset, L1 or L2 has begun and the link has not reached L0 (R473). -/
  hostExit  : Bool := false
  /-- For how many mc the next pulse of PCIE_PERST_N and of TRST_N lasts, which their commands do not carry: each takes a free
  value for the pulse after it (R496). -/
  perstMc   : Nat := 255
  trstMc    : Nat := 255
  /-- The levels of TMR_IN[3:0] behind their glitch filters, high where a pin is not listed (R450, R496). -/
  tmrIn     : Tab Bool := []
  /-- The mc of the last write of `PAD_FILT`, at which the filters began to count anew (R505). -/
  filtAt    : Option Nat := none
  /-- Readout channels whose wait has made its wake already (R473). -/
  woken     : List Nat := []
  /-- The host has enabled ASPM L1 in Link Control (R471). -/
  aspm      : Bool := false
  /-- AER holds an advisory non-fatal Completer Abort (R469). -/
  aerAdvisory : Bool := false

  /-- The Triad's save sets and its voter (R312, R325 to R338). -/
  triad     : Triad := {}
  /-- FAULT_N is driven low (R335, R460, R462). -/
  faultLow  : Bool := false
  /-- What the boot ROM waits for, and the master whose write it waits for has come. -/
  rom       : RomWait := .none
  romGo     : Option Nat := none
  /-- The last boot step has been reached (R453, R476). -/
  booted    : Bool := false
  /-- What the boot ROM met at the release of reset, where it has started; lane-quad controller scripts by quad, and the
  bank-group programs, as the image unpacked them (R453, R457). -/
  boot      : Option BootIn := none
  laneScripts : Tab (List Nat) := []
  bankProgs : List Nat := []
  /-- The hashes of keys 0 to 3 in the fuses (R462, R463). The other fuses are what `LC_STATE` and `LC_SVN` show; the
  life-cycle state in force is that of the last reset (R463). -/
  keyHash   : Tab Nat := []
  lcForce   : Nat := 0
  /-- A fuse change under way: OP and KEY (R463). -/
  fuseOp    : Option (Nat × Nat) := none
  /-- The JTAG instruction in force, and the result of the last DBGACC access (R477, R478). -/
  jtag      : JtagInsn := .idcode
  dbgRes    : DbgRes := {}
  /-- The boundary register: the cells that the last Update-DR of a boundary instruction left in it (R477). -/
  bscan     : List Bool := []
  /-- Die temperatures 0 to 7 in 1/8 °C, supply voltages in mV and the power estimate, as last measured (R476). -/
  sensors   : List Int := []
  supplies  : List Nat := []
  power     : Nat := 0
  /-- Supplies that the power-on detector has found too low and not yet high enough again (R439). -/
  supplyLow : List Nat := []
  /-- The SSC enable is changing (R499). -/
  sscBusy   : Bool := false

deriving DecidableEq, Repr

/-- Why the machine stops. [DESIGN CHOICE, safe: assumption 20] -/
inductive Fault where
  /-- Raised by STORE_REQUEST for a word above the store, which no bank holds (R73). Safe: the machine stops where the
  hardware has no such request. -/
  | noSuchWord
deriving DecidableEq, Repr

/-- Why a command has no meaning. -/
inductive Refusal where
  /-- Answered by the dispatch for a command that is not modelled. Safe: nothing is said about it. -/
  | notModelled (mnemonic : String)
deriving DecidableEq, Repr

/-- A root capability of R297: BASE, LENGTH and PERMS, unsealed, OTYPE and PDOM 0, its tag valid. -/
def rootCap (base len perms : Nat) : Cap := ⟨true, BitVec.ofNat 128 (base + len * 2 ^ 48 + perms * 2 ^ 88)⟩

/-- What c0 to c6 of the Triad hold at release of reset; c7 holds an invalid tag (R297). -/
def rootCaps : Tab Cap := [
  (0, rootCap 0x100000000 0x100000000 0x3F9F),
  (1, rootCap 0 0x1FFF0000 0x3),
  (2, rootCap 0 0 0x60),
  (3, rootCap 0x200000000 0x440000 0xE03),
  (4, rootCap 0x300000000 0x80000 0x203),
  (5, rootCap 0x400000000 0x200000 0x203),
  (6, rootCap 0x500000000 0xE0000 0x3F03)]

/-- The machine right after reset: no command waits, every register field holds its reset value (R11), the memories list
nothing, the Triad holds the capabilities of R297, and the boot ROM has not started.
[DESIGN CHOICE, safe: assumption 1; DESIGN CHOICE, unsafe: assumptions 14, 105] -/
def State.reset : State := { engines := [(68, { caps := rootCaps })] }

end Sys2Proof.Machine
end

