-- ==== Sys2Proof/Machine/Regs.lean ====
section
/-! DEFINITION. Every software-visible register field of the spec's register tables, under its own name, with its
address, place, width and reset value, and the table of registers (with the access code of each field, R7) that a
register access is decoded by. The rows follow the register tables of the rules named in each docstring.
A register with an index is a function of it: `n` is the unit (engine, queue, lane, timer, CRC unit, readout channel)
or the register's own index, `k` the second index. -/

namespace Sys2Proof.Machine.Rg

open Sys2Proof.Machine

/-- R42, `FT_CTRL_LOCK_REQ`: 1 starts the lock sequence from UNLOCKED or REFUSED -/
def FT_CTRL_LOCK_REQ : Fld := ⟨0x500000000, 0, 1, 0⟩
/-- R42, `FT_CTRL_UNLOCK`: 1 unlocks at the next cc 0 when LOCKED, or at once during a lock sequence (R41) -/
def FT_CTRL_UNLOCK : Fld := ⟨0x500000000, 1, 1, 0⟩
/-- R42, `FT_CTRL_EVAL_EN`: 1: frame programs run. 0: verdict-only. Takes effect at a frame boundary (R26); a write of 1 while locked is checked per R38 -/
def FT_CTRL_EVAL_EN : Fld := ⟨0x500000000, 2, 1, 1⟩
/-- R42, `FT_CTRL_RELOCK_EN`: 1: re-seek after SYNC_LOST (R39) -/
def FT_CTRL_RELOCK_EN : Fld := ⟨0x500000000, 3, 1, 0⟩
/-- R42, `FT_CFG_F_M1`: F − 1 -/
def FT_CFG_F_M1 : Fld := ⟨0x500000004, 0, 6, 63⟩
/-- R42, `FT_CFG_M`: CCLK multiplier; validity per R16 -/
def FT_CFG_M : Fld := ⟨0x500000004, 8, 8, 50⟩
/-- R42, `FT_CFG_E`: emission offset in crossings -/
def FT_CFG_E : Fld := ⟨0x500000004, 16, 6, 0⟩
/-- R42, `FT_SYNC_FSYNC_DIV_M1`: frames per marker, minus 1. Writable only in UNLOCKED or REFUSED -/
def FT_SYNC_FSYNC_DIV_M1 : Fld := ⟨0x500000008, 0, 12, 0⟩
/-- R42, `FT_SYNC_LOCK_COUNT`: consecutive markers needed to lock; 0 and 1 act as 2 -/
def FT_SYNC_LOCK_COUNT : Fld := ⟨0x500000008, 12, 4, 4⟩
/-- R42, `FT_SYNC_MISS_LIMIT`: consecutive bad positions before SYNC_LOST; 0 acts as 1 -/
def FT_SYNC_MISS_LIMIT : Fld := ⟨0x500000008, 16, 8, 8⟩
/-- R42, `FT_STATUS_STATE`: 0 UNLOCKED, 1 MEASURING, 2 PLL_LOCKING, 3 SEEKING, 4 LOCKED, 6 REFUSED; 5 and 7 unused -/
def FT_STATUS_STATE : Fld := ⟨0x50000000c, 0, 3, 0⟩
/-- R42, `FT_STATUS_REFUSE_CODE`: 1 REFCLK out of range, 2 CCLK out of range, 3 F × M < 512 with evaluation, 4 W < PROVED_W, 5 PLL not locked in 200 µs -/
def FT_STATUS_REFUSE_CODE : Fld := ⟨0x50000000c, 4, 4, 0⟩
/-- R42, `FT_STATUS_VERDICT_ONLY`: 1 while the unit is locked with EVAL_EN = 0 -/
def FT_STATUS_VERDICT_ONLY : Fld := ⟨0x50000000c, 8, 1, 0⟩
/-- R42, `FT_BUDGET_W`: F × M − 256 for the current FT_CFG; 0 when that value is negative -/
def FT_BUDGET_W : Fld := ⟨0x500000010, 0, 16, 2944⟩
/-- R42, `FT_BUDGET_PROVED_W`: largest W any loaded program was proved against (R30); writable only in UNLOCKED or REFUSED (R38) -/
def FT_BUDGET_PROVED_W : Fld := ⟨0x500000010, 16, 16, 0⟩
/-- R42, `FT_REFMEAS_REF_KHZ`: REFCLK frequency in kHz from the last measurement, ±1 kHz -/
def FT_REFMEAS_REF_KHZ : Fld := ⟨0x500000014, 0, 17, 0⟩
/-- R42, `FT_LATENCY_CROSSINGS`: 2F + E -/
def FT_LATENCY_CROSSINGS : Fld := ⟨0x500000018, 0, 8, 128⟩
/-- R42, `FT_FRAME_LO`: number of the frame now in collection, bits [31:0] -/
def FT_FRAME_LO : Fld := ⟨0x500000020, 0, 32, 0⟩
/-- R42, `FT_FRAME_HI`: the same, bits [63:32] -/
def FT_FRAME_HI : Fld := ⟨0x500000024, 0, 32, 0⟩
/-- R42, `FT_PRESET_LO`: number given to the first frame after lock, bits [31:0] -/
def FT_PRESET_LO : Fld := ⟨0x500000028, 0, 32, 0⟩
/-- R42, `FT_PRESET_HI`: the same, bits [63:32] -/
def FT_PRESET_HI : Fld := ⟨0x50000002c, 0, 32, 0⟩
/-- R42, `FT_LATE_LO`: bit n set: slot n was late in the last evaluated frame, slots 0–31 -/
def FT_LATE_LO : Fld := ⟨0x500000030, 0, 32, 0⟩
/-- R42, `FT_LATE_HI`: the same for slots 32–63 -/
def FT_LATE_HI : Fld := ⟨0x500000034, 0, 32, 0⟩
/-- R42, `MIN_SLACK`: least value of W − (FEND cycle + 1) over on-time slots since last read; a read sets it to 0xFFFF (R7); [31:16] reserved -/
def MIN_SLACK : Fld := ⟨0x500000038, 0, 16, 65535⟩
/-- R42, `FT_OVERRUN_CNT`: frames with at least one late slot; holds at 0xFFFF_FFFF -/
def FT_OVERRUN_CNT : Fld := ⟨0x50000003c, 0, 32, 0⟩
/-- R42, `FT_SYNC_ERR_CNT`: missing or misplaced markers; holds at 0xFFFF_FFFF -/
def FT_SYNC_ERR_CNT : Fld := ⟨0x500000040, 0, 32, 0⟩
/-- R42, `FT_DEFAULT_CNT`: frames whose words carried LATE, FAULT or ALLDEF; holds at 0xFFFF_FFFF -/
def FT_DEFAULT_CNT : Fld := ⟨0x500000044, 0, 32, 0⟩
/-- R42, `FT_INT_STATUS_OVERRUN`: a frame had a late slot -/
def FT_INT_STATUS_OVERRUN : Fld := ⟨0x500000050, 0, 1, 0⟩
/-- R42, `FT_INT_STATUS_SYNC_MISS`: a marker was missing or misplaced -/
def FT_INT_STATUS_SYNC_MISS : Fld := ⟨0x500000050, 1, 1, 0⟩
/-- R42, `FT_INT_STATUS_SYNC_LOST`: MISS_LIMIT reached -/
def FT_INT_STATUS_SYNC_LOST : Fld := ⟨0x500000050, 2, 1, 0⟩
/-- R42, `FT_INT_STATUS_REF_LOSS`: REFCLK lost (R40) -/
def FT_INT_STATUS_REF_LOSS : Fld := ⟨0x500000050, 3, 1, 0⟩
/-- R42, `FT_INT_STATUS_LOCKED`: lock achieved -/
def FT_INT_STATUS_LOCKED : Fld := ⟨0x500000050, 4, 1, 0⟩
/-- R42, `FT_INT_STATUS_REFUSED`: lock refused -/
def FT_INT_STATUS_REFUSED : Fld := ⟨0x500000050, 5, 1, 0⟩
/-- R42, `FT_INT_EN_OVERRUN`: a frame had a late slot -/
def FT_INT_EN_OVERRUN : Fld := ⟨0x500000054, 0, 1, 1⟩
/-- R42, `FT_INT_EN_SYNC_MISS`: a marker was missing or misplaced -/
def FT_INT_EN_SYNC_MISS : Fld := ⟨0x500000054, 1, 1, 1⟩
/-- R42, `FT_INT_EN_SYNC_LOST`: MISS_LIMIT reached -/
def FT_INT_EN_SYNC_LOST : Fld := ⟨0x500000054, 2, 1, 1⟩
/-- R42, `FT_INT_EN_REF_LOSS`: REFCLK lost (R40) -/
def FT_INT_EN_REF_LOSS : Fld := ⟨0x500000054, 3, 1, 1⟩
/-- R42, `FT_INT_EN_LOCKED`: lock achieved -/
def FT_INT_EN_LOCKED : Fld := ⟨0x500000054, 4, 1, 1⟩
/-- R42, `FT_INT_EN_REFUSED`: lock refused -/
def FT_INT_EN_REFUSED : Fld := ⟨0x500000054, 5, 1, 1⟩
/-- R70, `IR_CTRL_ENABLE`: 1: router accepts Saonjo frames; 0: every frame is discarded uncounted. Checked per R58 -/
def IR_CTRL_ENABLE : Fld := ⟨0x5000d0000, 0, 1, 0⟩
/-- R70, `IR_CTRL_EARLY_EN`: 1: d = 1 frames go to the spare buffer -/
def IR_CTRL_EARLY_EN : Fld := ⟨0x5000d0000, 1, 1, 1⟩
/-- R70, `IR_CTRL_SEQ_CHECK`: 1: SEQ gaps are counted and interrupt -/
def IR_CTRL_SEQ_CHECK : Fld := ⟨0x5000d0000, 2, 1, 1⟩
/-- R70, `IR_BUF_CFG_SLOTS_LOG2`: log2 of S; values outside 16–21 are refused with an error response -/
def IR_BUF_CFG_SLOTS_LOG2 : Fld := ⟨0x5000d0004, 0, 5, 19⟩
/-- R70, `IR_STATUS_COLL_BUF`: buffer in collection role: 0 A, 1 B, 2 C, 3 D -/
def IR_STATUS_COLL_BUF : Fld := ⟨0x5000d0008, 0, 2, 0⟩
/-- R70, `IR_STATUS_CFG_ERR`: an enable was refused per R58 -/
def IR_STATUS_CFG_ERR : Fld := ⟨0x5000d0008, 2, 1, 0⟩
/-- R70, `IR_STATUS_WEIGHT_ZERO`: all weights 0; equal split in use (R66) -/
def IR_STATUS_WEIGHT_ZERO : Fld := ⟨0x5000d0008, 3, 1, 0⟩
/-- R70, `IR_BUF_BASE_A`: store byte address of buffer A; bits [11:0] must be 0 -/
def IR_BUF_BASE_A : Fld := ⟨0x5000d0010, 0, 32, 268435456⟩
/-- R70, `IR_BUF_BASE_B`: buffer B -/
def IR_BUF_BASE_B : Fld := ⟨0x5000d0014, 0, 32, 276824064⟩
/-- R70, `IR_BUF_BASE_C`: buffer C -/
def IR_BUF_BASE_C : Fld := ⟨0x5000d0018, 0, 32, 285212672⟩
/-- R70, `IR_BUF_BASE_D`: buffer D -/
def IR_BUF_BASE_D : Fld := ⟨0x5000d001c, 0, 32, 293601280⟩
/-- R70, `IR_EVAL_BASE`: base of the buffer in evaluation role (R64) -/
def IR_EVAL_BASE : Fld := ⟨0x5000d0020, 0, 32, 293601280⟩
/-- R70, `IR_WEIGHT_W0`: weight of partition 4i -/
def IR_WEIGHT_W0 (n : Nat) : Fld := ⟨0x5000d0040 + 0x4 * n, 0, 8, 1⟩
/-- R70, `IR_WEIGHT_W1`: weight of partition 4i + 1 -/
def IR_WEIGHT_W1 (n : Nat) : Fld := ⟨0x5000d0040 + 0x4 * n, 8, 8, 1⟩
/-- R70, `IR_WEIGHT_W2`: weight of partition 4i + 2 -/
def IR_WEIGHT_W2 (n : Nat) : Fld := ⟨0x5000d0040 + 0x4 * n, 16, 8, 1⟩
/-- R70, `IR_WEIGHT_W3`: weight of partition 4i + 3 -/
def IR_WEIGHT_W3 (n : Nat) : Fld := ⟨0x5000d0040 + 0x4 * n, 24, 8, 1⟩
/-- R70, `IR_CRC_ERR_CNT`: Saonjo frames failing CRC -/
def IR_CRC_ERR_CNT : Fld := ⟨0x5000d0080, 0, 32, 0⟩
/-- R70, `IR_FMT_ERR_CNT`: format errors, frames and hit words -/
def IR_FMT_ERR_CNT : Fld := ⟨0x5000d0084, 0, 32, 0⟩
/-- R70, `IR_LATE_CNT`: late hits -/
def IR_LATE_CNT : Fld := ⟨0x5000d0088, 0, 32, 0⟩
/-- R70, `IR_MISNUM_CNT`: misnumbered hits -/
def IR_MISNUM_CNT : Fld := ⟨0x5000d008c, 0, 32, 0⟩
/-- R70, `IR_OVF_CNT`: hits lost to full partitions -/
def IR_OVF_CNT : Fld := ⟨0x5000d0090, 0, 32, 0⟩
/-- R70, `IR_UNMAP_CNT`: hits dropped by DROP entries -/
def IR_UNMAP_CNT : Fld := ⟨0x5000d0094, 0, 32, 0⟩
/-- R70, `IR_NOLOCK_CNT`: hits discarded while not LOCKED -/
def IR_NOLOCK_CNT : Fld := ⟨0x5000d0098, 0, 32, 0⟩
/-- R70, `IR_SEQ_GAP_CNT`: SEQ discontinuities -/
def IR_SEQ_GAP_CNT : Fld := ⟨0x5000d009c, 0, 32, 0⟩
/-- R70, `IR_QFULL_CNT`: non-hit frames lost to full lane queues -/
def IR_QFULL_CNT : Fld := ⟨0x5000d00a0, 0, 32, 0⟩
/-- R70, `IR_LAST_ERR`: lane of the most recent CRC, format or SEQ event; [31:7] reserved -/
def IR_LAST_ERR : Fld := ⟨0x5000d00a4, 0, 7, 0⟩
/-- R70, `IR_INT_STATUS_CRC_ERR`: a Saonjo frame failed CRC -/
def IR_INT_STATUS_CRC_ERR : Fld := ⟨0x5000d00c0, 0, 1, 0⟩
/-- R70, `IR_INT_STATUS_FMT_ERR`: a format error occurred -/
def IR_INT_STATUS_FMT_ERR : Fld := ⟨0x5000d00c0, 1, 1, 0⟩
/-- R70, `IR_INT_STATUS_OVERFLOW`: a partition overflowed -/
def IR_INT_STATUS_OVERFLOW : Fld := ⟨0x5000d00c0, 2, 1, 0⟩
/-- R70, `IR_INT_STATUS_LATE_HIT`: a late hit was discarded -/
def IR_INT_STATUS_LATE_HIT : Fld := ⟨0x5000d00c0, 3, 1, 0⟩
/-- R70, `IR_INT_STATUS_SEQ_GAP`: a SEQ gap was seen -/
def IR_INT_STATUS_SEQ_GAP : Fld := ⟨0x5000d00c0, 4, 1, 0⟩
/-- R70, `IR_INT_STATUS_QFULL`: a lane queue was full -/
def IR_INT_STATUS_QFULL : Fld := ⟨0x5000d00c0, 5, 1, 0⟩
/-- R70, `IR_INT_EN_CRC_ERR`: a Saonjo frame failed CRC -/
def IR_INT_EN_CRC_ERR : Fld := ⟨0x5000d00c4, 0, 1, 1⟩
/-- R70, `IR_INT_EN_FMT_ERR`: a format error occurred -/
def IR_INT_EN_FMT_ERR : Fld := ⟨0x5000d00c4, 1, 1, 1⟩
/-- R70, `IR_INT_EN_OVERFLOW`: a partition overflowed -/
def IR_INT_EN_OVERFLOW : Fld := ⟨0x5000d00c4, 2, 1, 1⟩
/-- R70, `IR_INT_EN_LATE_HIT`: a late hit was discarded -/
def IR_INT_EN_LATE_HIT : Fld := ⟨0x5000d00c4, 3, 1, 0⟩
/-- R70, `IR_INT_EN_SEQ_GAP`: a SEQ gap was seen -/
def IR_INT_EN_SEQ_GAP : Fld := ⟨0x5000d00c4, 4, 1, 0⟩
/-- R70, `IR_INT_EN_QFULL`: a lane queue was full -/
def IR_INT_EN_QFULL : Fld := ⟨0x5000d00c4, 5, 1, 1⟩
/-- R70, `IR_PMAP_ENT0`: entry 4j per R55 -/
def IR_PMAP_ENT0 (n : Nat) : Fld := ⟨0x5000d8000 + 0x4 * n, 0, 8, ((4 * n + 0) >>> 7)⟩
/-- R70, `IR_PMAP_ENT1`: entry 4j + 1 -/
def IR_PMAP_ENT1 (n : Nat) : Fld := ⟨0x5000d8000 + 0x4 * n, 8, 8, ((4 * n + 1) >>> 7)⟩
/-- R70, `IR_PMAP_ENT2`: entry 4j + 2 -/
def IR_PMAP_ENT2 (n : Nat) : Fld := ⟨0x5000d8000 + 0x4 * n, 16, 8, ((4 * n + 2) >>> 7)⟩
/-- R70, `IR_PMAP_ENT3`: entry 4j + 3 -/
def IR_PMAP_ENT3 (n : Nat) : Fld := ⟨0x5000d8000 + 0x4 * n, 24, 8, ((4 * n + 3) >>> 7)⟩
/-- R101, `ST_CTRL_SCRUB_EN`: 1: scrubbing runs -/
def ST_CTRL_SCRUB_EN : Fld := ⟨0x500090000, 0, 1, 1⟩
/-- R101, `ST_CTRL_ROT_EN`: 1: automatic rotation steps run -/
def ST_CTRL_ROT_EN : Fld := ⟨0x500090000, 1, 1, 1⟩
/-- R101, `ST_CTRL_ECC_WB_EN`: 1: corrected reads are written back (R87) -/
def ST_CTRL_ECC_WB_EN : Fld := ⟨0x500090000, 2, 1, 1⟩
/-- R101, `ST_CTRL_ROT_TEST`: 1: the test phase runs. 0: the source becomes the spare untested -/
def ST_CTRL_ROT_TEST : Fld := ⟨0x500090000, 3, 1, 1⟩
/-- R101, `ST_STATUS_SPARE_PHYS`: physical number of the spare; invalid while NO_SPARE is 1 -/
def ST_STATUS_SPARE_PHYS : Fld := ⟨0x500090004, 0, 13, 8191⟩
/-- R101, `ST_STATUS_NO_SPARE`: 1: no spare bank (R100) -/
def ST_STATUS_NO_SPARE : Fld := ⟨0x500090004, 13, 1, 0⟩
/-- R101, `ST_STATUS_ROT_PHASE`: 0 idle, 1 copy, 2 switch staged or mirrors draining, 3 test -/
def ST_STATUS_ROT_PHASE : Fld := ⟨0x500090004, 14, 2, 0⟩
/-- R101, `ST_STATUS_SCRUB_LATE`: a group missed its scrub period (R96) -/
def ST_STATUS_SCRUB_LATE : Fld := ⟨0x500090004, 16, 1, 0⟩
/-- R101, `ST_SCRUB_CFG_PERIOD_MS`: scrub period in ms; values below 100 are refused with an error response -/
def ST_SCRUB_CFG_PERIOD_MS : Fld := ⟨0x500090008, 0, 16, 2000⟩
/-- R101, `ST_ROT_CFG_STEP_MS`: interval between automatic steps in ms; 0 stops automatic steps -/
def ST_ROT_CFG_STEP_MS : Fld := ⟨0x50009000c, 0, 24, 10548⟩
/-- R101, `ST_ROT_CMD_TARGET_LOG`: logical bank to move when TARGETED is 1 -/
def ST_ROT_CMD_TARGET_LOG : Fld := ⟨0x500090010, 0, 13, 0⟩
/-- R101, `ST_ROT_CMD_TARGETED`: 1: the source is the bank holding TARGET_LOG (R99) -/
def ST_ROT_CMD_TARGETED : Fld := ⟨0x500090010, 13, 1, 0⟩
/-- R101, `ST_ROT_CMD_GO`: 1: start a step now, or after the step in progress -/
def ST_ROT_CMD_GO : Fld := ⟨0x500090010, 14, 1, 0⟩
/-- R101, `ST_ROT_STATUS_SRC_PHYS`: source bank of the current step -/
def ST_ROT_STATUS_SRC_PHYS : Fld := ⟨0x500090014, 0, 13, 0⟩
/-- R101, `ST_ROT_STATUS_COPY_ROW`: next row to copy -/
def ST_ROT_STATUS_COPY_ROW : Fld := ⟨0x500090014, 13, 12, 0⟩
/-- R101, `ST_ROT_COUNT`: completed rotation steps since reset -/
def ST_ROT_COUNT : Fld := ⟨0x500090018, 0, 32, 0⟩
/-- R101, `ST_RETIRED_PHYS`: retired physical bank -/
def ST_RETIRED_PHYS : Fld := ⟨0x50009001c, 0, 13, 0⟩
/-- R101, `ST_RETIRED_VALID`: 1: RETIRED_PHYS is valid -/
def ST_RETIRED_VALID : Fld := ⟨0x50009001c, 13, 1, 0⟩
/-- R101, `ST_CE_CNT`: corrected single-bit errors -/
def ST_CE_CNT : Fld := ⟨0x500090020, 0, 32, 0⟩
/-- R101, `ST_UE_CNT`: uncorrectable reads and poisoned halves met -/
def ST_UE_CNT : Fld := ⟨0x500090024, 0, 32, 0⟩
/-- R101, `ST_ADDR_ERR_CNT`: uncorrectable errors with an address component -/
def ST_ADDR_ERR_CNT : Fld := ⟨0x500090028, 0, 32, 0⟩
/-- R101, `ST_LAST_UE_ADDR`: store byte address of the word of the last uncorrectable error -/
def ST_LAST_UE_ADDR : Fld := ⟨0x50009002c, 0, 32, 0⟩
/-- R101, `ST_LAST_UE_SRC`: requester: 0–67 engine VEn, 68 ingress router, 69 scrub, 70 rotation, 71 readout or queue fabric, 72 management matrix -/
def ST_LAST_UE_SRC : Fld := ⟨0x500090030, 0, 7, 0⟩
/-- R101, `ST_LAST_UE_HALF`: half of the word in error -/
def ST_LAST_UE_HALF : Fld := ⟨0x500090030, 7, 1, 0⟩
/-- R101, `ST_RES_FAIL_CNT`: store-conditionals that failed for want of a reservation (R92); those stopped by an uncorrectable word are not counted -/
def ST_RES_FAIL_CNT : Fld := ⟨0x500090034, 0, 32, 0⟩
/-- R101, `ST_INT_STATUS_UE`: an uncorrectable error was met -/
def ST_INT_STATUS_UE : Fld := ⟨0x500090040, 0, 1, 0⟩
/-- R101, `ST_INT_STATUS_ADDR_ERR`: an address mismatch was detected -/
def ST_INT_STATUS_ADDR_ERR : Fld := ⟨0x500090040, 1, 1, 0⟩
/-- R101, `ST_INT_STATUS_SCRUB_LATE`: a scrub period was missed -/
def ST_INT_STATUS_SCRUB_LATE : Fld := ⟨0x500090040, 2, 1, 0⟩
/-- R101, `ST_INT_STATUS_ROT_DONE`: a rotation step completed -/
def ST_INT_STATUS_ROT_DONE : Fld := ⟨0x500090040, 3, 1, 0⟩
/-- R101, `ST_INT_STATUS_ROT_FAIL`: a source failed its test and was retired -/
def ST_INT_STATUS_ROT_FAIL : Fld := ⟨0x500090040, 4, 1, 0⟩
/-- R101, `ST_INT_STATUS_NO_SPARE`: the store has lost its spare -/
def ST_INT_STATUS_NO_SPARE : Fld := ⟨0x500090040, 5, 1, 0⟩
/-- R101, `ST_INT_EN_UE`: an uncorrectable error was met -/
def ST_INT_EN_UE : Fld := ⟨0x500090044, 0, 1, 1⟩
/-- R101, `ST_INT_EN_ADDR_ERR`: an address mismatch was detected -/
def ST_INT_EN_ADDR_ERR : Fld := ⟨0x500090044, 1, 1, 1⟩
/-- R101, `ST_INT_EN_SCRUB_LATE`: a scrub period was missed -/
def ST_INT_EN_SCRUB_LATE : Fld := ⟨0x500090044, 2, 1, 1⟩
/-- R101, `ST_INT_EN_ROT_DONE`: a rotation step completed -/
def ST_INT_EN_ROT_DONE : Fld := ⟨0x500090044, 3, 1, 0⟩
/-- R101, `ST_INT_EN_ROT_FAIL`: a source failed its test and was retired -/
def ST_INT_EN_ROT_FAIL : Fld := ⟨0x500090044, 4, 1, 1⟩
/-- R101, `ST_INT_EN_NO_SPARE`: the store has lost its spare -/
def ST_INT_EN_NO_SPARE : Fld := ⟨0x500090044, 5, 1, 1⟩
/-- R101, `ST_SCRUB_ROW`: row the group's current pass has reached -/
def ST_SCRUB_ROW (n : Nat) : Fld := ⟨0x500091000 + 0x4 * n, 0, 12, 0⟩
/-- R101, `ST_SCRUB_BANK`: bank within the group, 0–63, now being scrubbed -/
def ST_SCRUB_BANK (n : Nat) : Fld := ⟨0x500091000 + 0x4 * n, 12, 6, 0⟩
/-- R101, `GRP_CE_CNT`: corrected errors in the group's banks -/
def GRP_CE_CNT (n : Nat) : Fld := ⟨0x500091200 + 0x4 * n, 0, 32, 0⟩
/-- R129, `EM_CTRL_AUTO_MIG`: 1: the reliability policy migrates failing engines -/
def EM_CTRL_AUTO_MIG : Fld := ⟨0x500001000, 0, 1, 1⟩
/-- R129, `EM_CTRL_COLD_EN`: 1: a cold context is used when no checkpoint half is valid (R127) -/
def EM_CTRL_COLD_EN : Fld := ⟨0x500001000, 1, 1, 1⟩
/-- R129, `EM_CMD_SLOT`: slot for MIGRATE -/
def EM_CMD_SLOT : Fld := ⟨0x500001004, 0, 6, 0⟩
/-- R129, `EM_CMD_VE`: target for MIGRATE; engine for RETIRE and RETURN -/
def EM_CMD_VE : Fld := ⟨0x500001004, 8, 7, 0⟩
/-- R129, `EM_CMD_ANY`: 1: the device chooses the target (R125) -/
def EM_CMD_ANY : Fld := ⟨0x500001004, 15, 1, 0⟩
/-- R129, `EM_CMD_OP`: 1 MIGRATE; 2 RETIRE, from SPARE only; 3 RETURN, from RETIRED to SPARE, only if Blotter's latest test of the engine passed; other values refused -/
def EM_CMD_OP : Fld := ⟨0x500001004, 16, 4, 0⟩
/-- R129, `EM_STATUS_SPARES`: engines in SPARE state -/
def EM_STATUS_SPARES : Fld := ⟨0x500001008, 0, 7, 4⟩
/-- R129, `EM_STATUS_MIG_PENDING`: a migration waits for a target -/
def EM_STATUS_MIG_PENDING : Fld := ⟨0x500001008, 7, 1, 0⟩
/-- R129, `EM_STATUS_LAST_SLOT`: slot of the last migration -/
def EM_STATUS_LAST_SLOT : Fld := ⟨0x500001008, 8, 6, 0⟩
/-- R129, `EM_STATUS_LAST_RESULT`: 0 copied, 1 restored, 2 cold, 3 slot left without an engine -/
def EM_STATUS_LAST_RESULT : Fld := ⟨0x500001008, 14, 2, 0⟩
/-- R129, `EM_MIG_CNT`: completed copies -/
def EM_MIG_CNT : Fld := ⟨0x500001010, 0, 32, 0⟩
/-- R129, `EM_RESTORE_CNT`: restores from a checkpoint -/
def EM_RESTORE_CNT : Fld := ⟨0x500001014, 0, 32, 0⟩
/-- R129, `EM_COLD_CNT`: cold starts and slots left without an engine -/
def EM_COLD_CNT : Fld := ⟨0x500001018, 0, 32, 0⟩
/-- R129, `EM_CHK_BASE`: store byte address of the checkpoint area (R124); bits [11:0] must be 0 -/
def EM_CHK_BASE : Fld := ⟨0x500001030, 0, 32, 301989888⟩
/-- R129, `EM_CAPSET_OFF`: offset in local memory of slot 0's capability set; bits [12:0] must be 0; [31:21] reserved -/
def EM_CAPSET_OFF : Fld := ⟨0x500001034, 0, 21, 516096⟩
/-- R129, `EM_INT_STATUS_MIG_DONE`: a copy completed -/
def EM_INT_STATUS_MIG_DONE : Fld := ⟨0x500001020, 0, 1, 0⟩
/-- R129, `EM_INT_STATUS_RESTORED`: a slot was restored from a checkpoint -/
def EM_INT_STATUS_RESTORED : Fld := ⟨0x500001020, 1, 1, 0⟩
/-- R129, `EM_INT_STATUS_COLD`: a cold start, or a slot left without an engine -/
def EM_INT_STATUS_COLD : Fld := ⟨0x500001020, 2, 1, 0⟩
/-- R129, `EM_INT_STATUS_NO_SPARE`: a migration found no target -/
def EM_INT_STATUS_NO_SPARE : Fld := ⟨0x500001020, 3, 1, 0⟩
/-- R129, `EM_INT_EN_MIG_DONE`: a copy completed -/
def EM_INT_EN_MIG_DONE : Fld := ⟨0x500001024, 0, 1, 0⟩
/-- R129, `EM_INT_EN_RESTORED`: a slot was restored from a checkpoint -/
def EM_INT_EN_RESTORED : Fld := ⟨0x500001024, 1, 1, 1⟩
/-- R129, `EM_INT_EN_COLD`: a cold start, or a slot left without an engine -/
def EM_INT_EN_COLD : Fld := ⟨0x500001024, 2, 1, 1⟩
/-- R129, `EM_INT_EN_NO_SPARE`: a migration found no target -/
def EM_INT_EN_NO_SPARE : Fld := ⟨0x500001024, 3, 1, 1⟩
/-- R129, `EM_MAP_VE`: engine serving slot s; a write naming an engine not in SPARE or already mapped is refused with an error response -/
def EM_MAP_VE (n : Nat) : Fld := ⟨0x500001100 + 0x4 * n, 0, 7, (n + n / 16)⟩
/-- R129, `EM_MAP_VALID`: 1: slot s has an engine; 0: the slot contributes defaults (R31) -/
def EM_MAP_VALID (n : Nat) : Fld := ⟨0x500001100 + 0x4 * n, 7, 1, 1⟩
/-- R129, `EM_ENTRY`: entry address of slot s's frame program; bits [1:0] must be 0 -/
def EM_ENTRY (n : Nat) : Fld := ⟨0x500001200 + 0x4 * n, 0, 32, 0⟩
/-- R129, `EM_LEAN_ENTRY`: entry address of slot s's lean program -/
def EM_LEAN_ENTRY (n : Nat) : Fld := ⟨0x500001300 + 0x4 * n, 0, 32, 0⟩
/-- R129, `EM_VE_STATE_STATE`: state of VEn per R119: 0 OFF, 1 SPARE, 2 ACTIVE, 3 TEST, 4 RETIRED -/
def EM_VE_STATE_STATE (n : Nat) : Fld := ⟨0x500001400 + 0x4 * n, 0, 3, (if n = 16 ∨ n = 33 ∨ n = 50 ∨ n = 67 then 1 else 2)⟩
/-- R130, `VE_STATUS_STATE`: engine state -/
def VE_STATUS_STATE (n : Nat) : Fld := ⟨0x200000000 + 0x10000 * n, 0, 3, (if n = 16 ∨ n = 33 ∨ n = 50 ∨ n = 67 then 1 else 2)⟩
/-- R130, `VE_STATUS_SLOT`: slot served; valid while ACTIVE -/
def VE_STATUS_SLOT (n : Nat) : Fld := ⟨0x200000000 + 0x10000 * n, 4, 6, (if n = 16 ∨ n = 33 ∨ n = 50 ∨ n = 67 then 0 else n - n / 17)⟩
/-- R130, `VE_STATUS_RUNNING`: frame program running -/
def VE_STATUS_RUNNING (n : Nat) : Fld := ⟨0x200000000 + 0x10000 * n, 10, 1, 0⟩
/-- R130, `VE_STATUS_FENDED`: FEND retired in the current frame -/
def VE_STATUS_FENDED (n : Nat) : Fld := ⟨0x200000000 + 0x10000 * n, 11, 1, 0⟩
/-- R130, `VE_STATUS_LATE`: stopped at the deadline in the last evaluated frame -/
def VE_STATUS_LATE (n : Nat) : Fld := ⟨0x200000000 + 0x10000 * n, 12, 1, 0⟩
/-- R130, `VE_STATUS_FAULTED`: ended the last evaluated frame through a fault or escalation -/
def VE_STATUS_FAULTED (n : Nat) : Fld := ⟨0x200000000 + 0x10000 * n, 13, 1, 0⟩
/-- R130, `VE_FEND_CC`: cc of FEND retirement in the last evaluated frame; 0xFFFF if none; [31:16] reserved -/
def VE_FEND_CC (n : Nat) : Fld := ⟨0x200000004 + 0x10000 * n, 0, 16, 65535⟩
/-- R130, `VE_VL`: current VL -/
def VE_VL (n : Nat) : Fld := ⟨0x200000008 + 0x10000 * n, 0, 32, 0⟩
/-- R130, `VE_SAT`: saturation count of the last finished vector instruction; [31:17] reserved -/
def VE_SAT (n : Nat) : Fld := ⟨0x20000000c + 0x10000 * n, 0, 17, 0⟩
/-- R130, `VE_MASK_CE_CNT`: corrected mask and table errors -/
def VE_MASK_CE_CNT (n : Nat) : Fld := ⟨0x200000010 + 0x10000 * n, 0, 32, 0⟩
/-- R130, `VE_STATE_UE_CNT`: uncorrectable mask and table errors -/
def VE_STATE_UE_CNT (n : Nat) : Fld := ⟨0x200000014 + 0x10000 * n, 0, 32, 0⟩
/-- R130, `VE_CHK_FRAME_LO`: frame number in the last trailer this engine wrote, bits [31:0] -/
def VE_CHK_FRAME_LO (n : Nat) : Fld := ⟨0x200000018 + 0x10000 * n, 0, 32, 0⟩
/-- R130, `VE_CHK_FRAME_HI`: the same, bits [63:32] -/
def VE_CHK_FRAME_HI (n : Nat) : Fld := ⟨0x20000001c + 0x10000 * n, 0, 32, 0⟩
/-- R130, `VE_CTRL_SRESET`: 1: set the cold context within 64 cc; accepted in SPARE or RETIRED state, otherwise refused with an error response; [31:1] reserved -/
def VE_CTRL_SRESET (n : Nat) : Fld := ⟨0x200000020 + 0x10000 * n, 0, 1, 0⟩
/-- R186, `VE_OOB_CNT`: elements with a bounds miss (R170) -/
def VE_OOB_CNT (n : Nat) : Fld := ⟨0x200000030 + 0x10000 * n, 0, 32, 0⟩
/-- R186, `VE_LAST_OOB_IDX`: index value of the most recent bounds miss, as TYPE2 -/
def VE_LAST_OOB_IDX (n : Nat) : Fld := ⟨0x200000034 + 0x10000 * n, 0, 32, 0⟩
/-- R186, `VE_CSAT_CNT`: combine requests clamped at a bank (R175) -/
def VE_CSAT_CNT (n : Nat) : Fld := ⟨0x200000038 + 0x10000 * n, 0, 32, 0⟩
/-- R186, `VE_DEFER_UE_CNT`: combine, narrow-scatter and partial strided-store requests lost to uncorrectable words (R178) -/
def VE_DEFER_UE_CNT (n : Nat) : Fld := ⟨0x20000003c + 0x10000 * n, 0, 32, 0⟩
/-- R202, `VE_VFAULT_CAUSE`: 0 none, 1 encoding, 2 length, 3 descriptor, 4 capability, 5 range, 6 ARITH, 7 STORE_UE, 8 DEFER_UE, 9 STATE_UE; 10–15 unused -/
def VE_VFAULT_CAUSE (n : Nat) : Fld := ⟨0x200000040 + 0x10000 * n, 0, 4, 0⟩
/-- R202, `VE_VFAULT_INSN`: position of the faulting instruction in its accord, 0–5 -/
def VE_VFAULT_INSN (n : Nat) : Fld := ⟨0x200000040 + 0x10000 * n, 4, 3, 0⟩
/-- R202, `VE_VFAULT_OVERLAP`: the accord was overlapping (R194) -/
def VE_VFAULT_OVERLAP (n : Nat) : Fld := ⟨0x200000040 + 0x10000 * n, 7, 1, 0⟩
/-- R202, `VE_VFAULT_ATTEMPT`: attempts of the accord so far, 1–3 -/
def VE_VFAULT_ATTEMPT (n : Nat) : Fld := ⟨0x200000040 + 0x10000 * n, 8, 2, 0⟩
/-- R202, `VE_VFAULT_PENDING`: the accord is held for restart -/
def VE_VFAULT_PENDING (n : Nat) : Fld := ⟨0x200000040 + 0x10000 * n, 10, 1, 0⟩
/-- R202, `VE_VFADDR`: address of the accord's first instruction -/
def VE_VFADDR (n : Nat) : Fld := ⟨0x200000044 + 0x10000 * n, 0, 32, 0⟩
/-- R202, `VE_VFELEM`: reported element (R193); 0 for issue faults; [31:16] reserved -/
def VE_VFELEM (n : Nat) : Fld := ⟨0x200000048 + 0x10000 * n, 0, 16, 0⟩
/-- R202, `VE_VFCTL_ACTION`: action at handler return (R196) -/
def VE_VFCTL_ACTION (n : Nat) : Fld := ⟨0x20000004c + 0x10000 * n, 0, 2, 0⟩
/-- R202, `VE_FAULT_CNT`: vector faults of every cause -/
def VE_FAULT_CNT (n : Nat) : Fld := ⟨0x200000050 + 0x10000 * n, 0, 32, 0⟩
/-- R202, `VE_OVL_CNT`: overlapping accords with TRAP disabled (R195) -/
def VE_OVL_CNT (n : Nat) : Fld := ⟨0x200000054 + 0x10000 * n, 0, 32, 0⟩
/-- R202, `VE_RESTART_CNT`: restarts begun -/
def VE_RESTART_CNT (n : Nat) : Fld := ⟨0x200000058 + 0x10000 * n, 0, 32, 0⟩
/-- R222, `CT_CTRL_SWEEP_EN`: 1: the noise sweep runs -/
def CT_CTRL_SWEEP_EN : Fld := ⟨0x500092000, 0, 1, 1⟩
/-- R222, `CT_CTRL_FENCE`: 1: device table writes are fenced (R210) -/
def CT_CTRL_FENCE : Fld := ⟨0x500092000, 1, 1, 1⟩
/-- R222, `CT_CTRL_AUTO_ORPHAN`: 1: a lane retirement marks its channels (R217) -/
def CT_CTRL_AUTO_ORPHAN : Fld := ⟨0x500092000, 2, 1, 1⟩
/-- R222, `CT_CTRL_AUTO_REINSTATE`: 1: a lane's return reinstates its channels (R218) -/
def CT_CTRL_AUTO_REINSTATE : Fld := ⟨0x500092000, 3, 1, 1⟩
/-- R222, `CT_CTRL_LOADER_EN`: 1: the calibration loader runs -/
def CT_CTRL_LOADER_EN : Fld := ⟨0x500092000, 4, 1, 0⟩
/-- R222, `CT_BASE`: store byte address of record 0; bits [11:0] must be 0 -/
def CT_BASE : Fld := ⟨0x500092004, 0, 32, 0⟩
/-- R222, `CT_SIZE_COUNT_K`: COUNT / 1,024; values above 8,192 refused with an error response -/
def CT_SIZE_COUNT_K : Fld := ⟨0x500092008, 0, 14, 8192⟩
/-- R222, `CT_SWEEP_PERIOD_MS`: sweep period in ms; values below 100 refused with an error response -/
def CT_SWEEP_PERIOD_MS : Fld := ⟨0x50009200c, 0, 16, 1000⟩
/-- R222, `CT_SWEEP_STRIKE_LIMIT`: visits over limit before retirement; 0 acts as 1 -/
def CT_SWEEP_STRIKE_LIMIT : Fld := ⟨0x50009200c, 16, 4, 3⟩
/-- R222, `CT_LIMIT_MEAN_LIMIT`: NOISE_MEAN limit, Q12.4; 0 disables -/
def CT_LIMIT_MEAN_LIMIT : Fld := ⟨0x500092010, 0, 16, 0⟩
/-- R222, `CT_LIMIT_VAR_LIMIT`: NOISE_VAR limit, Q12.4; 0 disables -/
def CT_LIMIT_VAR_LIMIT : Fld := ⟨0x500092010, 16, 16, 0⟩
/-- R222, `CT_CAP_RETIRE_CAP`: noise retirements allowed per pass -/
def CT_CAP_RETIRE_CAP : Fld := ⟨0x500092014, 0, 24, 4096⟩
/-- R222, `CT_LOADER_QUEUE`: loader source queue, 2,688–8,191 -/
def CT_LOADER_QUEUE : Fld := ⟨0x500092018, 0, 13, 2688⟩
/-- R222, `CT_CMD_FIRST_FIRST`: first channel to reinstate -/
def CT_CMD_FIRST_FIRST : Fld := ⟨0x50009201c, 0, 23, 0⟩
/-- R222, `CT_CMD_LAST`: last channel to reinstate -/
def CT_CMD_LAST : Fld := ⟨0x500092020, 0, 23, 0⟩
/-- R222, `CT_CMD_GO`: 1: start the reinstatement (R219) -/
def CT_CMD_GO : Fld := ⟨0x500092020, 23, 1, 0⟩
/-- R222, `CT_STATUS_SWEEP_LATE`: a pass missed its period -/
def CT_STATUS_SWEEP_LATE : Fld := ⟨0x500092024, 0, 1, 0⟩
/-- R222, `CT_STATUS_CAPPED`: a pass reached RETIRE_CAP -/
def CT_STATUS_CAPPED : Fld := ⟨0x500092024, 1, 1, 0⟩
/-- R222, `CT_STATUS_CFG_ERR`: placement breaks R204 -/
def CT_STATUS_CFG_ERR : Fld := ⟨0x500092024, 2, 1, 0⟩
/-- R222, `CT_STATUS_RANGE_ERR`: a valid range entry has LAST less than FIRST -/
def CT_STATUS_RANGE_ERR : Fld := ⟨0x500092024, 3, 1, 0⟩
/-- R222, `CT_STATUS_CMD_BUSY`: a reinstatement command is running -/
def CT_STATUS_CMD_BUSY : Fld := ⟨0x500092024, 4, 1, 0⟩
/-- R222, `CT_STATUS_MARK_BUSY`: a lane marking or automatic reinstatement is running -/
def CT_STATUS_MARK_BUSY : Fld := ⟨0x500092024, 5, 1, 0⟩
/-- R222, `CT_NOISY_CNT`: channels retired for noise -/
def CT_NOISY_CNT : Fld := ⟨0x500092030, 0, 32, 0⟩
/-- R222, `CT_ORPHAN_CNT`: records marked ORPHAN -/
def CT_ORPHAN_CNT : Fld := ⟨0x500092034, 0, 32, 0⟩
/-- R222, `CT_REINST_CNT`: records reinstated, by command or on lane return -/
def CT_REINST_CNT : Fld := ⟨0x500092038, 0, 32, 0⟩
/-- R222, `CT_LOAD_CNT`: loader items applied -/
def CT_LOAD_CNT : Fld := ⟨0x50009203c, 0, 32, 0⟩
/-- R222, `CT_LOAD_REJ_CNT`: loader items rejected -/
def CT_LOAD_REJ_CNT : Fld := ⟨0x500092040, 0, 32, 0⟩
/-- R222, `CT_UE_SKIP_CNT`: device writes skipped for uncorrectable words -/
def CT_UE_SKIP_CNT : Fld := ⟨0x500092044, 0, 32, 0⟩
/-- R222, `CT_SWEEP_CNT`: completed sweep passes since reset -/
def CT_SWEEP_CNT : Fld := ⟨0x500092048, 0, 32, 0⟩
/-- R222, `CT_LAST_RETIRED_CHANNEL`: last channel retired for noise -/
def CT_LAST_RETIRED_CHANNEL : Fld := ⟨0x50009204c, 0, 23, 0⟩
/-- R222, `CT_LAST_RETIRED_VALID`: 1: CHANNEL is valid -/
def CT_LAST_RETIRED_VALID : Fld := ⟨0x50009204c, 23, 1, 0⟩
/-- R222, `CT_LAST_REJ`: channel of the last rejected item; [31:23] reserved -/
def CT_LAST_REJ : Fld := ⟨0x500092050, 0, 23, 0⟩
/-- R222, `CT_INT_STATUS_NOISY`: a channel was retired for noise -/
def CT_INT_STATUS_NOISY : Fld := ⟨0x500092060, 0, 1, 0⟩
/-- R222, `CT_INT_STATUS_ORPHAN`: a lane marking completed -/
def CT_INT_STATUS_ORPHAN : Fld := ⟨0x500092060, 1, 1, 0⟩
/-- R222, `CT_INT_STATUS_CAPPED`: a pass reached RETIRE_CAP -/
def CT_INT_STATUS_CAPPED : Fld := ⟨0x500092060, 2, 1, 0⟩
/-- R222, `CT_INT_STATUS_SWEEP_LATE`: a pass missed its period -/
def CT_INT_STATUS_SWEEP_LATE : Fld := ⟨0x500092060, 3, 1, 0⟩
/-- R222, `CT_INT_STATUS_LOAD_REJ`: a loader item was rejected -/
def CT_INT_STATUS_LOAD_REJ : Fld := ⟨0x500092060, 4, 1, 0⟩
/-- R222, `CT_INT_STATUS_CMD_DONE`: a reinstatement command completed -/
def CT_INT_STATUS_CMD_DONE : Fld := ⟨0x500092060, 5, 1, 0⟩
/-- R222, `CT_INT_STATUS_REINSTATED`: an automatic reinstatement completed -/
def CT_INT_STATUS_REINSTATED : Fld := ⟨0x500092060, 6, 1, 0⟩
/-- R222, `CT_INT_EN_NOISY`: a channel was retired for noise -/
def CT_INT_EN_NOISY : Fld := ⟨0x500092064, 0, 1, 1⟩
/-- R222, `CT_INT_EN_ORPHAN`: a lane marking completed -/
def CT_INT_EN_ORPHAN : Fld := ⟨0x500092064, 1, 1, 1⟩
/-- R222, `CT_INT_EN_CAPPED`: a pass reached RETIRE_CAP -/
def CT_INT_EN_CAPPED : Fld := ⟨0x500092064, 2, 1, 1⟩
/-- R222, `CT_INT_EN_SWEEP_LATE`: a pass missed its period -/
def CT_INT_EN_SWEEP_LATE : Fld := ⟨0x500092064, 3, 1, 1⟩
/-- R222, `CT_INT_EN_LOAD_REJ`: a loader item was rejected -/
def CT_INT_EN_LOAD_REJ : Fld := ⟨0x500092064, 4, 1, 1⟩
/-- R222, `CT_INT_EN_CMD_DONE`: a reinstatement command completed -/
def CT_INT_EN_CMD_DONE : Fld := ⟨0x500092064, 5, 1, 0⟩
/-- R222, `CT_INT_EN_REINSTATED`: an automatic reinstatement completed -/
def CT_INT_EN_REINSTATED : Fld := ⟨0x500092064, 6, 1, 0⟩
/-- R222, `CT_RANGE_FIRST`: first channel fed -/
def CT_RANGE_FIRST (n : Nat) : Fld := ⟨0x500093000 + 0x8 * n, 0, 23, 0⟩
/-- R222, `CT_RANGE_LANE`: lane, 0–127 -/
def CT_RANGE_LANE (n : Nat) : Fld := ⟨0x500093000 + 0x8 * n, 23, 7, 0⟩
/-- R222, `CT_RANGE_VALID`: 1: entry in use -/
def CT_RANGE_VALID (n : Nat) : Fld := ⟨0x500093000 + 0x8 * n, 31, 1, 0⟩
/-- R222, `CT_RANGE_LAST`: last channel fed -/
def CT_RANGE_LAST (n : Nat) : Fld := ⟨0x500093004 + 0x8 * n, 0, 23, 0⟩
/-- R232, `VE_QCOUNT_L0`: k of the queue load on L0 (R229) -/
def VE_QCOUNT_L0 (n : Nat) : Fld := ⟨0x200000060 + 0x10000 * n, 0, 17, 0⟩
/-- R232, `VE_QCOUNT_L1`: k of the queue load on L1 -/
def VE_QCOUNT_L1 (n : Nat) : Fld := ⟨0x200000064 + 0x10000 * n, 0, 17, 0⟩
/-- R232, `VE_QCOUNT_S`: elements written by the queue store, not discarded (R230) -/
def VE_QCOUNT_S (n : Nat) : Fld := ⟨0x200000068 + 0x10000 * n, 0, 17, 0⟩
/-- R242, `Q_BASE`: ring base, store byte address; bits [7:0] must be 0 (R223) -/
def Q_BASE (n : Nat) : Fld := ⟨0x300000000 + 0x40 * n, 0, 32, 0⟩
/-- R242, `Q_CFG_ENABLE`: 1: queue enabled (R237) -/
def Q_CFG_ENABLE (n : Nat) : Fld := ⟨0x300000004 + 0x40 * n, 0, 1, 0⟩
/-- R242, `Q_CFG_SIZE_LOG2`: log2 of ring bytes; values outside 8–24 refused with an error response -/
def Q_CFG_SIZE_LOG2 (n : Nat) : Fld := ⟨0x300000004 + 0x40 * n, 1, 5, 8⟩
/-- R242, `Q_CFG_ITEM_WORDS`: payload words per item of an engine store stream; 0 means 16 -/
def Q_CFG_ITEM_WORDS (n : Nat) : Fld := ⟨0x300000004 + 0x40 * n, 6, 4, 0⟩
/-- R242, `Q_CFG_INT_EN`: 1: events set QF_PEND (R240) -/
def Q_CFG_INT_EN (n : Nat) : Fld := ⟨0x300000004 + 0x40 * n, 10, 1, 0⟩
/-- R242, `Q_HEAD`: HEAD (R226); [31:22] reserved -/
def Q_HEAD (n : Nat) : Fld := ⟨0x300000008 + 0x40 * n, 0, 22, 0⟩
/-- R242, `Q_TAIL`: TAIL; [31:22] reserved -/
def Q_TAIL (n : Nat) : Fld := ⟨0x30000000c + 0x40 * n, 0, 22, 0⟩
/-- R242, `Q_STATUS_EMPTY`: no deliverable item -/
def Q_STATUS_EMPTY (n : Nat) : Fld := ⟨0x300000010 + 0x40 * n, 0, 1, 1⟩
/-- R242, `Q_STATUS_FULL`: free words < 2: no item fits -/
def Q_STATUS_FULL (n : Nat) : Fld := ⟨0x300000010 + 0x40 * n, 1, 1, 0⟩
/-- R242, `Q_STATUS_TORN`: an item was torn (R235, R236) -/
def Q_STATUS_TORN (n : Nat) : Fld := ⟨0x300000010 + 0x40 * n, 2, 1, 0⟩
/-- R242, `Q_STATUS_DROP`: an item was discarded for lack of room -/
def Q_STATUS_DROP (n : Nat) : Fld := ⟨0x300000010 + 0x40 * n, 3, 1, 0⟩
/-- R242, `Q_STATUS_SHORT`: a load stream came up short (R229) -/
def Q_STATUS_SHORT (n : Nat) : Fld := ⟨0x300000010 + 0x40 * n, 4, 1, 0⟩
/-- R242, `Q_STATUS_WM`: the watermark was reached -/
def Q_STATUS_WM (n : Nat) : Fld := ⟨0x300000010 + 0x40 * n, 5, 1, 0⟩
/-- R242, `Q_STATUS_OPEN`: a management item is open -/
def Q_STATUS_OPEN (n : Nat) : Fld := ⟨0x300000010 + 0x40 * n, 6, 1, 0⟩
/-- R242, `Q_STATUS_CFG_ERR`: an enable was refused (R223) -/
def Q_STATUS_CFG_ERR (n : Nat) : Fld := ⟨0x300000010 + 0x40 * n, 7, 1, 0⟩
/-- R242, `Q_ITEMS`: deliverable items, not torn; [31:21] reserved -/
def Q_ITEMS (n : Nat) : Fld := ⟨0x300000014 + 0x40 * n, 0, 21, 0⟩
/-- R242, `Q_DROP_CNT`: items discarded for lack of room -/
def Q_DROP_CNT (n : Nat) : Fld := ⟨0x300000018 + 0x40 * n, 0, 32, 0⟩
/-- R242, `Q_SHORT_CNT`: short load streams -/
def Q_SHORT_CNT (n : Nat) : Fld := ⟨0x30000001c + 0x40 * n, 0, 32, 0⟩
/-- R242, `Q_PUSH_LEN`: LEN of an item to open; values outside 1–16 refused with an error response; [31:5] reserved -/
def Q_PUSH_LEN (n : Nat) : Fld := ⟨0x300000020 + 0x40 * n, 0, 5, 0⟩
/-- R242, `Q_CMD_FLUSH`: 1: flush (R236) -/
def Q_CMD_FLUSH (n : Nat) : Fld := ⟨0x300000024 + 0x40 * n, 0, 1, 0⟩
/-- R242, `Q_CMD_POP`: 1: release the head item (R234) -/
def Q_CMD_POP (n : Nat) : Fld := ⟨0x300000024 + 0x40 * n, 1, 1, 0⟩
/-- R242, `Q_PUSH_DATA`: next payload word of the open item; 64-bit access only -/
def Q_PUSH_DATA (n : Nat) : Fld := ⟨0x300000028 + 0x40 * n, 0, 64, 0⟩
/-- R242, `Q_POP_HDR`: header of the first deliverable item that is not torn; 0 if none; 64-bit access only -/
def Q_POP_HDR (n : Nat) : Fld := ⟨0x300000030 + 0x40 * n, 0, 64, 0⟩
/-- R242, `Q_WATERMARK`: item level for WM; 0 disables; [31:21] reserved -/
def Q_WATERMARK (n : Nat) : Fld := ⟨0x300000038 + 0x40 * n, 0, 21, 1⟩
/-- R242, `Q_TORN_CNT`: torn items -/
def Q_TORN_CNT (n : Nat) : Fld := ⟨0x30000003c + 0x40 * n, 0, 32, 0⟩
/-- R243, `QF_SUM`: bit i set: QF_PEND(32j + i) is not 0 -/
def QF_SUM (n : Nat) : Fld := ⟨0x500094000 + 0x4 * n, 0, 32, 0⟩
/-- R243, `QF_PEND`: bit i set: queue 32j + i raised an event with INT_EN = 1 -/
def QF_PEND (n : Nat) : Fld := ⟨0x500094400 + 0x4 * n, 0, 32, 0⟩
/-- R260, `VU_CTRL_PIN_EN`: 1: pins carry words (R248) -/
def VU_CTRL_PIN_EN : Fld := ⟨0x5000c0000, 0, 1, 1⟩
/-- R260, `VU_CTRL_SIL_EN`: 1: sillage written -/
def VU_CTRL_SIL_EN : Fld := ⟨0x5000c0000, 1, 1, 1⟩
/-- R260, `VU_DEFAULT`: default per trigger bit: 1 accept, 0 reject; [31:16] reserved -/
def VU_DEFAULT : Fld := ⟨0x5000c0004, 0, 16, 0⟩
/-- R260, `VU_COMBINE`: bit b: 0 OR, 1 AND (R246); [31:16] reserved -/
def VU_COMBINE : Fld := ⟨0x5000c0008, 0, 16, 0⟩
/-- R260, `VU_PV_BASE`: partial area; bits [11:0] must be 0 -/
def VU_PV_BASE : Fld := ⟨0x5000c0010, 0, 32, 318767104⟩
/-- R260, `VU_SIL_BASE`: sillage; bits [11:0] must be 0 -/
def VU_SIL_BASE : Fld := ⟨0x5000c0014, 0, 32, 318832640⟩
/-- R260, `VU_LANE_CFG_SOURCE`: SOURCE of frames sent -/
def VU_LANE_CFG_SOURCE : Fld := ⟨0x5000c0018, 0, 16, 0⟩
/-- R260, `VU_LANE_CFG_VC`: virtual channel of verdict frames -/
def VU_LANE_CFG_VC : Fld := ⟨0x5000c0018, 16, 3, 1⟩
/-- R260, `VU_VQ_EN_LO`: bit i: write items to Q(2560 + i), with i in 0–31 and 32–63 -/
def VU_VQ_EN_LO : Fld := ⟨0x5000c0020, 0, 32, 0⟩
/-- R260, `VU_VQ_EN_HI`: bit i: write items to Q(2560 + i), with i in 0–31 and 32–63 -/
def VU_VQ_EN_HI : Fld := ⟨0x5000c0024, 0, 32, 0⟩
/-- R260, `VU_LANE_EN`: bit i: send verdict frames on lane 32j + i -/
def VU_LANE_EN (n : Nat) : Fld := ⟨0x5000c0030 + 0x4 * n, 0, 32, 0⟩
/-- R260, `VU_SIL_CFG_FREEZE_ON`: bit 0 last resort, bit 1 base note, bit 2 REF_LOSS -/
def VU_SIL_CFG_FREEZE_ON : Fld := ⟨0x5000c0040, 0, 3, 1⟩
/-- R260, `VU_SIL_CFG_FREEZE`: 1: freeze now -/
def VU_SIL_CFG_FREEZE : Fld := ⟨0x5000c0040, 3, 1, 0⟩
/-- R260, `VU_STATUS_FROZEN`: sillage frozen (R254) -/
def VU_STATUS_FROZEN : Fld := ⟨0x5000c0044, 0, 1, 0⟩
/-- R260, `VU_STATUS_CFG_ERR`: placement invalid (R255) -/
def VU_STATUS_CFG_ERR : Fld := ⟨0x5000c0044, 1, 1, 0⟩
/-- R260, `VU_LANE_DROP_CNT`: verdict frames not sent -/
def VU_LANE_DROP_CNT : Fld := ⟨0x5000c0048, 0, 32, 0⟩
/-- R260, `VU_SLOTS`: slots contributing to bit b; read as two 32-bit halves -/
def VU_SLOTS (n : Nat) : Fld := ⟨0x5000c0100 + 0x8 * n, 0, 64, 18446744073709551615⟩
/-- R260, `VU_INT_STATUS_FROZEN`: the sillage froze -/
def VU_INT_STATUS_FROZEN : Fld := ⟨0x5000c0060, 0, 1, 0⟩
/-- R260, `VU_INT_STATUS_CFG_ERR`: a placement check failed -/
def VU_INT_STATUS_CFG_ERR : Fld := ⟨0x5000c0060, 1, 1, 0⟩
/-- R260, `VU_INT_STATUS_RD_HALT`: a readout channel halted -/
def VU_INT_STATUS_RD_HALT : Fld := ⟨0x5000c0060, 2, 1, 0⟩
/-- R260, `VU_INT_EN_FROZEN`: the sillage froze -/
def VU_INT_EN_FROZEN : Fld := ⟨0x5000c0064, 0, 1, 1⟩
/-- R260, `VU_INT_EN_CFG_ERR`: a placement check failed -/
def VU_INT_EN_CFG_ERR : Fld := ⟨0x5000c0064, 1, 1, 1⟩
/-- R260, `VU_INT_EN_RD_HALT`: a readout channel halted -/
def VU_INT_EN_RD_HALT : Fld := ⟨0x5000c0064, 2, 1, 1⟩
/-- R260, `RD_CFG_ENABLE`: 1: channel runs (R256) -/
def RD_CFG_ENABLE (n : Nat) : Fld := ⟨0x5000c1000 + 0x40 * n, 0, 1, 0⟩
/-- R260, `RD_CFG_DEST`: 0 lane, 1 host -/
def RD_CFG_DEST (n : Nat) : Fld := ⟨0x5000c1000 + 0x40 * n, 1, 1, 0⟩
/-- R260, `RD_CFG_QUEUE`: source queue -/
def RD_CFG_QUEUE (n : Nat) : Fld := ⟨0x5000c1000 + 0x40 * n, 2, 13, (2048 + n)⟩
/-- R260, `RD_CFG_LANE`: lane for DEST 0 -/
def RD_CFG_LANE (n : Nat) : Fld := ⟨0x5000c1000 + 0x40 * n, 15, 7, 0⟩
/-- R260, `RD_CFG_VC`: virtual channel -/
def RD_CFG_VC (n : Nat) : Fld := ⟨0x5000c1000 + 0x40 * n, 22, 3, 0⟩
/-- R260, `RD_TYPE_TYPE`: Saonjo TYPE sent -/
def RD_TYPE_TYPE (n : Nat) : Fld := ⟨0x5000c1004 + 0x40 * n, 0, 8, 16⟩
/-- R260, `RD_TYPE_VECTOR`: MSI-X vector for DEST 1 -/
def RD_TYPE_VECTOR (n : Nat) : Fld := ⟨0x5000c1004 + 0x40 * n, 8, 6, 0⟩
/-- R260, `RD_STATUS_HALTED`: halted (R257) -/
def RD_STATUS_HALTED (n : Nat) : Fld := ⟨0x5000c1008 + 0x40 * n, 0, 1, 0⟩
/-- R260, `RD_STATUS_PAUSED`: paused by drydown -/
def RD_STATUS_PAUSED (n : Nat) : Fld := ⟨0x5000c1008 + 0x40 * n, 1, 1, 0⟩
/-- R260, `RD_STATUS_WAITING`: host ring full or lane not ready -/
def RD_STATUS_WAITING (n : Nat) : Fld := ⟨0x5000c1008 + 0x40 * n, 2, 1, 0⟩
/-- R260, `RD_CMD_RESUME`: 1: retry the head item; [31:1] reserved -/
def RD_CMD_RESUME (n : Nat) : Fld := ⟨0x5000c100c + 0x40 * n, 0, 1, 0⟩
/-- R260, `RD_HOST_BASE_LO`: host ring address; bits [11:0] must be 0 -/
def RD_HOST_BASE_LO (n : Nat) : Fld := ⟨0x5000c1010 + 0x40 * n, 0, 32, 0⟩
/-- R260, `RD_HOST_BASE_HI`: host ring address; bits [11:0] must be 0 -/
def RD_HOST_BASE_HI (n : Nat) : Fld := ⟨0x5000c1014 + 0x40 * n, 0, 32, 0⟩
/-- R260, `RD_HOST_SIZE_LOG2`: values outside 12–30 refused with an error response; [31:5] reserved -/
def RD_HOST_SIZE_LOG2 (n : Nat) : Fld := ⟨0x5000c1018 + 0x40 * n, 0, 5, 20⟩
/-- R260, `RD_HWPTR`: producer offset -/
def RD_HWPTR (n : Nat) : Fld := ⟨0x5000c101c + 0x40 * n, 0, 32, 0⟩
/-- R260, `RD_HRPTR`: consumer offset, written by the host -/
def RD_HRPTR (n : Nat) : Fld := ⟨0x5000c1020 + 0x40 * n, 0, 32, 0⟩
/-- R260, `RD_ITEM_CNT`: items sent -/
def RD_ITEM_CNT (n : Nat) : Fld := ⟨0x5000c1024 + 0x40 * n, 0, 32, 0⟩
/-- R260, `RD_UE_ADDR`: store address of the last uncorrectable word -/
def RD_UE_ADDR (n : Nat) : Fld := ⟨0x5000c1028 + 0x40 * n, 0, 32, 0⟩
/-- R260, `RD_OVERSIZE_CNT`: items released unsent (R256) -/
def RD_OVERSIZE_CNT (n : Nat) : Fld := ⟨0x5000c102c + 0x40 * n, 0, 32, 0⟩
/-- R290, `SEQ_STATUS`: SST -/
def SEQ_STATUS (n : Nat) : Fld := ⟨0x200000080 + 0x10000 * n, 0, 32, 64⟩
/-- R290, `SEQ_PC`: PC of the last instruction retired -/
def SEQ_PC (n : Nat) : Fld := ⟨0x200000084 + 0x10000 * n, 0, 32, 0⟩
/-- R290, `SEQ_RSDEPTH`: return-stack depth, spilled entries included; [31:16] reserved -/
def SEQ_RSDEPTH (n : Nat) : Fld := ⟨0x200000088 + 0x10000 * n, 0, 16, 0⟩
/-- R290, `SEQ_IC_PAR_CNT`: instruction cache and line buffer parity refetches -/
def SEQ_IC_PAR_CNT (n : Nat) : Fld := ⟨0x20000008c + 0x10000 * n, 0, 32, 0⟩
/-- R290, `SEQ_SB_UE_ADDR`: address of the last store-buffer entry lost to an uncorrectable word -/
def SEQ_SB_UE_ADDR (n : Nat) : Fld := ⟨0x200000090 + 0x10000 * n, 0, 32, 0⟩
/-- R290, `SEQ_CTRL_IC_EN`: 0: every fetch fills, as if no line were present -/
def SEQ_CTRL_IC_EN (n : Nat) : Fld := ⟨0x200000094 + 0x10000 * n, 0, 1, 1⟩
/-- R290, `SEQ_CTRL_BTC_EN`: 0: the target cache is neither read nor filled -/
def SEQ_CTRL_BTC_EN (n : Nat) : Fld := ⟨0x200000094 + 0x10000 * n, 1, 1, 1⟩
/-- R321, `IC_CTRL_ENABLE`: 1: interrupts can be accepted -/
def IC_CTRL_ENABLE : Fld := ⟨0x500040000, 0, 1, 1⟩
/-- R321, `IC_THRESH`: accept PRIO above this; [31:4] reserved -/
def IC_THRESH : Fld := ⟨0x500040004, 0, 4, 0⟩
/-- R321, `IC_DTOFF`: local-memory offset of the Triad table; bits [11:0] must be 0; [31:21] reserved -/
def IC_DTOFF : Fld := ⟨0x500040008, 0, 21, 507904⟩
/-- R321, `IC_ACTIVE_SOURCE`: source of the last entry -/
def IC_ACTIVE_SOURCE : Fld := ⟨0x50004000c, 0, 8, 0⟩
/-- R321, `IC_ACTIVE_VECTOR`: its vector -/
def IC_ACTIVE_VECTOR : Fld := ⟨0x50004000c, 8, 6, 0⟩
/-- R321, `IC_ACTIVE_PRIO`: its PRIO -/
def IC_ACTIVE_PRIO : Fld := ⟨0x50004000c, 14, 4, 0⟩
/-- R321, `IC_ACTIVE_VALID`: 1 while at level 1 -/
def IC_ACTIVE_VALID : Fld := ⟨0x50004000c, 31, 1, 0⟩
/-- R321, `IC_NMI_CAUSE_PIN`: NMI_N asserted -/
def IC_NMI_CAUSE_PIN : Fld := ⟨0x500040010, 0, 1, 0⟩
/-- R321, `IC_NMI_CAUSE_VOTER`: voter event -/
def IC_NMI_CAUSE_VOTER : Fld := ⟨0x500040010, 1, 1, 0⟩
/-- R321, `IC_NMI_CAUSE_DOUBLE`: exception at level 2 (R317) -/
def IC_NMI_CAUSE_DOUBLE : Fld := ⟨0x500040010, 2, 1, 0⟩
/-- R321, `IC_NMI_CAUSE_PENDING`: an NMI waits -/
def IC_NMI_CAUSE_PENDING : Fld := ⟨0x500040010, 3, 1, 0⟩
/-- R321, `IC_LATE_CNT`: takeovers (R315) -/
def IC_LATE_CNT : Fld := ⟨0x500040014, 0, 32, 0⟩
/-- R321, `IC_PUSHF_CNT`: push faults (R316) -/
def IC_PUSHF_CNT : Fld := ⟨0x500040018, 0, 32, 0⟩
/-- R321, `IC_PEND`: bit i: source 32j + i pending -/
def IC_PEND (n : Nat) : Fld := ⟨0x500040080 + 0x4 * n, 0, 32, 0⟩
/-- R321, `IC_SRC_PRIO`: 0 disabled; 1–15, 15 highest -/
def IC_SRC_PRIO (n : Nat) : Fld := ⟨0x500041000 + 0x4 * n, 0, 4, 0⟩
/-- R321, `IC_SRC_VECTOR`: 17–63; any other value disables the source -/
def IC_SRC_VECTOR (n : Nat) : Fld := ⟨0x500041000 + 0x4 * n, 4, 6, 17⟩
/-- R321, `IC_SRC_PEND`: source pending -/
def IC_SRC_PEND (n : Nat) : Fld := ⟨0x500041000 + 0x4 * n, 16, 1, 0⟩
/-- R321, `IC_SRC_SW`: 1 makes a software source pending; ignored for n < 192 -/
def IC_SRC_SW (n : Nat) : Fld := ⟨0x500041000 + 0x4 * n, 17, 1, 0⟩
/-- R322, `VE_ERA`: ERA -/
def VE_ERA (n : Nat) : Fld := ⟨0x2000000a0 + 0x10000 * n, 0, 32, 0⟩
/-- R322, `VE_EST`: EST -/
def VE_EST (n : Nat) : Fld := ⟨0x2000000a4 + 0x10000 * n, 0, 32, 0⟩
/-- R322, `VE_ECTX`: ECTX (R307) -/
def VE_ECTX (n : Nat) : Fld := ⟨0x2000000a8 + 0x10000 * n, 0, 32, 0⟩
/-- R322, `VE_EADDR`: EADDR -/
def VE_EADDR (n : Nat) : Fld := ⟨0x2000000ac + 0x10000 * n, 0, 32, 0⟩
/-- R322, `VE_IRQ_PEND`: bit i: interrupt to vector 32 + i; cleared by entry -/
def VE_IRQ_PEND (n : Nat) : Fld := ⟨0x2000000b0 + 0x10000 * n, 0, 32, 0⟩
/-- R322, `VE_IRQ_EN`: bit i enables bit i of VE_IRQ_PEND -/
def VE_IRQ_EN (n : Nat) : Fld := ⟨0x2000000b4 + 0x10000 * n, 0, 32, 0⟩
/-- R322, `VE_ESC_VEC`: vector of the escalating event -/
def VE_ESC_VEC (n : Nat) : Fld := ⟨0x2000000b8 + 0x10000 * n, 0, 6, 0⟩
/-- R322, `VE_ESC_REASON`: 0 exception while held; 1 invalid descriptor or reload -/
def VE_ESC_REASON (n : Nat) : Fld := ⟨0x2000000b8 + 0x10000 * n, 6, 1, 0⟩
/-- R322, `VE_ESC_VALID`: an escalation is recorded -/
def VE_ESC_VALID (n : Nat) : Fld := ⟨0x2000000b8 + 0x10000 * n, 7, 1, 0⟩
/-- R322, `VE_EXC_CNT`: exception entries -/
def VE_EXC_CNT (n : Nat) : Fld := ⟨0x2000000bc + 0x10000 * n, 0, 32, 0⟩
/-- R322, `EM_DTOFF`: local-memory offset of slot s's table; bits [11:0] must be 0; [31:21] reserved -/
def EM_DTOFF (n : Nat) : Fld := ⟨0x500001600 + 0x4 * n, 0, 21, 512000⟩
/-- R343, `VT_STATUS_STATE`: 0 TRIPLE, 1 FENCED, 2 RESYNC, 3 DUAL, 4 LAST_RESORT; 5–7 unused -/
def VT_STATUS_STATE : Fld := ⟨0x500064000, 0, 3, 0⟩
/-- R343, `VT_STATUS_IN`: bit n: Tn in service -/
def VT_STATUS_IN : Fld := ⟨0x500064000, 3, 3, 7⟩
/-- R343, `VT_STATUS_FENCED_CORE`: fenced core, valid in FENCED and RESYNC -/
def VT_STATUS_FENCED_CORE : Fld := ⟨0x500064000, 6, 2, 0⟩
/-- R343, `VT_STATUS_OUT_CORE`: core out until reset (R331) -/
def VT_STATUS_OUT_CORE : Fld := ⟨0x500064000, 8, 2, 0⟩
/-- R343, `VT_STATUS_OUT_VALID`: 1: OUT_CORE is valid -/
def VT_STATUS_OUT_VALID : Fld := ⟨0x500064000, 10, 1, 0⟩
/-- R343, `VT_STATUS_FAILS0`: failed resyncs of T0 -/
def VT_STATUS_FAILS0 : Fld := ⟨0x500064000, 12, 2, 0⟩
/-- R343, `VT_STATUS_FAILS1`: failed resyncs of T1 -/
def VT_STATUS_FAILS1 : Fld := ⟨0x500064000, 14, 2, 0⟩
/-- R343, `VT_STATUS_FAILS2`: failed resyncs of T2 -/
def VT_STATUS_FAILS2 : Fld := ⟨0x500064000, 16, 2, 0⟩
/-- R343, `VT_CFG_PROBATION`: probation windows; 0 acts as 1 -/
def VT_CFG_PROBATION : Fld := ⟨0x500064004, 0, 8, 16⟩
/-- R343, `VT_CFG_RESYNC_EN`: 1: fenced cores are resynchronised (R329) -/
def VT_CFG_RESYNC_EN : Fld := ⟨0x500064004, 8, 1, 1⟩
/-- R343, `VT_CFG_NMI_ON`: NMI on bit 0 FENCE, 1 RESYNC_DONE, 2 RESYNC_FAIL, 3 DUAL -/
def VT_CFG_NMI_ON : Fld := ⟨0x500064004, 9, 4, 13⟩
/-- R343, `VT_CMD_CORE`: core for INJECT; 3 refused with an error response -/
def VT_CMD_CORE : Fld := ⟨0x500064008, 0, 2, 0⟩
/-- R343, `VT_CMD_INJECT`: 1: invert bit 0 of the core's next voted write -/
def VT_CMD_INJECT : Fld := ⟨0x500064008, 2, 1, 0⟩
/-- R343, `VT_EVENT`: bit 0 FENCE, 1 RESYNC_DONE, 2 RESYNC_FAIL, 3 DUAL; [31:4] reserved -/
def VT_EVENT : Fld := ⟨0x50006400c, 0, 4, 0⟩
/-- R343, `VT_REG_DIS_CNT`: register-write dissents -/
def VT_REG_DIS_CNT : Fld := ⟨0x500064010, 0, 32, 0⟩
/-- R343, `VT_SIG_DIS_CNT`: signature dissents -/
def VT_SIG_DIS_CNT : Fld := ⟨0x500064014, 0, 32, 0⟩
/-- R343, `VT_RESYNC_CNT`: completed resyncs -/
def VT_RESYNC_CNT : Fld := ⟨0x500064018, 0, 32, 0⟩
/-- R343, `VT_RESYNC_FAIL_CNT`: failed resyncs -/
def VT_RESYNC_FAIL_CNT : Fld := ⟨0x50006401c, 0, 32, 0⟩
/-- R343, `VT_LAST_CORE`: core of the last dissent -/
def VT_LAST_CORE : Fld := ⟨0x500064020, 0, 2, 0⟩
/-- R343, `VT_LAST_KIND`: 0 register write, 1 signature -/
def VT_LAST_KIND : Fld := ⟨0x500064020, 2, 1, 0⟩
/-- R343, `VT_LAST_REG`: 0–31 s, 32–39 c, 40 SST, 41 PC, 42–59 save-set fields; 0 for signatures -/
def VT_LAST_REG : Fld := ⟨0x500064020, 3, 7, 0⟩
/-- R343, `VT_LAST_MC_LO`: mc count at the last dissent, bits [31:0] -/
def VT_LAST_MC_LO : Fld := ⟨0x500064024, 0, 32, 0⟩
/-- R343, `VT_LAST_MC_HI`: the same, bits [63:32] -/
def VT_LAST_MC_HI : Fld := ⟨0x500064028, 0, 32, 0⟩
/-- R343, `VT_LR_CAUSE`: 0 none, 1 pair register disagreement, 2 pair request or signature disagreement, 3 three-way disagreement, 4 exception at level 3, 5 invalid entry 16, 6 pair disagreement at check or probation; [31:4] reserved -/
def VT_LR_CAUSE : Fld := ⟨0x500064030, 0, 4, 0⟩
/-- R344, `OWN_DENY_CNT`: writes refused for ownership (R341) -/
def OWN_DENY_CNT : Fld := ⟨0x500065010, 0, 32, 0⟩
/-- R344, `OWN_LAST_DENY_LO`: address of the last refused write, bits [31:0] -/
def OWN_LAST_DENY_LO : Fld := ⟨0x500065014, 0, 32, 0⟩
/-- R344, `OWN_LAST_DENY_HI_ADDR`: the same, bits [47:32] -/
def OWN_LAST_DENY_HI_ADDR : Fld := ⟨0x500065018, 0, 16, 0⟩
/-- R344, `OWN_LAST_DENY_HI_MASTER`: master number, 0–11 -/
def OWN_LAST_DENY_HI_MASTER : Fld := ⟨0x500065018, 16, 4, 0⟩
/-- R344, `OWN_CLASS_OWNER`: owner of class u (R340) -/
def OWN_CLASS_OWNER (n : Nat) : Fld := ⟨0x500065100 + 0x4 * n, 0, 2, (if n = 7 ∨ n = 11 ∨ n = 16 then 2 else 0)⟩
/-- R344, `OWN_OVR_BASE_LO`: first address covered, bits [31:0]; bits [5:0] must be 0 -/
def OWN_OVR_BASE_LO (n : Nat) : Fld := ⟨0x500065200 + 0x10 * n, 0, 32, 0⟩
/-- R344, `OWN_OVR_BASE_HI`: bits [47:32]; [31:16] reserved -/
def OWN_OVR_BASE_HI (n : Nat) : Fld := ⟨0x500065204 + 0x10 * n, 0, 16, 0⟩
/-- R344, `OWN_OVR_BLOCKS`: length in 64-byte blocks -/
def OWN_OVR_BLOCKS (n : Nat) : Fld := ⟨0x500065208 + 0x10 * n, 0, 20, 0⟩
/-- R344, `OWN_OVR_OWNER`: owner code -/
def OWN_OVR_OWNER (n : Nat) : Fld := ⟨0x500065208 + 0x10 * n, 20, 2, 0⟩
/-- R344, `OWN_OVR_VALID`: 1: override in use -/
def OWN_OVR_VALID (n : Nat) : Fld := ⟨0x500065208 + 0x10 * n, 31, 1, 0⟩
/-- R362, `MX_ERR_CNT`: unmapped requests -/
def MX_ERR_CNT : Fld := ⟨0x500066000, 0, 32, 0⟩
/-- R362, `MX_WIN_DENY_CNT`: requests refused by windows -/
def MX_WIN_DENY_CNT : Fld := ⟨0x500066004, 0, 32, 0⟩
/-- R362, `MX_LAST_ERR_LO`: address of the last code 1 or 2, bits [31:0] -/
def MX_LAST_ERR_LO : Fld := ⟨0x500066008, 0, 32, 0⟩
/-- R362, `MX_LAST_ERR_HI_ADDR`: bits [47:32] -/
def MX_LAST_ERR_HI_ADDR : Fld := ⟨0x50006600c, 0, 16, 0⟩
/-- R362, `MX_LAST_ERR_HI_MASTER`: master -/
def MX_LAST_ERR_HI_MASTER : Fld := ⟨0x50006600c, 16, 4, 0⟩
/-- R362, `MX_LAST_ERR_HI_CODE`: code (R352) -/
def MX_LAST_ERR_HI_CODE : Fld := ⟨0x50006600c, 20, 3, 0⟩
/-- R362, `MX_INT_STATUS_UNMAPPED`: code 1 seen; drives source 38 -/
def MX_INT_STATUS_UNMAPPED : Fld := ⟨0x500066010, 0, 1, 0⟩
/-- R362, `MX_INT_STATUS_WIN_DENY`: code 2 seen; drives source 38 -/
def MX_INT_STATUS_WIN_DENY : Fld := ⟨0x500066010, 1, 1, 0⟩
/-- R362, `MX_INT_EN_UNMAPPED`: code 1 seen; drives source 38 -/
def MX_INT_EN_UNMAPPED : Fld := ⟨0x500066014, 0, 1, 1⟩
/-- R362, `MX_INT_EN_WIN_DENY`: code 2 seen; drives source 38 -/
def MX_INT_EN_WIN_DENY : Fld := ⟨0x500066014, 1, 1, 1⟩
/-- R362, `VAULT_STATUS_WIPING`: wipe in progress -/
def VAULT_STATUS_WIPING : Fld := ⟨0x500066020, 0, 1, 0⟩
/-- R362, `VAULT_STATUS_TAMPER_V`: voltage glitch -/
def VAULT_STATUS_TAMPER_V : Fld := ⟨0x500066020, 1, 1, 0⟩
/-- R362, `VAULT_STATUS_TAMPER_C`: clock glitch -/
def VAULT_STATUS_TAMPER_C : Fld := ⟨0x500066020, 2, 1, 0⟩
/-- R362, `VAULT_STATUS_TAMPER_T`: temperature glitch -/
def VAULT_STATUS_TAMPER_T : Fld := ⟨0x500066020, 3, 1, 0⟩
/-- R362, `VAULT_STATUS_LIFE`: wipe by life-cycle change -/
def VAULT_STATUS_LIFE : Fld := ⟨0x500066020, 4, 1, 0⟩
/-- R362, `VAULT_WIPE_CNT`: wipes since reset, reset wipe excluded -/
def VAULT_WIPE_CNT : Fld := ⟨0x500066024, 0, 32, 0⟩
/-- R362, `VAULT_CMD_WIPE`: 1: wipe now; [31:1] reserved -/
def VAULT_CMD_WIPE : Fld := ⟨0x500066028, 0, 1, 0⟩
/-- R362, `LM_CE_CNT`: corrected local-memory reads -/
def LM_CE_CNT : Fld := ⟨0x500066030, 0, 32, 0⟩
/-- R362, `LM_UE_CNT`: uncorrectable local-memory reads -/
def LM_UE_CNT : Fld := ⟨0x500066034, 0, 32, 0⟩
/-- R362, `LM_LAST_UE_ADDR`: local-memory offset of the last; [31:21] reserved -/
def LM_LAST_UE_ADDR : Fld := ⟨0x500066038, 0, 21, 0⟩
/-- R362, `LM_ARB_HOME`: bits [4b + 3:4b]: home master of bank b; 0xF none -/
def LM_ARB_HOME : Fld := ⟨0x500066040, 0, 16, 36624⟩
/-- R362, `MX_WIN_BASE_LO`: BASE bits [31:12] -/
def MX_WIN_BASE_LO (n k : Nat) : Fld := ⟨0x500067000 + 0x100 * n + 0x10 * k, 12, 20, (if n = 1 ∧ k = 0 then 0x80 else 0)⟩
/-- R362, `MX_WIN_BASE_HI`: BASE bits [47:32] -/
def MX_WIN_BASE_HI (n k : Nat) : Fld := ⟨0x500067004 + 0x100 * n + 0x10 * k, 0, 16, (if n = 1 ∧ k = 0 then 1 else 0)⟩
/-- R362, `MX_WIN_R`: read granted -/
def MX_WIN_R (n k : Nat) : Fld := ⟨0x500067004 + 0x100 * n + 0x10 * k, 16, 1, (if k = 0 ∨ (n = 1 ∧ k = 1) then 1 else 0)⟩
/-- R362, `MX_WIN_W`: write granted -/
def MX_WIN_W (n k : Nat) : Fld := ⟨0x500067004 + 0x100 * n + 0x10 * k, 17, 1, (if k = 0 then 1 else 0)⟩
/-- R362, `MX_WIN_VALID`: 1: window in use -/
def MX_WIN_VALID (n k : Nat) : Fld := ⟨0x500067004 + 0x100 * n + 0x10 * k, 31, 1, (if k = 0 ∨ (n = 1 ∧ k = 1) then 1 else 0)⟩
/-- R362, `MX_WIN_LIMIT_LO`: last page, bits [31:12] -/
def MX_WIN_LIMIT_LO (n k : Nat) : Fld := ⟨0x500067008 + 0x100 * n + 0x10 * k, 12, 20, (if n = 1 ∧ k = 0 then 0xFF else if k = 0 ∨ (n = 1 ∧ k = 1) then 0xFFFFF else 0)⟩
/-- R362, `MX_WIN_LIMIT_HI`: last page, bits [47:32] -/
def MX_WIN_LIMIT_HI (n k : Nat) : Fld := ⟨0x50006700c + 0x100 * n + 0x10 * k, 0, 16, (if n = 1 ∧ k = 0 then 1 else if k = 0 ∨ (n = 1 ∧ k = 1) then 0xFFFF else 0)⟩
/-- R374, `TMR_CTRL_SRC`: 0 mc, 1 crossing tick, 2 frame tick; 3 refused with an error response -/
def TMR_CTRL_SRC (n : Nat) : Fld := ⟨0x500010000 + 0x40 * n, 0, 2, 0⟩
/-- R374, `TMR_CTRL_MODE`: 0 immediate, 1 preload -/
def TMR_CTRL_MODE (n : Nat) : Fld := ⟨0x500010000 + 0x40 * n, 2, 1, 0⟩
/-- R374, `TMR_CTRL_MATCH_ACT`: pin action on match (R371) -/
def TMR_CTRL_MATCH_ACT (n : Nat) : Fld := ⟨0x500010000 + 0x40 * n, 3, 2, 0⟩
/-- R374, `TMR_CTRL_OVF_ACT`: pin action on overflow -/
def TMR_CTRL_OVF_ACT (n : Nat) : Fld := ⟨0x500010000 + 0x40 * n, 5, 2, 0⟩
/-- R374, `TMR_CTRL_OE`: 1: TMR_OUT[n] driven -/
def TMR_CTRL_OE (n : Nat) : Fld := ⟨0x500010000 + 0x40 * n, 7, 1, 0⟩
/-- R374, `TMR_CTRL_CAP_PIN`: TMR_IN pin for capture -/
def TMR_CTRL_CAP_PIN (n : Nat) : Fld := ⟨0x500010000 + 0x40 * n, 8, 2, 0⟩
/-- R374, `TMR_CTRL_CAP_EDGE`: 0 none, 1 rising, 2 falling, 3 both -/
def TMR_CTRL_CAP_EDGE (n : Nat) : Fld := ⟨0x500010000 + 0x40 * n, 10, 2, 0⟩
/-- R374, `TMR_CMD_RESTART`: 1: count to 0 at the next tick -/
def TMR_CMD_RESTART (n : Nat) : Fld := ⟨0x500010004 + 0x40 * n, 0, 1, 0⟩
/-- R374, `TMR_CMD_CAP_POP`: 1: remove the oldest capture -/
def TMR_CMD_CAP_POP (n : Nat) : Fld := ⟨0x500010004 + 0x40 * n, 1, 1, 0⟩
/-- R374, `TMR_CMD_OUT_SET`: 1: drive the pin level high -/
def TMR_CMD_OUT_SET (n : Nat) : Fld := ⟨0x500010004 + 0x40 * n, 2, 1, 0⟩
/-- R374, `TMR_CMD_OUT_CLR`: 1: drive the pin level low -/
def TMR_CMD_OUT_CLR (n : Nat) : Fld := ⟨0x500010004 + 0x40 * n, 3, 1, 0⟩
/-- R374, `TMR_STATUS_OUT`: pin level -/
def TMR_STATUS_OUT (n : Nat) : Fld := ⟨0x500010008 + 0x40 * n, 0, 1, 0⟩
/-- R374, `TMR_STATUS_CAP_LEVEL`: captures held, 0–4 -/
def TMR_STATUS_CAP_LEVEL (n : Nat) : Fld := ⟨0x500010008 + 0x40 * n, 1, 3, 0⟩
/-- R374, `TMR_STATUS_PRELOAD`: preload waiting for a wrap -/
def TMR_STATUS_PRELOAD (n : Nat) : Fld := ⟨0x500010008 + 0x40 * n, 4, 1, 0⟩
/-- R374, `TMR_COUNT_LO`: count, bits [31:0] -/
def TMR_COUNT_LO (n : Nat) : Fld := ⟨0x500010014 + 0x40 * n, 0, 32, 0⟩
/-- R374, `TMR_COUNT_HI`: count, bits [63:32] -/
def TMR_COUNT_HI (n : Nat) : Fld := ⟨0x500010018 + 0x40 * n, 0, 32, 0⟩
/-- R374, `TMR_CMP_LO`: compare, bits [31:0]; preload mode reads the last value committed -/
def TMR_CMP_LO (n : Nat) : Fld := ⟨0x50001001c + 0x40 * n, 0, 32, 4294967295⟩
/-- R374, `TMR_CMP_HI`: compare, bits [63:32]; write commits -/
def TMR_CMP_HI (n : Nat) : Fld := ⟨0x500010020 + 0x40 * n, 0, 32, 4294967295⟩
/-- R374, `TMR_TOP_LO`: wrap value, bits [31:0] -/
def TMR_TOP_LO (n : Nat) : Fld := ⟨0x500010024 + 0x40 * n, 0, 32, 4294967295⟩
/-- R374, `TMR_TOP_HI`: wrap value, bits [63:32]; write commits -/
def TMR_TOP_HI (n : Nat) : Fld := ⟨0x500010028 + 0x40 * n, 0, 32, 4294967295⟩
/-- R374, `TMR_CAP_LO`: oldest capture, bits [31:0]; 0 when empty -/
def TMR_CAP_LO (n : Nat) : Fld := ⟨0x50001002c + 0x40 * n, 0, 32, 0⟩
/-- R374, `TMR_CAP_HI`: oldest capture, bits [63:32] -/
def TMR_CAP_HI (n : Nat) : Fld := ⟨0x500010030 + 0x40 * n, 0, 32, 0⟩
/-- R374, `TMR_INT_STATUS_MATCH`: a match occurred -/
def TMR_INT_STATUS_MATCH (n : Nat) : Fld := ⟨0x50001000c + 0x40 * n, 0, 1, 0⟩
/-- R374, `TMR_INT_STATUS_OVF`: an overflow occurred -/
def TMR_INT_STATUS_OVF (n : Nat) : Fld := ⟨0x50001000c + 0x40 * n, 1, 1, 0⟩
/-- R374, `TMR_INT_STATUS_CAP`: a capture was appended -/
def TMR_INT_STATUS_CAP (n : Nat) : Fld := ⟨0x50001000c + 0x40 * n, 2, 1, 0⟩
/-- R374, `TMR_INT_STATUS_CAP_OVF`: a capture was discarded -/
def TMR_INT_STATUS_CAP_OVF (n : Nat) : Fld := ⟨0x50001000c + 0x40 * n, 3, 1, 0⟩
/-- R374, `TMR_INT_EN_MATCH`: a match occurred -/
def TMR_INT_EN_MATCH (n : Nat) : Fld := ⟨0x500010010 + 0x40 * n, 0, 1, 0⟩
/-- R374, `TMR_INT_EN_OVF`: an overflow occurred -/
def TMR_INT_EN_OVF (n : Nat) : Fld := ⟨0x500010010 + 0x40 * n, 1, 1, 0⟩
/-- R374, `TMR_INT_EN_CAP`: a capture was appended -/
def TMR_INT_EN_CAP (n : Nat) : Fld := ⟨0x500010010 + 0x40 * n, 2, 1, 0⟩
/-- R374, `TMR_INT_EN_CAP_OVF`: a capture was discarded -/
def TMR_INT_EN_CAP_OVF (n : Nat) : Fld := ⟨0x500010010 + 0x40 * n, 3, 1, 1⟩
/-- R379, `CAL_TIME_LO`: CAL_TIME bits [31:0] -/
def CAL_TIME_LO : Fld := ⟨0x500020000, 0, 32, 0⟩
/-- R379, `CAL_TIME_HI`: CAL_TIME bits [63:32] -/
def CAL_TIME_HI : Fld := ⟨0x500020004, 0, 32, 0⟩
/-- R379, `CAL_SET_LO`: value to set, layout as CAL_TIME -/
def CAL_SET_LO : Fld := ⟨0x500020008, 0, 32, 0⟩
/-- R379, `CAL_SET_HI`: the same, bits [63:32]; write commits; bit 31 must be 0 -/
def CAL_SET_HI : Fld := ⟨0x50002000c, 0, 32, 0⟩
/-- R379, `CAL_ALARM_LO`: alarm seconds, bits [31:0] -/
def CAL_ALARM_LO : Fld := ⟨0x500020010, 0, 32, 0⟩
/-- R379, `CAL_ALARM_HI`: alarm seconds, bits [47:32]; write commits; [31:16] reserved -/
def CAL_ALARM_HI : Fld := ⟨0x500020014, 0, 16, 0⟩
/-- R379, `CAL_CTRL_ALARM_EN`: 1: alarm armed -/
def CAL_CTRL_ALARM_EN : Fld := ⟨0x500020018, 0, 1, 0⟩
/-- R379, `CAL_CTRL_TRIM`: signed ticks per 64 s; −128 refused with an error response -/
def CAL_CTRL_TRIM : Fld := ⟨0x500020018, 1, 8, 0⟩
/-- R379, `CAL_STATUS_BUSY`: a set is in progress -/
def CAL_STATUS_BUSY : Fld := ⟨0x50002001c, 0, 1, 0⟩
/-- R379, `CAL_STATUS_VALID`: time has been set and the crystal has not stopped since -/
def CAL_STATUS_VALID : Fld := ⟨0x50002001c, 1, 1, 0⟩
/-- R379, `CAL_STATUS_OSC_FAIL`: the crystal stopped -/
def CAL_STATUS_OSC_FAIL : Fld := ⟨0x50002001c, 2, 1, 0⟩
/-- R379, `CAL_STATUS_ALARM`: the alarm fired; clearing releases CAL_ALARM_N -/
def CAL_STATUS_ALARM : Fld := ⟨0x50002001c, 3, 1, 0⟩
/-- R379, `CAL_INT_EN_ALARM`: ALARM raises source 16 -/
def CAL_INT_EN_ALARM : Fld := ⟨0x500020020, 0, 1, 1⟩
/-- R379, `CAL_INT_EN_OSC_FAIL`: OSC_FAIL raises source 16 -/
def CAL_INT_EN_OSC_FAIL : Fld := ⟨0x500020020, 1, 1, 1⟩
/-- R384, `CRC_CFG_PRESET`: 0 custom; 1–4 per R381; 5–7 refused with an error response -/
def CRC_CFG_PRESET (n : Nat) : Fld := ⟨0x500030000 + 0x80 * n, 0, 3, 1⟩
/-- R384, `CRC_CFG_WIDTH_M1`: WIDTH − 1, for PRESET 0 -/
def CRC_CFG_WIDTH_M1 (n : Nat) : Fld := ⟨0x500030000 + 0x80 * n, 3, 6, 31⟩
/-- R384, `CRC_CFG_REFIN`: reflect each input byte -/
def CRC_CFG_REFIN (n : Nat) : Fld := ⟨0x500030000 + 0x80 * n, 9, 1, 1⟩
/-- R384, `CRC_CFG_REFOUT`: reflect the result -/
def CRC_CFG_REFOUT (n : Nat) : Fld := ⟨0x500030000 + 0x80 * n, 10, 1, 1⟩
/-- R384, `CRC_CMD_START`: 1: reg = INIT -/
def CRC_CMD_START (n : Nat) : Fld := ⟨0x500030004 + 0x80 * n, 0, 1, 0⟩
/-- R384, `CRC_CMD_CHECK`: 1: compare (R383) -/
def CRC_CMD_CHECK (n : Nat) : Fld := ⟨0x500030004 + 0x80 * n, 1, 1, 0⟩
/-- R384, `CRC_STATUS_BUSY`: absorbing -/
def CRC_STATUS_BUSY (n : Nat) : Fld := ⟨0x500030008 + 0x80 * n, 0, 1, 0⟩
/-- R384, `CRC_STATUS_MISMATCH`: a CHECK found a difference -/
def CRC_STATUS_MISMATCH (n : Nat) : Fld := ⟨0x500030008 + 0x80 * n, 1, 1, 0⟩
/-- R384, `CRC_STATUS_CHECK_OK`: result of the last CHECK -/
def CRC_STATUS_CHECK_OK (n : Nat) : Fld := ⟨0x500030008 + 0x80 * n, 2, 1, 0⟩
/-- R384, `CRC_INT_EN_MISMATCH`: MISMATCH raises source 17 + u; [31:1] reserved -/
def CRC_INT_EN_MISMATCH (n : Nat) : Fld := ⟨0x50003000c + 0x80 * n, 0, 1, 1⟩
/-- R384, `CRC_DATA8`: feeds 1 byte; [31:8] ignored -/
def CRC_DATA8 (n : Nat) : Fld := ⟨0x500030010 + 0x80 * n, 0, 8, 0⟩
/-- R384, `CRC_DATA16`: feeds 2 bytes; [31:16] ignored -/
def CRC_DATA16 (n : Nat) : Fld := ⟨0x500030014 + 0x80 * n, 0, 16, 0⟩
/-- R384, `CRC_DATA32`: feeds 4 bytes -/
def CRC_DATA32 (n : Nat) : Fld := ⟨0x500030018 + 0x80 * n, 0, 32, 0⟩
/-- R384, `CRC_POLY_LO`: polynomial, without its top term -/
def CRC_POLY_LO (n : Nat) : Fld := ⟨0x500030020 + 0x80 * n, 0, 32, 79764919⟩
/-- R384, `CRC_POLY_HI`: polynomial, without its top term -/
def CRC_POLY_HI (n : Nat) : Fld := ⟨0x500030024 + 0x80 * n, 0, 32, 0⟩
/-- R384, `CRC_INIT_LO`: initial value -/
def CRC_INIT_LO (n : Nat) : Fld := ⟨0x500030028 + 0x80 * n, 0, 32, 4294967295⟩
/-- R384, `CRC_INIT_HI`: initial value -/
def CRC_INIT_HI (n : Nat) : Fld := ⟨0x50003002c + 0x80 * n, 0, 32, 0⟩
/-- R384, `CRC_XOROUT_LO`: final XOR -/
def CRC_XOROUT_LO (n : Nat) : Fld := ⟨0x500030030 + 0x80 * n, 0, 32, 4294967295⟩
/-- R384, `CRC_XOROUT_HI`: final XOR -/
def CRC_XOROUT_HI (n : Nat) : Fld := ⟨0x500030034 + 0x80 * n, 0, 32, 0⟩
/-- R384, `CRC_VALUE_LO`: running register reg -/
def CRC_VALUE_LO (n : Nat) : Fld := ⟨0x500030038 + 0x80 * n, 0, 32, 4294967295⟩
/-- R384, `CRC_VALUE_HI`: running register reg -/
def CRC_VALUE_HI (n : Nat) : Fld := ⟨0x50003003c + 0x80 * n, 0, 32, 0⟩
/-- R384, `CRC_RESULT_LO`: result per R380 -/
def CRC_RESULT_LO (n : Nat) : Fld := ⟨0x500030040 + 0x80 * n, 0, 32, 0⟩
/-- R384, `CRC_RESULT_HI`: result per R380 -/
def CRC_RESULT_HI (n : Nat) : Fld := ⟨0x500030044 + 0x80 * n, 0, 32, 0⟩
/-- R384, `CRC_EXPECT_LO`: expected result -/
def CRC_EXPECT_LO (n : Nat) : Fld := ⟨0x500030048 + 0x80 * n, 0, 32, 0⟩
/-- R384, `CRC_EXPECT_HI`: expected result -/
def CRC_EXPECT_HI (n : Nat) : Fld := ⟨0x50003004c + 0x80 * n, 0, 32, 0⟩
/-- R384, `CRC_BYTES`: bytes fed since the last read -/
def CRC_BYTES (n : Nat) : Fld := ⟨0x500030050 + 0x80 * n, 0, 32, 0⟩
/-- R390, `EC_LO`: count k, bits [31:0]; k = 0–127 -/
def EC_LO (n k : Nat) : Fld := ⟨0x200004000 + 0x10000 * n + 0x8 * k, 0, 32, 0⟩
/-- R390, `EC_HI_COUNT`: count k, bits [47:32] -/
def EC_HI_COUNT (n k : Nat) : Fld := ⟨0x200004004 + 0x10000 * n + 0x8 * k, 0, 16, 0⟩
/-- R390, `EC_HI_OVF`: count k wrapped -/
def EC_HI_OVF (n k : Nat) : Fld := ⟨0x200004004 + 0x10000 * n + 0x8 * k, 16, 1, 0⟩
/-- R390, `EC_SEL`: event code (R386); [31:7] reserved -/
def EC_SEL (n k : Nat) : Fld := ⟨0x200004400 + 0x10000 * n + 0x4 * k, 0, 7, k⟩
/-- R390, `EC_CTRL_CLEAR_ALL`: 1: all counts to 0; [31:1] reserved -/
def EC_CTRL_CLEAR_ALL (n : Nat) : Fld := ⟨0x200004600 + 0x10000 * n, 0, 1, 0⟩
/-- R390, `TAG_CFG_N`: tagging interval exponent (R388) -/
def TAG_CFG_N (n : Nat) : Fld := ⟨0x200004610 + 0x10000 * n, 0, 5, 0⟩
/-- R390, `TAG_CFG_QUEUE`: record queue; 0 none -/
def TAG_CFG_QUEUE (n : Nat) : Fld := ⟨0x200004610 + 0x10000 * n, 5, 13, 0⟩
/-- R390, `TAG_REC`: last record, 32-bit part j, j = 0–3, word 0 first -/
def TAG_REC (n k : Nat) : Fld := ⟨0x200004620 + 0x10000 * n + 0x4 * k, 0, 32, 0⟩
/-- R390, `TAG_CNT`: records made -/
def TAG_CNT (n : Nat) : Fld := ⟨0x200004630 + 0x10000 * n, 0, 32, 0⟩
/-- R390, `TAG_DROP_CNT`: records discarded (R389) -/
def TAG_DROP_CNT (n : Nat) : Fld := ⟨0x200004634 + 0x10000 * n, 0, 32, 0⟩
/-- R418, `BL_CTRL_AUTO_EN`: 1: automatic LBIST (R406); [31:1] reserved -/
def BL_CTRL_AUTO_EN : Fld := ⟨0x500080000, 0, 1, 1⟩
/-- R418, `BL_CMD_OP`: R402; 0, 5–7 refused with an error response -/
def BL_CMD_OP : Fld := ⟨0x500080004, 0, 3, 0⟩
/-- R418, `BL_CMD_TARGET`: engine, logical bank or lane -/
def BL_CMD_TARGET : Fld := ⟨0x500080004, 8, 13, 0⟩
/-- R418, `BL_CFG_AUTO_PERIOD_S`: automatic period in s; 0 acts as 1 -/
def BL_CFG_AUTO_PERIOD_S : Fld := ⟨0x500080008, 0, 16, 600⟩
/-- R418, `BL_CFG_LBIST_LOG2`: patterns, log2; outside 10–20 refused -/
def BL_CFG_LBIST_LOG2 : Fld := ⟨0x500080008, 16, 5, 16⟩
/-- R418, `BL_CFG_LOOP_MS`: loopback duration in ms; 0 acts as 1 -/
def BL_CFG_LOOP_MS : Fld := ⟨0x500080008, 24, 8, 10⟩
/-- R418, `BL_LBIST_EXP_LO`: expected signature; pair per R363, R364 -/
def BL_LBIST_EXP_LO : Fld := ⟨0x500080010, 0, 32, 0⟩
/-- R418, `BL_LBIST_EXP_HI`: expected signature; pair per R363, R364 -/
def BL_LBIST_EXP_HI : Fld := ⟨0x500080014, 0, 32, 0⟩
/-- R418, `BL_LBIST_SIG_LO`: last signature -/
def BL_LBIST_SIG_LO : Fld := ⟨0x500080018, 0, 32, 0⟩
/-- R418, `BL_LBIST_SIG_HI`: last signature -/
def BL_LBIST_SIG_HI : Fld := ⟨0x50008001c, 0, 32, 0⟩
/-- R418, `BL_STATUS_LBIST`: 0 idle, 1 running, 2 pass, 3 fail, 4 aborted -/
def BL_STATUS_LBIST : Fld := ⟨0x500080020, 0, 3, 0⟩
/-- R418, `BL_STATUS_MBIST`: the same -/
def BL_STATUS_MBIST : Fld := ⟨0x500080020, 3, 3, 0⟩
/-- R418, `BL_STATUS_LOOP`: the same -/
def BL_STATUS_LOOP : Fld := ⟨0x500080020, 6, 3, 0⟩
/-- R418, `BL_STATUS_LBIST_VE`: engine of the last LBIST -/
def BL_STATUS_LBIST_VE : Fld := ⟨0x500080020, 9, 7, 0⟩
/-- R418, `BL_STATUS_MBIST_PHYS`: physical bank of the last MBIST -/
def BL_STATUS_MBIST_PHYS : Fld := ⟨0x500080020, 16, 13, 0⟩
/-- R418, `BL_LOOP_LANE`: lane of the last loopback; [31:7] reserved -/
def BL_LOOP_LANE : Fld := ⟨0x500080024, 0, 7, 0⟩
/-- R418, `BL_LOOP_ERR`: bit errors of the last loopback -/
def BL_LOOP_ERR : Fld := ⟨0x500080028, 0, 32, 0⟩
/-- R418, `BL_VE_RESULT`: VEn: 0 untested, 1 pass, 2 fail, 3 aborted; n = 0–67; [31:2] reserved -/
def BL_VE_RESULT (n : Nat) : Fld := ⟨0x500080100 + 0x4 * n, 0, 2, 0⟩
/-- R418, `RL_CFG_LEAK_FRAMES`: frames per leak (R395); 0 acts as 1; [31:24] reserved -/
def RL_CFG_LEAK_FRAMES : Fld := ⟨0x500081000, 0, 24, 625000⟩
/-- R418, `RL_CLASS_RETRY`: class c = 0–2 (R398) -/
def RL_CLASS_RETRY (n : Nat) : Fld := ⟨0x500081010 + 0x4 * n, 0, 4, (if n = 2 then 3 else 1)⟩
/-- R418, `RL_CLASS_WINDOW`: window in advances of the policy frame count (R395); 0 acts as 1 -/
def RL_CLASS_WINDOW (n : Nat) : Fld := ⟨0x500081010 + 0x4 * n, 4, 24, (if n = 2 then 4 else 625000)⟩
/-- R418, `RL_CLASS_ACT`: class 1: 1 issues TARGETED steps; classes 0 and 2: reads 1, writes ignored -/
def RL_CLASS_ACT (n : Nat) : Fld := ⟨0x500081010 + 0x4 * n, 28, 1, 1⟩
/-- R418, `RL_LAST_BKT`: last bucket to overflow; [31:9] reserved -/
def RL_LAST_BKT : Fld := ⟨0x500081020, 0, 9, 0⟩
/-- R418, `RL_LAST_PERM_CLASS`: class of the last permanent unit -/
def RL_LAST_PERM_CLASS : Fld := ⟨0x500081024, 0, 2, 0⟩
/-- R418, `RL_LAST_PERM_UNIT`: its engine, logical bank or lane -/
def RL_LAST_PERM_UNIT : Fld := ⟨0x500081024, 2, 13, 0⟩
/-- R418, `RL_STRIKE_CNT`: strikes -/
def RL_STRIKE_CNT : Fld := ⟨0x500081028, 0, 32, 0⟩
/-- R418, `RL_PERM_CNT`: units found permanent -/
def RL_PERM_CNT : Fld := ⟨0x50008102c, 0, 32, 0⟩
/-- R418, `RL_QPTR_UE_CNT`: queues reset under R394 -/
def RL_QPTR_UE_CNT : Fld := ⟨0x500081030, 0, 32, 0⟩
/-- R418, `RL_QPTR_LAST`: last such queue; [31:13] reserved -/
def RL_QPTR_LAST : Fld := ⟨0x500081034, 0, 13, 0⟩
/-- R418, `RL_BKT_COUNT`: bucket b = 0–329 (R396) -/
def RL_BKT_COUNT (n : Nat) : Fld := ⟨0x500082000 + 0x4 * n, 0, 9, 0⟩
/-- R418, `RL_BKT_LIMIT`: overflow above this -/
def RL_BKT_LIMIT (n : Nat) : Fld := ⟨0x500082000 + 0x4 * n, 16, 8, 16⟩
/-- R418, `RL_BKT_OVF`: the bucket overflowed -/
def RL_BKT_OVF (n : Nat) : Fld := ⟨0x500082000 + 0x4 * n, 24, 1, 0⟩
/-- R418, `BL_INT_STATUS_DONE`: a test passed -/
def BL_INT_STATUS_DONE : Fld := ⟨0x500080030, 0, 1, 0⟩
/-- R418, `BL_INT_STATUS_FAIL`: a test failed -/
def BL_INT_STATUS_FAIL : Fld := ⟨0x500080030, 1, 1, 0⟩
/-- R418, `BL_INT_STATUS_ABORTED`: a test was abandoned -/
def BL_INT_STATUS_ABORTED : Fld := ⟨0x500080030, 2, 1, 0⟩
/-- R418, `BL_INT_STATUS_BUCKET`: a bucket overflowed -/
def BL_INT_STATUS_BUCKET : Fld := ⟨0x500080030, 3, 1, 0⟩
/-- R418, `BL_INT_STATUS_PERM`: a unit was found permanent -/
def BL_INT_STATUS_PERM : Fld := ⟨0x500080030, 4, 1, 0⟩
/-- R418, `BL_INT_STATUS_QPTR_UE`: a queue was reset (R394) -/
def BL_INT_STATUS_QPTR_UE : Fld := ⟨0x500080030, 5, 1, 0⟩
/-- R418, `BL_INT_EN_DONE`: a test passed -/
def BL_INT_EN_DONE : Fld := ⟨0x500080034, 0, 1, 0⟩
/-- R418, `BL_INT_EN_FAIL`: a test failed -/
def BL_INT_EN_FAIL : Fld := ⟨0x500080034, 1, 1, 1⟩
/-- R418, `BL_INT_EN_ABORTED`: a test was abandoned -/
def BL_INT_EN_ABORTED : Fld := ⟨0x500080034, 2, 1, 0⟩
/-- R418, `BL_INT_EN_BUCKET`: a bucket overflowed -/
def BL_INT_EN_BUCKET : Fld := ⟨0x500080034, 3, 1, 1⟩
/-- R418, `BL_INT_EN_PERM`: a unit was found permanent -/
def BL_INT_EN_PERM : Fld := ⟨0x500080034, 4, 1, 1⟩
/-- R418, `BL_INT_EN_QPTR_UE`: a queue was reset (R394) -/
def BL_INT_EN_QPTR_UE : Fld := ⟨0x500080034, 5, 1, 1⟩
/-- R419, `JNL_CTRL_ENABLE`: 1: scan, then write (R415, R416); [31:1] reserved -/
def JNL_CTRL_ENABLE : Fld := ⟨0x5000a1000, 0, 1, 0⟩
/-- R419, `JNL_BASE`: flash byte address; bits [19:0] must be 0; the region must lie within the flash, else ENABLE is refused -/
def JNL_BASE : Fld := ⟨0x5000a1004, 0, 32, 0⟩
/-- R419, `JNL_STAGE_OFF`: local-memory offset of the staging ring; bits [11:0] must be 0; [31:21] reserved -/
def JNL_STAGE_OFF : Fld := ⟨0x5000a1008, 0, 21, 1572864⟩
/-- R419, `JNL_PUSH_GO`: 1: submit entry TAIL (R412); [31:1] reserved -/
def JNL_PUSH_GO : Fld := ⟨0x5000a100c, 0, 1, 0⟩
/-- R419, `JNL_STAGE_PTR_TAIL`: next entry to fill -/
def JNL_STAGE_PTR_TAIL : Fld := ⟨0x5000a1010, 0, 6, 0⟩
/-- R419, `JNL_STAGE_PTR_HEAD`: next entry to write -/
def JNL_STAGE_PTR_HEAD : Fld := ⟨0x5000a1010, 8, 6, 0⟩
/-- R419, `JNL_STATUS_READY`: scan complete -/
def JNL_STATUS_READY : Fld := ⟨0x5000a1014, 0, 1, 0⟩
/-- R419, `JNL_STATUS_BUSY`: a flash operation runs -/
def JNL_STATUS_BUSY : Fld := ⟨0x5000a1014, 1, 1, 0⟩
/-- R419, `JNL_STATUS_NO_SUSPEND`: R415 -/
def JNL_STATUS_NO_SUSPEND : Fld := ⟨0x5000a1014, 2, 1, 0⟩
/-- R419, `JNL_STATUS_SLOW_FLASH`: R415 -/
def JNL_STATUS_SLOW_FLASH : Fld := ⟨0x5000a1014, 3, 1, 0⟩
/-- R419, `JNL_STATUS_FAILED`: R414 -/
def JNL_STATUS_FAILED : Fld := ⟨0x5000a1014, 4, 1, 0⟩
/-- R419, `JNL_STATUS_SECTOR`: current sector -/
def JNL_STATUS_SECTOR : Fld := ⟨0x5000a1014, 8, 8, 0⟩
/-- R419, `JNL_STATUS_SLOT`: next ordinary slot -/
def JNL_STATUS_SLOT : Fld := ⟨0x5000a1014, 16, 6, 0⟩
/-- R419, `JNL_SEQ`: next SEQ -/
def JNL_SEQ : Fld := ⟨0x5000a1018, 0, 32, 0⟩
/-- R419, `JNL_REC_CNT`: records committed -/
def JNL_REC_CNT : Fld := ⟨0x5000a101c, 0, 32, 0⟩
/-- R419, `JNL_TORN_CNT`: torn slots found -/
def JNL_TORN_CNT : Fld := ⟨0x5000a1020, 0, 32, 0⟩
/-- R419, `JNL_CRC_ERR_CNT`: corrupt records found -/
def JNL_CRC_ERR_CNT : Fld := ⟨0x5000a1024, 0, 32, 0⟩
/-- R419, `JNL_BAD_SECT`: BAD sectors; [31:9] reserved -/
def JNL_BAD_SECT : Fld := ⟨0x5000a1028, 0, 9, 0⟩
/-- R419, `JNL_STAGE_FULL_CNT`: submissions refused -/
def JNL_STAGE_FULL_CNT : Fld := ⟨0x5000a102c, 0, 32, 0⟩
/-- R419, `JNL_MAX_ERASE`: highest ERASE_COUNT -/
def JNL_MAX_ERASE : Fld := ⟨0x5000a1030, 0, 32, 0⟩
/-- R419, `JNL_INT_STATUS_COMMIT`: a record was committed -/
def JNL_INT_STATUS_COMMIT : Fld := ⟨0x5000a1040, 0, 1, 0⟩
/-- R419, `JNL_INT_STATUS_STAGE_FULL`: a submission was refused -/
def JNL_INT_STATUS_STAGE_FULL : Fld := ⟨0x5000a1040, 1, 1, 0⟩
/-- R419, `JNL_INT_STATUS_BAD_SECTOR`: a sector became BAD -/
def JNL_INT_STATUS_BAD_SECTOR : Fld := ⟨0x5000a1040, 2, 1, 0⟩
/-- R419, `JNL_INT_STATUS_FAILED`: the journal stopped (R414) -/
def JNL_INT_STATUS_FAILED : Fld := ⟨0x5000a1040, 3, 1, 0⟩
/-- R419, `JNL_INT_STATUS_TORN_FOUND`: the scan found torn slots -/
def JNL_INT_STATUS_TORN_FOUND : Fld := ⟨0x5000a1040, 4, 1, 0⟩
/-- R419, `JNL_INT_EN_COMMIT`: a record was committed -/
def JNL_INT_EN_COMMIT : Fld := ⟨0x5000a1044, 0, 1, 0⟩
/-- R419, `JNL_INT_EN_STAGE_FULL`: a submission was refused -/
def JNL_INT_EN_STAGE_FULL : Fld := ⟨0x5000a1044, 1, 1, 1⟩
/-- R419, `JNL_INT_EN_BAD_SECTOR`: a sector became BAD -/
def JNL_INT_EN_BAD_SECTOR : Fld := ⟨0x5000a1044, 2, 1, 1⟩
/-- R419, `JNL_INT_EN_FAILED`: the journal stopped (R414) -/
def JNL_INT_EN_FAILED : Fld := ⟨0x5000a1044, 3, 1, 1⟩
/-- R419, `JNL_INT_EN_TORN_FOUND`: the scan found torn slots -/
def JNL_INT_EN_TORN_FOUND : Fld := ⟨0x5000a1044, 4, 1, 1⟩
/-- R437, `LN_CTRL_ENABLE`: 1: lane runs; 0: OFF -/
def LN_CTRL_ENABLE (n : Nat) : Fld := ⟨0x400000000 + 0x4000 * n, 0, 1, 0⟩
/-- R437, `LN_CTRL_FEC_EN`: 1: RS(544,514); 0: low-latency mode (R422) -/
def LN_CTRL_FEC_EN (n : Nat) : Fld := ⟨0x400000000 + 0x4000 * n, 1, 1, 1⟩
/-- R437, `LN_CTRL_RATE`: rate (R420) -/
def LN_CTRL_RATE (n : Nat) : Fld := ⟨0x400000000 + 0x4000 * n, 2, 3, 0⟩
/-- R437, `LN_CTRL_ROLE`: 0 trigger, 1 DAQ (R435) -/
def LN_CTRL_ROLE (n : Nat) : Fld := ⟨0x400000000 + 0x4000 * n, 5, 1, 0⟩
/-- R437, `LN_CTRL_PRECODE`: 1: 1/(1+D) precoding at PAM4 rates -/
def LN_CTRL_PRECODE (n : Nat) : Fld := ⟨0x400000000 + 0x4000 * n, 6, 1, 0⟩
/-- R437, `LN_CTRL_TX_INV`: 1: transmit polarity inverted -/
def LN_CTRL_TX_INV (n : Nat) : Fld := ⟨0x400000000 + 0x4000 * n, 7, 1, 0⟩
/-- R437, `LN_CTRL_RX_INV`: 1: receive polarity inverted -/
def LN_CTRL_RX_INV (n : Nat) : Fld := ⟨0x400000000 + 0x4000 * n, 8, 1, 0⟩
/-- R437, `LN_CTRL_AUTO_RETURN`: 1: periodic return (R434) -/
def LN_CTRL_AUTO_RETURN (n : Nat) : Fld := ⟨0x400000000 + 0x4000 * n, 9, 1, 1⟩
/-- R437, `LN_CMD_RETIRE`: 1: retire now (R433) -/
def LN_CMD_RETIRE (n : Nat) : Fld := ⟨0x400000004 + 0x4000 * n, 0, 1, 0⟩
/-- R437, `LN_CMD_RETURN`: 1: start a return (R434) -/
def LN_CMD_RETURN (n : Nat) : Fld := ⟨0x400000004 + 0x4000 * n, 1, 1, 0⟩
/-- R437, `LN_CMD_RETRAIN`: 1: FAST in IN_SERVICE; no strike -/
def LN_CMD_RETRAIN (n : Nat) : Fld := ⟨0x400000004 + 0x4000 * n, 2, 1, 0⟩
/-- R437, `LN_STATUS_STATE`: 0 OFF, 1 TRAINING, 2 IN_SERVICE, 3 RETRAIN, 4 RETIRED, 5 RETURNING; 6, 7 unused -/
def LN_STATUS_STATE (n : Nat) : Fld := ⟨0x400000008 + 0x4000 * n, 0, 3, 0⟩
/-- R437, `LN_STATUS_SIGNAL`: signal detected -/
def LN_STATUS_SIGNAL (n : Nat) : Fld := ⟨0x400000008 + 0x4000 * n, 3, 1, 0⟩
/-- R437, `LN_STATUS_CDR_LOCK`: clock recovery locked -/
def LN_STATUS_CDR_LOCK (n : Nat) : Fld := ⟨0x400000008 + 0x4000 * n, 4, 1, 0⟩
/-- R437, `LN_STATUS_ALIGNED`: flits aligned -/
def LN_STATUS_ALIGNED (n : Nat) : Fld := ⟨0x400000008 + 0x4000 * n, 5, 1, 0⟩
/-- R437, `LN_STATUS_STRIKES`: class-2 strikes in the current window -/
def LN_STATUS_STRIKES (n : Nat) : Fld := ⟨0x400000008 + 0x4000 * n, 6, 3, 0⟩
/-- R437, `LN_CFG_CE_LOG2`: corrected symbols per correctable event, log2 (R430) -/
def LN_CFG_CE_LOG2 (n : Nat) : Fld := ⟨0x40000000c + 0x4000 * n, 0, 4, 12⟩
/-- R437, `LN_CFG_FAST_NS`: FAST limit in ns; 0 acts as 1 -/
def LN_CFG_FAST_NS (n : Nat) : Fld := ⟨0x40000000c + 0x4000 * n, 4, 12, 1200⟩
/-- R437, `LN_CFG_TRAIN_MS`: FULL limit in ms; 0 acts as 1 -/
def LN_CFG_TRAIN_MS (n : Nat) : Fld := ⟨0x40000000c + 0x4000 * n, 16, 8, 50⟩
/-- R437, `LN_CFG_RETURN_S`: return period in s; 0 acts as 1 -/
def LN_CFG_RETURN_S (n : Nat) : Fld := ⟨0x40000000c + 0x4000 * n, 24, 8, 60⟩
/-- R437, `LN_ADAPT_ADAPT_US`: ADAPT period in µs; values below 10 refused with an error response -/
def LN_ADAPT_ADAPT_US (n : Nat) : Fld := ⟨0x400000010 + 0x4000 * n, 0, 16, 100⟩
/-- R437, `LN_ADAPT_ADAPT_EN`: 1: background adaptation runs -/
def LN_ADAPT_ADAPT_EN (n : Nat) : Fld := ⟨0x400000010 + 0x4000 * n, 16, 1, 1⟩
/-- R437, `LN_SCRIPT_RESULT`: last script: 0 none, 1 PASS, 2 FAIL, 3 timeout -/
def LN_SCRIPT_RESULT (n : Nat) : Fld := ⟨0x400000014 + 0x4000 * n, 0, 2, 0⟩
/-- R437, `LN_SCRIPT_EVENT`: its event: 0 FULL, 1 FAST, 2 ADAPT -/
def LN_SCRIPT_EVENT (n : Nat) : Fld := ⟨0x400000014 + 0x4000 * n, 2, 2, 0⟩
/-- R437, `LN_LAST_LOSS`: 1 no signal, 2 lock, 3 flits, 4 codewords (R429); [31:3] reserved -/
def LN_LAST_LOSS (n : Nat) : Fld := ⟨0x400000018 + 0x4000 * n, 0, 3, 0⟩
/-- R437, `LN_SNR`: receive signal-to-noise ratio, raw / 256 dB; [31:16] reserved -/
def LN_SNR (n : Nat) : Fld := ⟨0x40000001c + 0x4000 * n, 0, 16, 0⟩
/-- R437, `LN_FEC_CORR_CNT`: corrected RS symbols -/
def LN_FEC_CORR_CNT (n : Nat) : Fld := ⟨0x400000020 + 0x4000 * n, 0, 32, 0⟩
/-- R437, `LN_FEC_UNCORR_CNT`: uncorrectable codewords -/
def LN_FEC_UNCORR_CNT (n : Nat) : Fld := ⟨0x400000024 + 0x4000 * n, 0, 32, 0⟩
/-- R437, `LN_FLIT_ERR_CNT`: flit errors (R424) -/
def LN_FLIT_ERR_CNT (n : Nat) : Fld := ⟨0x400000028 + 0x4000 * n, 0, 32, 0⟩
/-- R437, `LN_FSEQ_ERR_CNT`: FSEQ discontinuities -/
def LN_FSEQ_ERR_CNT (n : Nat) : Fld := ⟨0x40000002c + 0x4000 * n, 0, 32, 0⟩
/-- R437, `LN_LOSS_CNT`: losses of link -/
def LN_LOSS_CNT (n : Nat) : Fld := ⟨0x400000030 + 0x4000 * n, 0, 32, 0⟩
/-- R437, `LN_RETRAIN_CNT`: FAST attempts -/
def LN_RETRAIN_CNT (n : Nat) : Fld := ⟨0x400000034 + 0x4000 * n, 0, 32, 0⟩
/-- R437, `LN_RX_FRAME_CNT`: frames handed to the router -/
def LN_RX_FRAME_CNT (n : Nat) : Fld := ⟨0x400000038 + 0x4000 * n, 0, 32, 0⟩
/-- R437, `LN_TX_FRAME_CNT`: frames sent -/
def LN_TX_FRAME_CNT (n : Nat) : Fld := ⟨0x40000003c + 0x4000 * n, 0, 32, 0⟩
/-- R437, `LN_ADAPT_SKIP_CNT`: ADAPT ticks skipped -/
def LN_ADAPT_SKIP_CNT (n : Nat) : Fld := ⟨0x400000040 + 0x4000 * n, 0, 32, 0⟩
/-- R437, `LN_PHY_TX_PRE2`: transmit FFE tap −2, signed; set by the lane scripts -/
def LN_PHY_TX_PRE2 (n : Nat) : Fld := ⟨0x400001000 + 0x4000 * n, 0, 6, 0⟩
/-- R437, `LN_PHY_TX_PRE1`: tap −1, signed; set by the lane scripts -/
def LN_PHY_TX_PRE1 (n : Nat) : Fld := ⟨0x400001000 + 0x4000 * n, 6, 6, 60⟩
/-- R437, `LN_PHY_TX_MAIN`: main tap, unsigned; set by the lane scripts -/
def LN_PHY_TX_MAIN (n : Nat) : Fld := ⟨0x400001000 + 0x4000 * n, 12, 6, 31⟩
/-- R437, `LN_PHY_TX_POST1`: tap +1, signed; set by the lane scripts -/
def LN_PHY_TX_POST1 (n : Nat) : Fld := ⟨0x400001000 + 0x4000 * n, 18, 6, 0⟩
/-- R437, `LN_PHY_RX_CTLE`: receive CTLE peaking step; set by the lane scripts -/
def LN_PHY_RX_CTLE (n : Nat) : Fld := ⟨0x400001004 + 0x4000 * n, 0, 4, 8⟩
/-- R437, `LN_PHY_RX_VGA`: receive gain step; set by the lane scripts -/
def LN_PHY_RX_VGA (n : Nat) : Fld := ⟨0x400001004 + 0x4000 * n, 4, 6, 32⟩
/-- R437, `LN_INT_STATUS_LOSS`: a loss of link -/
def LN_INT_STATUS_LOSS (n : Nat) : Fld := ⟨0x400000050 + 0x4000 * n, 0, 1, 0⟩
/-- R437, `LN_INT_STATUS_RETRAINED`: a FAST attempt passed -/
def LN_INT_STATUS_RETRAINED (n : Nat) : Fld := ⟨0x400000050 + 0x4000 * n, 1, 1, 0⟩
/-- R437, `LN_INT_STATUS_RETIRED`: the lane was retired -/
def LN_INT_STATUS_RETIRED (n : Nat) : Fld := ⟨0x400000050 + 0x4000 * n, 2, 1, 0⟩
/-- R437, `LN_INT_STATUS_RETURNED`: the lane returned to service -/
def LN_INT_STATUS_RETURNED (n : Nat) : Fld := ⟨0x400000050 + 0x4000 * n, 3, 1, 0⟩
/-- R437, `LN_INT_STATUS_RETURN_FAIL`: a return failed -/
def LN_INT_STATUS_RETURN_FAIL (n : Nat) : Fld := ⟨0x400000050 + 0x4000 * n, 4, 1, 0⟩
/-- R437, `LN_INT_STATUS_TRAIN_FAIL`: a FULL training failed or timed out -/
def LN_INT_STATUS_TRAIN_FAIL (n : Nat) : Fld := ⟨0x400000050 + 0x4000 * n, 5, 1, 0⟩
/-- R437, `LN_INT_EN_LOSS`: a loss of link -/
def LN_INT_EN_LOSS (n : Nat) : Fld := ⟨0x400000054 + 0x4000 * n, 0, 1, 1⟩
/-- R437, `LN_INT_EN_RETRAINED`: a FAST attempt passed -/
def LN_INT_EN_RETRAINED (n : Nat) : Fld := ⟨0x400000054 + 0x4000 * n, 1, 1, 0⟩
/-- R437, `LN_INT_EN_RETIRED`: the lane was retired -/
def LN_INT_EN_RETIRED (n : Nat) : Fld := ⟨0x400000054 + 0x4000 * n, 2, 1, 1⟩
/-- R437, `LN_INT_EN_RETURNED`: the lane returned to service -/
def LN_INT_EN_RETURNED (n : Nat) : Fld := ⟨0x400000054 + 0x4000 * n, 3, 1, 1⟩
/-- R437, `LN_INT_EN_RETURN_FAIL`: a return failed -/
def LN_INT_EN_RETURN_FAIL (n : Nat) : Fld := ⟨0x400000054 + 0x4000 * n, 4, 1, 0⟩
/-- R437, `LN_INT_EN_TRAIN_FAIL`: a FULL training failed or timed out -/
def LN_INT_EN_TRAIN_FAIL (n : Nat) : Fld := ⟨0x400000054 + 0x4000 * n, 5, 1, 1⟩
/-- R464, `DD_CTRL_EN`: 1: sag enters tiers; 0: only FORCE does. R446 applies in both cases -/
def DD_CTRL_EN : Fld := ⟨0x500050000, 0, 1, 1⟩
/-- R464, `DD_CTRL_FORCE`: hold at least: 0 none, 1 top, 2 heart, 3 base -/
def DD_CTRL_FORCE : Fld := ⟨0x500050000, 1, 2, 0⟩
/-- R464, `DD_STATUS_TIER`: 0 none, 1 top, 2 heart, 3 base -/
def DD_STATUS_TIER : Fld := ⟨0x500050004, 0, 2, 0⟩
/-- R464, `DD_STATUS_POWERING`: engines powering on (R445) -/
def DD_STATUS_POWERING : Fld := ⟨0x500050004, 2, 1, 0⟩
/-- R464, `DD_STATUS_GOOD`: good frames counted (R444) -/
def DD_STATUS_GOOD : Fld := ⟨0x500050004, 8, 8, 0⟩
/-- R464, `DD_THR0_TOP_MV`: top threshold, mV -/
def DD_THR0_TOP_MV : Fld := ⟨0x500050008, 0, 10, 725⟩
/-- R464, `DD_THR0_HEART_MV`: heart threshold, mV -/
def DD_THR0_HEART_MV : Fld := ⟨0x500050008, 16, 10, 705⟩
/-- R464, `DD_THR1_BASE_MV`: base threshold, mV -/
def DD_THR1_BASE_MV : Fld := ⟨0x50005000c, 0, 10, 690⟩
/-- R464, `DD_THR1_FINAL_MV`: final threshold, mV -/
def DD_THR1_FINAL_MV : Fld := ⟨0x50005000c, 16, 10, 670⟩
/-- R464, `DD_CFG_HYST_MV`: hysteresis, mV; values below 5 refused -/
def DD_CFG_HYST_MV : Fld := ⟨0x500050010, 0, 6, 15⟩
/-- R464, `DD_CFG_GOOD_FRAMES`: frames to leave a tier; 0 acts as 1 -/
def DD_CFG_GOOD_FRAMES : Fld := ⟨0x500050010, 8, 8, 100⟩
/-- R464, `DD_CFG_SUSTAIN_US`: sustain, µs; 0 acts as 1 -/
def DD_CFG_SUSTAIN_US : Fld := ⟨0x500050010, 16, 8, 2⟩
/-- R464, `DD_LEAN_LO`: bit i: slot i is lean -/
def DD_LEAN_LO : Fld := ⟨0x500050014, 0, 32, 1431655765⟩
/-- R464, `DD_LEAN_HI`: bit i: slot 32 + i is lean -/
def DD_LEAN_HI : Fld := ⟨0x500050018, 0, 32, 1431655765⟩
/-- R464, `DD_VCORE_MV`: latest VDD_CORE sample, mV -/
def DD_VCORE_MV : Fld := ⟨0x50005001c, 0, 10, 0⟩
/-- R464, `DD_VCORE_MIN_MV`: lowest sample since the last read; a read sets it to 0x3FF (R7) -/
def DD_VCORE_MIN_MV : Fld := ⟨0x50005001c, 16, 10, 1023⟩
/-- R464, `DD_TOP_CNT`: entries to the top note -/
def DD_TOP_CNT : Fld := ⟨0x500050020, 0, 32, 0⟩
/-- R464, `DD_HEART_CNT`: entries to the heart note -/
def DD_HEART_CNT : Fld := ⟨0x500050024, 0, 32, 0⟩
/-- R464, `DD_BASE_CNT`: entries to the base note -/
def DD_BASE_CNT : Fld := ⟨0x500050028, 0, 32, 0⟩
/-- R464, `DD_INT_STATUS_DEEPER`: a deeper tier was entered -/
def DD_INT_STATUS_DEEPER : Fld := ⟨0x500050030, 0, 1, 0⟩
/-- R464, `DD_INT_STATUS_LIGHTER`: a tier was left -/
def DD_INT_STATUS_LIGHTER : Fld := ⟨0x500050030, 1, 1, 0⟩
/-- R464, `DD_INT_STATUS_TAMPER`: a tamper event (R359) -/
def DD_INT_STATUS_TAMPER : Fld := ⟨0x500050030, 2, 1, 0⟩
/-- R464, `DD_INT_EN_DEEPER`: a deeper tier was entered -/
def DD_INT_EN_DEEPER : Fld := ⟨0x500050034, 0, 1, 1⟩
/-- R464, `DD_INT_EN_LIGHTER`: a tier was left -/
def DD_INT_EN_LIGHTER : Fld := ⟨0x500050034, 1, 1, 1⟩
/-- R464, `DD_INT_EN_TAMPER`: a tamper event (R359) -/
def DD_INT_EN_TAMPER : Fld := ⟨0x500050034, 2, 1, 1⟩
/-- R465, `RST_CAUSE_POR`: power-on detector, supply rising -/
def RST_CAUSE_POR : Fld := ⟨0x500060000, 0, 1, 0⟩
/-- R465, `RST_CAUSE_PIN`: PORST_N -/
def RST_CAUSE_PIN : Fld := ⟨0x500060000, 1, 1, 0⟩
/-- R465, `RST_CAUSE_FINAL`: R446 -/
def RST_CAUSE_FINAL : Fld := ⟨0x500060000, 2, 1, 0⟩
/-- R465, `RST_CAUSE_SUPPLY`: a supply other than VDD_CORE fell (R439) -/
def RST_CAUSE_SUPPLY : Fld := ⟨0x500060000, 3, 1, 0⟩
/-- R465, `RST_BLK_KIND`: R451 -/
def RST_BLK_KIND : Fld := ⟨0x500060004, 0, 4, 0⟩
/-- R465, `RST_BLK_INDEX`: block number -/
def RST_BLK_INDEX : Fld := ⟨0x500060004, 4, 7, 0⟩
/-- R465, `RST_BLK_DENY_CNT`: refused block resets -/
def RST_BLK_DENY_CNT : Fld := ⟨0x500060008, 0, 32, 0⟩
/-- R465, `STRAP_CODE`: converter code -/
def STRAP_CODE : Fld := ⟨0x500060010, 0, 6, 0⟩
/-- R465, `STRAP_CHOICE`: R452 -/
def STRAP_CHOICE : Fld := ⟨0x500060010, 6, 4, 0⟩
/-- R465, `STRAP_RSVD`: a reserved choice was read -/
def STRAP_RSVD : Fld := ⟨0x500060010, 10, 1, 0⟩
/-- R465, `BOOT_STATUS_SOURCE`: 0 slot A, 1 slot B, 2 host, 3 JTAG -/
def BOOT_STATUS_SOURCE : Fld := ⟨0x500060014, 0, 2, 0⟩
/-- R465, `BOOT_STATUS_RESULT`: 0 booted, 1 no usable SFDP, 2 no directory, 3 no well-formed header, 4 signature, 5 key, 6 SVN, 7 section, 8 flash read error, 9 image too long -/
def BOOT_STATUS_RESULT : Fld := ⟨0x500060014, 2, 4, 0⟩
/-- R465, `BOOT_STATUS_FALLBACK`: the older slot was booted -/
def BOOT_STATUS_FALLBACK : Fld := ⟨0x500060014, 6, 1, 0⟩
/-- R465, `BOOT_STATUS_LBIST_FAILS`: engines failed at boot -/
def BOOT_STATUS_LBIST_FAILS : Fld := ⟨0x500060014, 7, 7, 0⟩
/-- R465, `BOOT_TIME_US`: µs from reset release to step 8 -/
def BOOT_TIME_US : Fld := ⟨0x500060018, 0, 32, 0⟩
/-- R465, `BOOT_IMG_SEQ`: IMG_SEQ of the image booted -/
def BOOT_IMG_SEQ : Fld := ⟨0x50006001c, 0, 32, 0⟩
/-- R465, `BOOT_CONFIRM`: 1: BK_BOOT.CONFIRMED = 1; [31:1] reserved -/
def BOOT_CONFIRM : Fld := ⟨0x500060020, 0, 1, 0⟩
/-- R465, `BK_BOOT_SLOT`: last slot booted; 3 none -/
def BK_BOOT_SLOT : Fld := ⟨0x500060024, 0, 2, 3⟩
/-- R465, `BK_BOOT_CONFIRMED`: that boot was confirmed -/
def BK_BOOT_CONFIRMED : Fld := ⟨0x500060024, 2, 1, 0⟩
/-- R465, `BK_BOOT_TRIES`: unconfirmed boots of that slot -/
def BK_BOOT_TRIES : Fld := ⟨0x500060024, 3, 2, 0⟩
/-- R465, `BOOT_GO`: 1: continue a boot held by choice 6; [31:1] reserved -/
def BOOT_GO : Fld := ⟨0x500060028, 0, 1, 0⟩
/-- R465, `LC_STATE_STATE`: 0 BLANK, 1 DEVELOP, 2 FIELD, 3 RETIRED -/
def LC_STATE_STATE : Fld := ⟨0x500060030, 0, 2, 0⟩
/-- R465, `LC_STATE_KEY_VALID`: bit n: key n programmed -/
def LC_STATE_KEY_VALID : Fld := ⟨0x500060030, 2, 4, 0⟩
/-- R465, `LC_STATE_KEY_REVOKED`: bit n: key n revoked -/
def LC_STATE_KEY_REVOKED : Fld := ⟨0x500060030, 6, 4, 0⟩
/-- R465, `LC_SVN`: security version floor; [31:6] reserved -/
def LC_SVN : Fld := ⟨0x500060034, 0, 6, 0⟩
/-- R465, `LC_CMD_OP`: R463 -/
def LC_CMD_OP : Fld := ⟨0x500060038, 0, 4, 0⟩
/-- R465, `LC_CMD_KEY`: key for OP 3 and 4 -/
def LC_CMD_KEY : Fld := ⟨0x500060038, 4, 2, 0⟩
/-- R465, `LC_CMD_CODE`: must be 0x4C43 -/
def LC_CMD_CODE : Fld := ⟨0x500060038, 16, 16, 0⟩
/-- R465, `LC_ARG`: local-memory offset of a key hash; bits [3:0] must be 0; [31:21] reserved -/
def LC_ARG : Fld := ⟨0x50006003c, 0, 21, 0⟩
/-- R465, `LC_STATUS_BUSY`: a fuse change is running -/
def LC_STATUS_BUSY : Fld := ⟨0x500060040, 0, 1, 0⟩
/-- R465, `LC_STATUS_ERR`: a command was refused -/
def LC_STATUS_ERR : Fld := ⟨0x500060040, 1, 1, 0⟩
/-- R484, `HB_CTRL_WAKE_EN`: 1: wakes allowed (R472) -/
def HB_CTRL_WAKE_EN : Fld := ⟨0x5000b0000, 0, 1, 1⟩
/-- R484, `HB_CTRL_MAX_SPEED`: 0 8, 1 16, 2 32 GT/s; 3 refused -/
def HB_CTRL_MAX_SPEED : Fld := ⟨0x5000b0000, 1, 2, 2⟩
/-- R484, `HB_STATUS_SPEED`: as MAX_SPEED -/
def HB_STATUS_SPEED : Fld := ⟨0x5000b0004, 0, 2, 0⟩
/-- R484, `HB_STATUS_WIDTH`: 1, 2, 4 or 8; 0 link down -/
def HB_STATUS_WIDTH : Fld := ⟨0x5000b0004, 2, 4, 0⟩
/-- R484, `HB_STATUS_DSTATE`: 0 D0, 1 D3hot, 2 D3cold -/
def HB_STATUS_DSTATE : Fld := ⟨0x5000b0004, 6, 2, 0⟩
/-- R484, `HB_STATUS_LSTATE`: 0 L0, 1 L1, 2 L1.1, 3 L1.2, 4 L2, 5 down -/
def HB_STATUS_LSTATE : Fld := ⟨0x5000b0004, 8, 3, 5⟩
/-- R484, `HB_STATUS_PERST`: PCIE_PERST_N low -/
def HB_STATUS_PERST : Fld := ⟨0x5000b0004, 11, 1, 0⟩
/-- R484, `HB_STATUS_WAKE_PENDING`: a wake pending -/
def HB_STATUS_WAKE_PENDING : Fld := ⟨0x5000b0004, 12, 1, 0⟩
/-- R484, `HB_STATUS_WAKE_MERGED`: R473 -/
def HB_STATUS_WAKE_MERGED : Fld := ⟨0x5000b0004, 13, 1, 0⟩
/-- R484, `HB_WAKE_REQ`: 1: request a wake; [31:1] reserved -/
def HB_WAKE_REQ : Fld := ⟨0x5000b0008, 0, 1, 0⟩
/-- R484, `HB_MSI_TRIG_VECTOR`: vector to send -/
def HB_MSI_TRIG_VECTOR : Fld := ⟨0x5000b000c, 0, 6, 0⟩
/-- R484, `HB_MSI_TRIG_GO`: 1: send; [31:7] reserved -/
def HB_MSI_TRIG_GO : Fld := ⟨0x5000b000c, 6, 1, 0⟩
/-- R484, `HB_LOAD_READY`: R474 -/
def HB_LOAD_READY : Fld := ⟨0x5000b0010, 0, 1, 0⟩
/-- R484, `HB_LOAD_GO`: 1: image written -/
def HB_LOAD_GO : Fld := ⟨0x5000b0010, 1, 1, 0⟩
/-- R484, `HB_LOAD_LEN`: image bytes -/
def HB_LOAD_LEN : Fld := ⟨0x5000b0014, 0, 32, 0⟩
/-- R484, `HB_ERR_CNT`: BAR accesses with error responses -/
def HB_ERR_CNT : Fld := ⟨0x5000b0020, 0, 32, 0⟩
/-- R484, `HB_WAKE_MERGE_CNT`: collisions (R473) -/
def HB_WAKE_MERGE_CNT : Fld := ⟨0x5000b0024, 0, 32, 0⟩
/-- R484, `HB_LAST_ERR_LO`: address bits [31:0] -/
def HB_LAST_ERR_LO : Fld := ⟨0x5000b0028, 0, 32, 0⟩
/-- R484, `HB_LAST_ERR_HI_ADDR`: bits [47:32] -/
def HB_LAST_ERR_HI_ADDR : Fld := ⟨0x5000b002c, 0, 16, 0⟩
/-- R484, `HB_LAST_ERR_HI_CODE`: matrix code -/
def HB_LAST_ERR_HI_CODE : Fld := ⟨0x5000b002c, 16, 3, 0⟩
/-- R484, `HB_AP_VALID`: aperture a in use; a = 0–15 -/
def HB_AP_VALID (n : Nat) : Fld := ⟨0x5000b0100 + 0x8 * n, 0, 1, (if n < 2 then 1 else 0)⟩
/-- R484, `HB_AP_PEEK`: 1: reads are peek reads -/
def HB_AP_PEEK (n : Nat) : Fld := ⟨0x5000b0100 + 0x8 * n, 1, 1, 0⟩
/-- R484, `HB_AP_BASE_LO`: BASE bits [31:28] -/
def HB_AP_BASE_LO (n : Nat) : Fld := ⟨0x5000b0100 + 0x8 * n, 28, 4, 0⟩
/-- R484, `HB_AP_BASE_HI`: BASE bits [47:32]; [31:16] reserved -/
def HB_AP_BASE_HI (n : Nat) : Fld := ⟨0x5000b0104 + 0x8 * n, 0, 16, (if n = 0 then 1 else if n = 1 then 3 else 0)⟩
/-- R484, `TD_CTRL_HALT`: halt the Triad -/
def TD_CTRL_HALT : Fld := ⟨0x5000b2000, 0, 1, 0⟩
/-- R484, `TD_CTRL_STEP`: one instruction -/
def TD_CTRL_STEP : Fld := ⟨0x5000b2000, 1, 1, 0⟩
/-- R484, `TD_CTRL_RESUME`: resume; [31:3] reserved -/
def TD_CTRL_RESUME : Fld := ⟨0x5000b2000, 2, 1, 0⟩
/-- R484, `TD_STATUS_HALTED`: halted -/
def TD_STATUS_HALTED : Fld := ⟨0x5000b2004, 0, 1, 0⟩
/-- R484, `TD_STATUS_CAUSE`: 0 request, 1 step, 2 BRK -/
def TD_STATUS_CAUSE : Fld := ⟨0x5000b2004, 1, 2, 0⟩
/-- R484, `TD_STATUS_LOCK_BROKEN`: R481; [31:4] reserved -/
def TD_STATUS_LOCK_BROKEN : Fld := ⟨0x5000b2004, 3, 1, 0⟩
/-- R484, `TD_PC`: PC at the halt -/
def TD_PC : Fld := ⟨0x5000b2008, 0, 32, 0⟩
/-- R484, `TD_S`: sr of all three cores, r = 0–31; writable while halted -/
def TD_S (n : Nat) : Fld := ⟨0x5000b2100 + 0x4 * n, 0, 32, 0⟩
/-- R484, `HB_INT_STATUS_LINK_DOWN`: link left L0 without host request -/
def HB_INT_STATUS_LINK_DOWN : Fld := ⟨0x5000b0030, 0, 1, 0⟩
/-- R484, `HB_INT_STATUS_DSTATE`: D-state changed -/
def HB_INT_STATUS_DSTATE : Fld := ⟨0x5000b0030, 1, 1, 0⟩
/-- R484, `HB_INT_STATUS_PERST`: PCIE_PERST_N asserted -/
def HB_INT_STATUS_PERST : Fld := ⟨0x5000b0030, 2, 1, 0⟩
/-- R484, `HB_INT_STATUS_WAKE_MERGED`: R473 -/
def HB_INT_STATUS_WAKE_MERGED : Fld := ⟨0x5000b0030, 3, 1, 0⟩
/-- R484, `HB_INT_STATUS_HOST_ERR`: a BAR access drew an error -/
def HB_INT_STATUS_HOST_ERR : Fld := ⟨0x5000b0030, 4, 1, 0⟩
/-- R484, `HB_INT_EN_LINK_DOWN`: link left L0 without host request -/
def HB_INT_EN_LINK_DOWN : Fld := ⟨0x5000b0034, 0, 1, 1⟩
/-- R484, `HB_INT_EN_DSTATE`: D-state changed -/
def HB_INT_EN_DSTATE : Fld := ⟨0x5000b0034, 1, 1, 0⟩
/-- R484, `HB_INT_EN_PERST`: PCIE_PERST_N asserted -/
def HB_INT_EN_PERST : Fld := ⟨0x5000b0034, 2, 1, 1⟩
/-- R484, `HB_INT_EN_WAKE_MERGED`: R473 -/
def HB_INT_EN_WAKE_MERGED : Fld := ⟨0x5000b0034, 3, 1, 0⟩
/-- R484, `HB_INT_EN_HOST_ERR`: a BAR access drew an error -/
def HB_INT_EN_HOST_ERR : Fld := ⟨0x5000b0034, 4, 1, 1⟩
/-- R485, `DBG_CTRL_HALT`: halt (R480) -/
def DBG_CTRL_HALT (n : Nat) : Fld := ⟨0x200000100 + 0x10000 * n, 0, 1, 0⟩
/-- R485, `DBG_CTRL_STEP`: step -/
def DBG_CTRL_STEP (n : Nat) : Fld := ⟨0x200000100 + 0x10000 * n, 1, 1, 0⟩
/-- R485, `DBG_CTRL_RESUME`: resume (R483) -/
def DBG_CTRL_RESUME (n : Nat) : Fld := ⟨0x200000100 + 0x10000 * n, 2, 1, 0⟩
/-- R485, `DBG_CTRL_ATTACH`: R482; [31:4] reserved -/
def DBG_CTRL_ATTACH (n : Nat) : Fld := ⟨0x200000100 + 0x10000 * n, 3, 1, 0⟩
/-- R485, `DBG_STATUS_HALTED`: halted -/
def DBG_STATUS_HALTED (n : Nat) : Fld := ⟨0x200000104 + 0x10000 * n, 0, 1, 0⟩
/-- R485, `DBG_STATUS_CAUSE`: 0 request, 1 step, 2 BRK, 3 breakpoint -/
def DBG_STATUS_CAUSE (n : Nat) : Fld := ⟨0x200000104 + 0x10000 * n, 1, 2, 0⟩
/-- R485, `DBG_STATUS_LOCK_BROKEN`: R481 -/
def DBG_STATUS_LOCK_BROKEN (n : Nat) : Fld := ⟨0x200000104 + 0x10000 * n, 3, 1, 0⟩
/-- R485, `DBG_STATUS_TICK_PASSED`: a cc 0 passed during the halt; [31:5] reserved -/
def DBG_STATUS_TICK_PASSED (n : Nat) : Fld := ⟨0x200000104 + 0x10000 * n, 4, 1, 0⟩
/-- R485, `DBG_LOCKBRK_CNT`: locks broken by halts -/
def DBG_LOCKBRK_CNT (n : Nat) : Fld := ⟨0x200000108 + 0x10000 * n, 0, 32, 0⟩
/-- R485, `DBG_BP_EN`: breakpoint b = 0–3 enabled; [1] reserved -/
def DBG_BP_EN (n k : Nat) : Fld := ⟨0x200000110 + 0x10000 * n + 0x4 * k, 0, 1, 0⟩
/-- R485, `DBG_BP_ADDR`: instruction address bits [31:2] -/
def DBG_BP_ADDR (n k : Nat) : Fld := ⟨0x200000110 + 0x10000 * n + 0x4 * k, 2, 30, 0⟩
/-- R485, `DBG_S`: sr, r = 0–31; writable while halted; s0 writes ignored -/
def DBG_S (n k : Nat) : Fld := ⟨0x200000200 + 0x10000 * n + 0x4 * k, 0, 32, 0⟩
/-- R485, `DBG_PC`: PC; writable while halted; bits [1:0] must be 0 -/
def DBG_PC (n : Nat) : Fld := ⟨0x200000280 + 0x10000 * n, 0, 32, 0⟩
/-- R486, `TM_SMB_ADDR`: 7-bit target address -/
def TM_SMB_ADDR : Fld := ⟨0x500070000, 0, 7, 92⟩
/-- R486, `TM_SMB_PEC_REQ`: R475 -/
def TM_SMB_PEC_REQ : Fld := ⟨0x500070000, 7, 1, 0⟩
/-- R486, `TM_SMB_EN`: 1: target answers; [31:9] reserved -/
def TM_SMB_EN : Fld := ⟨0x500070000, 8, 1, 1⟩
/-- R486, `TM_SMB_ERR_CNT`: PEC errors, missing PEC and timeouts -/
def TM_SMB_ERR_CNT : Fld := ⟨0x500070004, 0, 32, 0⟩
/-- R504, `PAD_CTRL_GEN_SLEW`: slew of general outputs (R498) -/
def PAD_CTRL_GEN_SLEW : Fld := ⟨0x500068000, 0, 2, 1⟩
/-- R504, `PAD_CTRL_GEN_DRIVE`: 0 4 mA, 1 8 mA, 2 12 mA; 3 refused with an error response -/
def PAD_CTRL_GEN_DRIVE : Fld := ⟨0x500068000, 2, 2, 1⟩
/-- R504, `PAD_CTRL_FL_SLEW`: slew of flash outputs -/
def PAD_CTRL_FL_SLEW : Fld := ⟨0x500068000, 4, 2, 3⟩
/-- R504, `PAD_CTRL_FL_DRIVE`: as GEN_DRIVE, for flash outputs -/
def PAD_CTRL_FL_DRIVE : Fld := ⟨0x500068000, 6, 2, 1⟩
/-- R504, `PAD_CTRL_VERDICT_EN`: 1: LVDS verdict drivers enabled -/
def PAD_CTRL_VERDICT_EN : Fld := ⟨0x500068000, 8, 1, 0⟩
/-- R504, `PAD_CTRL_REF_TERM`: 1: 100 Ω on REFCLK and FSYNC (R492) -/
def PAD_CTRL_REF_TERM : Fld := ⟨0x500068000, 9, 1, 1⟩
/-- R504, `PAD_FILT_TMR_FILT`: N for TMR_IN (R496); 0 acts as 1 -/
def PAD_FILT_TMR_FILT : Fld := ⟨0x500068004, 0, 4, 4⟩
/-- R504, `PAD_FILT_NMI_FILT`: N for NMI_N; 0 acts as 1 -/
def PAD_FILT_NMI_FILT : Fld := ⟨0x500068004, 4, 4, 8⟩
/-- R504, `PAD_FILT_PERST_FILT`: N for PCIE_PERST_N; 0 acts as 1 -/
def PAD_FILT_PERST_FILT : Fld := ⟨0x500068004, 8, 4, 8⟩
/-- R504, `PAD_SSC_MGMT_SSC_EN`: 1: management-clock down-spread (R499) -/
def PAD_SSC_MGMT_SSC_EN : Fld := ⟨0x500068008, 0, 1, 0⟩
/-- R504, `PAD_SSC_ACTIVE`: spread in force -/
def PAD_SSC_ACTIVE : Fld := ⟨0x500068008, 1, 1, 0⟩
/-- R504, `PAD_THERM_ALERT`: alert threshold, signed, 1/8 °C; 100 °C at reset -/
def PAD_THERM_ALERT : Fld := ⟨0x50006800c, 0, 11, 800⟩
/-- R504, `PAD_THERM_ALERT_ST`: the threshold was reached (R501) -/
def PAD_THERM_ALERT_ST : Fld := ⟨0x50006800c, 16, 1, 0⟩
/-- R504, `PAD_THERM_ALERT_EN`: 1: ALERT_ST raises source 37 -/
def PAD_THERM_ALERT_EN : Fld := ⟨0x50006800c, 17, 1, 1⟩
/-- R102, `BM_PHYS`: the physical bank of logical bank n -/
def BM_PHYS (n : Nat) : Fld := ⟨0x500098000 + 0x4 * n, 0, 13, n⟩
/-- R71, `IR_PMAP_ACT_ENT0`: active copy of entry 4n + 0 -/
def IR_PMAP_ACT_ENT0 (n : Nat) : Fld := ⟨0x5000da000 + 0x4 * n, 0, 8, ((4 * n + 0) >>> 7)⟩
/-- R71, `IR_PMAP_ACT_ENT1`: active copy of entry 4n + 1 -/
def IR_PMAP_ACT_ENT1 (n : Nat) : Fld := ⟨0x5000da000 + 0x4 * n, 8, 8, ((4 * n + 1) >>> 7)⟩
/-- R71, `IR_PMAP_ACT_ENT2`: active copy of entry 4n + 2 -/
def IR_PMAP_ACT_ENT2 (n : Nat) : Fld := ⟨0x5000da000 + 0x4 * n, 16, 8, ((4 * n + 2) >>> 7)⟩
/-- R71, `IR_PMAP_ACT_ENT3`: active copy of entry 4n + 3 -/
def IR_PMAP_ACT_ENT3 (n : Nat) : Fld := ⟨0x5000da000 + 0x4 * n, 24, 8, ((4 * n + 3) >>> 7)⟩
/-- R365, `TMR_MC_LO`: management cycles since release of reset -/
def TMR_MC_LO : Fld := ⟨0x500010200, 0, 32, 0⟩
/-- R365, `TMR_MC_HI`: management cycles since release of reset -/
def TMR_MC_HI : Fld := ⟨0x500010204, 0, 32, 0⟩

/-- The register rows of R42 (01_frame_discipline.md). -/
def rowsR42 : List RegRow := [
  ⟨"FT_CTRL", 0x500000000, 0x4, 1, 0x4, 1, 4, 0xa,
    fun _ _ => [(FT_CTRL_LOCK_REQ, .wo), (FT_CTRL_UNLOCK, .wo), (FT_CTRL_EVAL_EN, .rw), (FT_CTRL_RELOCK_EN, .rw)]⟩,
  ⟨"FT_CFG", 0x500000004, 0x4, 1, 0x4, 1, 4, 0x0,
    fun _ _ => [(FT_CFG_F_M1, .rw), (FT_CFG_M, .rw), (FT_CFG_E, .rw)]⟩,
  ⟨"FT_SYNC", 0x500000008, 0x4, 1, 0x4, 1, 4, 0xffffff,
    fun _ _ => [(FT_SYNC_FSYNC_DIV_M1, .rw), (FT_SYNC_LOCK_COUNT, .rw), (FT_SYNC_MISS_LIMIT, .rw)]⟩,
  ⟨"FT_STATUS", 0x50000000c, 0x4, 1, 0x4, 1, 4, 0x0,
    fun _ _ => [(FT_STATUS_STATE, .ro), (FT_STATUS_REFUSE_CODE, .ro), (FT_STATUS_VERDICT_ONLY, .ro)]⟩,
  ⟨"FT_BUDGET", 0x500000010, 0x4, 1, 0x4, 1, 4, 0xffff0000,
    fun _ _ => [(FT_BUDGET_W, .ro), (FT_BUDGET_PROVED_W, .rw)]⟩,
  ⟨"FT_REFMEAS", 0x500000014, 0x4, 1, 0x4, 1, 4, 0x0,
    fun _ _ => [(FT_REFMEAS_REF_KHZ, .ro)]⟩,
  ⟨"FT_LATENCY", 0x500000018, 0x4, 1, 0x4, 1, 4, 0x0,
    fun _ _ => [(FT_LATENCY_CROSSINGS, .ro)]⟩,
  ⟨"FT_FRAME_LO", 0x500000020, 0x4, 1, 0x4, 1, 4, 0x0,
    fun _ _ => [(FT_FRAME_LO, .ro)]⟩,
  ⟨"FT_FRAME_HI", 0x500000024, 0x4, 1, 0x4, 1, 4, 0x0,
    fun _ _ => [(FT_FRAME_HI, .ro)]⟩,
  ⟨"FT_PRESET_LO", 0x500000028, 0x4, 1, 0x4, 1, 4, 0x0,
    fun _ _ => [(FT_PRESET_LO, .rw)]⟩,
  ⟨"FT_PRESET_HI", 0x50000002c, 0x4, 1, 0x4, 1, 4, 0x0,
    fun _ _ => [(FT_PRESET_HI, .rw)]⟩,
  ⟨"FT_LATE_LO", 0x500000030, 0x4, 1, 0x4, 1, 4, 0x0,
    fun _ _ => [(FT_LATE_LO, .ro)]⟩,
  ⟨"FT_LATE_HI", 0x500000034, 0x4, 1, 0x4, 1, 4, 0x0,
    fun _ _ => [(FT_LATE_HI, .ro)]⟩,
  ⟨"MIN_SLACK", 0x500000038, 0x4, 1, 0x4, 1, 4, 0xffff,
    fun _ _ => [(MIN_SLACK, .rc)]⟩,
  ⟨"FT_OVERRUN_CNT", 0x50000003c, 0x4, 1, 0x4, 1, 4, 0x0,
    fun _ _ => [(FT_OVERRUN_CNT, .rc)]⟩,
  ⟨"FT_SYNC_ERR_CNT", 0x500000040, 0x4, 1, 0x4, 1, 4, 0x0,
    fun _ _ => [(FT_SYNC_ERR_CNT, .rc)]⟩,
  ⟨"FT_DEFAULT_CNT", 0x500000044, 0x4, 1, 0x4, 1, 4, 0x0,
    fun _ _ => [(FT_DEFAULT_CNT, .rc)]⟩,
  ⟨"FT_INT_STATUS", 0x500000050, 0x4, 1, 0x4, 1, 4, 0x0,
    fun _ _ => [(FT_INT_STATUS_OVERRUN, .w1c), (FT_INT_STATUS_SYNC_MISS, .w1c), (FT_INT_STATUS_SYNC_LOST, .w1c), (FT_INT_STATUS_REF_LOSS, .w1c), (FT_INT_STATUS_LOCKED, .w1c), (FT_INT_STATUS_REFUSED, .w1c)]⟩,
  ⟨"FT_INT_EN", 0x500000054, 0x4, 1, 0x4, 1, 4, 0x0,
    fun _ _ => [(FT_INT_EN_OVERRUN, .rw), (FT_INT_EN_SYNC_MISS, .rw), (FT_INT_EN_SYNC_LOST, .rw), (FT_INT_EN_REF_LOSS, .rw), (FT_INT_EN_LOCKED, .rw), (FT_INT_EN_REFUSED, .rw)]⟩]

/-- The register rows of R70 (02_hit_ingress.md). -/
def rowsR70 : List RegRow := [
  ⟨"IR_CTRL", 0x5000d0000, 0x4, 1, 0x4, 1, 4, 0x6,
    fun _ _ => [(IR_CTRL_ENABLE, .rw), (IR_CTRL_EARLY_EN, .rw), (IR_CTRL_SEQ_CHECK, .rw)]⟩,
  ⟨"IR_BUF_CFG", 0x5000d0004, 0x4, 1, 0x4, 1, 4, 0x0,
    fun _ _ => [(IR_BUF_CFG_SLOTS_LOG2, .rw)]⟩,
  ⟨"IR_STATUS", 0x5000d0008, 0x4, 1, 0x4, 1, 4, 0x0,
    fun _ _ => [(IR_STATUS_COLL_BUF, .ro), (IR_STATUS_CFG_ERR, .w1c), (IR_STATUS_WEIGHT_ZERO, .ro)]⟩,
  ⟨"IR_BUF_BASE_A", 0x5000d0010, 0x4, 1, 0x4, 1, 4, 0x0,
    fun _ _ => [(IR_BUF_BASE_A, .rw)]⟩,
  ⟨"IR_BUF_BASE_B", 0x5000d0014, 0x4, 1, 0x4, 1, 4, 0x0,
    fun _ _ => [(IR_BUF_BASE_B, .rw)]⟩,
  ⟨"IR_BUF_BASE_C", 0x5000d0018, 0x4, 1, 0x4, 1, 4, 0x0,
    fun _ _ => [(IR_BUF_BASE_C, .rw)]⟩,
  ⟨"IR_BUF_BASE_D", 0x5000d001c, 0x4, 1, 0x4, 1, 4, 0x0,
    fun _ _ => [(IR_BUF_BASE_D, .rw)]⟩,
  ⟨"IR_EVAL_BASE", 0x5000d0020, 0x4, 1, 0x4, 1, 4, 0x0,
    fun _ _ => [(IR_EVAL_BASE, .ro)]⟩,
  ⟨"IR_WEIGHT", 0x5000d0040, 0x4, 16, 0x4, 1, 4, 0x0,
    fun n _ => [(IR_WEIGHT_W0 n, .rw), (IR_WEIGHT_W1 n, .rw), (IR_WEIGHT_W2 n, .rw), (IR_WEIGHT_W3 n, .rw)]⟩,
  ⟨"IR_CRC_ERR_CNT", 0x5000d0080, 0x4, 1, 0x4, 1, 4, 0x0,
    fun _ _ => [(IR_CRC_ERR_CNT, .rc)]⟩,
  ⟨"IR_FMT_ERR_CNT", 0x5000d0084, 0x4, 1, 0x4, 1, 4, 0x0,
    fun _ _ => [(IR_FMT_ERR_CNT, .rc)]⟩,
  ⟨"IR_LATE_CNT", 0x5000d0088, 0x4, 1, 0x4, 1, 4, 0x0,
    fun _ _ => [(IR_LATE_CNT, .rc)]⟩,
  ⟨"IR_MISNUM_CNT", 0x5000d008c, 0x4, 1, 0x4, 1, 4, 0x0,
    fun _ _ => [(IR_MISNUM_CNT, .rc)]⟩,
  ⟨"IR_OVF_CNT", 0x5000d0090, 0x4, 1, 0x4, 1, 4, 0x0,
    fun _ _ => [(IR_OVF_CNT, .rc)]⟩,
  ⟨"IR_UNMAP_CNT", 0x5000d0094, 0x4, 1, 0x4, 1, 4, 0x0,
    fun _ _ => [(IR_UNMAP_CNT, .rc)]⟩,
  ⟨"IR_NOLOCK_CNT", 0x5000d0098, 0x4, 1, 0x4, 1, 4, 0x0,
    fun _ _ => [(IR_NOLOCK_CNT, .rc)]⟩,
  ⟨"IR_SEQ_GAP_CNT", 0x5000d009c, 0x4, 1, 0x4, 1, 4, 0xffffffff,
    fun _ _ => [(IR_SEQ_GAP_CNT, .rc)]⟩,
  ⟨"IR_QFULL_CNT", 0x5000d00a0, 0x4, 1, 0x4, 1, 4, 0x0,
    fun _ _ => [(IR_QFULL_CNT, .rc)]⟩,
  ⟨"IR_LAST_ERR", 0x5000d00a4, 0x4, 1, 0x4, 1, 4, 0x7f,
    fun _ _ => [(IR_LAST_ERR, .ro)]⟩,
  ⟨"IR_INT_STATUS", 0x5000d00c0, 0x4, 1, 0x4, 1, 4, 0x18,
    fun _ _ => [(IR_INT_STATUS_CRC_ERR, .w1c), (IR_INT_STATUS_FMT_ERR, .w1c), (IR_INT_STATUS_OVERFLOW, .w1c), (IR_INT_STATUS_LATE_HIT, .w1c), (IR_INT_STATUS_SEQ_GAP, .w1c), (IR_INT_STATUS_QFULL, .w1c)]⟩,
  ⟨"IR_INT_EN", 0x5000d00c4, 0x4, 1, 0x4, 1, 4, 0x18,
    fun _ _ => [(IR_INT_EN_CRC_ERR, .rw), (IR_INT_EN_FMT_ERR, .rw), (IR_INT_EN_OVERFLOW, .rw), (IR_INT_EN_LATE_HIT, .rw), (IR_INT_EN_SEQ_GAP, .rw), (IR_INT_EN_QFULL, .rw)]⟩,
  ⟨"IR_PMAP", 0x5000d8000, 0x4, 2048, 0x4, 1, 4, 0x0,
    fun n _ => [(IR_PMAP_ENT0 n, .rw), (IR_PMAP_ENT1 n, .rw), (IR_PMAP_ENT2 n, .rw), (IR_PMAP_ENT3 n, .rw)]⟩]

/-- The register rows of R101 (03_interleaved_store.md). -/
def rowsR101 : List RegRow := [
  ⟨"ST_CTRL", 0x500090000, 0x4, 1, 0x4, 1, 4, 0xc,
    fun _ _ => [(ST_CTRL_SCRUB_EN, .rw), (ST_CTRL_ROT_EN, .rw), (ST_CTRL_ECC_WB_EN, .rw), (ST_CTRL_ROT_TEST, .rw)]⟩,
  ⟨"ST_STATUS", 0x500090004, 0x4, 1, 0x4, 1, 4, 0x0,
    fun _ _ => [(ST_STATUS_SPARE_PHYS, .ro), (ST_STATUS_NO_SPARE, .ro), (ST_STATUS_ROT_PHASE, .ro), (ST_STATUS_SCRUB_LATE, .w1c)]⟩,
  ⟨"ST_SCRUB_CFG", 0x500090008, 0x4, 1, 0x4, 1, 4, 0x0,
    fun _ _ => [(ST_SCRUB_CFG_PERIOD_MS, .rw)]⟩,
  ⟨"ST_ROT_CFG", 0x50009000c, 0x4, 1, 0x4, 1, 4, 0x0,
    fun _ _ => [(ST_ROT_CFG_STEP_MS, .rw)]⟩,
  ⟨"ST_ROT_CMD", 0x500090010, 0x4, 1, 0x4, 1, 4, 0x7fff,
    fun _ _ => [(ST_ROT_CMD_TARGET_LOG, .wo), (ST_ROT_CMD_TARGETED, .wo), (ST_ROT_CMD_GO, .wo)]⟩,
  ⟨"ST_ROT_STATUS", 0x500090014, 0x4, 1, 0x4, 1, 4, 0x1ffffff,
    fun _ _ => [(ST_ROT_STATUS_SRC_PHYS, .ro), (ST_ROT_STATUS_COPY_ROW, .ro)]⟩,
  ⟨"ST_ROT_COUNT", 0x500090018, 0x4, 1, 0x4, 1, 4, 0x0,
    fun _ _ => [(ST_ROT_COUNT, .ro)]⟩,
  ⟨"ST_RETIRED", 0x50009001c, 0x4, 1, 0x4, 1, 4, 0x0,
    fun _ _ => [(ST_RETIRED_PHYS, .ro), (ST_RETIRED_VALID, .ro)]⟩,
  ⟨"ST_CE_CNT", 0x500090020, 0x4, 1, 0x4, 1, 4, 0x0,
    fun _ _ => [(ST_CE_CNT, .rc)]⟩,
  ⟨"ST_UE_CNT", 0x500090024, 0x4, 1, 0x4, 1, 4, 0x0,
    fun _ _ => [(ST_UE_CNT, .rc)]⟩,
  ⟨"ST_ADDR_ERR_CNT", 0x500090028, 0x4, 1, 0x4, 1, 4, 0xffffffff,
    fun _ _ => [(ST_ADDR_ERR_CNT, .rc)]⟩,
  ⟨"ST_LAST_UE_ADDR", 0x50009002c, 0x4, 1, 0x4, 1, 4, 0x0,
    fun _ _ => [(ST_LAST_UE_ADDR, .ro)]⟩,
  ⟨"ST_LAST_UE", 0x500090030, 0x4, 1, 0x4, 1, 4, 0xff,
    fun _ _ => [(ST_LAST_UE_SRC, .ro), (ST_LAST_UE_HALF, .ro)]⟩,
  ⟨"ST_RES_FAIL_CNT", 0x500090034, 0x4, 1, 0x4, 1, 4, 0xffffffff,
    fun _ _ => [(ST_RES_FAIL_CNT, .rc)]⟩,
  ⟨"ST_INT_STATUS", 0x500090040, 0x4, 1, 0x4, 1, 4, 0x8,
    fun _ _ => [(ST_INT_STATUS_UE, .w1c), (ST_INT_STATUS_ADDR_ERR, .w1c), (ST_INT_STATUS_SCRUB_LATE, .w1c), (ST_INT_STATUS_ROT_DONE, .w1c), (ST_INT_STATUS_ROT_FAIL, .w1c), (ST_INT_STATUS_NO_SPARE, .w1c)]⟩,
  ⟨"ST_INT_EN", 0x500090044, 0x4, 1, 0x4, 1, 4, 0x8,
    fun _ _ => [(ST_INT_EN_UE, .rw), (ST_INT_EN_ADDR_ERR, .rw), (ST_INT_EN_SCRUB_LATE, .rw), (ST_INT_EN_ROT_DONE, .rw), (ST_INT_EN_ROT_FAIL, .rw), (ST_INT_EN_NO_SPARE, .rw)]⟩,
  ⟨"ST_SCRUB", 0x500091000, 0x4, 128, 0x4, 1, 4, 0x3ffff,
    fun n _ => [(ST_SCRUB_ROW n, .ro), (ST_SCRUB_BANK n, .ro)]⟩,
  ⟨"GRP_CE_CNT", 0x500091200, 0x4, 128, 0x4, 1, 4, 0xffffffff,
    fun n _ => [(GRP_CE_CNT n, .rc)]⟩]

/-- The register rows of R129 (04_vector_engines.md). -/
def rowsR129 : List RegRow := [
  ⟨"EM_CTRL", 0x500001000, 0x4, 1, 0x4, 1, 4, 0x2,
    fun _ _ => [(EM_CTRL_AUTO_MIG, .rw), (EM_CTRL_COLD_EN, .rw)]⟩,
  ⟨"EM_CMD", 0x500001004, 0x4, 1, 0x4, 1, 4, 0xfff3f,
    fun _ _ => [(EM_CMD_SLOT, .wo), (EM_CMD_VE, .wo), (EM_CMD_ANY, .wo), (EM_CMD_OP, .wo)]⟩,
  ⟨"EM_STATUS", 0x500001008, 0x4, 1, 0x4, 1, 4, 0xff00,
    fun _ _ => [(EM_STATUS_SPARES, .ro), (EM_STATUS_MIG_PENDING, .ro), (EM_STATUS_LAST_SLOT, .ro), (EM_STATUS_LAST_RESULT, .ro)]⟩,
  ⟨"EM_MIG_CNT", 0x500001010, 0x4, 1, 0x4, 1, 4, 0x0,
    fun _ _ => [(EM_MIG_CNT, .rc)]⟩,
  ⟨"EM_RESTORE_CNT", 0x500001014, 0x4, 1, 0x4, 1, 4, 0x0,
    fun _ _ => [(EM_RESTORE_CNT, .rc)]⟩,
  ⟨"EM_COLD_CNT", 0x500001018, 0x4, 1, 0x4, 1, 4, 0x0,
    fun _ _ => [(EM_COLD_CNT, .rc)]⟩,
  ⟨"EM_CHK_BASE", 0x500001030, 0x4, 1, 0x4, 1, 4, 0x0,
    fun _ _ => [(EM_CHK_BASE, .rw)]⟩,
  ⟨"EM_CAPSET_OFF", 0x500001034, 0x4, 1, 0x4, 1, 4, 0x1fffff,
    fun _ _ => [(EM_CAPSET_OFF, .rw)]⟩,
  ⟨"EM_INT_STATUS", 0x500001020, 0x4, 1, 0x4, 1, 4, 0x1,
    fun _ _ => [(EM_INT_STATUS_MIG_DONE, .w1c), (EM_INT_STATUS_RESTORED, .w1c), (EM_INT_STATUS_COLD, .w1c), (EM_INT_STATUS_NO_SPARE, .w1c)]⟩,
  ⟨"EM_INT_EN", 0x500001024, 0x4, 1, 0x4, 1, 4, 0x1,
    fun _ _ => [(EM_INT_EN_MIG_DONE, .rw), (EM_INT_EN_RESTORED, .rw), (EM_INT_EN_COLD, .rw), (EM_INT_EN_NO_SPARE, .rw)]⟩,
  ⟨"EM_MAP", 0x500001100, 0x4, 64, 0x4, 1, 4, 0xff,
    fun n _ => [(EM_MAP_VE n, .rw), (EM_MAP_VALID n, .rw)]⟩,
  ⟨"EM_ENTRY", 0x500001200, 0x4, 64, 0x4, 1, 4, 0x0,
    fun n _ => [(EM_ENTRY n, .rw)]⟩,
  ⟨"EM_LEAN_ENTRY", 0x500001300, 0x4, 64, 0x4, 1, 4, 0x0,
    fun n _ => [(EM_LEAN_ENTRY n, .rw)]⟩,
  ⟨"EM_VE_STATE", 0x500001400, 0x4, 68, 0x4, 1, 4, 0x0,
    fun n _ => [(EM_VE_STATE_STATE n, .ro)]⟩]

/-- The register rows of R130 (04_vector_engines.md). -/
def rowsR130 : List RegRow := [
  ⟨"VE_STATUS", 0x200000000, 0x10000, 68, 0x10000, 1, 4, 0x0,
    fun n _ => [(VE_STATUS_STATE n, .ro), (VE_STATUS_SLOT n, .ro), (VE_STATUS_RUNNING n, .ro), (VE_STATUS_FENDED n, .ro), (VE_STATUS_LATE n, .ro), (VE_STATUS_FAULTED n, .ro)]⟩,
  ⟨"VE_FEND_CC", 0x200000004, 0x10000, 68, 0x10000, 1, 4, 0xffff,
    fun n _ => [(VE_FEND_CC n, .ro)]⟩,
  ⟨"VE_VL", 0x200000008, 0x10000, 68, 0x10000, 1, 4, 0xffffffff,
    fun n _ => [(VE_VL n, .ro)]⟩,
  ⟨"VE_SAT", 0x20000000c, 0x10000, 68, 0x10000, 1, 4, 0x1ffff,
    fun n _ => [(VE_SAT n, .ro)]⟩,
  ⟨"VE_MASK_CE_CNT", 0x200000010, 0x10000, 68, 0x10000, 1, 4, 0xffffffff,
    fun n _ => [(VE_MASK_CE_CNT n, .rc)]⟩,
  ⟨"VE_STATE_UE_CNT", 0x200000014, 0x10000, 68, 0x10000, 1, 4, 0x0,
    fun n _ => [(VE_STATE_UE_CNT n, .rc)]⟩,
  ⟨"VE_CHK_FRAME_LO", 0x200000018, 0x10000, 68, 0x10000, 1, 4, 0xffffffff,
    fun n _ => [(VE_CHK_FRAME_LO n, .ro)]⟩,
  ⟨"VE_CHK_FRAME_HI", 0x20000001c, 0x10000, 68, 0x10000, 1, 4, 0xffffffff,
    fun n _ => [(VE_CHK_FRAME_HI n, .ro)]⟩,
  ⟨"VE_CTRL", 0x200000020, 0x10000, 68, 0x10000, 1, 4, 0x1,
    fun n _ => [(VE_CTRL_SRESET n, .wo)]⟩]

/-- The register rows of R186 (06_vector_memory_operations.md). -/
def rowsR186 : List RegRow := [
  ⟨"VE_OOB_CNT", 0x200000030, 0x10000, 68, 0x10000, 1, 4, 0xffffffff,
    fun n _ => [(VE_OOB_CNT n, .rc)]⟩,
  ⟨"VE_LAST_OOB_IDX", 0x200000034, 0x10000, 68, 0x10000, 1, 4, 0xffffffff,
    fun n _ => [(VE_LAST_OOB_IDX n, .ro)]⟩,
  ⟨"VE_CSAT_CNT", 0x200000038, 0x10000, 68, 0x10000, 1, 4, 0xffffffff,
    fun n _ => [(VE_CSAT_CNT n, .rc)]⟩,
  ⟨"VE_DEFER_UE_CNT", 0x20000003c, 0x10000, 68, 0x10000, 1, 4, 0x0,
    fun n _ => [(VE_DEFER_UE_CNT n, .rc)]⟩]

/-- The register rows of R202 (07_vector_faults_and_restart.md). -/
def rowsR202 : List RegRow := [
  ⟨"VE_VFAULT", 0x200000040, 0x10000, 68, 0x10000, 1, 4, 0x7f0,
    fun n _ => [(VE_VFAULT_CAUSE n, .ro), (VE_VFAULT_INSN n, .ro), (VE_VFAULT_OVERLAP n, .ro), (VE_VFAULT_ATTEMPT n, .ro), (VE_VFAULT_PENDING n, .ro)]⟩,
  ⟨"VE_VFADDR", 0x200000044, 0x10000, 68, 0x10000, 1, 4, 0xffffffff,
    fun n _ => [(VE_VFADDR n, .ro)]⟩,
  ⟨"VE_VFELEM", 0x200000048, 0x10000, 68, 0x10000, 1, 4, 0xffff,
    fun n _ => [(VE_VFELEM n, .ro)]⟩,
  ⟨"VE_VFCTL", 0x20000004c, 0x10000, 68, 0x10000, 1, 4, 0x3,
    fun n _ => [(VE_VFCTL_ACTION n, .rw)]⟩,
  ⟨"VE_FAULT_CNT", 0x200000050, 0x10000, 68, 0x10000, 1, 4, 0x0,
    fun n _ => [(VE_FAULT_CNT n, .rc)]⟩,
  ⟨"VE_OVL_CNT", 0x200000054, 0x10000, 68, 0x10000, 1, 4, 0xffffffff,
    fun n _ => [(VE_OVL_CNT n, .rc)]⟩,
  ⟨"VE_RESTART_CNT", 0x200000058, 0x10000, 68, 0x10000, 1, 4, 0xffffffff,
    fun n _ => [(VE_RESTART_CNT n, .rc)]⟩]

/-- The register rows of R222 (08_channel_table.md). -/
def rowsR222 : List RegRow := [
  ⟨"CT_CTRL", 0x500092000, 0x4, 1, 0x4, 1, 4, 0x0,
    fun _ _ => [(CT_CTRL_SWEEP_EN, .rw), (CT_CTRL_FENCE, .rw), (CT_CTRL_AUTO_ORPHAN, .rw), (CT_CTRL_AUTO_REINSTATE, .rw), (CT_CTRL_LOADER_EN, .rw)]⟩,
  ⟨"CT_BASE", 0x500092004, 0x4, 1, 0x4, 1, 4, 0x0,
    fun _ _ => [(CT_BASE, .rw)]⟩,
  ⟨"CT_SIZE", 0x500092008, 0x4, 1, 0x4, 1, 4, 0x0,
    fun _ _ => [(CT_SIZE_COUNT_K, .rw)]⟩,
  ⟨"CT_SWEEP", 0x50009200c, 0x4, 1, 0x4, 1, 4, 0xf0000,
    fun _ _ => [(CT_SWEEP_PERIOD_MS, .rw), (CT_SWEEP_STRIKE_LIMIT, .rw)]⟩,
  ⟨"CT_LIMIT", 0x500092010, 0x4, 1, 0x4, 1, 4, 0xffffffff,
    fun _ _ => [(CT_LIMIT_MEAN_LIMIT, .rw), (CT_LIMIT_VAR_LIMIT, .rw)]⟩,
  ⟨"CT_CAP", 0x500092014, 0x4, 1, 0x4, 1, 4, 0xffffff,
    fun _ _ => [(CT_CAP_RETIRE_CAP, .rw)]⟩,
  ⟨"CT_LOADER", 0x500092018, 0x4, 1, 0x4, 1, 4, 0x0,
    fun _ _ => [(CT_LOADER_QUEUE, .rw)]⟩,
  ⟨"CT_CMD_FIRST", 0x50009201c, 0x4, 1, 0x4, 1, 4, 0x7fffff,
    fun _ _ => [(CT_CMD_FIRST_FIRST, .wo)]⟩,
  ⟨"CT_CMD", 0x500092020, 0x4, 1, 0x4, 1, 4, 0xffffff,
    fun _ _ => [(CT_CMD_LAST, .wo), (CT_CMD_GO, .wo)]⟩,
  ⟨"CT_STATUS", 0x500092024, 0x4, 1, 0x4, 1, 4, 0x30,
    fun _ _ => [(CT_STATUS_SWEEP_LATE, .w1c), (CT_STATUS_CAPPED, .w1c), (CT_STATUS_CFG_ERR, .ro), (CT_STATUS_RANGE_ERR, .ro), (CT_STATUS_CMD_BUSY, .ro), (CT_STATUS_MARK_BUSY, .ro)]⟩,
  ⟨"CT_NOISY_CNT", 0x500092030, 0x4, 1, 0x4, 1, 4, 0x0,
    fun _ _ => [(CT_NOISY_CNT, .rc)]⟩,
  ⟨"CT_ORPHAN_CNT", 0x500092034, 0x4, 1, 0x4, 1, 4, 0x0,
    fun _ _ => [(CT_ORPHAN_CNT, .rc)]⟩,
  ⟨"CT_REINST_CNT", 0x500092038, 0x4, 1, 0x4, 1, 4, 0x0,
    fun _ _ => [(CT_REINST_CNT, .rc)]⟩,
  ⟨"CT_LOAD_CNT", 0x50009203c, 0x4, 1, 0x4, 1, 4, 0x0,
    fun _ _ => [(CT_LOAD_CNT, .rc)]⟩,
  ⟨"CT_LOAD_REJ_CNT", 0x500092040, 0x4, 1, 0x4, 1, 4, 0x0,
    fun _ _ => [(CT_LOAD_REJ_CNT, .rc)]⟩,
  ⟨"CT_UE_SKIP_CNT", 0x500092044, 0x4, 1, 0x4, 1, 4, 0x0,
    fun _ _ => [(CT_UE_SKIP_CNT, .rc)]⟩,
  ⟨"CT_SWEEP_CNT", 0x500092048, 0x4, 1, 0x4, 1, 4, 0x0,
    fun _ _ => [(CT_SWEEP_CNT, .ro)]⟩,
  ⟨"CT_LAST_RETIRED", 0x50009204c, 0x4, 1, 0x4, 1, 4, 0x0,
    fun _ _ => [(CT_LAST_RETIRED_CHANNEL, .ro), (CT_LAST_RETIRED_VALID, .ro)]⟩,
  ⟨"CT_LAST_REJ", 0x500092050, 0x4, 1, 0x4, 1, 4, 0x7fffff,
    fun _ _ => [(CT_LAST_REJ, .ro)]⟩,
  ⟨"CT_INT_STATUS", 0x500092060, 0x4, 1, 0x4, 1, 4, 0x60,
    fun _ _ => [(CT_INT_STATUS_NOISY, .w1c), (CT_INT_STATUS_ORPHAN, .w1c), (CT_INT_STATUS_CAPPED, .w1c), (CT_INT_STATUS_SWEEP_LATE, .w1c), (CT_INT_STATUS_LOAD_REJ, .w1c), (CT_INT_STATUS_CMD_DONE, .w1c), (CT_INT_STATUS_REINSTATED, .w1c)]⟩,
  ⟨"CT_INT_EN", 0x500092064, 0x4, 1, 0x4, 1, 4, 0x60,
    fun _ _ => [(CT_INT_EN_NOISY, .rw), (CT_INT_EN_ORPHAN, .rw), (CT_INT_EN_CAPPED, .rw), (CT_INT_EN_SWEEP_LATE, .rw), (CT_INT_EN_LOAD_REJ, .rw), (CT_INT_EN_CMD_DONE, .rw), (CT_INT_EN_REINSTATED, .rw)]⟩,
  ⟨"CT_RANGE_LO", 0x500093000, 0x8, 512, 0x8, 1, 4, 0x0,
    fun n _ => [(CT_RANGE_FIRST n, .rw), (CT_RANGE_LANE n, .rw), (CT_RANGE_VALID n, .rw)]⟩,
  ⟨"CT_RANGE_HI", 0x500093004, 0x8, 512, 0x8, 1, 4, 0x0,
    fun n _ => [(CT_RANGE_LAST n, .rw)]⟩]

/-- The register rows of R232 (09_hardware_queues.md). -/
def rowsR232 : List RegRow := [
  ⟨"VE_QCOUNT_L0", 0x200000060, 0x10000, 68, 0x10000, 1, 4, 0x0,
    fun n _ => [(VE_QCOUNT_L0 n, .ro)]⟩,
  ⟨"VE_QCOUNT_L1", 0x200000064, 0x10000, 68, 0x10000, 1, 4, 0x0,
    fun n _ => [(VE_QCOUNT_L1 n, .ro)]⟩,
  ⟨"VE_QCOUNT_S", 0x200000068, 0x10000, 68, 0x10000, 1, 4, 0x0,
    fun n _ => [(VE_QCOUNT_S n, .ro)]⟩]

/-- The register rows of R242 (09_hardware_queues.md). -/
def rowsR242 : List RegRow := [
  ⟨"Q_BASE", 0x300000000, 0x40, 8192, 0x40, 1, 4, 0x0,
    fun n _ => [(Q_BASE n, .rw)]⟩,
  ⟨"Q_CFG", 0x300000004, 0x40, 8192, 0x40, 1, 4, 0x0,
    fun n _ => [(Q_CFG_ENABLE n, .rw), (Q_CFG_SIZE_LOG2 n, .rw), (Q_CFG_ITEM_WORDS n, .rw), (Q_CFG_INT_EN n, .rw)]⟩,
  ⟨"Q_HEAD", 0x300000008, 0x40, 8192, 0x40, 1, 4, 0x3fffff,
    fun n _ => [(Q_HEAD n, .ro)]⟩,
  ⟨"Q_TAIL", 0x30000000c, 0x40, 8192, 0x40, 1, 4, 0x3fffff,
    fun n _ => [(Q_TAIL n, .ro)]⟩,
  ⟨"Q_STATUS", 0x300000010, 0x40, 8192, 0x40, 1, 4, 0x60,
    fun n _ => [(Q_STATUS_EMPTY n, .ro), (Q_STATUS_FULL n, .ro), (Q_STATUS_TORN n, .w1c), (Q_STATUS_DROP n, .w1c), (Q_STATUS_SHORT n, .w1c), (Q_STATUS_WM n, .w1c), (Q_STATUS_OPEN n, .ro), (Q_STATUS_CFG_ERR n, .w1c)]⟩,
  ⟨"Q_ITEMS", 0x300000014, 0x40, 8192, 0x40, 1, 4, 0x0,
    fun n _ => [(Q_ITEMS n, .ro)]⟩,
  ⟨"Q_DROP_CNT", 0x300000018, 0x40, 8192, 0x40, 1, 4, 0x0,
    fun n _ => [(Q_DROP_CNT n, .rc)]⟩,
  ⟨"Q_SHORT_CNT", 0x30000001c, 0x40, 8192, 0x40, 1, 4, 0xffffffff,
    fun n _ => [(Q_SHORT_CNT n, .rc)]⟩,
  ⟨"Q_PUSH_LEN", 0x300000020, 0x40, 8192, 0x40, 1, 4, 0x0,
    fun n _ => [(Q_PUSH_LEN n, .wo)]⟩,
  ⟨"Q_CMD", 0x300000024, 0x40, 8192, 0x40, 1, 4, 0x0,
    fun n _ => [(Q_CMD_FLUSH n, .wo), (Q_CMD_POP n, .wo)]⟩,
  ⟨"Q_PUSH_DATA", 0x300000028, 0x40, 8192, 0x40, 1, 8, 0x0,
    fun n _ => [(Q_PUSH_DATA n, .wo)]⟩,
  ⟨"Q_POP_HDR", 0x300000030, 0x40, 8192, 0x40, 1, 8, 0x0,
    fun n _ => [(Q_POP_HDR n, .ro)]⟩,
  ⟨"Q_WATERMARK", 0x300000038, 0x40, 8192, 0x40, 1, 4, 0x1fffff,
    fun n _ => [(Q_WATERMARK n, .rw)]⟩,
  ⟨"Q_TORN_CNT", 0x30000003c, 0x40, 8192, 0x40, 1, 4, 0xffffffff,
    fun n _ => [(Q_TORN_CNT n, .rc)]⟩]

/-- The register rows of R243 (09_hardware_queues.md). -/
def rowsR243 : List RegRow := [
  ⟨"QF_SUM", 0x500094000, 0x4, 8, 0x4, 1, 4, 0x0,
    fun n _ => [(QF_SUM n, .ro)]⟩,
  ⟨"QF_PEND", 0x500094400, 0x4, 256, 0x4, 1, 4, 0x0,
    fun n _ => [(QF_PEND n, .w1c)]⟩]

/-- The register rows of R260 (10_verdicts_and_readout.md). -/
def rowsR260 : List RegRow := [
  ⟨"VU_CTRL", 0x5000c0000, 0x4, 1, 0x4, 1, 4, 0x0,
    fun _ _ => [(VU_CTRL_PIN_EN, .rw), (VU_CTRL_SIL_EN, .rw)]⟩,
  ⟨"VU_DEFAULT", 0x5000c0004, 0x4, 1, 0x4, 1, 4, 0x0,
    fun _ _ => [(VU_DEFAULT, .rw)]⟩,
  ⟨"VU_COMBINE", 0x5000c0008, 0x4, 1, 0x4, 1, 4, 0x0,
    fun _ _ => [(VU_COMBINE, .rw)]⟩,
  ⟨"VU_PV_BASE", 0x5000c0010, 0x4, 1, 0x4, 1, 4, 0x0,
    fun _ _ => [(VU_PV_BASE, .rw)]⟩,
  ⟨"VU_SIL_BASE", 0x5000c0014, 0x4, 1, 0x4, 1, 4, 0x0,
    fun _ _ => [(VU_SIL_BASE, .rw)]⟩,
  ⟨"VU_LANE_CFG", 0x5000c0018, 0x4, 1, 0x4, 1, 4, 0x70000,
    fun _ _ => [(VU_LANE_CFG_SOURCE, .rw), (VU_LANE_CFG_VC, .rw)]⟩,
  ⟨"VU_VQ_EN_LO", 0x5000c0020, 0x4, 1, 0x4, 1, 4, 0x0,
    fun _ _ => [(VU_VQ_EN_LO, .rw)]⟩,
  ⟨"VU_VQ_EN_HI", 0x5000c0024, 0x4, 1, 0x4, 1, 4, 0x0,
    fun _ _ => [(VU_VQ_EN_HI, .rw)]⟩,
  ⟨"VU_LANE_EN", 0x5000c0030, 0x4, 4, 0x4, 1, 4, 0x0,
    fun n _ => [(VU_LANE_EN n, .rw)]⟩,
  ⟨"VU_SIL_CFG", 0x5000c0040, 0x4, 1, 0x4, 1, 4, 0xf,
    fun _ _ => [(VU_SIL_CFG_FREEZE_ON, .rw), (VU_SIL_CFG_FREEZE, .wo)]⟩,
  ⟨"VU_STATUS", 0x5000c0044, 0x4, 1, 0x4, 1, 4, 0x0,
    fun _ _ => [(VU_STATUS_FROZEN, .w1c), (VU_STATUS_CFG_ERR, .ro)]⟩,
  ⟨"VU_LANE_DROP_CNT", 0x5000c0048, 0x4, 1, 0x4, 1, 4, 0x0,
    fun _ _ => [(VU_LANE_DROP_CNT, .rc)]⟩,
  ⟨"VU_SLOTS", 0x5000c0100, 0x8, 16, 0x8, 1, 8, 0x0,
    fun n _ => [(VU_SLOTS n, .rw)]⟩,
  ⟨"VU_INT_STATUS", 0x5000c0060, 0x4, 1, 0x4, 1, 4, 0x0,
    fun _ _ => [(VU_INT_STATUS_FROZEN, .w1c), (VU_INT_STATUS_CFG_ERR, .w1c), (VU_INT_STATUS_RD_HALT, .w1c)]⟩,
  ⟨"VU_INT_EN", 0x5000c0064, 0x4, 1, 0x4, 1, 4, 0x0,
    fun _ _ => [(VU_INT_EN_FROZEN, .rw), (VU_INT_EN_CFG_ERR, .rw), (VU_INT_EN_RD_HALT, .rw)]⟩,
  ⟨"RD_CFG", 0x5000c1000, 0x40, 16, 0x40, 1, 4, 0x1c00000,
    fun n _ => [(RD_CFG_ENABLE n, .rw), (RD_CFG_DEST n, .rw), (RD_CFG_QUEUE n, .rw), (RD_CFG_LANE n, .rw), (RD_CFG_VC n, .rw)]⟩,
  ⟨"RD_TYPE", 0x5000c1004, 0x40, 16, 0x40, 1, 4, 0x3f00,
    fun n _ => [(RD_TYPE_TYPE n, .rw), (RD_TYPE_VECTOR n, .rw)]⟩,
  ⟨"RD_STATUS", 0x5000c1008, 0x40, 16, 0x40, 1, 4, 0x4,
    fun n _ => [(RD_STATUS_HALTED n, .ro), (RD_STATUS_PAUSED n, .ro), (RD_STATUS_WAITING n, .ro)]⟩,
  ⟨"RD_CMD", 0x5000c100c, 0x40, 16, 0x40, 1, 4, 0x0,
    fun n _ => [(RD_CMD_RESUME n, .wo)]⟩,
  ⟨"RD_HOST_BASE_LO", 0x5000c1010, 0x40, 16, 0x40, 1, 4, 0x0,
    fun n _ => [(RD_HOST_BASE_LO n, .rw)]⟩,
  ⟨"RD_HOST_BASE_HI", 0x5000c1014, 0x40, 16, 0x40, 1, 4, 0x0,
    fun n _ => [(RD_HOST_BASE_HI n, .rw)]⟩,
  ⟨"RD_HOST_SIZE_LOG2", 0x5000c1018, 0x40, 16, 0x40, 1, 4, 0x0,
    fun n _ => [(RD_HOST_SIZE_LOG2 n, .rw)]⟩,
  ⟨"RD_HWPTR", 0x5000c101c, 0x40, 16, 0x40, 1, 4, 0x0,
    fun n _ => [(RD_HWPTR n, .ro)]⟩,
  ⟨"RD_HRPTR", 0x5000c1020, 0x40, 16, 0x40, 1, 4, 0x0,
    fun n _ => [(RD_HRPTR n, .rw)]⟩,
  ⟨"RD_ITEM_CNT", 0x5000c1024, 0x40, 16, 0x40, 1, 4, 0x0,
    fun n _ => [(RD_ITEM_CNT n, .rc)]⟩,
  ⟨"RD_UE_ADDR", 0x5000c1028, 0x40, 16, 0x40, 1, 4, 0xffffffff,
    fun n _ => [(RD_UE_ADDR n, .ro)]⟩,
  ⟨"RD_OVERSIZE_CNT", 0x5000c102c, 0x40, 16, 0x40, 1, 4, 0xffffffff,
    fun n _ => [(RD_OVERSIZE_CNT n, .rc)]⟩]

/-- The register rows of R290 (11_sequencer.md). -/
def rowsR290 : List RegRow := [
  ⟨"SEQ_STATUS", 0x200000080, 0x10000, 68, 0x10000, 1, 4, 0x0,
    fun n _ => [(SEQ_STATUS n, .ro)]⟩,
  ⟨"SEQ_PC", 0x200000084, 0x10000, 68, 0x10000, 1, 4, 0xffffffff,
    fun n _ => [(SEQ_PC n, .ro)]⟩,
  ⟨"SEQ_RSDEPTH", 0x200000088, 0x10000, 68, 0x10000, 1, 4, 0xffff,
    fun n _ => [(SEQ_RSDEPTH n, .ro)]⟩,
  ⟨"SEQ_IC_PAR_CNT", 0x20000008c, 0x10000, 68, 0x10000, 1, 4, 0x0,
    fun n _ => [(SEQ_IC_PAR_CNT n, .rc)]⟩,
  ⟨"SEQ_SB_UE_ADDR", 0x200000090, 0x10000, 68, 0x10000, 1, 4, 0xffffffff,
    fun n _ => [(SEQ_SB_UE_ADDR n, .ro)]⟩,
  ⟨"SEQ_CTRL", 0x200000094, 0x10000, 68, 0x10000, 1, 4, 0x3,
    fun n _ => [(SEQ_CTRL_IC_EN n, .rw), (SEQ_CTRL_BTC_EN n, .rw)]⟩]

/-- The register rows of R321 (12_capabilities_and_interrupts.md). -/
def rowsR321 : List RegRow := [
  ⟨"IC_CTRL", 0x500040000, 0x4, 1, 0x4, 1, 4, 0x0,
    fun _ _ => [(IC_CTRL_ENABLE, .rw)]⟩,
  ⟨"IC_THRESH", 0x500040004, 0x4, 1, 0x4, 1, 4, 0xf,
    fun _ _ => [(IC_THRESH, .rw)]⟩,
  ⟨"IC_DTOFF", 0x500040008, 0x4, 1, 0x4, 1, 4, 0x0,
    fun _ _ => [(IC_DTOFF, .rw)]⟩,
  ⟨"IC_ACTIVE", 0x50004000c, 0x4, 1, 0x4, 1, 4, 0x3c000,
    fun _ _ => [(IC_ACTIVE_SOURCE, .ro), (IC_ACTIVE_VECTOR, .ro), (IC_ACTIVE_PRIO, .ro), (IC_ACTIVE_VALID, .ro)]⟩,
  ⟨"IC_NMI_CAUSE", 0x500040010, 0x4, 1, 0x4, 1, 4, 0x8,
    fun _ _ => [(IC_NMI_CAUSE_PIN, .w1c), (IC_NMI_CAUSE_VOTER, .w1c), (IC_NMI_CAUSE_DOUBLE, .w1c), (IC_NMI_CAUSE_PENDING, .ro)]⟩,
  ⟨"IC_LATE_CNT", 0x500040014, 0x4, 1, 0x4, 1, 4, 0xffffffff,
    fun _ _ => [(IC_LATE_CNT, .rc)]⟩,
  ⟨"IC_PUSHF_CNT", 0x500040018, 0x4, 1, 0x4, 1, 4, 0x0,
    fun _ _ => [(IC_PUSHF_CNT, .rc)]⟩,
  ⟨"IC_PEND", 0x500040080, 0x4, 8, 0x4, 1, 4, 0x0,
    fun n _ => [(IC_PEND n, .ro)]⟩,
  ⟨"IC_SRC", 0x500041000, 0x4, 256, 0x4, 1, 4, 0x20000,
    fun n _ => [(IC_SRC_PRIO n, .rw), (IC_SRC_VECTOR n, .rw), (IC_SRC_PEND n, .ro), (IC_SRC_SW n, .w1s)]⟩]

/-- The register rows of R322 (12_capabilities_and_interrupts.md). -/
def rowsR322 : List RegRow := [
  ⟨"VE_ERA", 0x2000000a0, 0x10000, 68, 0x10000, 1, 4, 0xffffffff,
    fun n _ => [(VE_ERA n, .ro)]⟩,
  ⟨"VE_EST", 0x2000000a4, 0x10000, 68, 0x10000, 1, 4, 0xffffffff,
    fun n _ => [(VE_EST n, .ro)]⟩,
  ⟨"VE_ECTX", 0x2000000a8, 0x10000, 68, 0x10000, 1, 4, 0xffffffff,
    fun n _ => [(VE_ECTX n, .ro)]⟩,
  ⟨"VE_EADDR", 0x2000000ac, 0x10000, 68, 0x10000, 1, 4, 0xffffffff,
    fun n _ => [(VE_EADDR n, .ro)]⟩,
  ⟨"VE_IRQ_PEND", 0x2000000b0, 0x10000, 68, 0x10000, 1, 4, 0x0,
    fun n _ => [(VE_IRQ_PEND n, .w1s)]⟩,
  ⟨"VE_IRQ_EN", 0x2000000b4, 0x10000, 68, 0x10000, 1, 4, 0x0,
    fun n _ => [(VE_IRQ_EN n, .rw)]⟩,
  ⟨"VE_ESC", 0x2000000b8, 0x10000, 68, 0x10000, 1, 4, 0x0,
    fun n _ => [(VE_ESC_VEC n, .ro), (VE_ESC_REASON n, .ro), (VE_ESC_VALID n, .w1c)]⟩,
  ⟨"VE_EXC_CNT", 0x2000000bc, 0x10000, 68, 0x10000, 1, 4, 0xffffffff,
    fun n _ => [(VE_EXC_CNT n, .rc)]⟩,
  ⟨"EM_DTOFF", 0x500001600, 0x4, 64, 0x4, 1, 4, 0x0,
    fun n _ => [(EM_DTOFF n, .rw)]⟩]

/-- The register rows of R343 (13_triad.md). -/
def rowsR343 : List RegRow := [
  ⟨"VT_STATUS", 0x500064000, 0x4, 1, 0x4, 1, 4, 0x0,
    fun _ _ => [(VT_STATUS_STATE, .ro), (VT_STATUS_IN, .ro), (VT_STATUS_FENCED_CORE, .ro), (VT_STATUS_OUT_CORE, .ro), (VT_STATUS_OUT_VALID, .ro), (VT_STATUS_FAILS0, .ro), (VT_STATUS_FAILS1, .ro), (VT_STATUS_FAILS2, .ro)]⟩,
  ⟨"VT_CFG", 0x500064004, 0x4, 1, 0x4, 1, 4, 0x1eff,
    fun _ _ => [(VT_CFG_PROBATION, .rw), (VT_CFG_RESYNC_EN, .rw), (VT_CFG_NMI_ON, .rw)]⟩,
  ⟨"VT_CMD", 0x500064008, 0x4, 1, 0x4, 1, 4, 0x7,
    fun _ _ => [(VT_CMD_CORE, .wo), (VT_CMD_INJECT, .wo)]⟩,
  ⟨"VT_EVENT", 0x50006400c, 0x4, 1, 0x4, 1, 4, 0x0,
    fun _ _ => [(VT_EVENT, .w1c)]⟩,
  ⟨"VT_REG_DIS_CNT", 0x500064010, 0x4, 1, 0x4, 1, 4, 0x0,
    fun _ _ => [(VT_REG_DIS_CNT, .rc)]⟩,
  ⟨"VT_SIG_DIS_CNT", 0x500064014, 0x4, 1, 0x4, 1, 4, 0x0,
    fun _ _ => [(VT_SIG_DIS_CNT, .rc)]⟩,
  ⟨"VT_RESYNC_CNT", 0x500064018, 0x4, 1, 0x4, 1, 4, 0x0,
    fun _ _ => [(VT_RESYNC_CNT, .rc)]⟩,
  ⟨"VT_RESYNC_FAIL_CNT", 0x50006401c, 0x4, 1, 0x4, 1, 4, 0x0,
    fun _ _ => [(VT_RESYNC_FAIL_CNT, .rc)]⟩,
  ⟨"VT_LAST", 0x500064020, 0x4, 1, 0x4, 1, 4, 0x3ff,
    fun _ _ => [(VT_LAST_CORE, .ro), (VT_LAST_KIND, .ro), (VT_LAST_REG, .ro)]⟩,
  ⟨"VT_LAST_MC_LO", 0x500064024, 0x4, 1, 0x4, 1, 4, 0xffffffff,
    fun _ _ => [(VT_LAST_MC_LO, .ro)]⟩,
  ⟨"VT_LAST_MC_HI", 0x500064028, 0x4, 1, 0x4, 1, 4, 0xffffffff,
    fun _ _ => [(VT_LAST_MC_HI, .ro)]⟩,
  ⟨"VT_LR_CAUSE", 0x500064030, 0x4, 1, 0x4, 1, 4, 0x0,
    fun _ _ => [(VT_LR_CAUSE, .ro)]⟩]

/-- The register rows of R344 (13_triad.md). -/
def rowsR344 : List RegRow := [
  ⟨"OWN_DENY_CNT", 0x500065010, 0x4, 1, 0x4, 1, 4, 0x0,
    fun _ _ => [(OWN_DENY_CNT, .rc)]⟩,
  ⟨"OWN_LAST_DENY_LO", 0x500065014, 0x4, 1, 0x4, 1, 4, 0xffffffff,
    fun _ _ => [(OWN_LAST_DENY_LO, .ro)]⟩,
  ⟨"OWN_LAST_DENY_HI", 0x500065018, 0x4, 1, 0x4, 1, 4, 0xfffff,
    fun _ _ => [(OWN_LAST_DENY_HI_ADDR, .ro), (OWN_LAST_DENY_HI_MASTER, .ro)]⟩,
  ⟨"OWN_CLASS", 0x500065100, 0x4, 17, 0x4, 1, 4, 0x0,
    fun n _ => [(OWN_CLASS_OWNER n, .rw)]⟩,
  ⟨"OWN_OVR_L", 0x500065200, 0x10, 32, 0x10, 1, 4, 0xffffffff,
    fun n _ => [(OWN_OVR_BASE_LO n, .rw)]⟩,
  ⟨"OWN_OVR_H", 0x500065204, 0x10, 32, 0x10, 1, 4, 0xffff,
    fun n _ => [(OWN_OVR_BASE_HI n, .rw)]⟩,
  ⟨"OWN_OVR_B", 0x500065208, 0x10, 32, 0x10, 1, 4, 0x803fffff,
    fun n _ => [(OWN_OVR_BLOCKS n, .rw), (OWN_OVR_OWNER n, .rw), (OWN_OVR_VALID n, .rw)]⟩]

/-- The register rows of R362 (14_management_matrix_and_memories.md). -/
def rowsR362 : List RegRow := [
  ⟨"MX_ERR_CNT", 0x500066000, 0x4, 1, 0x4, 1, 4, 0x0,
    fun _ _ => [(MX_ERR_CNT, .rc)]⟩,
  ⟨"MX_WIN_DENY_CNT", 0x500066004, 0x4, 1, 0x4, 1, 4, 0x0,
    fun _ _ => [(MX_WIN_DENY_CNT, .rc)]⟩,
  ⟨"MX_LAST_ERR_LO", 0x500066008, 0x4, 1, 0x4, 1, 4, 0xffffffff,
    fun _ _ => [(MX_LAST_ERR_LO, .ro)]⟩,
  ⟨"MX_LAST_ERR_HI", 0x50006600c, 0x4, 1, 0x4, 1, 4, 0x7fffff,
    fun _ _ => [(MX_LAST_ERR_HI_ADDR, .ro), (MX_LAST_ERR_HI_MASTER, .ro), (MX_LAST_ERR_HI_CODE, .ro)]⟩,
  ⟨"MX_INT_STATUS", 0x500066010, 0x4, 1, 0x4, 1, 4, 0x0,
    fun _ _ => [(MX_INT_STATUS_UNMAPPED, .w1c), (MX_INT_STATUS_WIN_DENY, .w1c)]⟩,
  ⟨"MX_INT_EN", 0x500066014, 0x4, 1, 0x4, 1, 4, 0x0,
    fun _ _ => [(MX_INT_EN_UNMAPPED, .rw), (MX_INT_EN_WIN_DENY, .rw)]⟩,
  ⟨"VAULT_STATUS", 0x500066020, 0x4, 1, 0x4, 1, 4, 0x0,
    fun _ _ => [(VAULT_STATUS_WIPING, .ro), (VAULT_STATUS_TAMPER_V, .w1c), (VAULT_STATUS_TAMPER_C, .w1c), (VAULT_STATUS_TAMPER_T, .w1c), (VAULT_STATUS_LIFE, .w1c)]⟩,
  ⟨"VAULT_WIPE_CNT", 0x500066024, 0x4, 1, 0x4, 1, 4, 0x0,
    fun _ _ => [(VAULT_WIPE_CNT, .rc)]⟩,
  ⟨"VAULT_CMD", 0x500066028, 0x4, 1, 0x4, 1, 4, 0x1,
    fun _ _ => [(VAULT_CMD_WIPE, .wo)]⟩,
  ⟨"LM_CE_CNT", 0x500066030, 0x4, 1, 0x4, 1, 4, 0x0,
    fun _ _ => [(LM_CE_CNT, .rc)]⟩,
  ⟨"LM_UE_CNT", 0x500066034, 0x4, 1, 0x4, 1, 4, 0x0,
    fun _ _ => [(LM_UE_CNT, .rc)]⟩,
  ⟨"LM_LAST_UE_ADDR", 0x500066038, 0x4, 1, 0x4, 1, 4, 0x1fffff,
    fun _ _ => [(LM_LAST_UE_ADDR, .ro)]⟩,
  ⟨"LM_ARB", 0x500066040, 0x4, 1, 0x4, 1, 4, 0xffff,
    fun _ _ => [(LM_ARB_HOME, .rw)]⟩,
  ⟨"MX_WIN_BL", 0x500067000, 0x100, 12, 0x10, 16, 4, 0xfffff000,
    fun n k => [(MX_WIN_BASE_LO n k, .rw)]⟩,
  ⟨"MX_WIN_BH", 0x500067004, 0x100, 12, 0x10, 16, 4, 0x8003ffff,
    fun n k => [(MX_WIN_BASE_HI n k, .rw), (MX_WIN_R n k, .rw), (MX_WIN_W n k, .rw), (MX_WIN_VALID n k, .rw)]⟩,
  ⟨"MX_WIN_LL", 0x500067008, 0x100, 12, 0x10, 16, 4, 0xfffff000,
    fun n k => [(MX_WIN_LIMIT_LO n k, .rw)]⟩,
  ⟨"MX_WIN_LH", 0x50006700c, 0x100, 12, 0x10, 16, 4, 0xffff,
    fun n k => [(MX_WIN_LIMIT_HI n k, .rw)]⟩]

/-- The register rows of R374 (15_timers_calendar_checks_counters.md). -/
def rowsR374 : List RegRow := [
  ⟨"TMR_CTRL", 0x500010000, 0x40, 8, 0x40, 1, 4, 0x0,
    fun n _ => [(TMR_CTRL_SRC n, .rw), (TMR_CTRL_MODE n, .rw), (TMR_CTRL_MATCH_ACT n, .rw), (TMR_CTRL_OVF_ACT n, .rw), (TMR_CTRL_OE n, .rw), (TMR_CTRL_CAP_PIN n, .rw), (TMR_CTRL_CAP_EDGE n, .rw)]⟩,
  ⟨"TMR_CMD", 0x500010004, 0x40, 8, 0x40, 1, 4, 0xd,
    fun n _ => [(TMR_CMD_RESTART n, .wo), (TMR_CMD_CAP_POP n, .wo), (TMR_CMD_OUT_SET n, .wo), (TMR_CMD_OUT_CLR n, .wo)]⟩,
  ⟨"TMR_STATUS", 0x500010008, 0x40, 8, 0x40, 1, 4, 0x10,
    fun n _ => [(TMR_STATUS_OUT n, .ro), (TMR_STATUS_CAP_LEVEL n, .ro), (TMR_STATUS_PRELOAD n, .ro)]⟩,
  ⟨"TMR_COUNT_LO", 0x500010014, 0x40, 8, 0x40, 1, 4, 0x0,
    fun n _ => [(TMR_COUNT_LO n, .ro)]⟩,
  ⟨"TMR_COUNT_HI", 0x500010018, 0x40, 8, 0x40, 1, 4, 0x0,
    fun n _ => [(TMR_COUNT_HI n, .ro)]⟩,
  ⟨"TMR_CMP_LO", 0x50001001c, 0x40, 8, 0x40, 1, 4, 0x0,
    fun n _ => [(TMR_CMP_LO n, .rw)]⟩,
  ⟨"TMR_CMP_HI", 0x500010020, 0x40, 8, 0x40, 1, 4, 0x0,
    fun n _ => [(TMR_CMP_HI n, .rw)]⟩,
  ⟨"TMR_TOP_LO", 0x500010024, 0x40, 8, 0x40, 1, 4, 0xffffffff,
    fun n _ => [(TMR_TOP_LO n, .rw)]⟩,
  ⟨"TMR_TOP_HI", 0x500010028, 0x40, 8, 0x40, 1, 4, 0xffffffff,
    fun n _ => [(TMR_TOP_HI n, .rw)]⟩,
  ⟨"TMR_CAP_LO", 0x50001002c, 0x40, 8, 0x40, 1, 4, 0x0,
    fun n _ => [(TMR_CAP_LO n, .ro)]⟩,
  ⟨"TMR_CAP_HI", 0x500010030, 0x40, 8, 0x40, 1, 4, 0x0,
    fun n _ => [(TMR_CAP_HI n, .ro)]⟩,
  ⟨"TMR_INT_STATUS", 0x50001000c, 0x40, 8, 0x40, 1, 4, 0x0,
    fun n _ => [(TMR_INT_STATUS_MATCH n, .w1c), (TMR_INT_STATUS_OVF n, .w1c), (TMR_INT_STATUS_CAP n, .w1c), (TMR_INT_STATUS_CAP_OVF n, .w1c)]⟩,
  ⟨"TMR_INT_EN", 0x500010010, 0x40, 8, 0x40, 1, 4, 0x0,
    fun n _ => [(TMR_INT_EN_MATCH n, .rw), (TMR_INT_EN_OVF n, .rw), (TMR_INT_EN_CAP n, .rw), (TMR_INT_EN_CAP_OVF n, .rw)]⟩]

/-- The register rows of R379 (15_timers_calendar_checks_counters.md). -/
def rowsR379 : List RegRow := [
  ⟨"CAL_TIME_LO", 0x500020000, 0x4, 1, 0x4, 1, 4, 0x0,
    fun _ _ => [(CAL_TIME_LO, .ro)]⟩,
  ⟨"CAL_TIME_HI", 0x500020004, 0x4, 1, 0x4, 1, 4, 0x0,
    fun _ _ => [(CAL_TIME_HI, .ro)]⟩,
  ⟨"CAL_SET_LO", 0x500020008, 0x4, 1, 0x4, 1, 4, 0x0,
    fun _ _ => [(CAL_SET_LO, .rw)]⟩,
  ⟨"CAL_SET_HI", 0x50002000c, 0x4, 1, 0x4, 1, 4, 0x0,
    fun _ _ => [(CAL_SET_HI, .rw)]⟩,
  ⟨"CAL_ALARM_LO", 0x500020010, 0x4, 1, 0x4, 1, 4, 0x0,
    fun _ _ => [(CAL_ALARM_LO, .rw)]⟩,
  ⟨"CAL_ALARM_HI", 0x500020014, 0x4, 1, 0x4, 1, 4, 0x0,
    fun _ _ => [(CAL_ALARM_HI, .rw)]⟩,
  ⟨"CAL_CTRL", 0x500020018, 0x4, 1, 0x4, 1, 4, 0x1fe,
    fun _ _ => [(CAL_CTRL_ALARM_EN, .rw), (CAL_CTRL_TRIM, .rw)]⟩,
  ⟨"CAL_STATUS", 0x50002001c, 0x4, 1, 0x4, 1, 4, 0x0,
    fun _ _ => [(CAL_STATUS_BUSY, .ro), (CAL_STATUS_VALID, .ro), (CAL_STATUS_OSC_FAIL, .w1c), (CAL_STATUS_ALARM, .w1c)]⟩,
  ⟨"CAL_INT_EN", 0x500020020, 0x4, 1, 0x4, 1, 4, 0x0,
    fun _ _ => [(CAL_INT_EN_ALARM, .rw), (CAL_INT_EN_OSC_FAIL, .rw)]⟩]

/-- The register rows of R384 (15_timers_calendar_checks_counters.md). -/
def rowsR384 : List RegRow := [
  ⟨"CRC_CFG", 0x500030000, 0x80, 16, 0x80, 1, 4, 0x7f8,
    fun n _ => [(CRC_CFG_PRESET n, .rw), (CRC_CFG_WIDTH_M1 n, .rw), (CRC_CFG_REFIN n, .rw), (CRC_CFG_REFOUT n, .rw)]⟩,
  ⟨"CRC_CMD", 0x500030004, 0x80, 16, 0x80, 1, 4, 0x0,
    fun n _ => [(CRC_CMD_START n, .wo), (CRC_CMD_CHECK n, .wo)]⟩,
  ⟨"CRC_STATUS", 0x500030008, 0x80, 16, 0x80, 1, 4, 0x1,
    fun n _ => [(CRC_STATUS_BUSY n, .ro), (CRC_STATUS_MISMATCH n, .w1c), (CRC_STATUS_CHECK_OK n, .ro)]⟩,
  ⟨"CRC_INT_EN", 0x50003000c, 0x80, 16, 0x80, 1, 4, 0x0,
    fun n _ => [(CRC_INT_EN_MISMATCH n, .rw)]⟩,
  ⟨"CRC_DATA8", 0x500030010, 0x80, 16, 0x80, 1, 4, 0x0,
    fun n _ => [(CRC_DATA8 n, .wo)]⟩,
  ⟨"CRC_DATA16", 0x500030014, 0x80, 16, 0x80, 1, 4, 0x0,
    fun n _ => [(CRC_DATA16 n, .wo)]⟩,
  ⟨"CRC_DATA32", 0x500030018, 0x80, 16, 0x80, 1, 4, 0x0,
    fun n _ => [(CRC_DATA32 n, .wo)]⟩,
  ⟨"CRC_POLY_LO", 0x500030020, 0x80, 16, 0x80, 1, 4, 0xffffffff,
    fun n _ => [(CRC_POLY_LO n, .rw)]⟩,
  ⟨"CRC_POLY_HI", 0x500030024, 0x80, 16, 0x80, 1, 4, 0xffffffff,
    fun n _ => [(CRC_POLY_HI n, .rw)]⟩,
  ⟨"CRC_INIT_LO", 0x500030028, 0x80, 16, 0x80, 1, 4, 0xffffffff,
    fun n _ => [(CRC_INIT_LO n, .rw)]⟩,
  ⟨"CRC_INIT_HI", 0x50003002c, 0x80, 16, 0x80, 1, 4, 0xffffffff,
    fun n _ => [(CRC_INIT_HI n, .rw)]⟩,
  ⟨"CRC_XOROUT_LO", 0x500030030, 0x80, 16, 0x80, 1, 4, 0xffffffff,
    fun n _ => [(CRC_XOROUT_LO n, .rw)]⟩,
  ⟨"CRC_XOROUT_HI", 0x500030034, 0x80, 16, 0x80, 1, 4, 0xffffffff,
    fun n _ => [(CRC_XOROUT_HI n, .rw)]⟩,
  ⟨"CRC_VALUE_LO", 0x500030038, 0x80, 16, 0x80, 1, 4, 0xffffffff,
    fun n _ => [(CRC_VALUE_LO n, .rw)]⟩,
  ⟨"CRC_VALUE_HI", 0x50003003c, 0x80, 16, 0x80, 1, 4, 0xffffffff,
    fun n _ => [(CRC_VALUE_HI n, .rw)]⟩,
  ⟨"CRC_RESULT_LO", 0x500030040, 0x80, 16, 0x80, 1, 4, 0x0,
    fun n _ => [(CRC_RESULT_LO n, .ro)]⟩,
  ⟨"CRC_RESULT_HI", 0x500030044, 0x80, 16, 0x80, 1, 4, 0x0,
    fun n _ => [(CRC_RESULT_HI n, .ro)]⟩,
  ⟨"CRC_EXPECT_LO", 0x500030048, 0x80, 16, 0x80, 1, 4, 0x0,
    fun n _ => [(CRC_EXPECT_LO n, .rw)]⟩,
  ⟨"CRC_EXPECT_HI", 0x50003004c, 0x80, 16, 0x80, 1, 4, 0x0,
    fun n _ => [(CRC_EXPECT_HI n, .rw)]⟩,
  ⟨"CRC_BYTES", 0x500030050, 0x80, 16, 0x80, 1, 4, 0xffffffff,
    fun n _ => [(CRC_BYTES n, .rc)]⟩]

/-- The register rows of R390 (15_timers_calendar_checks_counters.md). -/
def rowsR390 : List RegRow := [
  ⟨"EC_LO", 0x200004000, 0x10000, 68, 0x8, 128, 4, 0xffffffff,
    fun n k => [(EC_LO n k, .ro)]⟩,
  ⟨"EC_HI", 0x200004004, 0x10000, 68, 0x8, 128, 4, 0x1ffff,
    fun n k => [(EC_HI_COUNT n k, .ro), (EC_HI_OVF n k, .w1c)]⟩,
  ⟨"EC_SEL", 0x200004400, 0x10000, 68, 0x4, 128, 4, 0x7f,
    fun n k => [(EC_SEL n k, .rw)]⟩,
  ⟨"EC_CTRL", 0x200004600, 0x10000, 68, 0x10000, 1, 4, 0x1,
    fun n _ => [(EC_CTRL_CLEAR_ALL n, .wo)]⟩,
  ⟨"TAG_CFG", 0x200004610, 0x10000, 68, 0x10000, 1, 4, 0x3ffff,
    fun n _ => [(TAG_CFG_N n, .rw), (TAG_CFG_QUEUE n, .rw)]⟩,
  ⟨"TAG_REC", 0x200004620, 0x10000, 68, 0x4, 4, 4, 0xffffffff,
    fun n k => [(TAG_REC n k, .ro)]⟩,
  ⟨"TAG_CNT", 0x200004630, 0x10000, 68, 0x10000, 1, 4, 0xffffffff,
    fun n _ => [(TAG_CNT n, .rc)]⟩,
  ⟨"TAG_DROP_CNT", 0x200004634, 0x10000, 68, 0x10000, 1, 4, 0xffffffff,
    fun n _ => [(TAG_DROP_CNT n, .rc)]⟩]

/-- The register rows of R418 (16_reliability_and_selftest.md). -/
def rowsR418 : List RegRow := [
  ⟨"BL_CTRL", 0x500080000, 0x4, 1, 0x4, 1, 4, 0x0,
    fun _ _ => [(BL_CTRL_AUTO_EN, .rw)]⟩,
  ⟨"BL_CMD", 0x500080004, 0x4, 1, 0x4, 1, 4, 0x1fff07,
    fun _ _ => [(BL_CMD_OP, .wo), (BL_CMD_TARGET, .wo)]⟩,
  ⟨"BL_CFG", 0x500080008, 0x4, 1, 0x4, 1, 4, 0xff1f0000,
    fun _ _ => [(BL_CFG_AUTO_PERIOD_S, .rw), (BL_CFG_LBIST_LOG2, .rw), (BL_CFG_LOOP_MS, .rw)]⟩,
  ⟨"BL_LBIST_EXP_LO", 0x500080010, 0x4, 1, 0x4, 1, 4, 0x0,
    fun _ _ => [(BL_LBIST_EXP_LO, .rw)]⟩,
  ⟨"BL_LBIST_EXP_HI", 0x500080014, 0x4, 1, 0x4, 1, 4, 0x0,
    fun _ _ => [(BL_LBIST_EXP_HI, .rw)]⟩,
  ⟨"BL_LBIST_SIG_LO", 0x500080018, 0x4, 1, 0x4, 1, 4, 0xffffffff,
    fun _ _ => [(BL_LBIST_SIG_LO, .ro)]⟩,
  ⟨"BL_LBIST_SIG_HI", 0x50008001c, 0x4, 1, 0x4, 1, 4, 0xffffffff,
    fun _ _ => [(BL_LBIST_SIG_HI, .ro)]⟩,
  ⟨"BL_STATUS", 0x500080020, 0x4, 1, 0x4, 1, 4, 0x1ffffe00,
    fun _ _ => [(BL_STATUS_LBIST, .ro), (BL_STATUS_MBIST, .ro), (BL_STATUS_LOOP, .ro), (BL_STATUS_LBIST_VE, .ro), (BL_STATUS_MBIST_PHYS, .ro)]⟩,
  ⟨"BL_LOOP_LANE", 0x500080024, 0x4, 1, 0x4, 1, 4, 0x7f,
    fun _ _ => [(BL_LOOP_LANE, .ro)]⟩,
  ⟨"BL_LOOP_ERR", 0x500080028, 0x4, 1, 0x4, 1, 4, 0xffffffff,
    fun _ _ => [(BL_LOOP_ERR, .ro)]⟩,
  ⟨"BL_VE_RESULT", 0x500080100, 0x4, 68, 0x4, 1, 4, 0x0,
    fun n _ => [(BL_VE_RESULT n, .ro)]⟩,
  ⟨"RL_CFG", 0x500081000, 0x4, 1, 0x4, 1, 4, 0xffffff,
    fun _ _ => [(RL_CFG_LEAK_FRAMES, .rw)]⟩,
  ⟨"RL_CLASS", 0x500081010, 0x4, 3, 0x4, 1, 4, 0xfffffff,
    fun n _ => [(RL_CLASS_RETRY n, .rw), (RL_CLASS_WINDOW n, .rw), (RL_CLASS_ACT n, .rw)]⟩,
  ⟨"RL_LAST_BKT", 0x500081020, 0x4, 1, 0x4, 1, 4, 0x1ff,
    fun _ _ => [(RL_LAST_BKT, .ro)]⟩,
  ⟨"RL_LAST_PERM", 0x500081024, 0x4, 1, 0x4, 1, 4, 0x0,
    fun _ _ => [(RL_LAST_PERM_CLASS, .ro), (RL_LAST_PERM_UNIT, .ro)]⟩,
  ⟨"RL_STRIKE_CNT", 0x500081028, 0x4, 1, 0x4, 1, 4, 0x0,
    fun _ _ => [(RL_STRIKE_CNT, .rc)]⟩,
  ⟨"RL_PERM_CNT", 0x50008102c, 0x4, 1, 0x4, 1, 4, 0x0,
    fun _ _ => [(RL_PERM_CNT, .rc)]⟩,
  ⟨"RL_QPTR_UE_CNT", 0x500081030, 0x4, 1, 0x4, 1, 4, 0x0,
    fun _ _ => [(RL_QPTR_UE_CNT, .rc)]⟩,
  ⟨"RL_QPTR_LAST", 0x500081034, 0x4, 1, 0x4, 1, 4, 0x1fff,
    fun _ _ => [(RL_QPTR_LAST, .ro)]⟩,
  ⟨"RL_BKT", 0x500082000, 0x4, 330, 0x4, 1, 4, 0x1ff01ff,
    fun n _ => [(RL_BKT_COUNT n, .ro), (RL_BKT_LIMIT n, .rw), (RL_BKT_OVF n, .w1c)]⟩,
  ⟨"BL_INT_STATUS", 0x500080030, 0x4, 1, 0x4, 1, 4, 0x5,
    fun _ _ => [(BL_INT_STATUS_DONE, .w1c), (BL_INT_STATUS_FAIL, .w1c), (BL_INT_STATUS_ABORTED, .w1c), (BL_INT_STATUS_BUCKET, .w1c), (BL_INT_STATUS_PERM, .w1c), (BL_INT_STATUS_QPTR_UE, .w1c)]⟩,
  ⟨"BL_INT_EN", 0x500080034, 0x4, 1, 0x4, 1, 4, 0x5,
    fun _ _ => [(BL_INT_EN_DONE, .rw), (BL_INT_EN_FAIL, .rw), (BL_INT_EN_ABORTED, .rw), (BL_INT_EN_BUCKET, .rw), (BL_INT_EN_PERM, .rw), (BL_INT_EN_QPTR_UE, .rw)]⟩]

/-- The register rows of R419 (16_reliability_and_selftest.md). -/
def rowsR419 : List RegRow := [
  ⟨"JNL_CTRL", 0x5000a1000, 0x4, 1, 0x4, 1, 4, 0x0,
    fun _ _ => [(JNL_CTRL_ENABLE, .rw)]⟩,
  ⟨"JNL_BASE", 0x5000a1004, 0x4, 1, 0x4, 1, 4, 0x0,
    fun _ _ => [(JNL_BASE, .rw)]⟩,
  ⟨"JNL_STAGE_OFF", 0x5000a1008, 0x4, 1, 0x4, 1, 4, 0x1fffff,
    fun _ _ => [(JNL_STAGE_OFF, .rw)]⟩,
  ⟨"JNL_PUSH", 0x5000a100c, 0x4, 1, 0x4, 1, 4, 0x0,
    fun _ _ => [(JNL_PUSH_GO, .wo)]⟩,
  ⟨"JNL_STAGE_PTR", 0x5000a1010, 0x4, 1, 0x4, 1, 4, 0x3f00,
    fun _ _ => [(JNL_STAGE_PTR_TAIL, .ro), (JNL_STAGE_PTR_HEAD, .ro)]⟩,
  ⟨"JNL_STATUS", 0x5000a1014, 0x4, 1, 0x4, 1, 4, 0x3fff02,
    fun _ _ => [(JNL_STATUS_READY, .ro), (JNL_STATUS_BUSY, .ro), (JNL_STATUS_NO_SUSPEND, .ro), (JNL_STATUS_SLOW_FLASH, .ro), (JNL_STATUS_FAILED, .ro), (JNL_STATUS_SECTOR, .ro), (JNL_STATUS_SLOT, .ro)]⟩,
  ⟨"JNL_SEQ", 0x5000a1018, 0x4, 1, 0x4, 1, 4, 0xffffffff,
    fun _ _ => [(JNL_SEQ, .ro)]⟩,
  ⟨"JNL_REC_CNT", 0x5000a101c, 0x4, 1, 0x4, 1, 4, 0x0,
    fun _ _ => [(JNL_REC_CNT, .rc)]⟩,
  ⟨"JNL_TORN_CNT", 0x5000a1020, 0x4, 1, 0x4, 1, 4, 0x0,
    fun _ _ => [(JNL_TORN_CNT, .rc)]⟩,
  ⟨"JNL_CRC_ERR_CNT", 0x5000a1024, 0x4, 1, 0x4, 1, 4, 0x0,
    fun _ _ => [(JNL_CRC_ERR_CNT, .rc)]⟩,
  ⟨"JNL_BAD_SECT", 0x5000a1028, 0x4, 1, 0x4, 1, 4, 0x0,
    fun _ _ => [(JNL_BAD_SECT, .ro)]⟩,
  ⟨"JNL_STAGE_FULL_CNT", 0x5000a102c, 0x4, 1, 0x4, 1, 4, 0x0,
    fun _ _ => [(JNL_STAGE_FULL_CNT, .rc)]⟩,
  ⟨"JNL_MAX_ERASE", 0x5000a1030, 0x4, 1, 0x4, 1, 4, 0xffffffff,
    fun _ _ => [(JNL_MAX_ERASE, .ro)]⟩,
  ⟨"JNL_INT_STATUS", 0x5000a1040, 0x4, 1, 0x4, 1, 4, 0x1,
    fun _ _ => [(JNL_INT_STATUS_COMMIT, .w1c), (JNL_INT_STATUS_STAGE_FULL, .w1c), (JNL_INT_STATUS_BAD_SECTOR, .w1c), (JNL_INT_STATUS_FAILED, .w1c), (JNL_INT_STATUS_TORN_FOUND, .w1c)]⟩,
  ⟨"JNL_INT_EN", 0x5000a1044, 0x4, 1, 0x4, 1, 4, 0x1,
    fun _ _ => [(JNL_INT_EN_COMMIT, .rw), (JNL_INT_EN_STAGE_FULL, .rw), (JNL_INT_EN_BAD_SECTOR, .rw), (JNL_INT_EN_FAILED, .rw), (JNL_INT_EN_TORN_FOUND, .rw)]⟩]

/-- The register rows of R437 (17_lanes.md). -/
def rowsR437 : List RegRow := [
  ⟨"LN_CTRL", 0x400000000, 0x4000, 128, 0x4000, 1, 4, 0x1c0,
    fun n _ => [(LN_CTRL_ENABLE n, .rw), (LN_CTRL_FEC_EN n, .rw), (LN_CTRL_RATE n, .rw), (LN_CTRL_ROLE n, .rw), (LN_CTRL_PRECODE n, .rw), (LN_CTRL_TX_INV n, .rw), (LN_CTRL_RX_INV n, .rw), (LN_CTRL_AUTO_RETURN n, .rw)]⟩,
  ⟨"LN_CMD", 0x400000004, 0x4000, 128, 0x4000, 1, 4, 0x7,
    fun n _ => [(LN_CMD_RETIRE n, .wo), (LN_CMD_RETURN n, .wo), (LN_CMD_RETRAIN n, .wo)]⟩,
  ⟨"LN_STATUS", 0x400000008, 0x4000, 128, 0x4000, 1, 4, 0x1c0,
    fun n _ => [(LN_STATUS_STATE n, .ro), (LN_STATUS_SIGNAL n, .ro), (LN_STATUS_CDR_LOCK n, .ro), (LN_STATUS_ALIGNED n, .ro), (LN_STATUS_STRIKES n, .ro)]⟩,
  ⟨"LN_CFG", 0x40000000c, 0x4000, 128, 0x4000, 1, 4, 0xffffff,
    fun n _ => [(LN_CFG_CE_LOG2 n, .rw), (LN_CFG_FAST_NS n, .rw), (LN_CFG_TRAIN_MS n, .rw), (LN_CFG_RETURN_S n, .rw)]⟩,
  ⟨"LN_ADAPT", 0x400000010, 0x4000, 128, 0x4000, 1, 4, 0xffff,
    fun n _ => [(LN_ADAPT_ADAPT_US n, .rw), (LN_ADAPT_ADAPT_EN n, .rw)]⟩,
  ⟨"LN_SCRIPT", 0x400000014, 0x4000, 128, 0x4000, 1, 4, 0xf,
    fun n _ => [(LN_SCRIPT_RESULT n, .ro), (LN_SCRIPT_EVENT n, .ro)]⟩,
  ⟨"LN_LAST_LOSS", 0x400000018, 0x4000, 128, 0x4000, 1, 4, 0x7,
    fun n _ => [(LN_LAST_LOSS n, .ro)]⟩,
  ⟨"LN_SNR", 0x40000001c, 0x4000, 128, 0x4000, 1, 4, 0xffff,
    fun n _ => [(LN_SNR n, .ro)]⟩,
  ⟨"LN_FEC_CORR_CNT", 0x400000020, 0x4000, 128, 0x4000, 1, 4, 0x0,
    fun n _ => [(LN_FEC_CORR_CNT n, .rc)]⟩,
  ⟨"LN_FEC_UNCORR_CNT", 0x400000024, 0x4000, 128, 0x4000, 1, 4, 0x0,
    fun n _ => [(LN_FEC_UNCORR_CNT n, .rc)]⟩,
  ⟨"LN_FLIT_ERR_CNT", 0x400000028, 0x4000, 128, 0x4000, 1, 4, 0x0,
    fun n _ => [(LN_FLIT_ERR_CNT n, .rc)]⟩,
  ⟨"LN_FSEQ_ERR_CNT", 0x40000002c, 0x4000, 128, 0x4000, 1, 4, 0xffffffff,
    fun n _ => [(LN_FSEQ_ERR_CNT n, .rc)]⟩,
  ⟨"LN_LOSS_CNT", 0x400000030, 0x4000, 128, 0x4000, 1, 4, 0x0,
    fun n _ => [(LN_LOSS_CNT n, .rc)]⟩,
  ⟨"LN_RETRAIN_CNT", 0x400000034, 0x4000, 128, 0x4000, 1, 4, 0xffffffff,
    fun n _ => [(LN_RETRAIN_CNT n, .rc)]⟩,
  ⟨"LN_RX_FRAME_CNT", 0x400000038, 0x4000, 128, 0x4000, 1, 4, 0xffffffff,
    fun n _ => [(LN_RX_FRAME_CNT n, .rc)]⟩,
  ⟨"LN_TX_FRAME_CNT", 0x40000003c, 0x4000, 128, 0x4000, 1, 4, 0xffffffff,
    fun n _ => [(LN_TX_FRAME_CNT n, .rc)]⟩,
  ⟨"LN_ADAPT_SKIP_CNT", 0x400000040, 0x4000, 128, 0x4000, 1, 4, 0xffffffff,
    fun n _ => [(LN_ADAPT_SKIP_CNT n, .rc)]⟩,
  ⟨"LN_PHY_TX", 0x400001000, 0x4000, 128, 0x4000, 1, 4, 0xffffff,
    fun n _ => [(LN_PHY_TX_PRE2 n, .ro), (LN_PHY_TX_PRE1 n, .ro), (LN_PHY_TX_MAIN n, .ro), (LN_PHY_TX_POST1 n, .ro)]⟩,
  ⟨"LN_PHY_RX", 0x400001004, 0x4000, 128, 0x4000, 1, 4, 0x3ff,
    fun n _ => [(LN_PHY_RX_CTLE n, .ro), (LN_PHY_RX_VGA n, .ro)]⟩,
  ⟨"LN_INT_STATUS", 0x400000050, 0x4000, 128, 0x4000, 1, 4, 0x12,
    fun n _ => [(LN_INT_STATUS_LOSS n, .w1c), (LN_INT_STATUS_RETRAINED n, .w1c), (LN_INT_STATUS_RETIRED n, .w1c), (LN_INT_STATUS_RETURNED n, .w1c), (LN_INT_STATUS_RETURN_FAIL n, .w1c), (LN_INT_STATUS_TRAIN_FAIL n, .w1c)]⟩,
  ⟨"LN_INT_EN", 0x400000054, 0x4000, 128, 0x4000, 1, 4, 0x12,
    fun n _ => [(LN_INT_EN_LOSS n, .rw), (LN_INT_EN_RETRAINED n, .rw), (LN_INT_EN_RETIRED n, .rw), (LN_INT_EN_RETURNED n, .rw), (LN_INT_EN_RETURN_FAIL n, .rw), (LN_INT_EN_TRAIN_FAIL n, .rw)]⟩]

/-- The register rows of R464 (18_power_reset_boot.md). -/
def rowsR464 : List RegRow := [
  ⟨"DD_CTRL", 0x500050000, 0x4, 1, 0x4, 1, 4, 0x6,
    fun _ _ => [(DD_CTRL_EN, .rw), (DD_CTRL_FORCE, .rw)]⟩,
  ⟨"DD_STATUS", 0x500050004, 0x4, 1, 0x4, 1, 4, 0xff04,
    fun _ _ => [(DD_STATUS_TIER, .ro), (DD_STATUS_POWERING, .ro), (DD_STATUS_GOOD, .ro)]⟩,
  ⟨"DD_THR0", 0x500050008, 0x4, 1, 0x4, 1, 4, 0x3ff03ff,
    fun _ _ => [(DD_THR0_TOP_MV, .rw), (DD_THR0_HEART_MV, .rw)]⟩,
  ⟨"DD_THR1", 0x50005000c, 0x4, 1, 0x4, 1, 4, 0x3ff03ff,
    fun _ _ => [(DD_THR1_BASE_MV, .rw), (DD_THR1_FINAL_MV, .ro)]⟩,
  ⟨"DD_CFG", 0x500050010, 0x4, 1, 0x4, 1, 4, 0xffff3f,
    fun _ _ => [(DD_CFG_HYST_MV, .rw), (DD_CFG_GOOD_FRAMES, .rw), (DD_CFG_SUSTAIN_US, .rw)]⟩,
  ⟨"DD_LEAN_LO", 0x500050014, 0x4, 1, 0x4, 1, 4, 0x0,
    fun _ _ => [(DD_LEAN_LO, .rw)]⟩,
  ⟨"DD_LEAN_HI", 0x500050018, 0x4, 1, 0x4, 1, 4, 0x0,
    fun _ _ => [(DD_LEAN_HI, .rw)]⟩,
  ⟨"DD_VCORE", 0x50005001c, 0x4, 1, 0x4, 1, 4, 0x0,
    fun _ _ => [(DD_VCORE_MV, .ro), (DD_VCORE_MIN_MV, .rc)]⟩,
  ⟨"DD_TOP_CNT", 0x500050020, 0x4, 1, 0x4, 1, 4, 0x0,
    fun _ _ => [(DD_TOP_CNT, .rc)]⟩,
  ⟨"DD_HEART_CNT", 0x500050024, 0x4, 1, 0x4, 1, 4, 0x0,
    fun _ _ => [(DD_HEART_CNT, .rc)]⟩,
  ⟨"DD_BASE_CNT", 0x500050028, 0x4, 1, 0x4, 1, 4, 0x0,
    fun _ _ => [(DD_BASE_CNT, .rc)]⟩,
  ⟨"DD_INT_STATUS", 0x500050030, 0x4, 1, 0x4, 1, 4, 0x0,
    fun _ _ => [(DD_INT_STATUS_DEEPER, .w1c), (DD_INT_STATUS_LIGHTER, .w1c), (DD_INT_STATUS_TAMPER, .w1c)]⟩,
  ⟨"DD_INT_EN", 0x500050034, 0x4, 1, 0x4, 1, 4, 0x0,
    fun _ _ => [(DD_INT_EN_DEEPER, .rw), (DD_INT_EN_LIGHTER, .rw), (DD_INT_EN_TAMPER, .rw)]⟩]

/-- The register rows of R465 (18_power_reset_boot.md). -/
def rowsR465 : List RegRow := [
  ⟨"RST_CAUSE", 0x500060000, 0x4, 1, 0x4, 1, 4, 0x0,
    fun _ _ => [(RST_CAUSE_POR, .w1c), (RST_CAUSE_PIN, .w1c), (RST_CAUSE_FINAL, .w1c), (RST_CAUSE_SUPPLY, .w1c)]⟩,
  ⟨"RST_BLK", 0x500060004, 0x4, 1, 0x4, 1, 4, 0x7ff,
    fun _ _ => [(RST_BLK_KIND, .wo), (RST_BLK_INDEX, .wo)]⟩,
  ⟨"RST_BLK_DENY_CNT", 0x500060008, 0x4, 1, 0x4, 1, 4, 0xffffffff,
    fun _ _ => [(RST_BLK_DENY_CNT, .rc)]⟩,
  ⟨"STRAP", 0x500060010, 0x4, 1, 0x4, 1, 4, 0x0,
    fun _ _ => [(STRAP_CODE, .ro), (STRAP_CHOICE, .ro), (STRAP_RSVD, .ro)]⟩,
  ⟨"BOOT_STATUS", 0x500060014, 0x4, 1, 0x4, 1, 4, 0x0,
    fun _ _ => [(BOOT_STATUS_SOURCE, .ro), (BOOT_STATUS_RESULT, .ro), (BOOT_STATUS_FALLBACK, .ro), (BOOT_STATUS_LBIST_FAILS, .ro)]⟩,
  ⟨"BOOT_TIME_US", 0x500060018, 0x4, 1, 0x4, 1, 4, 0x0,
    fun _ _ => [(BOOT_TIME_US, .ro)]⟩,
  ⟨"BOOT_IMG_SEQ", 0x50006001c, 0x4, 1, 0x4, 1, 4, 0xffffffff,
    fun _ _ => [(BOOT_IMG_SEQ, .ro)]⟩,
  ⟨"BOOT_CONFIRM", 0x500060020, 0x4, 1, 0x4, 1, 4, 0x0,
    fun _ _ => [(BOOT_CONFIRM, .wo)]⟩,
  ⟨"BK_BOOT", 0x500060024, 0x4, 1, 0x4, 1, 4, 0x1f,
    fun _ _ => [(BK_BOOT_SLOT, .ro), (BK_BOOT_CONFIRMED, .ro), (BK_BOOT_TRIES, .ro)]⟩,
  ⟨"BOOT_GO", 0x500060028, 0x4, 1, 0x4, 1, 4, 0x1,
    fun _ _ => [(BOOT_GO, .wo)]⟩,
  ⟨"LC_STATE", 0x500060030, 0x4, 1, 0x4, 1, 4, 0x0,
    fun _ _ => [(LC_STATE_STATE, .ro), (LC_STATE_KEY_VALID, .ro), (LC_STATE_KEY_REVOKED, .ro)]⟩,
  ⟨"LC_SVN", 0x500060034, 0x4, 1, 0x4, 1, 4, 0x0,
    fun _ _ => [(LC_SVN, .ro)]⟩,
  ⟨"LC_CMD", 0x500060038, 0x4, 1, 0x4, 1, 4, 0xffff003f,
    fun _ _ => [(LC_CMD_OP, .wo), (LC_CMD_KEY, .wo), (LC_CMD_CODE, .wo)]⟩,
  ⟨"LC_ARG", 0x50006003c, 0x4, 1, 0x4, 1, 4, 0x1fffff,
    fun _ _ => [(LC_ARG, .rw)]⟩,
  ⟨"LC_STATUS", 0x500060040, 0x4, 1, 0x4, 1, 4, 0x3,
    fun _ _ => [(LC_STATUS_BUSY, .ro), (LC_STATUS_ERR, .w1c)]⟩]

/-- The register rows of R484 (19_host_and_debug.md). -/
def rowsR484 : List RegRow := [
  ⟨"HB_CTRL", 0x5000b0000, 0x4, 1, 0x4, 1, 4, 0x6,
    fun _ _ => [(HB_CTRL_WAKE_EN, .rw), (HB_CTRL_MAX_SPEED, .rw)]⟩,
  ⟨"HB_STATUS", 0x5000b0004, 0x4, 1, 0x4, 1, 4, 0x0,
    fun _ _ => [(HB_STATUS_SPEED, .ro), (HB_STATUS_WIDTH, .ro), (HB_STATUS_DSTATE, .ro), (HB_STATUS_LSTATE, .ro), (HB_STATUS_PERST, .ro), (HB_STATUS_WAKE_PENDING, .ro), (HB_STATUS_WAKE_MERGED, .w1c)]⟩,
  ⟨"HB_WAKE", 0x5000b0008, 0x4, 1, 0x4, 1, 4, 0x0,
    fun _ _ => [(HB_WAKE_REQ, .wo)]⟩,
  ⟨"HB_MSI_TRIG", 0x5000b000c, 0x4, 1, 0x4, 1, 4, 0x0,
    fun _ _ => [(HB_MSI_TRIG_VECTOR, .wo), (HB_MSI_TRIG_GO, .wo)]⟩,
  ⟨"HB_LOAD", 0x5000b0010, 0x4, 1, 0x4, 1, 4, 0x0,
    fun _ _ => [(HB_LOAD_READY, .ro), (HB_LOAD_GO, .wo)]⟩,
  ⟨"HB_LOAD_LEN", 0x5000b0014, 0x4, 1, 0x4, 1, 4, 0x0,
    fun _ _ => [(HB_LOAD_LEN, .rw)]⟩,
  ⟨"HB_ERR_CNT", 0x5000b0020, 0x4, 1, 0x4, 1, 4, 0x0,
    fun _ _ => [(HB_ERR_CNT, .rc)]⟩,
  ⟨"HB_WAKE_MERGE_CNT", 0x5000b0024, 0x4, 1, 0x4, 1, 4, 0x0,
    fun _ _ => [(HB_WAKE_MERGE_CNT, .rc)]⟩,
  ⟨"HB_LAST_ERR_LO", 0x5000b0028, 0x4, 1, 0x4, 1, 4, 0xffffffff,
    fun _ _ => [(HB_LAST_ERR_LO, .ro)]⟩,
  ⟨"HB_LAST_ERR_HI", 0x5000b002c, 0x4, 1, 0x4, 1, 4, 0x7ffff,
    fun _ _ => [(HB_LAST_ERR_HI_ADDR, .ro), (HB_LAST_ERR_HI_CODE, .ro)]⟩,
  ⟨"HB_AP_LO", 0x5000b0100, 0x8, 16, 0x8, 1, 4, 0x2,
    fun n _ => [(HB_AP_VALID n, .rw), (HB_AP_PEEK n, .rw), (HB_AP_BASE_LO n, .rw)]⟩,
  ⟨"HB_AP_HI", 0x5000b0104, 0x8, 16, 0x8, 1, 4, 0x0,
    fun n _ => [(HB_AP_BASE_HI n, .rw)]⟩,
  ⟨"TD_CTRL", 0x5000b2000, 0x4, 1, 0x4, 1, 4, 0x7,
    fun _ _ => [(TD_CTRL_HALT, .wo), (TD_CTRL_STEP, .wo), (TD_CTRL_RESUME, .wo)]⟩,
  ⟨"TD_STATUS", 0x5000b2004, 0x4, 1, 0x4, 1, 4, 0xf,
    fun _ _ => [(TD_STATUS_HALTED, .ro), (TD_STATUS_CAUSE, .ro), (TD_STATUS_LOCK_BROKEN, .w1c)]⟩,
  ⟨"TD_PC", 0x5000b2008, 0x4, 1, 0x4, 1, 4, 0xffffffff,
    fun _ _ => [(TD_PC, .ro)]⟩,
  ⟨"TD_S", 0x5000b2100, 0x4, 32, 0x4, 1, 4, 0xffffffff,
    fun n _ => [(TD_S n, .rw)]⟩,
  ⟨"HB_INT_STATUS", 0x5000b0030, 0x4, 1, 0x4, 1, 4, 0xa,
    fun _ _ => [(HB_INT_STATUS_LINK_DOWN, .w1c), (HB_INT_STATUS_DSTATE, .w1c), (HB_INT_STATUS_PERST, .w1c), (HB_INT_STATUS_WAKE_MERGED, .w1c), (HB_INT_STATUS_HOST_ERR, .w1c)]⟩,
  ⟨"HB_INT_EN", 0x5000b0034, 0x4, 1, 0x4, 1, 4, 0xa,
    fun _ _ => [(HB_INT_EN_LINK_DOWN, .rw), (HB_INT_EN_DSTATE, .rw), (HB_INT_EN_PERST, .rw), (HB_INT_EN_WAKE_MERGED, .rw), (HB_INT_EN_HOST_ERR, .rw)]⟩]

/-- The register rows of R485 (19_host_and_debug.md). -/
def rowsR485 : List RegRow := [
  ⟨"DBG_CTRL", 0x200000100, 0x10000, 68, 0x10000, 1, 4, 0xf,
    fun n _ => [(DBG_CTRL_HALT n, .wo), (DBG_CTRL_STEP n, .wo), (DBG_CTRL_RESUME n, .wo), (DBG_CTRL_ATTACH n, .rw)]⟩,
  ⟨"DBG_STATUS", 0x200000104, 0x10000, 68, 0x10000, 1, 4, 0x1f,
    fun n _ => [(DBG_STATUS_HALTED n, .ro), (DBG_STATUS_CAUSE n, .ro), (DBG_STATUS_LOCK_BROKEN n, .w1c), (DBG_STATUS_TICK_PASSED n, .ro)]⟩,
  ⟨"DBG_LOCKBRK_CNT", 0x200000108, 0x10000, 68, 0x10000, 1, 4, 0xffffffff,
    fun n _ => [(DBG_LOCKBRK_CNT n, .rc)]⟩,
  ⟨"DBG_BP", 0x200000110, 0x10000, 68, 0x4, 4, 4, 0xfffffffd,
    fun n k => [(DBG_BP_EN n k, .rw), (DBG_BP_ADDR n k, .rw)]⟩,
  ⟨"DBG_S", 0x200000200, 0x10000, 68, 0x4, 32, 4, 0xffffffff,
    fun n k => [(DBG_S n k, .rw)]⟩,
  ⟨"DBG_PC", 0x200000280, 0x10000, 68, 0x10000, 1, 4, 0xffffffff,
    fun n _ => [(DBG_PC n, .rw)]⟩]

/-- The register rows of R486 (19_host_and_debug.md). -/
def rowsR486 : List RegRow := [
  ⟨"TM_SMB", 0x500070000, 0x4, 1, 0x4, 1, 4, 0x80,
    fun _ _ => [(TM_SMB_ADDR, .rw), (TM_SMB_PEC_REQ, .rw), (TM_SMB_EN, .rw)]⟩,
  ⟨"TM_SMB_ERR_CNT", 0x500070004, 0x4, 1, 0x4, 1, 4, 0xffffffff,
    fun _ _ => [(TM_SMB_ERR_CNT, .rc)]⟩]

/-- The register rows of R504 (20_pins_electrical_package.md). -/
def rowsR504 : List RegRow := [
  ⟨"PAD_CTRL", 0x500068000, 0x4, 1, 0x4, 1, 4, 0xfc,
    fun _ _ => [(PAD_CTRL_GEN_SLEW, .rw), (PAD_CTRL_GEN_DRIVE, .rw), (PAD_CTRL_FL_SLEW, .rw), (PAD_CTRL_FL_DRIVE, .rw), (PAD_CTRL_VERDICT_EN, .rw), (PAD_CTRL_REF_TERM, .rw)]⟩,
  ⟨"PAD_FILT", 0x500068004, 0x4, 1, 0x4, 1, 4, 0xfff,
    fun _ _ => [(PAD_FILT_TMR_FILT, .rw), (PAD_FILT_NMI_FILT, .rw), (PAD_FILT_PERST_FILT, .rw)]⟩,
  ⟨"PAD_SSC", 0x500068008, 0x4, 1, 0x4, 1, 4, 0x2,
    fun _ _ => [(PAD_SSC_MGMT_SSC_EN, .rw), (PAD_SSC_ACTIVE, .ro)]⟩,
  ⟨"PAD_THERM", 0x50006800c, 0x4, 1, 0x4, 1, 4, 0x0,
    fun _ _ => [(PAD_THERM_ALERT, .rw), (PAD_THERM_ALERT_ST, .w1c), (PAD_THERM_ALERT_EN, .rw)]⟩]

/-- The register rows of R102 (03_interleaved_store.md). -/
def rowsR102 : List RegRow := [
  ⟨"BM", 0x500098000, 0x4, 8191, 0x4, 1, 4, 0x0,
    fun n _ => [(BM_PHYS n, .ro)]⟩]

/-- The register rows of R71 (02_hit_ingress.md). -/
def rowsR71 : List RegRow := [
  ⟨"IR_PMAP_ACT", 0x5000da000, 0x4, 2048, 0x4, 1, 4, 0x0,
    fun n _ => [(IR_PMAP_ACT_ENT0 n, .ro), (IR_PMAP_ACT_ENT1 n, .ro), (IR_PMAP_ACT_ENT2 n, .ro), (IR_PMAP_ACT_ENT3 n, .ro)]⟩]

/-- The register rows of R365 (15_timers_calendar_checks_counters.md). -/
def rowsR365 : List RegRow := [
  ⟨"TMR_MC_LO", 0x500010200, 0x4, 1, 0x4, 1, 4, 0x0,
    fun _ _ => [(TMR_MC_LO, .ro)]⟩,
  ⟨"TMR_MC_HI", 0x500010204, 0x4, 1, 0x4, 1, 4, 0x0,
    fun _ _ => [(TMR_MC_HI, .ro)]⟩]

/-- R42: the status bits of `FT_INT_STATUS`, each with its enable. -/
def FT_INTS : List (Fld × Fld) := [(FT_INT_STATUS_OVERRUN, FT_INT_EN_OVERRUN), (FT_INT_STATUS_SYNC_MISS, FT_INT_EN_SYNC_MISS), (FT_INT_STATUS_SYNC_LOST, FT_INT_EN_SYNC_LOST), (FT_INT_STATUS_REF_LOSS, FT_INT_EN_REF_LOSS), (FT_INT_STATUS_LOCKED, FT_INT_EN_LOCKED), (FT_INT_STATUS_REFUSED, FT_INT_EN_REFUSED)]
/-- R70: the status bits of `IR_INT_STATUS`, each with its enable. -/
def IR_INTS : List (Fld × Fld) := [(IR_INT_STATUS_CRC_ERR, IR_INT_EN_CRC_ERR), (IR_INT_STATUS_FMT_ERR, IR_INT_EN_FMT_ERR), (IR_INT_STATUS_OVERFLOW, IR_INT_EN_OVERFLOW), (IR_INT_STATUS_LATE_HIT, IR_INT_EN_LATE_HIT), (IR_INT_STATUS_SEQ_GAP, IR_INT_EN_SEQ_GAP), (IR_INT_STATUS_QFULL, IR_INT_EN_QFULL)]
/-- R101: the status bits of `ST_INT_STATUS`, each with its enable. -/
def ST_INTS : List (Fld × Fld) := [(ST_INT_STATUS_UE, ST_INT_EN_UE), (ST_INT_STATUS_ADDR_ERR, ST_INT_EN_ADDR_ERR), (ST_INT_STATUS_SCRUB_LATE, ST_INT_EN_SCRUB_LATE), (ST_INT_STATUS_ROT_DONE, ST_INT_EN_ROT_DONE), (ST_INT_STATUS_ROT_FAIL, ST_INT_EN_ROT_FAIL), (ST_INT_STATUS_NO_SPARE, ST_INT_EN_NO_SPARE)]
/-- R129: the status bits of `EM_INT_STATUS`, each with its enable. -/
def EM_INTS : List (Fld × Fld) := [(EM_INT_STATUS_MIG_DONE, EM_INT_EN_MIG_DONE), (EM_INT_STATUS_RESTORED, EM_INT_EN_RESTORED), (EM_INT_STATUS_COLD, EM_INT_EN_COLD), (EM_INT_STATUS_NO_SPARE, EM_INT_EN_NO_SPARE)]
/-- R222: the status bits of `CT_INT_STATUS`, each with its enable. -/
def CT_INTS : List (Fld × Fld) := [(CT_INT_STATUS_NOISY, CT_INT_EN_NOISY), (CT_INT_STATUS_ORPHAN, CT_INT_EN_ORPHAN), (CT_INT_STATUS_CAPPED, CT_INT_EN_CAPPED), (CT_INT_STATUS_SWEEP_LATE, CT_INT_EN_SWEEP_LATE), (CT_INT_STATUS_LOAD_REJ, CT_INT_EN_LOAD_REJ), (CT_INT_STATUS_CMD_DONE, CT_INT_EN_CMD_DONE), (CT_INT_STATUS_REINSTATED, CT_INT_EN_REINSTATED)]
/-- R260: the status bits of `VU_INT_STATUS`, each with its enable. -/
def VU_INTS : List (Fld × Fld) := [(VU_INT_STATUS_FROZEN, VU_INT_EN_FROZEN), (VU_INT_STATUS_CFG_ERR, VU_INT_EN_CFG_ERR), (VU_INT_STATUS_RD_HALT, VU_INT_EN_RD_HALT)]
/-- R362: the status bits of `MX_INT_STATUS`, each with its enable. -/
def MX_INTS : List (Fld × Fld) := [(MX_INT_STATUS_UNMAPPED, MX_INT_EN_UNMAPPED), (MX_INT_STATUS_WIN_DENY, MX_INT_EN_WIN_DENY)]
/-- R374: the status bits of `TMR_INT_STATUS`, each with its enable. -/
def TMR_INTS (n : Nat) : List (Fld × Fld) := [(TMR_INT_STATUS_MATCH n, TMR_INT_EN_MATCH n), (TMR_INT_STATUS_OVF n, TMR_INT_EN_OVF n), (TMR_INT_STATUS_CAP n, TMR_INT_EN_CAP n), (TMR_INT_STATUS_CAP_OVF n, TMR_INT_EN_CAP_OVF n)]
/-- R418: the status bits of `BL_INT_STATUS`, each with its enable. -/
def BL_INTS : List (Fld × Fld) := [(BL_INT_STATUS_DONE, BL_INT_EN_DONE), (BL_INT_STATUS_FAIL, BL_INT_EN_FAIL), (BL_INT_STATUS_ABORTED, BL_INT_EN_ABORTED), (BL_INT_STATUS_BUCKET, BL_INT_EN_BUCKET), (BL_INT_STATUS_PERM, BL_INT_EN_PERM), (BL_INT_STATUS_QPTR_UE, BL_INT_EN_QPTR_UE)]
/-- R419: the status bits of `JNL_INT_STATUS`, each with its enable. -/
def JNL_INTS : List (Fld × Fld) := [(JNL_INT_STATUS_COMMIT, JNL_INT_EN_COMMIT), (JNL_INT_STATUS_STAGE_FULL, JNL_INT_EN_STAGE_FULL), (JNL_INT_STATUS_BAD_SECTOR, JNL_INT_EN_BAD_SECTOR), (JNL_INT_STATUS_FAILED, JNL_INT_EN_FAILED), (JNL_INT_STATUS_TORN_FOUND, JNL_INT_EN_TORN_FOUND)]
/-- R437: the status bits of `LN_INT_STATUS`, each with its enable. -/
def LN_INTS (n : Nat) : List (Fld × Fld) := [(LN_INT_STATUS_LOSS n, LN_INT_EN_LOSS n), (LN_INT_STATUS_RETRAINED n, LN_INT_EN_RETRAINED n), (LN_INT_STATUS_RETIRED n, LN_INT_EN_RETIRED n), (LN_INT_STATUS_RETURNED n, LN_INT_EN_RETURNED n), (LN_INT_STATUS_RETURN_FAIL n, LN_INT_EN_RETURN_FAIL n), (LN_INT_STATUS_TRAIN_FAIL n, LN_INT_EN_TRAIN_FAIL n)]
/-- R464: the status bits of `DD_INT_STATUS`, each with its enable. -/
def DD_INTS : List (Fld × Fld) := [(DD_INT_STATUS_DEEPER, DD_INT_EN_DEEPER), (DD_INT_STATUS_LIGHTER, DD_INT_EN_LIGHTER), (DD_INT_STATUS_TAMPER, DD_INT_EN_TAMPER)]
/-- R484: the status bits of `HB_INT_STATUS`, each with its enable. -/
def HB_INTS : List (Fld × Fld) := [(HB_INT_STATUS_LINK_DOWN, HB_INT_EN_LINK_DOWN), (HB_INT_STATUS_DSTATE, HB_INT_EN_DSTATE), (HB_INT_STATUS_PERST, HB_INT_EN_PERST), (HB_INT_STATUS_WAKE_MERGED, HB_INT_EN_WAKE_MERGED), (HB_INT_STATUS_HOST_ERR, HB_INT_EN_HOST_ERR)]
/-- Every register of the management space (R1, R7). -/
def table : List RegRow :=
  rowsR42 ++
  rowsR70 ++
  rowsR101 ++
  rowsR129 ++
  rowsR130 ++
  rowsR186 ++
  rowsR202 ++
  rowsR222 ++
  rowsR232 ++
  rowsR242 ++
  rowsR243 ++
  rowsR260 ++
  rowsR290 ++
  rowsR321 ++
  rowsR322 ++
  rowsR343 ++
  rowsR344 ++
  rowsR362 ++
  rowsR374 ++
  rowsR379 ++
  rowsR384 ++
  rowsR390 ++
  rowsR418 ++
  rowsR419 ++
  rowsR437 ++
  rowsR464 ++
  rowsR465 ++
  rowsR484 ++
  rowsR485 ++
  rowsR486 ++
  rowsR504 ++
  rowsR102 ++
  rowsR71 ++
  rowsR365

end Sys2Proof.Machine.Rg
end

