-- ==== Sys2Proof/Machine/Ops.lean ====
section
/-! DEFINITION. The named operations every unit uses: sparse tables, register fields, counters that hold at their top,
interrupt status bits, staged changes, free values, bytes of the store, local memory and vault, and the last response
on the matrix. -/

namespace Sys2Proof.Machine

/-! ### Sparse tables -/

/-- The value of key `k`, or `d` where the table does not list it. -/
def Tab.get {α : Type} (t : Tab α) (k : Nat) (d : α) : α :=
  match t with
  | [] => d
  | (k', v) :: r => if k' = k then v else Tab.get r k d

/-- The table with key `k` listed as `v`, in rising order of keys. -/
def Tab.put {α : Type} (t : Tab α) (k : Nat) (v : α) : Tab α :=
  match t with
  | [] => [(k, v)]
  | (k', v') :: r =>
    if k < k' then (k, v) :: (k', v') :: r
    else if k = k' then (k, v) :: r
    else (k', v') :: Tab.put r k v

/-- The table without key `k`. -/
def Tab.del {α : Type} (t : Tab α) (k : Nat) : Tab α :=
  match t with
  | [] => []
  | (k', v') :: r => if k' = k then Tab.del r k else (k', v') :: Tab.del r k

/-- The table in which `k` reads as `v`, where an unlisted key reads as `d`: an entry equal to `d` is not kept, so equal
contents are equal data. -/
def Tab.set {α : Type} [DecidableEq α] (t : Tab α) (k : Nat) (d v : α) : Tab α :=
  if v = d then Tab.del t k else Tab.put t k v

/-- The keys of a table rise strictly. -/
def Tab.rising {α : Type} : Tab α → Bool
  | [] => true
  | [_] => true
  | (k, _) :: (k', v') :: r => decide (k < k') && Tab.rising ((k', v') :: r)

/-! ### Register fields -/

/-- A field's place in the register table of State. -/
def Fld.key (f : Fld) : Nat := f.addr * 64 + f.lo

/-- The value a field holds (R11: its reset value until something writes it). -/
def State.get (s : State) (f : Fld) : Nat := Tab.get s.regs f.key f.rst

/-- The state with a field holding `v`, cut to the field's width. -/
def State.set (s : State) (f : Fld) (v : Nat) : State :=
  { s with regs := Tab.set s.regs f.key f.rst (v % 2 ^ f.w) }

/-- A one-bit field read as a truth value. -/
def State.flag (s : State) (f : Fld) : Bool := s.get f == 1

/-- A field set to 1 or 0. -/
def State.setBit (s : State) (f : Fld) (b : Bool) : State := s.set f (if b then 1 else 0)

/-- Sets a status bit (an internal set wins over a clear of the same cycle, R9). -/
def State.raise (s : State) (f : Fld) : State := s.set f 1

/-- Adds `n` to a counter that holds at its top value. -/
def State.bumpBy (s : State) (f : Fld) (n : Nat) : State := s.set f (min (s.get f + n) (2 ^ f.w - 1))

/-- Adds 1 to a counter that holds at its top value. -/
def State.bump (s : State) (f : Fld) : State := s.bumpBy f 1

/-- Sets a field back to its reset value. -/
def State.resetFld (s : State) (f : Fld) : State := s.set f f.rst

/-- A LO and HI pair read as one value. -/
def State.get2 (s : State) (lo hi : Fld) : Nat := s.get lo + s.get hi * 2 ^ lo.w

/-- A LO and HI pair set from one value. -/
def State.set2 (s : State) (lo hi : Fld) (v : Nat) : State := (s.set lo v).set hi (v / 2 ^ lo.w)

/-! ### Free values -/

/-- A fresh free value below `n` (below 1 where `n` is 0), and the state that has used it up. What the value is, nothing
can tell (Config.free). [DESIGN CHOICE, safe: assumption 1] -/
def State.fresh (s : State) (n : Nat) : Nat × State :=
  (Config.free s.freeCtr % (max n 1), { s with freeCtr := s.freeCtr + 1 })

/-! ### The management clock (R365) -/

/-- The management-cycle count (R365). -/
def State.mc (s : State) : Nat := s.get2 Rg.TMR_MC_LO Rg.TMR_MC_HI

/-! ### Glitch filters (R496, R505) -/

/-- The part of a level of `mc` cycles that a filter judges: a write of `PAD_FILT` made its count begin anew (R505).
[DESIGN CHOICE, unsafe: assumption 133] -/
def State.sinceFilt (s : State) (mc : Nat) : Nat :=
  match s.filtAt with
  | none => mc
  | some a => min mc (s.mc - a)

/-- Whether the filter of a slow input, which asks for `n` equal samples, passes a level that the pin holds for `mc` management
cycles, and the state: from N + 1 on it does, below N it does not, since two edges closer than N make none, and at N either may
be; an N of 0 acts as 1 (R496, R504). [DESIGN CHOICE, safe: assumption 116] -/
def State.filtered (s : State) (n mc : Nat) : Bool × State :=
  let n := max n 1
  if n + 1 ≤ mc then (true, s)
  else if mc < n then (false, s)
  else
    match s.fresh 2 with
    | (b, s) => (b == 1, s)

/-- What a level on a slow input does where its filter passes it. -/
def State.whenPassed (s : State) (n mc : Nat) (f : State → State) : State :=
  match s.filtered n mc with
  | (true, s) => f s
  | (false, s) => s

/-! ### Staged changes (R26) -/

/-- The state in which a field's value in force is `v`. -/
def State.setForce (s : State) (f : Fld) (v : Nat) : State :=
  { s with inForce := Tab.set s.inForce f.key f.rst (v % 2 ^ f.w) }

/-- The field's value in force in the frame pipeline: what was last applied at a frame boundary (R26).
[DEDUCED, unsafe: assumption 23] -/
def State.force (s : State) (f : Fld) : Nat := Tab.get s.inForce f.key f.rst

/-- The frame/tick unit is LOCKED: cc 0 occurs (R26, R42 state 4). -/
def State.locked (s : State) : Bool := s.get Rg.FT_STATUS_STATE == 4

/-- The frame/tick unit is in UNLOCKED or REFUSED (R37). -/
def State.unlocked (s : State) : Bool :=
  s.get Rg.FT_STATUS_STATE == 0 || s.get Rg.FT_STATUS_STATE == 6

/-- F of `FT_CFG`. -/
def State.frameF (s : State) : Nat := s.get Rg.FT_CFG_F_M1 + 1
/-- M of `FT_CFG`. -/
def State.frameM (s : State) : Nat := s.get Rg.FT_CFG_M
/-- F × M, the frame length in cc (R14). -/
def State.frameCc (s : State) : Nat := s.frameF * s.frameM
/-- The evaluation budget W, 0 where F × M − 256 is negative (R20, R42). -/
def State.budgetW (s : State) : Nat := s.frameCc - 256

/-- The staging point P of a frame (R26). -/
def State.stagingPoint (s : State) : Nat :=
  if 64 ≤ s.frameCc then s.frameCc - 32 else s.frameCc / 2

/-- Applies a change to the values in force. -/
def State.applyStaged (s : State) (e : Staged) : State :=
  { s with inForce := Tab.set s.inForce e.key e.rst e.val }

/-- A change marked as taking effect at a frame boundary: applied at once while the unit is not LOCKED, else at the next
cc 0 when it lands before the staging point, else at the cc 0 after that (R26). [DEDUCED, unsafe: assumption 23] -/
def State.stage (s : State) (f : Fld) (v : Nat) : State :=
  let e : Staged := ⟨f.key, f.rst, v % 2 ^ f.w, if s.ft.cc < s.stagingPoint then 1 else 2⟩
  if s.locked then { s with staged := s.staged ++ [e] } else s.applyStaged e

/-- cc 0: the changes due now are applied in the order they were written, the others come one boundary nearer (R26).
[DEDUCED, unsafe: assumption 23] -/
def State.applyDue (s : State) : State :=
  let due := s.staged.filter (fun e => e.due ≤ 1)
  let rest := (s.staged.filter (fun e => ¬ e.due ≤ 1)).map (fun e => { e with due := e.due - 1 })
  due.foldl State.applyStaged { s with staged := rest }

/-- Every staged change is applied at once (the unit leaves LOCKED, R26). -/
def State.applyAll (s : State) : State :=
  s.staged.foldl State.applyStaged { s with staged := [] }

/-! ### Little-endian bytes -/

/-- The value of a list of bytes, the first least significant (R3). -/
def leNat : List Byte → Nat
  | [] => 0
  | b :: r => b.toNat + 256 * leNat r

/-- The `n` bytes of a value, least significant first (R3). -/
def leBytes : Nat → Nat → List Byte
  | 0, _ => []
  | n + 1, v => BitVec.ofNat 8 v :: leBytes n (v / 256)

/-- A sign-extended value of `w` bits. -/
def sext (w v : Nat) : Int := if v % 2 ^ w < 2 ^ (w - 1) then (v % 2 ^ w : Int) else (v % 2 ^ w : Int) - 2 ^ w

/-- An integer cut to `w` bits. -/
def toBits (w : Nat) (i : Int) : Nat := (i % (2 ^ w : Int)).toNat

/-- Bits [hi:lo] of a number. -/
def bits (v hi lo : Nat) : Nat := v / 2 ^ lo % 2 ^ (hi + 1 - lo)

/-! ### Memories -/

/-- The first byte address above the Interleaved Store (R1, R73). -/
def storeTop : Nat := 0x1FFF0000

/-- A store byte, without any access being made: what is stored, 0 where nothing has been written (R87: the zero-fill).
[DESIGN CHOICE, unsafe: assumption 15] -/
def State.stByte (s : State) (a : Nat) : Byte := Tab.get s.store a 0

/-- The state with one store byte changed. -/
def State.stPut (s : State) (a : Nat) (b : Byte) : State := { s with store := Tab.set s.store a 0 b }

/-- `n` store bytes from `a` on, no access made. -/
def State.stBytes (s : State) (a : Nat) : Nat → List Byte
  | 0 => []
  | n + 1 => s.stByte a :: s.stBytes (a + 1) n

/-- The state with a list of bytes stored from `a` on. -/
def State.stPuts (s : State) (a : Nat) : List Byte → State
  | [] => s
  | b :: r => (s.stPut a b).stPuts (a + 1) r

/-- A byte of local memory, by its offset from 0x0001_0000_0000 (R355); reset zeroes it (R357).
[DESIGN CHOICE, unsafe: assumption 15] -/
def State.lmByte (s : State) (a : Nat) : Byte := Tab.get s.localMem a 0

/-- The state with one byte of local memory changed and the tag of its slot cleared (R356, R296). -/
def State.lmPut (s : State) (a : Nat) (b : Byte) : State :=
  { s with localMem := Tab.set s.localMem a 0 b, tags := Tab.set s.tags (a / 16) false false,
           tagBad := Tab.set s.tagBad (a / 16) false false }

/-- `n` bytes of local memory. -/
def State.lmBytes (s : State) (a : Nat) : Nat → List Byte
  | 0 => []
  | n + 1 => s.lmByte a :: s.lmBytes (a + 1) n

/-- The state with a list of bytes written to local memory. -/
def State.lmPuts (s : State) (a : Nat) : List Byte → State
  | [] => s
  | b :: r => (s.lmPut a b).lmPuts (a + 1) r

/-- A byte of the vault, by its offset (R358). [DESIGN CHOICE, unsafe: assumption 15] -/
def State.vtByte (s : State) (a : Nat) : Byte := Tab.get s.vault a 0

/-- The state with one byte of the vault changed. -/
def State.vtPut (s : State) (a : Nat) (b : Byte) : State := { s with vault := Tab.set s.vault a 0 b }

/-- `n` bytes of the vault. -/
def State.vtBytes (s : State) (a : Nat) : Nat → List Byte
  | 0 => []
  | n + 1 => s.vtByte a :: s.vtBytes (a + 1) n

/-- The state with a list of bytes written to the vault. -/
def State.vtPuts (s : State) (a : Nat) : List Byte → State
  | [] => s
  | b :: r => (s.vtPut a b).vtPuts (a + 1) r

/-! ### What leaves the device -/

/-- Something leaves the device. The newest output stands first. [DESIGN CHOICE, safe: assumption 9] -/
def State.emit (s : State) (o : Output) : State := { s with sent := o :: s.sent }

/-! ### Commands -/

/-- A command that acts whether or not the device is held in reset: its effect, the queue left as it is.
[DEDUCED, unsafe: assumption 12] -/
def always (s : State) (f : State → State) : Host.Outcome State Fault Refusal :=
  .next { f s with pending := s.pending }

/-- A command acts on the device unless it is held in reset (R448, R450).
[DESIGN CHOICE, unsafe: assumption 11; DEDUCED, unsafe: assumption 12] -/
def act (s : State) (f : State → State) : Host.Outcome State Fault Refusal :=
  always s fun s => if s.held then s else f s

end Sys2Proof.Machine
end

