-- ==== Sys2Proof/Machine/CrcBits.lean ====
section
/-! DEFINITION. The CRC computation of R380, bit by bit as the spec writes it, and the CRC-32C of R49 in its terms. -/

namespace Sys2Proof.Machine

/-- The parameters of a CRC (R380). -/
structure CrcParams where
  width  : Nat
  poly   : Nat
  init   : Nat
  refin  : Bool
  refout : Bool
  xorout : Nat
deriving DecidableEq, Repr

/-- The low `n` bits of `v` in reverse order. -/
def reverseBits : Nat → Nat → Nat
  | 0, _ => 0
  | n + 1, v => v % 2 * 2 ^ n + reverseBits n (v / 2)

/-- One bit into the register (R380). -/
def crcBit (p : CrcParams) (reg b : Nat) : Nat :=
  let top := (reg / 2 ^ (p.width - 1) + b) % 2
  let r := reg * 2 % 2 ^ p.width
  if top = 1 then Nat.xor r (p.poly % 2 ^ p.width) else r

/-- One byte into the register, bit 7 first, reversed before when REFIN is 1 (R380). -/
def crcByte (p : CrcParams) (reg : Nat) (b : Nat) : Nat :=
  let b := if p.refin then reverseBits 8 b else b % 256
  [7, 6, 5, 4, 3, 2, 1, 0].foldl (fun r k => crcBit p r (b / 2 ^ k % 2)) reg

/-- Bytes into the register in order. -/
def crcBytes (p : CrcParams) (reg : Nat) : List Byte → Nat
  | [] => reg
  | b :: r => crcBytes p (crcByte p reg b.toNat) r

/-- The result for a register value (R380). -/
def crcResult (p : CrcParams) (reg : Nat) : Nat :=
  Nat.xor (if p.refout then reverseBits p.width reg else reg) p.xorout % 2 ^ p.width

/-- The parameters of CRC-32C (R49, preset 2 of R381). -/
def crc32cParams : CrcParams := ⟨32, 0x1EDC6F41, 0xFFFFFFFF, true, true, 0xFFFFFFFF⟩

/-- CRC-32C of a list of bytes (R49). -/
def crc32c (bs : List Byte) : Nat := crcResult crc32cParams (crcBytes crc32cParams crc32cParams.init bs)

end Sys2Proof.Machine
end

