-- ==== Sys2Proof/Machine/Policy.lean ====
section
/-! DEFINITION. Bank rotation as bookkeeping, leaky buckets, strikes and the reliability policy (R97 to R100, R395 to
R399). -/

namespace Sys2Proof.Machine

/-! ### The bank mapping (R74, R75) -/

/-- The logical bank of a store word, by the one end-around add of R75. -/
def bankOf (w : Nat) : Nat :=
  let hi := w / 8192 % 4096
  let lo := w % 8192
  let s := hi + lo
  let t := s % 8192 + s / 8192
  if t = 8191 then 0 else t

/-- The row of a store word within its bank (R75). -/
def rowOf (w : Nat) : Nat :=
  let hi := w / 8192 % 4096
  let lo := w % 8192
  let s := hi + lo
  let t := s % 8192 + s / 8192
  hi + (if t = 8191 then 1 else s / 8192)

/-- The physical bank that holds a logical bank (R76). -/
def State.physOf (s : State) (log : Nat) : Nat := s.get (Rg.BM_PHYS log)

/-- The logical bank that physical bank `p` holds, where it holds one (R76). -/
def State.logOf (s : State) (p : Nat) : Option Nat :=
  if p < 8191 ∧ s.get (Rg.BM_PHYS p) = p then some p
  else (List.range 8191).find? (fun b => s.get (Rg.BM_PHYS b) = p)

/-! ### Rotation steps (R97 to R100) -/

/-- A step begins copying logical bank `log` into the spare (R97). -/
def State.rotBegin (s : State) (log : Nat) : State :=
  let src := s.physOf log
  let s := { s with rot := .copying log src }
  (((s.set Rg.ST_STATUS_ROT_PHASE 1).set Rg.ST_ROT_STATUS_SRC_PHYS src).set Rg.ST_ROT_STATUS_COPY_ROW 0)

/-- The logical bank of an automatic step: that of the physical bank whose number follows the spare's (R98). -/
def State.rotNext (s : State) : Option Nat := s.logOf ((s.get Rg.ST_STATUS_SPARE_PHYS + 1) % 8192)

/-- Blotter tests the spare, or is to test it after the step in progress (OP 2 of R404).
[DESIGN CHOICE, unsafe: assumption 35] -/
def State.marching (s : State) : Bool := s.get Rg.BL_STATUS_MBIST == 1 && s.blMbist.isNone

/-- A test of Blotter's banks is abandoned (R407, R418). -/
def State.mbistAbort (s : State) : State :=
  { (s.set Rg.BL_STATUS_MBIST 4).raise Rg.BL_INT_STATUS_ABORTED with blMbist := none }

/-- No step is in progress any more: a march that waits for the spare begins on it, and ends where there is none.
[DESIGN CHOICE, unsafe: assumption 35] -/
def State.marchNext (s : State) : State :=
  if ¬ s.marching then s
  else if s.flag Rg.ST_STATUS_NO_SPARE then s.mbistAbort
  else s.set Rg.BL_STATUS_MBIST_PHYS (s.get Rg.ST_STATUS_SPARE_PHYS)

/-- Starts the oldest step asked for, when none is in progress, the store has a spare that no march tests, and no drydown tier
holds (R99, R100, R401). [DESIGN CHOICE, unsafe: assumption 35] -/
def State.rotService (s : State) : State :=
  match s.rot, s.rotWant with
  | .idle, w :: r =>
    if s.flag Rg.ST_STATUS_NO_SPARE ∨ s.get Rg.DD_STATUS_TIER ≠ 0 ∨ s.marching then s
    else
      match (match w with | some b => some b | none => s.rotNext) with
      | some b => { s with rotWant := r }.rotBegin b
      | none => { s with rotWant := r }
  | _, _ => s

/-- Asks for a step: it starts now, or after the step in progress (R99, R101). [DEDUCED, unsafe: assumption 126] -/
def State.rotRequest (s : State) (target : Option Nat) : State :=
  { s with rotWant := s.rotWant ++ [target] }.rotService

/-! ### Strikes (R397 to R399) -/

/-- The key of a unit's strikes. -/
def strikeKey (cls unit : Nat) : Nat := 65536 * cls + unit

/-- The entry of the strike table of logical banks that gives way: the one whose window start is oldest (R399). -/
def State.oldestTracked (s : State) : Option Nat :=
  s.bankTrack.foldl (fun b x =>
    match b with
    | none => some x
    | some y =>
      if (Tab.get s.strikes (strikeKey 1 x) ⟨0, 0⟩).start < (Tab.get s.strikes (strikeKey 1 y) ⟨0, 0⟩).start
      then some x else some y) none

/-- A bank enters the strike table, where one of 16 gives way to it (R399). -/
def State.trackBank (s : State) (log : Nat) : State :=
  if log ∈ s.bankTrack then s
  else if s.bankTrack.length < 16 then { s with bankTrack := s.bankTrack ++ [log] }
  else
    match s.oldestTracked with
    | none => { s with bankTrack := [log] }
    | some o =>
      { s with bankTrack := s.bankTrack.filter (· ≠ o) ++ [log],
               strikes := Tab.del s.strikes (strikeKey 1 o) }

/-- Counts a strike on a unit; the answer is whether it is now permanent (R397). -/
def State.strike (s : State) (cls unit : Nat) (immediate : Bool) : Bool × State :=
  let k := strikeKey cls unit
  let old := Tab.get s.strikes k ⟨0, 0⟩
  let new : Strike :=
    if old.cnt = 0 ∨ s.polFrames - old.start ≥ max (s.get (Rg.RL_CLASS_WINDOW cls)) 1 then ⟨1, s.polFrames⟩
    else ⟨old.cnt + 1, old.start⟩
  let s := s.bump Rg.RL_STRIKE_CNT
  if immediate ∨ new.cnt > s.get (Rg.RL_CLASS_RETRY cls) then
    let s := { s with strikes := Tab.put s.strikes k ⟨0, new.start⟩ }
    let s := ((s.raise Rg.BL_INT_STATUS_PERM).set Rg.RL_LAST_PERM_CLASS cls).set Rg.RL_LAST_PERM_UNIT unit
    (true, s.bump Rg.RL_PERM_CNT)
  else (false, { s with strikes := Tab.put s.strikes k new })

/-- A strike on a logical bank: a permanent bank is moved by a targeted step, when `RL_CLASS1.ACT` is 1 and the store has
a spare (R398, R399). -/
def State.strikeBank (s : State) (log : Nat) (immediate : Bool) : State :=
  match (s.trackBank log).strike 1 log immediate with
  | (false, s) => s
  | (true, s) =>
    if s.flag (Rg.RL_CLASS_ACT 1) ∧ ¬ s.flag Rg.ST_STATUS_NO_SPARE then s.rotRequest (some log) else s

/-- The slot an engine serves, where it serves one (R118). -/
def State.slotOf (s : State) (ve : Nat) : Option Nat :=
  (List.range 64).find? (fun k => s.flag (Rg.EM_MAP_VALID k) && s.get (Rg.EM_MAP_VE k) == ve)

/-- The engine that serves a slot, where one does. -/
def State.veOf (s : State) (slot : Nat) : Option Nat :=
  if s.flag (Rg.EM_MAP_VALID slot) then some (s.get (Rg.EM_MAP_VE slot)) else none

/-- The state of an engine (R119): 0 OFF, 1 SPARE, 2 ACTIVE, 3 TEST, 4 RETIRED. -/
def State.veState (s : State) (ve : Nat) : Nat := s.get (Rg.EM_VE_STATE_STATE ve)

/-- Puts an engine into a state. -/
def State.setVeState (s : State) (ve st : Nat) : State := s.set (Rg.EM_VE_STATE_STATE ve) st

/-- How many boundaries lie before a request made now takes effect (R26). -/
def State.dueNow (s : State) : Nat := if s.ft.cc < s.stagingPoint then 1 else 2

/-- Asks for a migration (R125); one that the policy or Blotter has already asked for is not asked for twice. -/
def State.migRequest (s : State) (slot : Nat) (target : Option Nat) (why : MigWhy) : State :=
  if why ≠ .command ∧ s.migReqs.any (fun r => r.slot == slot && decide (r.why = why)) then s
  else { s with migReqs := s.migReqs ++ [{ slot, target, why, due := s.dueNow }] }

/-- An engine the policy finds permanent: SPARE or TEST enters RETIRED; an ACTIVE one is moved when `EM_CTRL.AUTO_MIG`
and `RL_CLASS0.ACT` are 1, and keeps its slot otherwise (R398). -/
def State.permEngine (s : State) (ve : Nat) : State :=
  if s.veState ve = 1 ∨ s.veState ve = 3 then s.setVeState ve 4
  else if s.veState ve = 2 ∧ s.flag Rg.EM_CTRL_AUTO_MIG ∧ s.flag (Rg.RL_CLASS_ACT 0) then
    match s.slotOf ve with
    | some slot => s.migRequest slot none .policy
    | none => s
  else s

/-- A strike on an engine (R398). -/
def State.strikeEngine (s : State) (ve : Nat) (immediate : Bool) : State :=
  match s.strike 0 ve immediate with
  | (false, s) => s
  | (true, s) => s.permEngine ve

/-! ### Leaky buckets (R395, R396) -/

/-- A correctable event of bucket `b`: COUNT gains 1; above LIMIT the bucket overflows, and its unit is struck where it
has a class. The answer says whether it overflowed. -/
def State.bucketAdd (s : State) (b : Nat) : Bool × State :=
  let c := s.get (Rg.RL_BKT_COUNT b) + 1
  if c > s.get (Rg.RL_BKT_LIMIT b) then
    let s := ((s.raise (Rg.RL_BKT_OVF b)).raise Rg.BL_INT_STATUS_BUCKET).set Rg.RL_LAST_BKT b
    (true, s.set (Rg.RL_BKT_COUNT b) 0)
  else (false, s.set (Rg.RL_BKT_COUNT b) c)

/-- A correctable event of an engine: mask, T or instruction cache (R396). -/
def State.ceEngine (s : State) (ve : Nat) : State :=
  match s.bucketAdd ve with
  | (true, s) => s.strikeEngine ve false
  | (false, s) => s

/-- A corrected store word: the group's own counter and its bucket; an overflow strikes the logical bank of the group's
most recent corrected word (R392, R396). -/
def State.ceStore (s : State) (w : Nat) : State :=
  let log := bankOf w
  let g := s.physOf log / 64
  let s := s.bump (Rg.GRP_CE_CNT g)
  let s := { s with lastCeBank := Tab.put s.lastCeBank g log }
  match s.bucketAdd (68 + g) with
  | (true, s) => s.strikeBank log false
  | (false, s) => s

/-- A correctable event of a unit without a class: local memory, vault, queue fabric, lane (R396). -/
def State.cePlain (s : State) (b : Nat) : State := (s.bucketAdd b).2

/-- Lowers every bucket that is not 0 by 1. -/
def State.leakFrom (s : State) : List Nat → State
  | [] => s
  | b :: r => (s.set (Rg.RL_BKT_COUNT b) (s.get (Rg.RL_BKT_COUNT b) - 1)).leakFrom r

/-- The policy frame count advances (R395). -/
def State.polAdvance (s : State) : State := { s with polFrames := s.polFrames + 1, polLeak := s.polLeak + 1 }

/-- The threshold of a tier, in mV (R441, R464). -/
def State.ddThreshold (s : State) : Nat → Nat
  | 1 => s.get Rg.DD_THR0_TOP_MV
  | 2 => s.get Rg.DD_THR0_HEART_MV
  | _ => s.get Rg.DD_THR1_BASE_MV

/-- A voltage at which the present tier may be left (R444). -/
def State.ddGood (s : State) (mv : Nat) : Bool :=
  decide (s.ddThreshold (s.get Rg.DD_STATUS_TIER) + s.get Rg.DD_CFG_HYST_MV ≤ mv)

/-- The frame that ends was whole in the present tier, and each of its samples was good; VDD_CORE stands at its latest sample
until the next one is given, and a FORCE that holds the tier stands for a voltage below it (R443, R444).
[DESIGN CHOICE, unsafe: assumption 115] -/
def State.ddWasGood (s : State) : Bool :=
  s.dd.since != 0 && !s.dd.badFrame && s.ddGood (s.get Rg.DD_VCORE_MV) &&
    decide (s.get Rg.DD_CTRL_FORCE < s.get Rg.DD_STATUS_TIER)

/-- A frame ends and the next one begins, for the recovery of drydown: the good frames in a row are counted, and from
`GOOD_FRAMES` on, where 0 acts as 1, the tier is to be left (R444). -/
def State.ddFrame (s : State) : State :=
  if s.get Rg.DD_STATUS_TIER = 0 then s
  else
    let g := if s.ddWasGood then min (s.get Rg.DD_STATUS_GOOD + 1) 255 else 0
    { s.set Rg.DD_STATUS_GOOD g with
      dd := { s.dd with since := s.dd.since + 1, badFrame := false,
                        leaveDue := decide (max 1 (s.get Rg.DD_CFG_GOOD_FRAMES) ≤ g) } }

/-- The present frame begins, or is cut short, without an end of the one before it: a cut frame is no whole one (R444).
[DESIGN CHOICE, unsafe: assumption 115] -/
def State.ddWhole (s : State) (whole : Bool) : State :=
  { s with dd := { s.dd with since := if whole then 1 else 0, badFrame := false } }

/-- One leak of every bucket (R395). -/
def State.leakAll (s : State) : State := s.leakFrom (List.range 330)

/-! ### Blotter's view of a rotation test (R404) -/

/-- The step that has moved logical bank `log` is the one that Blotter asked for (OP 3 of R404): not one that was in progress
when it did. [DESIGN CHOICE, unsafe: assumption 35; DEDUCED, unsafe: assumption 57] -/
def State.mbistStep (s : State) (log : Nat) : Bool := s.blMbist == some log && !s.rotWant.contains (some log)

/-- The result of a rotation step's test, where Blotter asked for that step (OP 3 of R404).
[DEDUCED, unsafe: assumption 57] -/
def State.mbistReport (s : State) (log src : Nat) (pass : Bool) : State :=
  if s.mbistStep log then
    let s := (s.set Rg.BL_STATUS_MBIST (if pass then 2 else 3)).set Rg.BL_STATUS_MBIST_PHYS src
    { s.raise (if pass then Rg.BL_INT_STATUS_DONE else Rg.BL_INT_STATUS_FAIL) with blMbist := none }
  else s

end Sys2Proof.Machine
end

