-- ==== Sys2Proof/Machine/Float.lean ====
section
/-! DEFINITION. The device's floating point (R151 to R159): binary16 and binary32 with flushed subnormals, one canonical
NaN, exact results rounded once to nearest, ties to even. Values are exact fractions until the one rounding. -/

namespace Sys2Proof.Machine

/-- A float format: bits of precision, hidden bit included, and bits of exponent. -/
structure FltFmt where
  prec : Nat
  ebits : Nat
deriving DecidableEq, Repr

/-- IEEE 754 binary16. -/
def fmt16 : FltFmt := ⟨11, 5⟩
/-- IEEE 754 binary32. -/
def fmt32 : FltFmt := ⟨24, 8⟩

/-- The format's width. -/
def FltFmt.width (f : FltFmt) : Nat := f.prec + f.ebits
/-- The exponent bias. -/
def FltFmt.bias (f : FltFmt) : Nat := 2 ^ (f.ebits - 1) - 1
/-- The largest exponent of a finite number. -/
def FltFmt.emax (f : FltFmt) : Int := f.bias
/-- The exponent of the smallest normal number. -/
def FltFmt.emin (f : FltFmt) : Int := 1 - (f.bias : Int)
/-- The bits of ±∞. -/
def FltFmt.inf (f : FltFmt) (neg : Bool) : Nat :=
  (if neg then 2 ^ (f.width - 1) else 0) + (2 ^ f.ebits - 1) * 2 ^ (f.prec - 1)
/-- The bits of ±0. -/
def FltFmt.zero (f : FltFmt) (neg : Bool) : Nat := if neg then 2 ^ (f.width - 1) else 0
/-- The canonical NaN: 0x7E00 or 0x7FC0_0000 (R157). -/
def FltFmt.nan (f : FltFmt) : Nat := (2 ^ f.ebits - 1) * 2 ^ (f.prec - 1) + 2 ^ (f.prec - 2)


/-- A float operand, exactly. -/
inductive FVal where
  | nan
  | inf (neg : Bool)
  /-- ± mant × 2^exp; mant 0 is a signed zero. -/
  | fin (neg : Bool) (mant : Nat) (exp : Int)
deriving DecidableEq, Repr

/-- Whether bits are a subnormal number. -/
def fltSubnormal (f : FltFmt) (b : Nat) : Bool :=
  b / 2 ^ (f.prec - 1) % 2 ^ f.ebits == 0 && b % 2 ^ (f.prec - 1) != 0

/-- The sign bit. -/
def fltNeg (f : FltFmt) (b : Nat) : Bool := b / 2 ^ (f.width - 1) % 2 == 1

/-- An operand as the operations read it: a subnormal is read as a zero of its sign (R158). -/
def fltRead (f : FltFmt) (b : Nat) : FVal :=
  let e := b / 2 ^ (f.prec - 1) % 2 ^ f.ebits
  let m := b % 2 ^ (f.prec - 1)
  let n := fltNeg f b
  if e = 2 ^ f.ebits - 1 then (if m = 0 then .inf n else .nan)
  else if e = 0 then .fin n 0 0
  else .fin n (m + 2 ^ (f.prec - 1)) ((e : Int) - f.bias - (f.prec - 1 : Nat))

/-- What a rounding gives: the bits, and whether a non-zero value was flushed to zero (R158). -/
structure FRes where
  bits : Nat
  sub  : Bool
deriving DecidableEq, Repr

/-- Rounds a quotient of naturals to the nearest natural, ties to even. -/
def rneDiv (n d : Nat) : Nat :=
  let q := n / d
  let r := n % d
  if 2 * r < d then q else if 2 * r > d then q + 1 else if q % 2 = 0 then q else q + 1

/-- floor(log2 (n / d)) for positive n and d. -/
def log2Frac (n d : Nat) : Int :=
  let e : Int := (Nat.log2 n : Int) - (Nat.log2 d : Int)
  -- 2^e ≤ n/d, or one less
  let ge := if 0 ≤ e then d * 2 ^ e.toNat ≤ n else d ≤ n * 2 ^ (-e).toNat
  if ge then e else e - 1

/-- The significand of n / d at exponent `e` (that of its leading bit), rounded to nearest even at the format's
precision. -/
def sigAt (f : FltFmt) (n d : Nat) (e : Int) : Nat :=
  let sh : Int := (f.prec - 1 : Nat) - e
  if 0 ≤ sh then rneDiv (n * 2 ^ sh.toNat) d else rneDiv n (d * 2 ^ (-sh).toNat)

/-- The value ± n / d rounded once, with an unbounded exponent, then taken to ±∞ above the largest finite number and
flushed to zero below the smallest normal one (R156, R158). -/
def fltRound (f : FltFmt) (neg : Bool) (n d : Nat) : FRes :=
  if n = 0 then ⟨f.zero neg, false⟩
  else
    let e0 := log2Frac n d
    let q0 := sigAt f n d e0
    let e := if q0 = 2 ^ f.prec then e0 + 1 else e0
    let q := if q0 = 2 ^ f.prec then 2 ^ (f.prec - 1) else q0
    if e > f.emax then ⟨f.inf neg, false⟩
    else if e < f.emin then ⟨f.zero neg, true⟩
    else ⟨(if neg then 2 ^ (f.width - 1) else 0) + (e + f.bias).toNat * 2 ^ (f.prec - 1) + (q - 2 ^ (f.prec - 1)), false⟩

/-- A signed integer times 2^e, rounded; `zneg` is the sign of an exact zero. -/
def fltOfScaled (f : FltFmt) (m : Int) (e : Int) (zneg : Bool) : FRes :=
  if m = 0 then ⟨f.zero zneg, false⟩
  else if 0 ≤ e then fltRound f (m < 0) (m.natAbs * 2 ^ e.toNat) 1
  else fltRound f (m < 0) m.natAbs (2 ^ (-e).toNat)

/-- A finite operand as a signed integer at exponent `e`, which is not above its own. -/
def scaleTo (neg : Bool) (m : Nat) (me e : Int) : Int :=
  let v : Int := (m * 2 ^ (me - e).toNat : Nat)
  if neg then -v else v

/-- a + b. -/
def fltAdd (f : FltFmt) (a b : FVal) : FRes :=
  match a, b with
  | .nan, _ => ⟨f.nan, false⟩
  | _, .nan => ⟨f.nan, false⟩
  | .inf x, .inf y => if x = y then ⟨f.inf x, false⟩ else ⟨f.nan, false⟩
  | .inf x, _ => ⟨f.inf x, false⟩
  | _, .inf y => ⟨f.inf y, false⟩
  | .fin x m e, .fin y n g =>
    let k := min e g
    fltOfScaled f (scaleTo x m e k + scaleTo y n g k) k (x && y)

/-- The operand with its sign turned. -/
def FVal.neg : FVal → FVal
  | .nan => .nan
  | .inf s => .inf (!s)
  | .fin s m e => .fin (!s) m e

/-- The exact product, before any rounding. -/
def fvMul (a b : FVal) : FVal :=
  match a, b with
  | .nan, _ => .nan
  | _, .nan => .nan
  | .inf x, .inf y => .inf (x != y)
  | .inf x, .fin y n _ => if n = 0 then .nan else .inf (x != y)
  | .fin x m _, .inf y => if m = 0 then .nan else .inf (x != y)
  | .fin x m e, .fin y n g => .fin (x != y) (m * n) (e + g)

/-- A value rounded into the format. -/
def fltOf (f : FltFmt) (a : FVal) : FRes :=
  match a with
  | .nan => ⟨f.nan, false⟩
  | .inf s => ⟨f.inf s, false⟩
  | .fin s m e => fltOfScaled f (if s then -(m : Int) else m) e s

/-- a × b. -/
def fltMul (f : FltFmt) (a b : FVal) : FRes := fltOf f (fvMul a b)

/-- a × b + c, rounded once. -/
def fltFma (f : FltFmt) (a b c : FVal) : FRes := fltAdd f (fvMul a b) c

/-- a / b, with the special cases of R155. -/
def fltDiv (f : FltFmt) (a b : FVal) : FRes :=
  match a, b with
  | .nan, _ => ⟨f.nan, false⟩
  | _, .nan => ⟨f.nan, false⟩
  | .inf _, .inf _ => ⟨f.nan, false⟩
  | .inf x, .fin y _ _ => ⟨f.inf (x != y), false⟩
  | .fin x _ _, .inf y => ⟨f.zero (x != y), false⟩
  | .fin x m e, .fin y n g =>
    if n = 0 then (if m = 0 then ⟨f.nan, false⟩ else ⟨f.inf (x != y), false⟩)
    else
      let k := e - g
      if 0 ≤ k then fltRound f (x != y) (m * 2 ^ k.toNat) n
      else fltRound f (x != y) m (n * 2 ^ (-k).toNat)

/-- One bisection step for the square root. -/
def sqrtStep (n r bit : Nat) : Nat := if (r + bit) * (r + bit) ≤ n then r + bit else r

/-- The square root of `n` rounded down, bit by bit from bit `k - 1`. -/
def sqrtBits (n : Nat) : Nat → Nat → Nat
  | 0, r => r
  | k + 1, r => sqrtBits n k (sqrtStep n r (2 ^ k))

/-- The integer square root of a number below 2^(2k). -/
def isqrt (k n : Nat) : Nat := sqrtBits n k 0

/-- m × 2^e as N × 2^(2h) with N of about 64 bits: N and h. -/
def evenScale (m : Nat) (e : Int) : Nat × Int :=
  let sh : Int := 64 - (Nat.log2 m : Int)
  let sh := if (e - sh) % 2 = 0 then sh else sh + 1
  (if 0 ≤ sh then m * 2 ^ sh.toNat else m / 2 ^ (-sh).toNat, (e - sh) / 2)

/-- √a (R154, R155). A root that is not exact carries a sticky half unit far below the precision, which settles the
rounding. -/
def fltSqrt (f : FltFmt) (a : FVal) : FRes :=
  match a with
  | .nan => ⟨f.nan, false⟩
  | .inf true => ⟨f.nan, false⟩
  | .inf false => ⟨f.inf false, false⟩
  | .fin s m e =>
    if m = 0 then ⟨f.zero s, false⟩
    else if s then ⟨f.nan, false⟩
    else
      let (n, h) := evenScale m e
      let r := isqrt 40 n
      fltOfScaled f (2 * r + (if r * r = n then 0 else 1) : Nat) (h - 1) false

/-- The bits one unit in the last place above or below a positive normal number. -/
def fltStep (f : FltFmt) (b : Nat) (up : Bool) : Nat :=
  if up then b + 1 else if b % 2 ^ (f.width - 1) ≤ 2 ^ (f.prec - 1) then b else b - 1

/-- 1 / √a within one unit in the last place (R154): which of the values within that unit the device gives is left open,
and Config.rsqrtChoice chooses. [DESIGN CHOICE, safe: assumption 3] -/
def fltRsqrt (f : FltFmt) (bitsA : Nat) (a : FVal) : FRes :=
  match a with
  | .nan => ⟨f.nan, false⟩
  | .inf true => ⟨f.nan, false⟩
  | .inf false => ⟨f.zero false, false⟩
  | .fin s m e =>
    if m = 0 then ⟨f.inf false, false⟩
    else if s then ⟨f.nan, false⟩
    else
      let (n, h) := evenScale m e
      let r := isqrt 40 n
      -- 1/√a = 2 / ((2r + sticky) × 2^h), rounded
      let near := fltRound f false (2 * 2 ^ (-h).toNat)
        ((2 * r + (if r * r = n then 0 else 1)) * 2 ^ h.toNat)
      -- the exact value v lies within a unit of `near` on one side of it, and the neighbour on that side
      -- is within a unit too
      let q := near.bits % 2 ^ (f.prec - 1) + 2 ^ (f.prec - 1)
      let ex : Int := (near.bits / 2 ^ (f.prec - 1) : Nat) - (f.bias : Int) - (f.prec - 1 : Nat)
      -- compare q^2 * 2^(2 ex) * m * 2^e with 1
      let p := q * q * m
      let k := 2 * ex + e
      let below := if 0 ≤ k then p * 2 ^ k.toNat < 1 else p < 2 ^ (-k).toNat
      let exact := if 0 ≤ k then p * 2 ^ k.toNat = 1 else p = 2 ^ (-k).toNat
      let cands : List Nat := if exact then [near.bits, fltStep f near.bits true, fltStep f near.bits false]
        else if below then [near.bits, fltStep f near.bits true]
        else [near.bits, fltStep f near.bits false]
      ⟨cands.getD (Config.rsqrtChoice f.width bitsA % cands.length) near.bits, false⟩

/-- The order of R159 on numbers that are not NaN, −0 below +0: whether a is the lesser or they are the same. -/
def fltLe (f : FltFmt) (a b : Nat) : Bool :=
  let key (x : Nat) : Int :=
    let m : Int := (x % 2 ^ (f.width - 1) : Nat)
    if fltNeg f x then -m - 1 else m
  decide (key a ≤ key b)

/-- Whether bits are a NaN. -/
def fltIsNan (f : FltFmt) (b : Nat) : Bool := fltRead f b == .nan

/-- A subnormal replaced by a zero of its sign (R158). -/
def fltFlush (f : FltFmt) (b : Nat) : Nat := if fltSubnormal f b then f.zero (fltNeg f b) else b

/-- FMIN and FMAX (R159). -/
def fltMinMax (f : FltFmt) (max : Bool) (a b : Nat) : Nat :=
  let a := fltFlush f a
  let b := fltFlush f b
  match fltIsNan f a, fltIsNan f b with
  | true, true => f.nan
  | true, false => b
  | false, true => a
  | false, false => if fltLe f a b = max then b else a

/-- The relations of the compares. -/
inductive Rel where
  | eq | ne | lt | le | gt | ge
deriving DecidableEq, Repr

/-- The float compares (R159): a NaN makes every relation but ≠ false, and the zeros are equal. -/
def fltCmp (f : FltFmt) (r : Rel) (a b : Nat) : Bool :=
  let z (x : Nat) : Nat := let y := fltFlush f x; if y % 2 ^ (f.width - 1) = 0 then 0 else y
  let a := z a
  let b := z b
  if fltIsNan f a || fltIsNan f b then r == .ne
  else
    let le := fltLe f a b
    let ge := fltLe f b a
    match r with
    | .eq => le && ge
    | .ne => !(le && ge)
    | .lt => !ge
    | .le => le
    | .gt => !le
    | .ge => ge

end Sys2Proof.Machine
end

