-- ==== Sys2Proof/Machine/VecArith.lean ====
section
/-! DEFINITION. The arithmetic of one vector element: types, rounding, saturation, every opcode's result, reductions and
combines (R143 to R164, R174 to R176). -/

namespace Sys2Proof

/-! ### Element types -/

/-- The type a code names (R115); 10 to 15 are reserved. -/
def elemTy? (c : Nat) : Option ElemTy :=
  [ElemTy.i8, .u8, .i16, .u16, .i32, .u32, .q15, .q31, .f16, .f32][c]?

/-- Width in bits. -/
def ElemTy.width : ElemTy → Nat
  | .i8 | .u8 => 8
  | .i16 | .u16 | .q15 | .f16 => 16
  | .i32 | .u32 | .q31 | .f32 => 32

/-- Size in bytes. -/
def ElemTy.size (t : ElemTy) : Nat := t.width / 8

/-- INT of R143. -/
def ElemTy.isInt : ElemTy → Bool
  | .i8 | .u8 | .i16 | .u16 | .i32 | .u32 => true
  | _ => false
/-- Q of R143. -/
def ElemTy.isQ : ElemTy → Bool
  | .q15 | .q31 => true
  | _ => false
/-- FLT of R143. -/
def ElemTy.isFlt : ElemTy → Bool
  | .f16 | .f32 => true
  | _ => false
/-- INT or Q. -/
def ElemTy.isIntQ (t : ElemTy) : Bool := t.isInt || t.isQ
/-- The signed types of R148. -/
def ElemTy.signed : ElemTy → Bool
  | .i8 | .i16 | .i32 | .q15 | .q31 => true
  | _ => false

/-- The format of a FLT type. -/
def ElemTy.fmt : ElemTy → Machine.FltFmt
  | .f16 => Machine.fmt16
  | _ => Machine.fmt32

/-- The raw value of an element's bits. -/
def ElemTy.raw (t : ElemTy) (b : Nat) : Int :=
  let v := b % 2 ^ t.width
  if t.signed && 2 ^ (t.width - 1) ≤ v then (v : Int) - 2 ^ t.width else v

/-- The least and the greatest raw value of a type. -/
def ElemTy.rmin (t : ElemTy) : Int := if t.signed then -2 ^ (t.width - 1) else 0
@[inherit_doc ElemTy.rmin]
def ElemTy.rmax (t : ElemTy) : Int := if t.signed then 2 ^ (t.width - 1) - 1 else 2 ^ t.width - 1

/-- The bits of a raw value. -/
def ElemTy.bitsOf (t : ElemTy) (x : Int) : Nat := (x % (2 ^ t.width : Int)).toNat

/-- The relation an opcode of R150 names. -/
def VOp.rel? : VOp → Option Machine.Rel
  | .cmpeq => some .eq | .cmpne => some .ne | .cmplt => some .lt
  | .cmple => some .le | .cmpgt => some .gt | .cmpge => some .ge
  | _ => none

/-- Whether an opcode is a reduction for the purposes of R110 and R142 (COMPRESS writes its count apart). -/
def VOp.isReduction : VOp → Bool
  | .rsum | .rmin | .rmax | .rand | .ror | .mpop | .mfirst => true
  | _ => false

end Sys2Proof

namespace Sys2Proof.Machine

/-! ### Rounding and fitting -/

/-- What one operation gives for one element: the bits, whether R145 counts it, whether an integer result wrapped, and
whether a subnormal was met (R147). -/
structure OpOut where
  val     : Nat
  counted : Bool := false
  wrapped : Bool := false
  sub     : Bool := false
deriving DecidableEq, Repr

/-- The quotient n / d rounded by RM (R143). -/
def roundRM (rm : Nat) (n : Int) (d : Nat) : Int :=
  let dd : Int := d
  if rm = 0 then n / dd
  else if rm = 1 then (2 * n + dd) / (2 * dd)
  else
    let q := n / dd
    let r := n % dd
    if 2 * r < dd then q else if 2 * r > dd then q + 1 else if q % 2 = 0 then q else q + 1

/-- A result brought into its type's range: saturated and counted, or wrapped (R144). A Q type always saturates. -/
def fit (t : ElemTy) (sat : Bool) (x : Int) : OpOut :=
  if t.rmin ≤ x ∧ x ≤ t.rmax then { val := t.bitsOf x }
  else if sat || t.isQ then { val := t.bitsOf (if x < t.rmin then t.rmin else t.rmax), counted := true }
  else { val := t.bitsOf x, wrapped := true }

/-- The square root of a natural rounded by RM: a root is never a tie (R143, R154). -/
def sqrtRM (rm n : Nat) : Int :=
  let r := isqrt 33 n
  if rm = 0 then r else if n > r * r + r then r + 1 else r

/-- Integer and fixed-point division with its special cases (R154, R155). -/
def divIntQ (t : ElemTy) (rm : Nat) (a b : Int) : OpOut :=
  if b = 0 then
    { val := t.bitsOf (if a > 0 then t.rmax else if a < 0 then t.rmin else 0), counted := true }
  else if t.isQ && b.natAbs ≤ a.natAbs then
    { val := t.bitsOf (if (a < 0) = (b < 0) then t.rmax else t.rmin), counted := true }
  else
    let n := (if b < 0 then -a else a) * (if t.isQ then 2 ^ (t.width - 1) else 1)
    fit t true (roundRM rm n b.natAbs)

/-- Whether an operand of a FLT type is subnormal. -/
def subOf (t : ElemTy) (b : Nat) : Bool := t.isFlt && fltSubnormal t.fmt b

/-- A float result as an operation's output, with the subnormal operands it met. -/
def fltOut (r : FRes) (subs : Bool) : OpOut := { val := r.bits, sub := r.sub || subs }

/-- A value given as a fraction converted to an INT or Q type (R152). -/
def toIntQ (t : ElemTy) (rm : Nat) (n : Int) (d : Nat) : OpOut :=
  fit t true (roundRM rm (if t.isQ then n * 2 ^ (t.width - 1) else n) d)

/-- CVT of one element (R152). -/
def cvt (t t2 : ElemTy) (rm a : Nat) : OpOut :=
  if t.isFlt then
    let v := fltRead t.fmt a
    if t2.isFlt then fltOut (fltOf t2.fmt v) (subOf t a)
    else
      match v with
      | .nan => { val := 0, counted := true }
      | .inf s => { val := t2.bitsOf (if s then t2.rmin else t2.rmax), counted := true }
      | .fin s m e =>
        let i : Int := if s then -(m : Int) else m
        let o := if 0 ≤ e then toIntQ t2 rm (i * 2 ^ e.toNat) 1 else toIntQ t2 rm i (2 ^ (-e).toNat)
        { o with sub := subOf t a }
  else
    let d := if t.isQ then 2 ^ (t.width - 1) else 1
    let i := t.raw a
    if t2.isFlt then fltOut (fltRound t2.fmt (i < 0) i.natAbs d) false
    else toIntQ t2 rm i d

/-- An element delivered as it is, but that a NaN comes out canonical (R157). [DEDUCED, unsafe: assumption 108] -/
def canonNan (t : ElemTy) (b : Nat) : Nat := if t.isFlt && fltIsNan t.fmt b then t.fmt.nan else b

/-- An element that an F operation passes on unchanged: a subnormal is flushed, a NaN comes out canonical (R157, R158).
[DEDUCED, unsafe: assumption 108] -/
def passF (t : ElemTy) (b : Nat) : OpOut :=
  if t.isFlt then { val := canonNan t (fltFlush t.fmt b), sub := subOf t b } else { val := b }

/-! ### Element operations -/

/-- An integer comparison. -/
def relInt (r : Rel) (a b : Int) : Bool :=
  match r with
  | .eq => a == b | .ne => a != b | .lt => decide (a < b)
  | .le => decide (a ≤ b) | .gt => decide (b < a) | .ge => decide (b ≤ a)

/-- A compare of one element (R150, R159), the answer as one bit. -/
def cmpEl (t : ElemTy) (r : Rel) (a b : Nat) : OpOut :=
  if t.isFlt then { val := if fltCmp t.fmt r a b then 1 else 0, sub := subOf t a || subOf t b }
  else { val := if relInt r (t.raw a) (t.raw b) then 1 else 0 }

/-- The result type of an operation (R148 to R154). -/
def resTy (o : VOp) (t t2 : ElemTy) : ElemTy :=
  match o with
  | .raw | .mulw | .macw | .cvt | .tlu => t2
  | _ => t

/-- The result of one element of an operation that reads only its operands (R148, R149, R151, R154). `imm` is IMM, and
`sat` the effective SAT. The opcodes not listed here have their own definitions. [DEDUCED, unsafe: assumption 40] -/
def opEl (o : VOp) (t t2 : ElemTy) (rm : Nat) (sat : Bool) (imm a b c : Nat) : OpOut :=
  let x := t.raw a
  let y := t.raw b
  let z := t.raw c
  let n := t.width
  let f := t.fmt
  let s2 := subOf t a || subOf t b
  match o with
  | .add => fit t sat (x + y)
  | .sub => fit t sat (x - y)
  | .min => { val := t.bitsOf (if x ≤ y then x else y) }
  | .max => { val := t.bitsOf (if x ≤ y then y else x) }
  | .abs => fit t sat x.natAbs
  | .neg => fit t sat (-x)
  | .absdiff => fit t sat (x - y).natAbs
  | .avg => { val := t.bitsOf (roundRM rm (x + y) 2) }
  | .clamp =>
    let m := if x ≤ y then y else x
    let r := if m ≤ z then m else z
    { val := t.bitsOf r, counted := r ≠ x }
  | .mov => { val := a % 2 ^ n }
  | .raw => { val := a % 2 ^ n }
  | .and => { val := Nat.land a b % 2 ^ n }
  | .or => { val := Nat.lor a b % 2 ^ n }
  | .xor => { val := Nat.xor a b % 2 ^ n }
  | .andn => { val := Nat.land a (2 ^ n - 1 - b % 2 ^ n) % 2 ^ n }
  | .not => { val := 2 ^ n - 1 - a % 2 ^ n }
  | .shl => fit t sat (x * 2 ^ min (b % 2 ^ n) n)
  | .shr => fit t sat (roundRM rm x (2 ^ min (b % 2 ^ n) (n + 2)))
  | .bfx =>
    let w := imm / 32 % 64
    let v := a % 2 ^ n / 2 ^ (imm % 32) % 2 ^ w
    { val := if t.signed && 2 ^ (w - 1) ≤ v then t.bitsOf ((v : Int) - 2 ^ w) else v }
  | .mul => if t.isQ then fit t true (roundRM rm (x * y) (2 ^ (n - 1))) else fit t sat (x * y)
  | .mulh => { val := t.bitsOf (x * y / 2 ^ n) }
  | .mulw => if t.isQ then fit t2 true (2 * x * y) else fit t2 sat (x * y)
  | .mac =>
    if t.isQ then fit t true (roundRM rm (x * y + z * 2 ^ (n - 1)) (2 ^ (n - 1))) else fit t sat (x * y + z)
  | .macw =>
    let z2 := t2.raw c
    if t.isQ then fit t2 true (2 * x * y + z2) else fit t2 sat (x * y + z2)
  | .fadd => fltOut (fltAdd f (fltRead f a) (fltRead f b)) s2
  | .fsub => fltOut (fltAdd f (fltRead f a) (fltRead f b).neg) s2
  | .fmul => fltOut (fltMul f (fltRead f a) (fltRead f b)) s2
  | .fma => fltOut (fltFma f (fltRead f a) (fltRead f b) (fltRead f c)) (s2 || subOf t c)
  | .fmin => { val := fltMinMax f false a b, sub := s2 }
  | .fmax => { val := fltMinMax f true a b, sub := s2 }
  | .fabs => { val := if fltIsNan f a then f.nan else a % 2 ^ (n - 1) }
  | .fneg => { val := if fltIsNan f a then f.nan else (a + 2 ^ (n - 1)) % 2 ^ n }
  | .cvt => cvt t t2 rm a
  | .div => if t.isFlt then fltOut (fltDiv f (fltRead f a) (fltRead f b)) s2 else divIntQ t rm x y
  | .sqrt =>
    if t.isFlt then fltOut (fltSqrt f (fltRead f a)) (subOf t a)
    else if x < 0 then { val := 0, counted := true }
    else fit t true (sqrtRM rm (x.toNat * (if t.isQ then 2 ^ (n - 1) else 1)))
  | .rsqrt => fltOut (fltRsqrt f a (fltRead f a)) (subOf t a)
  | _ => { val := a % 2 ^ n }

/-! ### Reductions (R160, R161) -/

/-- A result narrower than 32 bits written to a scalar register (R160). -/
def narrow (t : ElemTy) (b : Nat) : Nat :=
  if t.signed then ((t.raw b) % (2 ^ 32 : Int)).toNat else b % 2 ^ t.width

/-- The 32 partial sums of a float RSUM after the elements given, each an index and its bits, in element order. -/
def rsumParts (f : FltFmt) : List (Nat × Nat) → List FRes → List FRes
  | [], p => p
  | (i, x) :: r, p =>
    let old := p.getD (i % 32) ⟨0, false⟩
    let q := fltAdd f (fltRead f old.bits) (fltRead f x)
    rsumParts f r (p.set (i % 32) ⟨q.bits, old.sub || q.sub⟩)

/-- One level of the adding of the partial sums: position l takes l and l + w. -/
def rsumFold (f : FltFmt) (p : List FRes) (w : Nat) : List FRes :=
  (List.range w).map (fun l =>
    let a := p.getD l ⟨0, false⟩
    let b := p.getD (l + w) ⟨0, false⟩
    let q := fltAdd f (fltRead f a.bits) (fltRead f b.bits)
    ⟨q.bits, a.sub || b.sub || q.sub⟩)

/-- The float RSUM of R160, its addition order fixed. -/
def rsumFlt (f : FltFmt) (xs : List (Nat × Nat)) : FRes :=
  let p := rsumParts f xs (List.replicate 32 ⟨0, false⟩)
  (([16, 8, 4, 2, 1].foldl (rsumFold f) p).getD 0 ⟨0, false⟩)

/-- The result of a reduction over its active elements, each an index and its bits, in element order (R160, R161): the
32-bit value for the scalar register, with its count and its subnormals. For the mask reductions the bits are the mask
bit. -/
def reduce (o : VOp) (t : ElemTy) (sat : Bool) (xs : List (Nat × Nat)) : OpOut :=
  let vs := xs.map (fun e => t.raw e.2)
  match o with
  | .rsum =>
    if t.isFlt then
      let r := rsumFlt t.fmt xs
      { val := r.bits, sub := r.sub }
    else
      let s := vs.foldl (· + ·) 0
      fit (if t.signed then .i32 else .u32) (sat || t.isQ) s
  | .rmin =>
    if t.isFlt then
      let ys := (xs.map (fun e => fltFlush t.fmt e.2)).filter (fun b => !fltIsNan t.fmt b)
      { val := if xs = [] then t.fmt.inf false else match ys with
          | [] => t.fmt.nan
          | y :: r => r.foldl (fun m b => if fltLe t.fmt m b then m else b) y }
    else { val := narrow t (t.bitsOf (vs.foldl (fun m v => if m ≤ v then m else v) t.rmax)) }
  | .rmax =>
    if t.isFlt then
      let ys := (xs.map (fun e => fltFlush t.fmt e.2)).filter (fun b => !fltIsNan t.fmt b)
      { val := if xs = [] then t.fmt.inf true else match ys with
          | [] => t.fmt.nan
          | y :: r => r.foldl (fun m b => if fltLe t.fmt m b then b else m) y }
    else { val := narrow t (t.bitsOf (vs.foldl (fun m v => if m ≤ v then v else m) t.rmin)) }
  | .rand => { val := narrow t (xs.foldl (fun m e => Nat.land m e.2) (2 ^ t.width - 1)) }
  | .ror => { val := narrow t (xs.foldl (fun m e => Nat.lor m e.2) 0) }
  | .mpop => { val := (xs.filter (fun e => e.2 = 1)).length }
  | .mfirst => { val := match xs.filter (fun e => e.2 = 1) with
      | [] => 0xFFFFFFFF
      | e :: _ => e.1 }
  | _ => { val := 0 }

/-! ### Combines (R174 to R176) -/

/-- A value held within a type's range, and whether it was clamped. -/
def clampTy (t : ElemTy) (x : Int) : Int × Bool :=
  if x < t.rmin then (t.rmin, true) else if x > t.rmax then (t.rmax, true) else (x, false)

/-- The merged operand over the elements of one group that reach one address (R174), and whether the engine clamped it
(R175). -/
def combMerge (o : Comb) (t : ElemTy) (xs : List Nat) : Int × Bool :=
  let vs := xs.map t.raw
  match o with
  | .add => (t.raw (t.bitsOf (vs.foldl (· + ·) 0)), false)
  | .sadd => clampTy t (vs.foldl (· + ·) 0)
  | .min => (vs.foldl (fun m v => if m ≤ v then m else v) t.rmax, false)
  | .max => (vs.foldl (fun m v => if m ≤ v then v else m) t.rmin, false)
  | .or => (t.raw (xs.foldl (fun m v => Nat.lor m v) 0), false)
  | .hist => (xs.length, false)

/-- The stored element after a combine, and whether the bank clamped it (R174, R175). -/
def combApply (o : Comb) (t : ElemTy) (m : Nat) (v : Int) : Nat × Bool :=
  let x := t.raw m
  match o with
  | .add => (t.bitsOf (x + v), false)
  | .sadd => let (r, c) := clampTy t (x + v); (t.bitsOf r, c)
  | .min => (t.bitsOf (if x ≤ v then x else v), false)
  | .max => (t.bitsOf (if x ≤ v then v else x), false)
  | .or => (Nat.lor (m % 2 ^ t.width) (t.bitsOf v), false)
  | .hist => let (r, c) := clampTy t (x + v); (t.bitsOf r, c)

/-- The types a combine accepts (R174). -/
def combTyOk (o : Comb) (t : ElemTy) : Bool :=
  match o with
  | .add | .or => t.isInt
  | .sadd | .min | .max => t.isIntQ
  | .hist => t == .u8 || t == .u16 || t == .u32

/-- The combine an IMM[2:0] names; 6 and 7 are reserved (R164). -/
def comb? (c : Nat) : Option Comb := [Comb.add, .sadd, .min, .max, .or, .hist][c]?

end Sys2Proof.Machine
end

