-- ==== Sys2Proof/Machine/Store.lean ====
section
/-! DEFINITION. The Interleaved Store: accesses with their error protection, combines, reservations, the bank's choice of
an access, scrubbing and bank rotation (R72 to R102). -/

namespace Sys2Proof.Machine

/-! ### Accesses -/

/-- What an access of store bytes found. -/
inductive Got where
  /-- The data, byte 0 first. -/
  | data (bs : List Byte)
  /-- An uncorrectable or poisoned half: no data (R87). The byte address is the half's. -/
  | bad (addr : Nat)
deriving DecidableEq, Repr

/-- The half indices (address / 8) that bytes `a` to `a + n - 1` touch. -/
def halvesOf (a n : Nat) : List Nat :=
  if n = 0 then [] else (List.range ((a + n - 1) / 8 - a / 8 + 1)).map (· + a / 8)

/-- The words (address / 16) that bytes `a` to `a + n - 1` touch. -/
def wordsAt (a n : Nat) : List Nat :=
  if n = 0 then [] else (List.range ((a + n - 1) / 16 - a / 16 + 1)).map (· + a / 16)

/-- Requesters as `ST_LAST_UE_SRC` numbers them (R101); 0 to 67 are the engines.
[DEDUCED, unsafe: assumptions 29, 45] -/
def srcRouter : Nat := 68
@[inherit_doc srcRouter] def srcScrub : Nat := 69
@[inherit_doc srcRouter] def srcRotation : Nat := 70
@[inherit_doc srcRouter] def srcQueue : Nat := 71
@[inherit_doc srcRouter] def srcMatrix : Nat := 72

/-- Decodes one half: a single-bit error is corrected and counted, and written back later when `ECC_WB_EN` is 1; an
uncorrectable half is counted and reported, and is a strike on its logical bank (R86, R87, R393). The answer is whether
data comes. [DEDUCED, unsafe: assumption 34] -/
def State.decodeHalf (s : State) (h src : Nat) : Bool × State :=
  match Tab.get s.storeErr h none with
  | none => (true, s)
  | some .single =>
    let s := (s.bump Rg.ST_CE_CNT).ceStore (h / 2)
    (true, if s.flag Rg.ST_CTRL_ECC_WB_EN ∧ ¬ (h / 2) ∈ s.writeBacks
      then { s with writeBacks := s.writeBacks ++ [h / 2] } else s)
  | some k =>
    let s := ((s.bump Rg.ST_UE_CNT).set Rg.ST_LAST_UE_ADDR (h / 2 * 16)).raise Rg.ST_INT_STATUS_UE
    let s := (s.set Rg.ST_LAST_UE_SRC src).set Rg.ST_LAST_UE_HALF (h % 2)
    let s := if k = .address
      then (s.bump Rg.ST_ADDR_ERR_CNT).raise Rg.ST_INT_STATUS_ADDR_ERR else s
    (false, s.strikeBank (bankOf (h / 2)) (k == .address))

/-- Decodes a list of halves; the answer is the first that gives no data, where one does.
[DEDUCED, unsafe: assumption 34] -/
def State.decodeHalves (s : State) (src : Nat) : List Nat → Option Nat × State
  | [] => (none, s)
  | h :: r =>
    match s.decodeHalf h src with
    | (true, s) => s.decodeHalves src r
    | (false, s) => (some h, (s.decodeHalves src r).2)

/-- A read of `n` bytes at `a`: it decodes the halves that hold a byte it reads (R86). -/
def State.stRead (s : State) (a n src : Nat) : Got × State :=
  match s.decodeHalves src (halvesOf a n) with
  | (some h, s) => (.bad (h * 8), s)
  | (none, s) => (.data (s.stBytes a n), s)

/-- Drops the error of a half (R87). -/
def State.clearErr (s : State) (h : Nat) : State := { s with storeErr := Tab.del s.storeErr h }

/-- Breaks every reservation on a word but that of the sequencer that writes it (R93). -/
def State.breakResv (s : State) (word : Nat) (writer : Option Nat) : State :=
  { s with resv := s.resv.filter (fun r => !(r.word == word && some r.seq != writer)) }

/-- Stores bytes at their addresses, in order. -/
def State.stPutAll (s : State) : List (Nat × Byte) → State
  | [] => s
  | (a, b) :: r => (s.stPut a b).stPutAll r

/-- Whether a list of bytes holds all 8 of a half. -/
def wholeHalf (ps : List (Nat × Byte)) (h : Nat) : Bool := (List.range 8).all (fun j => ps.any (fun p => p.1 == h * 8 + j))

/-- The halves of a word that hold a byte of a list. -/
def halvesIn (w : Nat) (ps : List (Nat × Byte)) : List Nat :=
  [2 * w, 2 * w + 1].filter (fun h => ps.any (fun p => p.1 / 8 == h))

/-- A half that delivers no data: uncorrectable or poisoned (R87). -/
def State.halfBad (s : State) (h : Nat) : Bool :=
  match Tab.get s.storeErr h none with
  | none | some .single => false
  | some _ => true

/-- A write to a word of the bank that a step moves is mirrored to the spare: the halves it writes stand there with good
check bits. While the copy runs it marks the row, which the copy then skips, so a half that the write leaves stands in the
spare as the source holds it (R97). [DEDUCED, unsafe: assumption 33] -/
def State.mirror (s : State) (w : Nat) (hs : List Nat) : State :=
  match s.rot with
  | .copying log _ =>
    if bankOf w ≠ log then s
    else
      let kept := [2 * w, 2 * w + 1].filter (fun h => !hs.contains h && !s.rotMarks.contains w && s.halfBad h)
      { s with rotMarks := if s.rotMarks.contains w then s.rotMarks else s.rotMarks ++ [w],
               rotBad := s.rotBad.filter (fun h => !hs.contains h) ++ kept }
  | .switching log _ _ => if bankOf w ≠ log then s else { s with rotBad := s.rotBad.filter (fun h => !hs.contains h) }
  | _ => s

/-- Bytes of one word take effect: the halves written take new check bits, the reservations on the word break but that of
the sequencer that writes, and a rotation step mirrors the write (R87, R93, R97). -/
def State.putWord (s : State) (w : Nat) (ps : List (Nat × Byte)) (writer : Option Nat) : State :=
  let hs := halvesIn w ps
  (((hs.foldl State.clearErr (s.mirror w hs)).stPutAll ps).breakResv w writer)

/-- A request that writes bytes of one word: a half whose 8 bytes it has is written whatever it held; with a narrower one
it is a read-modify-write, which writes nothing where a half it reads is uncorrectable (R83, R87). The answer is the half
that turned it back, where one did. -/
def State.wordWrite (s : State) (w : Nat) (ps : List (Nat × Byte)) (src : Nat) (writer : Option Nat) :
    Option Nat × State :=
  match s.decodeHalves src ((halvesIn w ps).filter (fun h => !wholeHalf ps h)) with
  | (some h, s) => (some h, s)
  | (none, s) => (none, s.putWord w ps writer)

/-- The bytes of a list that fall in one word. -/
def inWord (w : Nat) (ps : List (Nat × Byte)) : List (Nat × Byte) := ps.filter (fun p => p.1 / 16 = w)

/-- Writes bytes word by word; the answer lists the halves that turned a request back. -/
def State.writeWords (s : State) (ps : List (Nat × Byte)) (src : Nat) (writer : Option Nat) :
    List Nat → List Nat × State
  | [] => ([], s)
  | w :: r =>
    match s.wordWrite w (inWord w ps) src writer with
    | (none, s) => s.writeWords ps src writer r
    | (some h, s) =>
      match s.writeWords ps src writer r with
      | (bad, s) => (h :: bad, s)

/-- Bytes of a list at consecutive addresses from `a` on. -/
def bytesAt (a : Nat) : List Byte → List (Nat × Byte)
  | [] => []
  | b :: r => (a, b) :: bytesAt (a + 1) r

/-- A write of bytes at `a`. `writer` is the sequencer that writes, whose own reservation stands (R93). -/
def State.stWrite (s : State) (a : Nat) (bs : List Byte) (src : Nat) (writer : Option Nat) : List Nat × State :=
  s.writeWords (bytesAt a bs) src writer (wordsAt a bs.length)

/-- A write by a unit of the device that no error can turn back, its words whole (queue words, buffer headers, sillage):
it writes its halves with good check bits where it covers them (R87). -/
def State.devWrite (s : State) (a : Nat) (bs : List Byte) (src : Nat) : State := (s.stWrite a bs src none).2

/-- A write of a 64-bit word by a unit of the device. -/
def State.devWrite64 (s : State) (a v src : Nat) : State := s.devWrite a (leBytes 8 v) src

/-- The value of `n` store bytes, no access made. -/
def State.stNat (s : State) (a n : Nat) : Nat := leNat (s.stBytes a n)

/-- The elements of a combine request applied one after another, each an address and its operand; the answer is whether the
bank clamped one. -/
def State.combineEls (s : State) (o : Comb) (t : ElemTy) : List (Nat × Int) → Bool × State
  | [] => (false, s)
  | (a, v) :: r =>
    let x := combApply o t (s.stNat a t.size) v
    let (c, s) := (s.stPuts a (leBytes t.size x.1)).combineEls o t r
    (x.2 || c, s)

/-- A combine request on elements of one word: the word is read once, each enabled element updated, and the word written; an
uncorrectable half turns the whole request back (R87, R88, R178). The answer is the half that did, where one did, and whether
the bank clamped an element (R175). -/
def State.wordCombine (s : State) (w : Nat) (o : Comb) (t : ElemTy) (es : List (Nat × Int)) (src : Nat) :
    Option Nat × Bool × State :=
  let hs := [2 * w, 2 * w + 1].filter (fun h => es.any (fun e => e.1 / 8 == h))
  match s.decodeHalves src hs with
  | (some h, s) => (some h, false, s)
  | (none, s) =>
    let (c, s) := (hs.foldl State.clearErr (s.mirror w hs)).combineEls o t es
    (none, c, s.breakResv w none)

/-! ### Reservations (R90 to R94) -/

/-- Whether a sequencer holds the reservation on a word. -/
def State.holdsResv (s : State) (seq word : Nat) : Bool := s.resv.any (fun r => r.seq == seq && r.word == word)

/-- A load-linked read takes the reservation: it removes any other sequencer's on the word, and a fifth reservation
releases the oldest (R90, R91). -/
def State.takeResv (s : State) (seq word : Nat) : State :=
  let others := s.resv.filter (fun r => r.word ≠ word)
  let own := others.filter (fun r => r.seq = seq)
  let kept := if own.length < 4 then others
    else match own.head? with
      | some o => others.filter (fun r => r ≠ o)
      | none => others
  { s with resv := kept ++ [⟨seq, word⟩] }

/-- Releases one sequencer's reservation on a word. -/
def State.dropResv (s : State) (seq word : Nat) : State :=
  { s with resv := s.resv.filter (fun r => !(r.seq == seq && r.word == word)) }

/-- Releases every reservation of one sequencer (exception entry, migration: R93). -/
def State.dropResvOf (s : State) (seq : Nat) : State :=
  { s with resv := s.resv.filter (fun r => r.seq ≠ seq) }

/-- Load-linked of 4 bytes (R91): an uncorrectable word takes no reservation and leaves the others. -/
def State.loadLinked (s : State) (seq a : Nat) : Got × State :=
  match s.stRead a 4 seq with
  | (.bad h, s) => (.bad h, s)
  | (.data bs, s) => (.data bs, s.takeResv seq (a / 16))

/-- What a store-conditional came to. -/
inductive ScRes where
  | succeeded
  | failed
  /-- The read-modify-write met an uncorrectable word (R92). -/
  | bad (addr : Nat)
deriving DecidableEq, Repr

/-- Store-conditional of bytes at `a` (R92): performed only while its sequencer holds the reservation, which is released
either way; a failure for want of one is counted in `ST_RES_FAIL_CNT`. Either way it breaks every other sequencer's
reservation on the word (R93). -/
def State.storeCond (s : State) (seq a : Nat) (bs : List Byte) : ScRes × State :=
  if s.holdsResv seq (a / 16) then
    match s.stWrite a bs seq (some seq) with
    | ([], s) => (.succeeded, s.dropResv seq (a / 16))
    | (h :: _, s) => (.bad (h * 8), s.dropResv seq (a / 16))
  else (.failed, (s.breakResv (a / 16) none).bump Rg.ST_RES_FAIL_CNT)

/-! ### Errors that arrive -/

/-- Free bytes: what a memory holds after an error that no code tells. -/
def State.freeBytes (s : State) : Nat → List Byte × State
  | 0 => ([], s)
  | n + 1 =>
    let (b, s) := s.fresh 256
    let (r, s) := s.freeBytes n
    (BitVec.ofNat 8 b :: r, s)

/-- A half takes an error: a second single-bit error in one half makes it uncorrectable; three bits or more can also alias
to a correctable syndrome or pass undetected, and then what the half holds is wrong and nothing says how (R391).
[DESIGN CHOICE, unsafe: assumption 103] -/
def State.upset (s : State) (h : Nat) (k : ErrKind) : State :=
  match k with
  | .aliased =>
    let (bs, s) := s.freeBytes 8
    { s.stPuts (8 * h) bs with storeErr := Tab.put s.storeErr h (some .single) }
  | .silent =>
    let (bs, s) := s.freeBytes 8
    (s.stPuts (8 * h) bs).clearErr h
  | k =>
    let k := match Tab.get s.storeErr h none, k with
      | some .single, .single => ErrKind.uncorrectable
      | some .single, k => k
      | some k', _ => k'
      | none, k => k
    { s with storeErr := Tab.put s.storeErr h (some k) }

/-- A half is written poisoned, and so is its mirror in the spare (R87, R97, R200). -/
def State.poisonHalf (s : State) (h : Nat) : State :=
  let s := { s with storeErr := Tab.put s.storeErr h (some .poison) }
  match s.rot with
  | .copying log _ | .switching log _ _ => if bankOf (h / 2) = log then { s with rotBad := s.rotBad ++ [h] } else s
  | _ => s

/-- The upset a command carries, where it has one. [DESIGN CHOICE, safe: assumption 8] -/
def State.upsetOpt (s : State) (u : Option Upset) : State :=
  match u with
  | none => s
  | some u => s.upset u.half u.kind

/-! ### A bank's choice (R84) -/

/-- The engine a request comes from. -/
def agentEngine : StoreAgent → Option Nat
  | .pipe n _ => some n
  | .seq n => some n
  | _ => none

/-- Whether a request is background traffic (R83). -/
def agentBackground : StoreAgent → Bool
  | .background _ => true
  | _ => false

/-- A requester's place in its bank's rotating priority over slots 0 to 63 and the router (R84): the priority advances by one
position every bank cycle, from a place that is open in every frame. [DESIGN CHOICE, safe: assumption 32] -/
def State.bankRank (s : State) (bc : Nat) (r : StoreReq) : Nat :=
  let pos := match agentEngine r.agent with
    | some n => (s.slotOf n).getD 0
    | none => 64
  (pos + 65 - (Config.bankTurn (bankOf r.word) s.ft.frames + bc) % 65) % 65

/-- The earlier of two requests: older acceptance first, then the rotating priority; the first listed wins a tie. -/
def State.bankEarlier (s : State) (bc : Nat) (x y : StoreReq) : StoreReq :=
  if y.accepted < x.accepted then y
  else if y.accepted = x.accepted ∧ s.bankRank bc y < s.bankRank bc x then y
  else x

/-- The first of a list of requests. -/
def State.bankFirst (s : State) (bc : Nat) : List StoreReq → Option StoreReq
  | [] => none
  | r :: rs => some (rs.foldl (s.bankEarlier bc) r)

/-- The request a bank performs in bank cycle `bc`: background in a cycle that is 7 modulo 8, else the oldest rated one,
else background (R84). [DEDUCED, unsafe: assumption 125] -/
def State.bankChoice (s : State) (bc : Nat) (reqs : List StoreReq) : Option StoreReq :=
  let bg := s.bankFirst bc (reqs.filter (fun r => agentBackground r.agent))
  let rated := s.bankFirst bc (reqs.filter (fun r => !agentBackground r.agent))
  if bc % 8 = 7 then bg.or rated else rated.or bg

/-- The bytes of a word that a request names, with their data. -/
def reqNamed (r : StoreReq) (d : QWord) : List (Nat × Byte) :=
  ((List.range 16).filter (fun j => r.bytes.getLsbD j)).map
    (fun j => (r.word * 16 + j, d.extractLsb' (8 * j) 8))

/-- The halves that hold a byte a request names. -/
def reqHalves (r : StoreReq) : List Nat :=
  [2 * r.word, 2 * r.word + 1].filter (fun h => (reqNamed r 0).any (fun p => p.1 / 8 = h))

/-- The answer of a bank. -/
def State.answer (s : State) (ok : Bool) (d : Nat) : State :=
  { s with bankAns := some ⟨ok, BitVec.ofNat 128 d⟩ }

/-- The 16 bytes of a word. -/
def State.wordNat (s : State) (w : Nat) : Nat := s.stNat (w * 16) 16

/-- The elements that a combine request enables, each with its operand. -/
def reqElems (r : StoreReq) (t : ElemTy) (d : QWord) : List (Nat × Int) :=
  (((List.range (16 / t.size)).map (· * t.size)).filter (fun j => r.bytes.getLsbD j)).map
    (fun j => (r.word * 16 + j, t.raw (d.extractLsb' (8 * j) t.width).toNat))

/-- A deferred store error noted at its lowest element (R178, R193): the element, and the place of the instruction. -/
def deferMin (d : Option (Nat × Nat)) (k elem : Nat) : Option (Nat × Nat) :=
  match d with
  | none => some (elem, k)
  | some (e, k') => some (if elem < e then (elem, k) else (e, k'))

/-- A request of a pipe is lost to an uncorrectable word: counted, and a deferred store error of the accord that executes
(R178). -/
def State.pipeLost (s : State) (a : StoreAgent) : State :=
  match a with
  | .pipe n elem =>
    let s := s.bump (Rg.VE_DEFER_UE_CNT n)
    let e := Tab.get s.engines n.val {}
    match e.exe with
    | none => s
    | some x =>
      let k := x.acc.insns.findIdx (fun v => v.op == .st || v.op == .sts || v.op == .stc)
      { s with engines := Tab.put s.engines n.val { e with exe := some { x with deferAt := deferMin x.deferAt k elem.toNat } } }
  | _ => s

/-- Performs one request at its bank (R83, R86 to R93). A read-modify-write holds the bank for a second bank cycle
(R72, R92). -/
def State.bankPerform (s : State) (bc : Nat) (r : StoreReq) : State :=
  let src := match r.agent with
    | .router => srcRouter
    | .background true => srcQueue
    | .background false => srcMatrix
    | a => (agentEngine a).getD 0
  let narrow := (reqHalves r).any (fun h => !(List.range 8).all (fun j => r.bytes.getLsbD (h % 2 * 8 + j)))
  let hold (rmw : Bool) (s : State) : State :=
    if rmw then { s with bankHeld := Tab.put s.bankHeld (bankOf r.word) (bc + 1) } else s
  match r.op with
  | .read =>
    match s.decodeHalves src (reqHalves r) with
    | (none, s) => s.answer true (s.wordNat r.word)
    | (some _, s) => s.answer false 0
  | .write d =>
    match s.wordWrite r.word (reqNamed r d) src (match r.agent with | .seq n => some n | _ => none) with
    | (none, s) => (hold narrow s).answer true 0
    | (some _, s) => (hold narrow (s.pipeLost r.agent)).answer false 0
  | .combine o t d =>
    match s.wordCombine r.word o t (reqElems r t d) src with
    | (none, clamped, s) =>
      let s := match agentEngine r.agent with
        | some n => if clamped then s.bump (Rg.VE_CSAT_CNT n) else s
        | none => s
      (hold true s).answer true 0
    | (some _, _, s) => (hold true (s.pipeLost r.agent)).answer false 0
  | .loadLinked =>
    match s.loadLinked src (match reqNamed r 0 with | p :: _ => p.1 | [] => r.word * 16) with
    | (.data bs, s) => s.answer true (leNat bs)
    | (.bad _, s) => s.answer false 0
  | .storeCond d =>
    match reqNamed r d with
    | [] => s
    | p :: ps =>
      match s.storeCond src p.1 ((p :: ps).map (·.2)) with
      | (.succeeded, s) => (hold narrow s).answer true 1
      | (.failed, s) => (hold narrow s).answer true 0
      | (.bad _, s) => (hold narrow s).answer false 0

/-- Bank cycles of the frame that ends: a hold over its last one takes the first of the next frame, and every other ends
with it (R72, R84). [DEDUCED, unsafe: assumption 107] -/
def State.bankFrame (s : State) : State :=
  let n := (s.frameCc + 1) / 2
  { s with bankHeld := (s.bankHeld.filter (fun x => n ≤ x.2)).map (fun x => (x.1, x.2 - n)) }

/-- STORE_REQUEST: in bank cycle `bc` the bank of the requests given chooses one and performs it (R84). A bank held by a
read-modify-write from the cycle before completes that access and performs no other.
[DESIGN CHOICE, safe: assumption 20] -/
def execStoreRequest (bc : Nat) (reqs : List StoreReq) (up : Option Upset) (s : State) :
    Host.Outcome State Fault Refusal :=
  if reqs.any (fun r => storeTop ≤ r.word * 16) then .fault .noSuchWord
  else
    act s fun s =>
      let s := s.upsetOpt up
      match s.bankChoice bc reqs with
      | none => s
      | some r =>
        if Tab.get s.bankHeld (bankOf r.word) (bc + 1) = bc then
          { s with bankHeld := Tab.del s.bankHeld (bankOf r.word) }
        else s.bankPerform bc r

/-! ### Correction write-back and scrubbing (R87, R95, R96) -/

/-- Corrects one half in place if it holds a single-bit error; a rotation step mirrors the write (R87, R97). -/
def State.correctHalf (s : State) (h : Nat) : State :=
  if Tab.get s.storeErr h none = some .single then (s.mirror (h / 2) [h]).clearErr h else s

/-- ECC_WRITEBACK: the oldest correction write-back, one atomic read-modify-write of its word that breaks no reservation
(R87, R93). Its own read of the word counts and reports nothing. [DEDUCED, unsafe: assumption 34] -/
def execEccWriteback (s : State) : Host.Outcome State Fault Refusal :=
  act s fun s =>
    match s.writeBacks with
    | [] => s
    | w :: r => (({ s with writeBacks := r }.correctHalf (2 * w)).correctHalf (2 * w + 1))

/-- One half as a scrub reads it: a single-bit error is corrected at once, an uncorrectable half is reported and left
(R87, R95). -/
def State.scrubHalf (s : State) (h : Nat) : State :=
  (s.decodeHalf h srcScrub).2.correctHalf h

/-- The store word in row `row` of logical bank `log` (R74). -/
def wordAt (log row : Nat) : Nat := row * 8191 + log

/-- SCRUB_ACCESS: bank-group controller `g` reads one row of a mapped bank of its group, both halves, and writes back
single-bit corrections atomically (R86, R95). The order of rows and banks is the scrub program's. -/
def execScrubAccess (g : Fin 128) (bank : Fin 64) (row : Fin 4096) (up : Option Upset) (s : State) :
    Host.Outcome State Fault Refusal :=
  act s fun s =>
    let s := s.upsetOpt up
    if ¬ s.flag Rg.ST_CTRL_SCRUB_EN then s
    else
      match s.logOf (64 * g + bank) with
      | none => s
      | some log =>
        let w := wordAt log row
        let s := (s.scrubHalf (2 * w)).scrubHalf (2 * w + 1)
        let s := { s with writeBacks := s.writeBacks.filter (· ≠ w) }
        ((s.set (Rg.ST_SCRUB_ROW g) row).set (Rg.ST_SCRUB_BANK g) bank)

/-- SCRUB_LATE: a group has not finished a pass within `PERIOD_MS` (R96). -/
def execScrubLate (s : State) : Host.Outcome State Fault Refusal :=
  act s fun s =>
    if s.flag Rg.ST_CTRL_SCRUB_EN then
      ((s.raise Rg.ST_STATUS_SCRUB_LATE).raise Rg.ST_INT_STATUS_SCRUB_LATE)
    else s

/-! ### Bank rotation (R97 to R100) -/

/-- The switch: the bank's errors are from now on those of the spare, whose poisoned halves are the ones that the copy
found uncorrectable; corrected halves were copied with good check bits, and an error that struck the source after its row was
copied stays behind (R86, R87, R97). [DEDUCED, unsafe: assumption 33] -/
def State.moveErrs (s : State) (log : Nat) : State :=
  let kept := s.storeErr.filter (fun e => bankOf (e.1 / 2) != log)
  { s with storeErr := s.rotBad.foldl (fun (t : Tab (Option ErrKind)) h => Tab.put t h (some .poison)) kept,
           rotBad := [], rotMarks := [] }

/-- The halves of a logical bank that hold an error. -/
def State.errHalves (s : State) (log : Nat) : List Nat :=
  (s.storeErr.filter (fun e => bankOf (e.1 / 2) = log)).map (·.1)

/-- The switch of a step: the map entry changes, and the bank's reservations break (R93, R97).
[DEDUCED, unsafe: assumption 33] -/
def State.rotSwitch (s : State) : State :=
  match s.rot with
  | .switching log src _ =>
    let s := s.moveErrs log
    let s := s.set (Rg.BM_PHYS log) (s.get Rg.ST_STATUS_SPARE_PHYS)
    { s with rot := .draining log src, resv := s.resv.filter (fun r => bankOf r.word ≠ log) }
  | _ => s

/-- One frame boundary for a staged switch (R26). -/
def State.rotBoundary (s : State) : State :=
  match s.rot with
  | .switching log src d =>
    if d ≤ 1 then s.rotSwitch else { s with rot := .switching log src (d - 1) }
  | _ => s

/-- ROTATION_COPY_DONE: every row has been copied but those that a mirrored write has marked; each error the copy met is
counted, an uncorrectable half is written poisoned into the spare (R87), and the switch is staged for a frame boundary (R97).
`COPY_ROW` has no next row to name and becomes a free value.
[DESIGN CHOICE, unsafe: assumption 11; DEDUCED, unsafe: assumption 33; DESIGN CHOICE, safe: assumption 114] -/
def execRotationCopyDone (s : State) : Host.Outcome State Fault Refusal :=
  act s fun s =>
    match s.rot with
    | .copying log src =>
      let met := (s.errHalves log).filter (fun h => !s.rotMarks.contains (h / 2))
      let bad := met.filter s.halfBad
      let s := (s.decodeHalves srcRotation met).2
      let s := { s with rotBad := s.rotBad ++ bad }
      let (row, s) := s.fresh 4096
      let s := (s.set Rg.ST_STATUS_ROT_PHASE 2).set Rg.ST_ROT_STATUS_COPY_ROW row
      let s := { s with rot := .switching log src s.dueNow }
      (if s.locked then s else s.rotSwitch)
    | _ => s

/-- ROTATION_STEP_START: an automatic step starts, every `STEP_MS`, where `ROT_EN` is 1 (R98, R100).
[DEDUCED, unsafe: assumption 126] -/
def execRotationStepStart (s : State) : Host.Outcome State Fault Refusal :=
  act s fun s =>
    if s.flag Rg.ST_CTRL_ROT_EN ∧ s.get Rg.ST_ROT_CFG_STEP_MS ≠ 0 ∧ ¬ s.flag Rg.ST_STATUS_NO_SPARE ∧ s.rot = .idle
    then (s.rotRequest none) else s

/-- The old source is out of the map, and the spare from now on (R97, R100). -/
def State.rotRelease (s : State) (src : Nat) : State :=
  let s := (s.set Rg.ST_STATUS_SPARE_PHYS src).bump Rg.ST_ROT_COUNT
  let s := (s.raise Rg.ST_INT_STATUS_ROT_DONE).set Rg.ST_STATUS_ROT_PHASE 0
  { s with rot := .idle }.marchNext.rotService

/-- ROTATION_TEST_START: the last mirrored request has been performed, mirroring ends, and the march of the old source
begins; with `ROT_TEST` 0 the source is released untested, and an OP 3 that asked for the step has no result (R97, R404). -/
def execRotationTestStart (s : State) : Host.Outcome State Fault Refusal :=
  act s fun s =>
    match s.rot with
    | .draining log src =>
      if s.flag Rg.ST_CTRL_ROT_TEST then
        ({ s with rot := .testing log src }.set Rg.ST_STATUS_ROT_PHASE 3)
      else (if s.mbistStep log then s.mbistAbort else s).rotRelease src
    | _ => s

/-- ROTATION_TEST_DONE: a source that passes is the new spare; one that fails is retired, and the store runs with no
spare (R97, R100). No test ends while a drydown tier holds (R100). -/
def execRotationTestDone (pass : Bool) (s : State) : Host.Outcome State Fault Refusal :=
  act s fun s =>
    match s.rot with
    | .testing log src =>
      if s.get Rg.DD_STATUS_TIER ≠ 0 then s
      else if pass then ((s.mbistReport log src true).rotRelease src)
      else
        let s := ((s.set Rg.ST_RETIRED_PHYS src).set Rg.ST_RETIRED_VALID 1).set Rg.ST_STATUS_NO_SPARE 1
        let s := (s.raise Rg.ST_INT_STATUS_ROT_FAIL).raise Rg.ST_INT_STATUS_NO_SPARE
        let s := { (s.set Rg.ST_STATUS_ROT_PHASE 0).mbistReport log src false with rot := .idle, rotWant := [] }
        (if s.blMbist = none then s else s.mbistAbort).marchNext
    | _ => s

/-- A drydown tier abandons a step that has not reached its switch (R100). [DESIGN CHOICE, safe: assumption 114] -/
def State.rotAbandon (s : State) : State :=
  match s.rot with
  | .copying log _ | .switching log _ _ =>
    { (s.set Rg.ST_STATUS_ROT_PHASE 0) with
      rot := .idle, rotWant := some log :: s.rotWant, rotBad := [], rotMarks := [] }.marchNext
  | _ => s

end Sys2Proof.Machine
end

