-- ==== Sys2Proof/Machine/Queue.lean ====
section
/-! DEFINITION. The queue fabric: rings, items, takes and pushes, flush and disable, events (R223 to R243, R394). -/

namespace Sys2Proof.Machine

/-- What a register write comes to at its target: performed, or answered with an error response (code 4 of R352). -/
inductive WRes where
  | ok (s : State)
  | refused (s : State)
deriving DecidableEq, Repr

/-! ### Rings and counters -/

/-- The fabric's record of queue `n`. -/
def State.q (s : State) (n : Nat) : QState := Tab.get s.queues n {}

/-- The state with the record of queue `n` changed. -/
def State.setQ (s : State) (n : Nat) (q : QState) : State := { s with queues := Tab.set s.queues n {} q }

/-- N, the words of a ring (R223). -/
def State.qN (s : State) (n : Nat) : Nat := 2 ^ (s.get (Rg.Q_CFG_SIZE_LOG2 n) - 3)

/-- The store address of the ring word that a counter names (R223, R226). -/
def State.qAddr (s : State) (n ctr : Nat) : Nat := s.get (Rg.Q_BASE n) + 8 * (ctr % s.qN n)

/-! ### Errors of the pointers (R394) -/

/-- A parity error strikes one copy of the pointers of a queue, or both. [DESIGN CHOICE, unsafe: assumption 103] -/
def State.qPtrHurt (s : State) (n : Nat) (both : Bool) : State :=
  { s with qPtrBad := Tab.set s.qPtrBad n none (some (both || Tab.get s.qPtrBad n none == some true)) }

/-- A use of the pointers of a queue reads both copies: one bad copy is rewritten from the other, and the fabric's bucket
gains 1; with both bad all three pointers become 0, and every item is lost (R394). -/
def State.qUse (s : State) (n : Nat) : State :=
  match Tab.get s.qPtrBad n none with
  | none => s
  | some false => { s with qPtrBad := Tab.set s.qPtrBad n none none }.cePlain 201
  | some true =>
    let s := ({ s with qPtrBad := Tab.set s.qPtrBad n none none }.setQ n {}).bump Rg.RL_QPTR_UE_CNT
    (s.set Rg.RL_QPTR_LAST n).raise Rg.BL_INT_STATUS_QPTR_UE

/-- The error of its pointers that a command brings to a queue and meets at once. -/
def State.qPtrErr (s : State) (n : Nat) (err : Option Bool) : State :=
  match err with
  | none => s
  | some b => (s.qPtrHurt n b).qUse n

/-- Whether a queue is enabled. -/
def State.qOn (s : State) (n : Nat) : Bool := s.flag (Rg.Q_CFG_ENABLE n)

/-- Words in use (R226). -/
def QState.used (q : QState) : Nat := (q.items.map (fun i => i.len + 1)).foldl (· + ·) 0

/-- Free words (R226). -/
def State.qFree (s : State) (n : Nat) : Nat := s.qN n - (s.q n).used

/-- Whether an item of `len` payload words fits (R226). -/
def State.qFits (s : State) (n len : Nat) : Bool := decide (len + 1 ≤ s.qFree n)

/-- The deliverable items: those before the first that is neither committed nor torn (R227). -/
def QState.ready (q : QState) : List QItem := q.items.takeWhile (fun i => i.committed || i.torn)

/-- TAIL (R226, R227). -/
def State.qTail (s : State) (n : Nat) : Nat :=
  let q := s.q n
  (q.head + ((q.ready).map (fun i => i.len + 1)).foldl (· + ·) 0) % (2 * s.qN n)

/-- `Q_ITEMS`: deliverable items that are not torn (R226). -/
def State.qItems (s : State) (n : Nat) : Nat := (((s.q n).ready).filter (fun i => !i.torn)).length

/-! ### Events (R240) -/

/-- An event of queue `n`: its status bit, and its bit of `QF_PEND` when `INT_EN` is 1. -/
def State.qEvent (s : State) (n : Nat) (f : Fld) : State :=
  let s := s.raise f
  if s.flag (Rg.Q_CFG_INT_EN n) then
    s.set (Rg.QF_PEND (n / 32)) (Nat.lor (s.get (Rg.QF_PEND (n / 32))) (2 ^ (n % 32)))
  else s

/-- The watermark event: `Q_ITEMS` has risen from below `Q_WATERMARK` to it or above. -/
def State.qMark (s : State) (n before : Nat) : State :=
  let w := s.get (Rg.Q_WATERMARK n)
  if w ≠ 0 ∧ before < w ∧ w ≤ s.qItems n then s.qEvent n (Rg.Q_STATUS_WM n) else s

/-- An item is discarded for lack of room (R238). -/
def State.qDrop (s : State) (n : Nat) : State := (s.qEvent n (Rg.Q_STATUS_DROP n)).bump (Rg.Q_DROP_CNT n)

/-- An item is torn (R235, R236). -/
def State.qTorn (s : State) (n : Nat) : State := (s.qEvent n (Rg.Q_STATUS_TORN n)).bump (Rg.Q_TORN_CNT n)

/-! ### Head and tail -/

/-- HEAD passes over the items taken from the front and over torn items that reach it (R235). -/
def skipTorn (n2 : Nat) : Nat → List QItem → Nat × List QItem
  | head, [] => (head, [])
  | head, i :: r => if i.torn then skipTorn n2 ((head + i.len + 1) % n2) r else (head, i :: r)

/-- The record after torn items at the head have been passed over. -/
def State.qSettle (s : State) (n : Nat) : State :=
  let q := s.q n
  let (h, is) := skipTorn (2 * s.qN n) q.head q.items
  s.setQ n { q with head := h, items := is }

/-- Releases the head item. -/
def State.qRelease (s : State) (n : Nat) : State :=
  let q := s.q n
  match q.items with
  | [] => s
  | i :: r => (s.setQ n { q with head := (q.head + i.len + 1) % (2 * s.qN n), items := r }).qSettle n

/-- The header of an item (R225). -/
def itemHeader (len : Nat) (torn : Bool) (src : QSrc) (frame : Nat) : Nat :=
  len + (if torn then 32 else 0) + src.kind * 2 ^ 8 + src.src * 2 ^ 16 + frame % 2 ^ 32 * 2 ^ 32

/-- Writes ring words from a counter on. -/
def State.qWriteWords (s : State) (n : Nat) : Nat → List Nat → State
  | _, [] => s
  | c, w :: r => (s.devWrite64 (s.qAddr n c) w srcQueue).qWriteWords n (c + 1) r

/-- Allocates an item at ALLOC and writes its header (R225, R227). -/
def State.qAllocate (s : State) (n len : Nat) (src : QSrc) (committed : Bool) : State :=
  let q := s.q n
  let s := s.devWrite64 (s.qAddr n q.alloc) (itemHeader len false src (s.get Rg.FT_FRAME_LO)) srcQueue
  s.setQ n { q with alloc := (q.alloc + len + 1) % (2 * s.qN n), items := q.items ++ [⟨len, committed, false⟩] }

/-- A unit pushes a whole item: it is allocated, written and committed, or discarded and counted where it does not fit or
the queue is disabled (R227, R237, R238). The answer is whether it was kept. -/
def State.qPush (s : State) (n : Nat) (src : QSrc) (words : List Nat) : Bool × State :=
  let s := s.qUse n
  if s.qOn n && s.qFits n words.length then
    let before := s.qItems n
    let c := (s.q n).alloc
    let s := (s.qAllocate n words.length src true).qWriteWords n (c + 1) words
    (true, s.qMark n before)
  else (false, s.qDrop n)

/-! ### Takes by load streams (R229) -/

/-- The bytes of one ring word, read at its bank; an uncorrectable half gives none. -/
def State.qReadWord (s : State) (n ctr src : Nat) : List (Option Byte) × State :=
  match s.stRead (s.qAddr n ctr) 8 src with
  | (.data bs, s) => (bs.map some, s)
  | (.bad _, s) => (List.replicate 8 none, s)

/-- The bytes of `k` payload words from a counter on. -/
def State.qReadWords (s : State) (n src : Nat) : Nat → Nat → List (Option Byte) × State
  | _, 0 => ([], s)
  | c, k + 1 =>
    match s.qReadWord n c src with
    | (b, s) =>
      match s.qReadWords n src (c + 1) k with
      | (r, s) => (b ++ r, s)

/-- Takes deliverable items while their bytes fit in `room`; the fuel is the number of items. The answer is the bytes, and the
counter and the length of each item. -/
def State.qTakeLoop (s : State) (n src : Nat) : Nat → Nat → (List (Option Byte) × List (Nat × Nat)) × State
  | 0, _ => (([], []), s)
  | k + 1, room =>
    match (s.q n).ready with
    | [] => (([], []), s)
    | i :: _ =>
      if i.len * 8 ≤ room then
        let c := (s.q n).head
        match s.qReadWords n src (c + 1) i.len with
        | (b, s) =>
          match (s.qRelease n).qTakeLoop n src k (room - i.len * 8) with
          | ((r, is), s) => ((b ++ r, (c, i.len) :: is), s)
      else (([], []), s)

/-- A queue-kind load stream takes items whose elements fit within `vl` elements of `size` bytes; a stream that comes up
short sets SHORT and is counted (R229). [DEDUCED, unsafe: assumption 41] -/
def State.qTake (s : State) (n vl size src : Nat) : (List (Option Byte) × List (Nat × Nat)) × State :=
  let s := s.qUse n
  match s.qTakeLoop n src (s.q n).items.length (vl * size) with
  | ((bs, is), s) =>
    ((bs, is), if bs.length < vl * size then (s.qEvent n (Rg.Q_STATUS_SHORT n)).bump (Rg.Q_SHORT_CNT n) else s)

/-! ### Who may use a queue (R224) -/

/-- Whether engines may produce into a queue. -/
def engMayPush (n : Nat) : Bool := (1024 ≤ n && n ≤ 2559) || (2688 ≤ n && n ≤ 8191)
/-- Whether engines may consume from a queue. -/
def engMayTake (n : Nat) : Bool := n ≤ 2047 || (2688 ≤ n && n ≤ 8191)
/-- Whether management masters may produce into a queue: every range but the verdict queues. -/
def mgmtMayPush (n : Nat) : Bool := !(2560 ≤ n && n ≤ 2623)

/-! ### Management (R233 to R237) -/

/-- A write of `Q_PUSH_LEN` by master `m` (R233). -/
def State.qPushLen (s : State) (n m len : Nat) : WRes :=
  let s := s.qUse n
  if ¬ (1 ≤ len ∧ len ≤ 16) ∨ ¬ s.qOn n ∨ ¬ mgmtMayPush n ∨ (s.q n).opn.isSome then .refused s
  else if ¬ s.qFits n len then .refused (s.qDrop n)
  else
    let c := (s.q n).alloc
    let s := s.qAllocate n len ⟨2, m⟩ false
    .ok (s.setQ n { s.q n with opn := some ⟨m, c, len, 0⟩ })

/-- The first item that is not committed becomes committed. -/
def commitFirst : List QItem → List QItem
  | [] => []
  | i :: r => if i.committed then i :: commitFirst r else { i with committed := true } :: r

/-- The first item that is not committed becomes torn. -/
def tearFirst : List QItem → List QItem
  | [] => []
  | i :: r => if i.committed then i :: tearFirst r else { i with committed := true, torn := true } :: r

/-- A write of `Q_PUSH_DATA` by master `m`: the next payload word; the last commits the item (R233). -/
def State.qPushData (s : State) (n m v : Nat) : WRes :=
  let s := s.qUse n
  match (s.q n).opn with
  | none => .refused s
  | some o =>
    if o.master ≠ m then .refused s
    else
      let before := s.qItems n
      let s := s.devWrite64 (s.qAddr n (o.pos + 1 + o.done)) v srcQueue
      let q := s.q n
      if o.done + 1 = o.len then
        .ok ((s.setQ n { q with opn := none, items := commitFirst q.items }).qMark n before)
      else .ok (s.setQ n { q with opn := some { o with done := o.done + 1 } })

/-- `Q_CMD.POP`: the head deliverable item is released; with none the write is refused (R234). -/
def State.qPop (s : State) (n : Nat) : WRes :=
  let s := s.qUse n
  match (s.q n).ready with
  | [] => .refused s
  | _ :: _ => .ok (s.qRelease n)

/-- `Q_CMD.FLUSH`: HEAD and TAIL become ALLOC; an item whose words were not all written is torn (R236). -/
def State.qFlush (s : State) (n : Nat) : State :=
  let s := s.qUse n
  let q := s.q n
  let open' := q.items.any (fun i => !i.committed)
  let s := s.setQ n { q with head := q.alloc, items := [], opn := none }
  if open' then s.qTorn n else s

/-- Whether a ring is well placed (R223). -/
def State.qPlaced (s : State) (n size : Nat) : Bool :=
  s.get (Rg.Q_BASE n) % 256 == 0 && decide (s.get (Rg.Q_BASE n) + 2 ^ size ≤ storeTop)

/-- HEAD, TAIL and ALLOC become 0, both copies of each (R237, R394). -/
def State.qZero (s : State) (n : Nat) : State := { s with qPtrBad := Tab.set s.qPtrBad n none none }.setQ n {}

/-- A write of `Q_CFG` (R223, R237, R242). A disabled queue is enabled only when its ring is well placed; an enabled one
keeps `SIZE_LOG2` and `ITEM_WORDS`. A write of 1 to ENABLE that is accepted sets HEAD, TAIL and ALLOC to 0, whatever ENABLE
held. [DEDUCED, unsafe: assumption 47] -/
def State.qCfg (s : State) (n v : Nat) : WRes :=
  let en := v % 2
  let size := bits v 5 1
  let iw := bits v 9 6
  let ie := bits v 10 10
  if ¬ (8 ≤ size ∧ size ≤ 24) then .refused s
  else if s.qOn n then
    if size ≠ s.get (Rg.Q_CFG_SIZE_LOG2 n) ∨ iw ≠ s.get (Rg.Q_CFG_ITEM_WORDS n) then .refused s
    else
      let s := s.set (Rg.Q_CFG_INT_EN n) ie
      .ok (if en = 0 then (s.qFlush n).set (Rg.Q_CFG_ENABLE n) 0 else s.qZero n)
  else if en = 1 ∧ ¬ s.qPlaced n size then .refused (s.raise (Rg.Q_STATUS_CFG_ERR n))
  else
    let s := ((s.set (Rg.Q_CFG_SIZE_LOG2 n) size).set (Rg.Q_CFG_ITEM_WORDS n) iw).set (Rg.Q_CFG_INT_EN n) ie
    .ok (if en = 1 then (s.qZero n).set (Rg.Q_CFG_ENABLE n) 1 else s)

/-- A write of `Q_BASE`: changed only while the queue is disabled (R237). -/
def State.qBase (s : State) (n v : Nat) : WRes :=
  if s.qOn n ∧ v ≠ s.get (Rg.Q_BASE n) then .refused s else .ok (s.set (Rg.Q_BASE n) v)

/-- A write of `Q_CMD`: FLUSH first, then POP (R234, R236). -/
def State.qCmd (s : State) (n v : Nat) : WRes :=
  let flush := v % 2 = 1
  let pop := bits v 1 1 = 1
  if flush ∧ pop then (match s.qPop n with | .ok s => .ok (s.qFlush n) | .refused s => .refused s)
  else if flush then .ok (s.qFlush n)
  else if pop then s.qPop n
  else .ok s

/-- `Q_POP_HDR`: the header of the first deliverable item that is not torn, 0 where there is none; an uncorrectable
header gives none (R234, R241). -/
def State.qPopHdr (s : State) (n : Nat) : Option Nat × State :=
  let s := s.qUse n
  match (s.q n).ready with
  | [] => (some 0, s)
  | _ :: _ =>
    match s.stRead (s.qAddr n (s.q n).head) 8 srcQueue with
    | (.data bs, s) => (some (leNat bs), s)
    | (.bad _, s) => (none, s)

/-- ITEM_TORN: the open management item has not been committed within 4,096 mc: its header is rewritten with TORN, and it
counts as committed (R235). -/
def execItemTorn (n : Queue) (s : State) : Host.Outcome State Fault Refusal :=
  act s fun s =>
    let s := s.qUse n
    match (s.q n).opn with
    | none => s
    | some o =>
      let before := s.qItems n
      let h := s.stNat (s.qAddr n o.pos) 8
      let s := s.devWrite64 (s.qAddr n o.pos) (Nat.lor h 32) srcQueue
      let q := s.q n
      let s := (s.setQ n { q with opn := none, items := tearFirst q.items }).qTorn n
      ((s.qSettle n).qMark n before)

end Sys2Proof.Machine
end

