-- ==== Sys2Proof/Machine/Ingress.lean ====
section
/-! DEFINITION. The ingress router: frame buffers and their headers, the partition split, and what becomes of a Saonjo
frame (R44 to R71). -/

namespace Sys2Proof.Machine

/-! ### Frame buffers (R18, R57, R60) -/

/-- The base of frame buffer i: 0 A, 1 B, 2 C, 3 D. -/
def State.bufBase (s : State) (i : Nat) : Nat :=
  match i % 4 with
  | 0 => s.get Rg.IR_BUF_BASE_A
  | 1 => s.get Rg.IR_BUF_BASE_B
  | 2 => s.get Rg.IR_BUF_BASE_C
  | _ => s.get Rg.IR_BUF_BASE_D

/-- The buffer in collection; the spare follows it, then emission, then evaluation (R17, R18). -/
def State.collBuf (s : State) : Nat := s.get Rg.IR_STATUS_COLL_BUF
@[inherit_doc State.collBuf] def State.spareBuf (s : State) : Nat := (s.collBuf + 1) % 4
@[inherit_doc State.collBuf] def State.emitBuf (s : State) : Nat := (s.collBuf + 2) % 4
@[inherit_doc State.collBuf] def State.evalBuf (s : State) : Nat := (s.collBuf + 3) % 4

/-- S, the hit slots of a buffer (R57). -/
def State.bufSlots (s : State) : Nat := 2 ^ s.get Rg.IR_BUF_CFG_SLOTS_LOG2

/-- A header word of a buffer. [DESIGN CHOICE, unsafe: assumption 26] -/
def State.hdr (s : State) (buf off : Nat) : Nat := s.stNat (s.bufBase buf + off) 8

/-- Writes a header word (R60: only the router writes the header). [DESIGN CHOICE, unsafe: assumption 26] -/
def State.setHdr (s : State) (buf off v : Nat) : State := s.devWrite64 (s.bufBase buf + off) v srcRouter

/-- Adds to a field of a header word; the field stays at its top. [DESIGN CHOICE, unsafe: assumption 26] -/
def State.addHdr (s : State) (buf off lo w n : Nat) : State :=
  let v := s.hdr buf off
  let f := v / 2 ^ lo % 2 ^ w
  s.setHdr buf off (v - f * 2 ^ lo + min (f + n) (2 ^ w - 1) * 2 ^ lo)

/-- Sets a bit of a header word. -/
def State.orHdr (s : State) (buf off bit : Nat) : State := s.setHdr buf off (Nat.lor (s.hdr buf off) (2 ^ bit))

/-- The weight of partition n in force (R65, R67). -/
def State.weight (s : State) (n : Nat) : Nat :=
  match n % 4 with
  | 0 => s.force (Rg.IR_WEIGHT_W0 (n / 4))
  | 1 => s.force (Rg.IR_WEIGHT_W1 (n / 4))
  | 2 => s.force (Rg.IR_WEIGHT_W2 (n / 4))
  | _ => s.force (Rg.IR_WEIGHT_W3 (n / 4))

/-- The weights in force, equal ones where all are 0 (R66). -/
def State.weights (s : State) : List Nat :=
  let w := (List.range 64).map s.weight
  if w.all (· == 0) then List.replicate 64 1 else w

/-- The split of S slots: START and CAP of each partition (R65). -/
def splitFrom (slots sum : Nat) : Nat → List Nat → List (Nat × Nat)
  | _, [] => []
  | start, w :: r => (start, slots * w / sum) :: splitFrom slots sum (start + slots * w / sum) r

@[inherit_doc splitFrom]
def State.split (s : State) : List (Nat × Nat) :=
  let w := s.weights
  splitFrom s.bufSlots (w.foldl (· + ·) 0) 0 w

/-- Writes START, CAP and an empty FILL, OVF for each partition (R60, R61). -/
def State.putSplit (s : State) (buf : Nat) : Nat → List (Nat × Nat) → State
  | _, [] => s
  | n, (st, cap) :: r =>
    ((s.setHdr buf (0x40 + 16 * n) (st + cap * 2 ^ 32)).setHdr buf (0x48 + 16 * n) 0).putSplit buf (n + 1) r

/-- A buffer enters the spare role, or a lock opens: its whole header is written for the frame it will collect
(R54, R61). -/
def State.openBuf (s : State) (buf frame : Nat) : State :=
  let s := s.setHdr buf 0 (frame % 2 ^ 64)
  let s := [8, 0x10, 0x18, 0x20, 0x28, 0x30, 0x38].foldl (fun s o => s.setHdr buf o 0) s
  let s := s.putSplit buf 0 s.split
  (List.range 120).foldl (fun s j => s.setHdr buf (0x440 + 8 * j) 0) s

/-! ### Filing hits (R46, R52, R55, R68) -/

/-- A partition-map entry: entry i of the active copy, or of the shadow (R55, R56). -/
def pmapFld (i : Nat) : Fld :=
  match i % 4 with
  | 0 => Rg.IR_PMAP_ENT0 (i / 4)
  | 1 => Rg.IR_PMAP_ENT1 (i / 4)
  | 2 => Rg.IR_PMAP_ENT2 (i / 4)
  | _ => Rg.IR_PMAP_ENT3 (i / 4)

/-- The HITLOSS flag of a buffer's frame (R32, R60). -/
def State.hitLoss (s : State) (buf : Nat) : State := s.orHdr buf 0x18 (32 + 3)

/-- Records the lane of the last error. -/
def State.errLane (s : State) (lane : Nat) : State := s.set Rg.IR_LAST_ERR lane

/-- Files one hit word into a buffer (R46, R55, R68). -/
def State.fileHit (s : State) (buf lane hit : Nat) : State :=
  let ch := hit / 2 ^ 41 % 2 ^ 23
  let crossing := hit / 2 ^ 35 % 64
  if s.frameF ≤ crossing then
    let s := ((s.bump Rg.IR_FMT_ERR_CNT).raise Rg.IR_INT_STATUS_FMT_ERR).errLane lane
    (s.addHdr buf 0x10 32 32 1).hitLoss buf
  else
    let e := s.force (pmapFld (ch / 1024))
    if e / 128 % 2 = 1 then (s.bump Rg.IR_UNMAP_CNT).addHdr buf 0x18 0 32 1
    else
      let n := e % 64
      let sc := s.hdr buf (0x40 + 16 * n)
      let fill := s.hdr buf (0x48 + 16 * n) % 2 ^ 32
      if fill < sc / 2 ^ 32 then
        let s := s.devWrite64 (s.bufBase buf + 0x800 + 8 * (sc % 2 ^ 32 + fill)) hit srcRouter
        (s.addHdr buf (0x48 + 16 * n) 0 32 1).addHdr buf 8 0 32 1
      else
        let s := (s.addHdr buf (0x48 + 16 * n) 32 32 1).addHdr buf 0x10 0 32 1
        let s := (s.orHdr buf 0x20 n).orHdr buf 0x18 (32 + 2)
        (s.bump Rg.IR_OVF_CNT).raise Rg.IR_INT_STATUS_OVERFLOW

/-- Files the hits of a frame in order (R52). -/
def State.fileHits (s : State) (buf lane : Nat) : List Nat → State
  | [] => s
  | h :: r => (s.fileHit buf lane h).fileHits buf lane r

/-! ### A Saonjo frame (R47 to R53, R69) -/

/-- The header word (R48). -/
def SFrame.header (f : SFrame) : Nat := f.words.headD 0
/-- The payload words. -/
def SFrame.payload (f : SFrame) : List Nat := f.words.tail.dropLast
/-- The trailer word (R49). -/
def SFrame.trailer (f : SFrame) : Nat := f.words.getLastD 0
/-- TYPE. -/
def SFrame.type (f : SFrame) : Nat := f.header / 2 ^ 56 % 256
/-- FRAME. -/
def SFrame.frame (f : SFrame) : Nat := f.header / 2 ^ 24 % 2 ^ 16
/-- COUNT. -/
def SFrame.count (f : SFrame) : Nat := f.header / 2 ^ 15 % 512
/-- SEQ. -/
def SFrame.seq (f : SFrame) : Nat := f.trailer / 2 ^ 32 % 2 ^ 32
/-- The key of its lane and virtual channel. -/
def SFrame.key (f : SFrame) : Nat := 8 * f.lane + f.vc

/-- The CRC-32C over header, payload and trailer bits [63:32], in transmission order (R49).
[DEDUCED, unsafe: assumption 27] -/
def SFrame.crcOk (f : SFrame) : Bool :=
  let bs := ((f.header :: f.payload).map (leBytes 8)).flatten ++ leBytes 4 f.seq
  f.trailer % 2 ^ 32 == crc32c bs

/-- Whether the formats of R48 and R50 hold: TYPE valid, reserved bits 0, COUNT in range and that of the words received,
a HIT frame on virtual channel 0. [DEDUCED, unsafe: assumption 27] -/
def SFrame.formOk (f : SFrame) : Bool :=
  let t := f.type
  (t == 1 || t == 2 || t == 3 || t == 4 || (0x10 ≤ t && t ≤ 0x1F)) &&
  f.header / 2 ^ 8 % 128 == 0 && f.header / 2 ^ 3 % 32 == 0 &&
  (f.count ≤ (if t = 1 then 256 else 15)) && f.count == f.payload.length &&
  (t != 1 || f.vc == 0)


/-- The difference d of a frame's number from the frame in collection (R53). -/
def State.frameDiff (s : State) (f : SFrame) : Nat :=
  (f.frame + 2 ^ 16 - s.get Rg.FT_FRAME_LO % 2 ^ 16) % 2 ^ 16

/-- The buffer of a frame's target frame, where it has one (R69). -/
def State.targetBuf (s : State) (f : SFrame) : Option Nat :=
  let d := s.frameDiff f
  if d = 0 then some s.collBuf
  else if d = 1 ∧ s.flag Rg.IR_CTRL_EARLY_EN then some s.spareBuf
  else none

/-- The loss of a whole frame: HITLOSS on a frame, and HITS_LOST when the header was received and its TYPE reads HIT;
neither while the unit is not LOCKED (R69). `n` is the number of payload words received. -/
def State.frameLost (s : State) (f : SFrame) (buf n : Nat) : State :=
  if ¬ s.locked then s
  else
    let s := s.hitLoss buf
    if f.words ≠ [] ∧ f.type = 1 then s.addHdr buf 0x10 32 32 n else s

/-- A whole-frame format error (R69). -/
def State.frameFmtErr (s : State) (f : SFrame) (buf n : Nat) : State :=
  (((s.bump Rg.IR_FMT_ERR_CNT).raise Rg.IR_INT_STATUS_FMT_ERR).errLane f.lane).frameLost f buf n

/-- A frame that was not discarded whole updates the expected SEQ of its lane and virtual channel; a gap is counted when
`SEQ_CHECK` is 1 (R69). [DEDUCED, unsafe: assumption 124] -/
def State.seqCheck (s : State) (f : SFrame) : State :=
  let exp := Tab.get s.expSeq f.key (2 ^ 32)
  let s := { s with expSeq := Tab.put s.expSeq f.key ((f.seq + 1) % 2 ^ 32) }
  if exp ≠ 2 ^ 32 ∧ exp ≠ f.seq ∧ s.flag Rg.IR_CTRL_SEQ_CHECK then
    ((s.bump Rg.IR_SEQ_GAP_CNT).raise Rg.IR_INT_STATUS_SEQ_GAP).errLane f.lane
  else s

/-- An accepted HIT frame that passes its checks (R53, R54). [DEDUCED, unsafe: assumption 124] -/
def State.routeHits (s : State) (f : SFrame) : State :=
  let n := f.payload.length
  if ¬ s.locked then s.bumpBy Rg.IR_NOLOCK_CNT n
  else if s.frameDiff f = 0xFFFF then (s.bumpBy Rg.IR_LATE_CNT n).raise Rg.IR_INT_STATUS_LATE_HIT
  else
    match s.targetBuf f with
    | none => s.bumpBy Rg.IR_MISNUM_CNT n
    | some b =>
      let s := s.fileHits b f.lane f.payload
      let s := if f.header % 2 = 1 then s.addHdr b 8 32 16 1 else s
      if f.header / 2 % 2 = 1 then s.addHdr b 8 48 16 1 else s

/-- An accepted frame of another type goes whole, without its trailer, to its lane queue (R69). -/
def State.routeOther (s : State) (f : SFrame) : State :=
  match s.qPush f.key ⟨0, f.key⟩ (f.header :: f.payload) with
  | (true, s) => s
  | (false, s) => (s.bump Rg.IR_QFULL_CNT).raise Rg.IR_INT_STATUS_QFULL

/-- What the router does with a frame, in the order of R69; while `ENABLE` is 0 it discards every frame uncounted
(R70). [DEDUCED, unsafe: assumptions 27, 124] -/
def State.routeFrame (s : State) (f : SFrame) : State :=
  if ¬ s.flag Rg.IR_CTRL_ENABLE then s
  else if ¬ f.whole then s.frameFmtErr f s.collBuf (f.words.length - 1)
  else if f.words.length < 2 then s.frameFmtErr f s.collBuf 0
  else if ¬ f.crcOk then
    let s := ((s.bump Rg.IR_CRC_ERR_CNT).raise Rg.IR_INT_STATUS_CRC_ERR).errLane f.lane
    s.frameLost f s.collBuf f.payload.length
  else if ¬ f.formOk then s.frameFmtErr f ((s.targetBuf f).getD s.collBuf) f.payload.length
  else
    let s := s.seqCheck f
    if f.type = 1 then s.routeHits f else s.routeOther f

/-! ### Register writes (R56, R58, R59, R67) -/

/-- Whether two ranges of bytes meet. -/
def rangesMeet (a n b m : Nat) : Bool := decide (a < b + m) && decide (b < a + n)

/-- Whether the four buffers are well placed (R58). -/
def State.bufsPlaced (s : State) : Bool :=
  let n := 2048 + 8 * s.bufSlots
  (List.range 4).all (fun i => s.bufBase i % 4096 == 0 && decide (s.bufBase i + n ≤ storeTop)) &&
  (List.range 4).all (fun i => (List.range i).all (fun j => !rangesMeet (s.bufBase i) n (s.bufBase j) n))

/-- A write of `IR_CTRL` (R58). [DEDUCED, unsafe: assumption 121] -/
def State.irCtrl (s : State) (v : Nat) : WRes :=
  if v % 2 = 1 ∧ ¬ s.bufsPlaced then .refused (s.raise Rg.IR_STATUS_CFG_ERR)
  else .ok (((s.set Rg.IR_CTRL_ENABLE v).set Rg.IR_CTRL_EARLY_EN (v / 2)).set Rg.IR_CTRL_SEQ_CHECK (v / 4))

/-- A write of a partition-map register: the shadow changes at once, the active copy at a frame boundary (R56). Bit 6 of
an entry is reserved. -/
def State.irPmap (s : State) (j v : Nat) : State :=
  (List.range 4).foldl (fun s k =>
    let e := v / 2 ^ (8 * k) % 256
    let e := e % 64 + e / 128 * 128
    ((s.set (pmapFld (4 * j + k)) e).stage (pmapFld (4 * j + k)) e)) s

/-- A write of `IR_WEIGHTi` (R67). -/
def State.irWeight (s : State) (i v : Nat) : State :=
  [(Rg.IR_WEIGHT_W0 i, 0), (Rg.IR_WEIGHT_W1 i, 8), (Rg.IR_WEIGHT_W2 i, 16), (Rg.IR_WEIGHT_W3 i, 24)].foldl
    (fun s (f, lo) => (s.set f (v / 2 ^ lo)).stage f (v / 2 ^ lo)) s

/-- A write of `IR_BUF_CFG` (R57, R59). -/
def State.irBufCfg (s : State) (v : Nat) : WRes :=
  let n := v % 32
  if s.unlocked ∧ 16 ≤ n ∧ n ≤ 21 then .ok (s.set Rg.IR_BUF_CFG_SLOTS_LOG2 n) else .refused s

end Sys2Proof.Machine
end

