-- ==== Sys2Proof/Machine/Matrix.lean ====
section
/-! DEFINITION. The management matrix: sides and owners, windows, error responses, register commands, and the memories
behind it (R339 to R361). -/

namespace Sys2Proof.Machine

/-! ### Sides and owners (R339, R340) -/

/-- Whether a master is on the host side: the PCIe host and JTAG debug. [DESIGN CHOICE, safe: assumption 18] -/
def hostSide (m : Nat) : Bool := m == 1 || m == 2

/-- The class of a register address (R344). -/
def ownClass (a : Nat) : Nat :=
  if a < 0x300000000 then 14
  else if a < 0x400000000 then 16
  else if a < 0x500000000 then 15
  else (a - 0x500000000) / 0x10000

/-- Whether override `k` is valid and covers an address (R344). -/
def State.ovrCovers (s : State) (a k : Nat) : Bool :=
  let b := s.get2 (Rg.OWN_OVR_BASE_LO k) (Rg.OWN_OVR_BASE_HI k)
  s.flag (Rg.OWN_OVR_VALID k) && decide (b ≤ a) && decide (a < b + 64 * s.get (Rg.OWN_OVR_BLOCKS k))

/-- Whether an address is a voter or ownership register, which the Triad always owns (R340). -/
def triadOnly (a : Nat) : Bool :=
  (0x500064000 ≤ a && a ≤ 0x500064033) || (0x500065010 ≤ a && a ≤ 0x5000653FF)

/-- The owner of a register address: 0 the Triad, 1 the host, 2 shared (R340). -/
def State.ownerOf (s : State) (a : Nat) : Nat :=
  if triadOnly a then 0
  else
    match (List.range 32).find? (s.ovrCovers a) with
    | some k => s.get (Rg.OWN_OVR_OWNER k)
    | none => s.get (Rg.OWN_CLASS_OWNER (ownClass a))

/-- Whether the owner of an address accepts writes of a master (R340). -/
def State.ownOk (s : State) (m a : Nat) : Bool :=
  let o := s.ownerOf a
  o == 2 || o == (if hostSide m then 1 else 0)

/-! ### Windows (R353, R354) -/

/-- Whether window `w` of master `m` lets a request of `n` bytes pass. -/
def State.winPasses (s : State) (m w a n : Nat) (write : Bool) : Bool :=
  let lo := s.get (Rg.MX_WIN_BASE_LO m w) * 4096 + s.get (Rg.MX_WIN_BASE_HI m w) * 2 ^ 32
  let hi := s.get (Rg.MX_WIN_LIMIT_LO m w) * 4096 + s.get (Rg.MX_WIN_LIMIT_HI m w) * 2 ^ 32 + 0xFFF
  s.flag (Rg.MX_WIN_VALID m w) && s.flag (if write then Rg.MX_WIN_W m w else Rg.MX_WIN_R m w) &&
    decide (lo ≤ a) && decide (a + n ≤ hi + 1)

/-- Whether the request passes one of the master's windows, and the rules of the vault and the boot ROM, which no window
overrides (R353, R358, R360). -/
def State.windowOk (s : State) (m a n : Nat) (write peek : Bool) : Bool :=
  (List.range 16).any (fun w => s.winPasses m w a n write) &&
    !(decide (0x100200000 < a + n) && decide (a < 0x100210000) && (m != 0 || peek)) &&
    !(decide (0x101000000 < a + n) && decide (a < 0x101040000) && (write || (m != 0 && m != 2)))

/-- The last-resort controller is in control (R334, R343). -/
def State.lastResort (s : State) : Bool := s.get Rg.VT_STATUS_STATE == 4

/-! ### Responses (R351, R352) -/

/-- Records the answer to a request. [DESIGN CHOICE, safe: assumption 9] -/
def State.respond (s : State) (m code data : Nat) : State := 
  { s with resp := some { master := m, code := code, data := data } }

/-- A request fails with a code that the matrix decides: its counters and records (R341, R352). -/
def State.deny (s : State) (m a code : Nat) : State :=
  if code = 1 ∨ code = 2 then
    let s := if code = 1 then (s.bump Rg.MX_ERR_CNT).raise Rg.MX_INT_STATUS_UNMAPPED
      else (s.bump Rg.MX_WIN_DENY_CNT).raise Rg.MX_INT_STATUS_WIN_DENY
    (((s.set Rg.MX_LAST_ERR_LO a).set Rg.MX_LAST_ERR_HI_ADDR (a / 2 ^ 32)).set Rg.MX_LAST_ERR_HI_MASTER m).set
      Rg.MX_LAST_ERR_HI_CODE code
  else if code = 3 then
    (((s.bump Rg.OWN_DENY_CNT).set Rg.OWN_LAST_DENY_LO a).set Rg.OWN_LAST_DENY_HI_ADDR (a / 2 ^ 32)).set
      Rg.OWN_LAST_DENY_HI_MASTER m
  else s

/-- The request fails, and its answer says so. -/
def State.fail (s : State) (m a code : Nat) : State := (s.deny m a code).respond m code 0

/-- In FIELD a JTAG access that is not a peek read completes with code 4 (R462, R478). -/
def State.fieldBars (s : State) (m : Nat) (peek : Bool) : Bool := m == 2 && !peek && s.lcForce == 2

/-- The checks the matrix makes of a register write, in the order of R351: windows, ownership, last resort; a write of JTAG in
FIELD is refused. -/
def State.writeCheck (s : State) (m a n : Nat) : Option Nat :=
  if ¬ s.windowOk m a n true false then some 2
  else if ¬ s.ownOk m a then some 3
  else if s.lastResort ∧ m ≠ 8 then some 7
  else if s.fieldBars m false then some 4
  else none

/-- A register write by master `m`: the checks of the matrix, then the target's own answer (R351).
[DESIGN CHOICE, safe: assumption 18] -/
def State.regCommand (s : State) (m a n : Nat) (w : State → WRes) : State :=
  match s.writeCheck m a n with
  | some c => s.fail m a c
  | none =>
    match w s with
    | .ok s => s.respond m 0 0
    | .refused s => s.fail m a 4

/-! ### Pairs (R364) -/

/-- Holds the LO half of a pair for the side of master `m`; `a` is the LO register's address. -/
def State.holdLo (s : State) (m a v : Nat) : State :=
  { s with heldLo := Tab.put s.heldLo (2 * a + (if hostSide m then 1 else 0)) v }

/-- The LO half held for the side of a master; a side that has written none holds the reset value of LO.
[DESIGN CHOICE, unsafe: assumption 48] -/
def State.loHeld (s : State) (m : Nat) (lo : Fld) : Nat :=
  Tab.get s.heldLo (2 * lo.addr + (if hostSide m then 1 else 0)) lo.rst

/-! ### Local memory (R355 to R357) -/

/-- Decodes the halves of local memory that bytes `a` to `a + n - 1` touch: corrections are counted and written back; the
answer is whether every one reads well. -/
def State.lmDecode (s : State) : List Nat → Bool × State
  | [] => (true, s)
  | h :: r =>
    match Tab.get s.lmErr h none with
    | none => s.lmDecode r
    | some .single =>
      (({ s with lmErr := Tab.del s.lmErr h }.bump Rg.LM_CE_CNT).cePlain (196 + h / 65536)).lmDecode r
    | some _ => (false, ((s.bump Rg.LM_UE_CNT).set Rg.LM_LAST_UE_ADDR (h * 8)))

/-- Reads `n` bytes of local memory at an offset. -/
def State.lmRead (s : State) (a n : Nat) : Option (List Byte) × State :=
  match s.lmDecode (halvesOf a n) with
  | (true, s) => (some (s.lmBytes a n), s)
  | (false, s) => (none, s)

/-- A unit of the device, as master `m`, reads local memory at an offset: where no window of its permits the read, it is denied
(R353). -/
def State.lmFetch (s : State) (m a n : Nat) : Option (List Byte) × State :=
  if s.windowOk m (0x100000000 + a) n false false then s.lmRead a n else (none, s.deny m (0x100000000 + a) 2)

/-- The data of a half of local memory is wrong, nothing says how; its slot's tag, which stands apart, is as it was (R357,
R391). -/
def State.lmScramble (s : State) (h : Nat) : State :=
  let (bs, s) := s.freeBytes 8
  { s with localMem := (bytesAt (8 * h) bs).foldl (fun t p => Tab.set t p.1 0 p.2) s.localMem }

/-- A half of local memory takes an error: a second single-bit error makes it uncorrectable; three bits or more can also alias
to a correctable syndrome or pass undetected, and leave a wrong value (R391). [DESIGN CHOICE, unsafe: assumption 103] -/
def State.lmHit (s : State) (h : Nat) (k : ErrKind) : State :=
  match k with
  | .aliased => { s.lmScramble h with lmErr := Tab.put s.lmErr h (some .single) }
  | .silent => { s.lmScramble h with lmErr := Tab.del s.lmErr h }
  | k =>
    { s with lmErr := Tab.put s.lmErr h (some (if k = .single ∧ Tab.get s.lmErr h none = none then .single else .uncorrectable)) }

/-- The halves of which a write covers only a part. -/
def partHalves (a n : Nat) : List Nat := (halvesOf a n).filter (fun h => !(decide (a ≤ 8 * h) && decide (8 * h + 8 ≤ a + n)))

/-- Writes bytes to local memory: the halves it covers in part are read first, and where one is uncorrectable nothing is
written (R357). -/
def State.lmWrite (s : State) (a : Nat) (bs : List Byte) : Bool × State :=
  match s.lmDecode (partHalves a bs.length) with
  | (true, s) =>
    (true, { (s.lmPuts a bs) with lmErr := (halvesOf a bs.length).foldl Tab.del s.lmErr })
  | (false, s) => (false, s)

/-! ### The vault (R357 to R359) -/

/-- A half of the vault takes an error, as a half of local memory does (R391).
[DESIGN CHOICE, unsafe: assumption 103] -/
def State.vtHit (s : State) (h : Nat) (k : ErrKind) : State :=
  match k with
  | .aliased =>
    let (bs, s) := s.freeBytes 8
    { s.vtPuts (8 * h) bs with vtErr := Tab.put s.vtErr h (some .single) }
  | .silent =>
    let (bs, s) := s.freeBytes 8
    { s.vtPuts (8 * h) bs with vtErr := Tab.del s.vtErr h }
  | k =>
    { s with vtErr := Tab.put s.vtErr h (some (if k = .single ∧ Tab.get s.vtErr h none = none then .single else .uncorrectable)) }

/-- Decodes halves of the vault, as in local memory, and on the same counters; `LM_LAST_UE_ADDR` is an offset in local memory
and does not name them (R357, R362, R392, R393). [DEDUCED, unsafe: assumption 110] -/
def State.vtDecode (s : State) : List Nat → Bool × State
  | [] => (true, s)
  | h :: r =>
    match Tab.get s.vtErr h none with
    | none => s.vtDecode r
    | some .single => (({ s with vtErr := Tab.del s.vtErr h }.bump Rg.LM_CE_CNT).cePlain 200).vtDecode r
    | some _ => (false, s.bump Rg.LM_UE_CNT)

/-- Reads bytes of the vault. -/
def State.vtRead (s : State) (a n : Nat) : Option (List Byte) × State :=
  match s.vtDecode (halvesOf a n) with
  | (true, s) => (some (s.vtBytes a n), s)
  | (false, s) => (none, s)

/-- Writes bytes to the vault. -/
def State.vtWrite (s : State) (a : Nat) (bs : List Byte) : Bool × State :=
  match s.vtDecode (partHalves a bs.length) with
  | (true, s) => (true, { (s.vtPuts a bs) with vtErr := (halvesOf a bs.length).foldl Tab.del s.vtErr })
  | (false, s) => (false, s)

/-- A wipe of the vault starts, or starts again from the first word: its words are zeroed as it runs (R359). -/
def State.vaultWipe (s : State) : State :=
  { s with vault := [], vtErr := [] }.set Rg.VAULT_STATUS_WIPING 1

/-- A wipe other than the reset's (R359, R362). -/
def State.vaultWipeCounted (s : State) : State := s.vaultWipe.bump Rg.VAULT_WIPE_CNT

/-! ### Capability slots (R296) -/

/-- The capability in the slot of local memory at an offset that is a multiple of 16, for a load of it; none where the
slot is uncorrectable. A tag without a majority reads as invalid (R357). -/
def State.loadCap (s : State) (off : Nat) : Option Cap × State :=
  match s.lmRead off 16 with
  | (some bs, s) => (some ⟨Tab.get s.tags (off / 16) false && !Tab.get s.tagBad (off / 16) false, BitVec.ofNat 128 (leNat bs)⟩, s)
  | (none, s) => (none, s)

/-- Stores a capability in a slot: only this sets a tag (R296). -/
def State.storeCap (s : State) (off : Nat) (c : Cap) : State :=
  let s := (s.lmWrite off (leBytes 16 c.bits.toNat)).2
  { s with tags := Tab.set s.tags (off / 16) false c.tag }

end Sys2Proof.Machine
end

