-- ==== Sys2Proof/Machine/Engine.lean ====
section
/-! DEFINITION. An engine's registers: scalar and descriptor registers, VL, masks, table memory, capabilities and event
counters (R103 to R115, R291 to R296, R385). -/

namespace Sys2Proof.Machine

/-! ### Reading and writing an engine -/

/-- Engine `n`. -/
def State.eng (s : State) (n : Nat) : Engine := Tab.get s.engines n {}

/-- The state with engine `n` replaced. -/
def State.setEng (s : State) (n : Nat) (e : Engine) : State := { s with engines := Tab.put s.engines n e }

/-- The state with engine `n` changed. -/
def State.modEng (s : State) (n : Nat) (f : Engine → Engine) : State := s.setEng n (f (s.eng n))

/-- A scalar register; s0 reads 0 (R261). -/
def Engine.sreg (e : Engine) (r : Nat) : Word := if r = 0 then 0 else Tab.get e.sregs r 0

/-- A scalar register written; a write of s0 is discarded. -/
def Engine.setS (e : Engine) (r : Nat) (v : Word) : Engine :=
  if r = 0 then e else { e with sregs := Tab.set e.sregs r 0 v }

/-- A descriptor register (R115). -/
def Engine.desc (e : Engine) (d : Nat) : QWord := Tab.get e.descs d 0

/-- A descriptor register written. -/
def Engine.setD (e : Engine) (d : Nat) (v : QWord) : Engine := { e with descs := Tab.set e.descs d 0 v }

/-- A mask bit; m0 reads as all ones (R112). -/
def Engine.mbit (e : Engine) (m i : Nat) : Bool := if m = 0 then true else Tab.get e.masks (65536 * m + i) false

/-- A mask bit written. -/
def Engine.setM (e : Engine) (m i : Nat) (b : Bool) : Engine :=
  if m = 0 then e else { e with masks := Tab.set e.masks (65536 * m + i) false b }

/-- An entry of T (R114). -/
def Engine.tent (e : Engine) (i : Nat) : Word := Tab.get e.table i 0

/-- An entry of T written; the write clears an error of the entry (R200). -/
def Engine.setT (e : Engine) (i : Nat) (v : Word) : Engine :=
  { e with table := Tab.set e.table i 0 v, stErr := Tab.del e.stErr (8192 + i) }

/-- A capability register; one never written holds an invalid tag (R297). -/
def Engine.cap (e : Engine) (c : Nat) : Cap := Tab.get e.caps c ⟨false, 0⟩

/-- A capability register written. -/
def Engine.setC (e : Engine) (c : Nat) (v : Cap) : Engine := { e with caps := Tab.put e.caps c v }

/-- Sets a scalar register of engine `n`. -/
def State.setS (s : State) (n r : Nat) (v : Word) : State := s.modEng n (·.setS r v)

/-! ### Capabilities (R291 to R294) -/

/-- BASE. -/
def Cap.base (c : Cap) : Nat := (c.bits.extractLsb' 0 48).toNat
/-- LENGTH. -/
def Cap.len (c : Cap) : Nat := (c.bits.extractLsb' 48 40).toNat
/-- PERMS. -/
def Cap.perms (c : Cap) : BitVec 16 := c.bits.extractLsb' 88 16
/-- OTYPE. -/
def Cap.otype (c : Cap) : Nat := (c.bits.extractLsb' 104 8).toNat
/-- SEALED. -/
def Cap.sealed (c : Cap) : Bool := c.bits.getLsbD 112
/-- PDOM. -/
def Cap.pdom (c : Cap) : Nat := (c.bits.extractLsb' 113 8).toNat

/-- A capability of these fields, its tag valid. -/
def Cap.make (base len perms otype : Nat) (sealed : Bool) (pdom : Nat) : Cap :=
  ⟨true, BitVec.ofNat 128 (base % 2 ^ 48 + len % 2 ^ 40 * 2 ^ 48 + perms % 2 ^ 16 * 2 ^ 88 +
    otype % 256 * 2 ^ 104 + (if sealed then 2 ^ 112 else 0) + pdom % 256 * 2 ^ 113)⟩

/-- The 48-bit address of a 32-bit one: BASE[47:32] before it (R292). -/
def Cap.addr (c : Cap) (a : Nat) : Nat := c.base / 2 ^ 32 * 2 ^ 32 + a % 2 ^ 32

/-- Whether it covers bytes `a` to `a + n - 1` of the management space (R292). -/
def Cap.covers (c : Cap) (a n : Nat) : Bool := decide (c.base ≤ a) && decide (a + n ≤ c.base + c.len)

/-- Whether it holds a permission (R293). -/
def Cap.holds (c : Cap) (p : Nat) : Bool := c.perms.getLsbD p

/-- Why a capability is not usable, as SUB of R303, where it is not: tag, seal, permission, range (R294). -/
def Cap.unusable (c : Cap) (perm a n : Nat) : Option Nat :=
  if ¬ c.tag then some 1
  else if c.sealed then some 2
  else if ¬ c.holds perm then some 3
  else if ¬ c.covers a n then some 4
  else none


/-- Permission numbers of R293. -/
def permLoad : Nat := 0
@[inherit_doc permLoad] def permStore : Nat := 1
@[inherit_doc permLoad] def permExec : Nat := 2
@[inherit_doc permLoad] def permLoadCap : Nat := 3
@[inherit_doc permLoad] def permStoreCap : Nat := 4
@[inherit_doc permLoad] def permSeal : Nat := 5
@[inherit_doc permLoad] def permUnseal : Nat := 6
@[inherit_doc permLoad] def permSys : Nat := 7
@[inherit_doc permLoad] def permIrq : Nat := 8
@[inherit_doc permLoad] def permCfg : Nat := 9
@[inherit_doc permLoad] def permEng : Nat := 10
@[inherit_doc permLoad] def permDbg : Nat := 11
@[inherit_doc permLoad] def permNvm : Nat := 12
@[inherit_doc permLoad] def permLife : Nat := 13

/-! ### Event counters (R385, R386) -/

/-- Counter `k` of engine `n` gains `c`; past 48 bits it wraps and sets OVF. -/
def State.ecBump (s : State) (n k c : Nat) : State :=
  let v := s.get2 (Rg.EC_LO n k) (Rg.EC_HI_COUNT n k) + c
  let s := s.set2 (Rg.EC_LO n k) (Rg.EC_HI_COUNT n k) v
  if 2 ^ 48 ≤ v then s.raise (Rg.EC_HI_OVF n k) else s

/-- `c` events of a code at engine `n`: every counter that selects the code counts them.
[DESIGN CHOICE, unsafe: assumption 52] -/
def State.ecAdd (s : State) (n code c : Nat) : State :=
  if c = 0 then s
  else ((List.range 128).filter (fun k => s.get (Rg.EC_SEL n k) = code)).foldl (fun s k => s.ecBump n k c) s

/-- Engine `n` retires an instruction: code 1 counts it, and the interval of its tagging runs (R386, R388). -/
def State.ecRetire (s : State) (n : Nat) : State :=
  { (s.ecAdd n 1 1) with tagWait := Tab.set s.tagWait n 0 (Tab.get s.tagWait n 0 - 1) }

/-! ### Engine-state errors (R113, R114, R200) -/

/-- What a mask group or an entry of T (by its key in `Engine.stErr`) holds becomes free: an error that no code tells. -/
def State.engScramble (s : State) (n k : Nat) : State :=
  if k < 8192 then
    let (v, s) := s.fresh (2 ^ 64)
    s.modEng n (fun e => (List.range 64).foldl (fun (e : Engine) j => e.setM (k / 1024) (k % 1024 * 64 + j) (v.testBit j)) e)
  else
    let (v, s) := s.fresh (2 ^ 32)
    s.modEng n (fun e => e.setT (k - 8192) (BitVec.ofNat 32 v))

/-- A mask group or an entry of T takes an error: a second single-bit error makes it uncorrectable; three bits or more can
also alias to a correctable syndrome or pass undetected, and leave a wrong value (R113, R114, R391). -/
def State.engHit (s : State) (n k : Nat) (u : ErrKind) : State :=
  let old := (s.eng n).stErr.find? (fun e => e.1 = k)
  match u with
  | .aliased => (s.engScramble n k).modEng n (fun e => { e with stErr := Tab.put e.stErr k false })
  | .silent => (s.engScramble n k).modEng n (fun e => { e with stErr := Tab.del e.stErr k })
  | u => s.modEng n (fun e => { e with stErr := Tab.put e.stErr k (u != .single || old.isSome) })

/-- An upset of an engine's masks or T, or of the store (R113, R114). [DESIGN CHOICE, unsafe: assumption 103] -/
def State.engUpset (s : State) (n : Nat) (u : EngUpset) : State :=
  match u with
  | .store u => s.upset u.half u.kind
  | .mask m g k => s.engHit n (1024 * m.val + g.val) k
  | .table i k => s.engHit n (8192 + i.val) k

/-- Reads the code of a mask group or a T entry: a single-bit error is corrected and counted, an uncorrectable one is
reported (R113, R200). The answer is whether it reads well. -/
def State.engDecode (s : State) (n k : Nat) : Bool × State :=
  match (s.eng n).stErr.find? (fun e => e.1 = k) with
  | none => (true, s)
  | some (_, false) =>
    let s := s.modEng n (fun e => { e with stErr := Tab.del e.stErr k })
    (true, (s.bump (Rg.VE_MASK_CE_CNT n)).ceEngine n)
  | some (_, true) => (false, s)

/-- Reads the code of the group that holds bit `i` of mask `m`; m0 has none. -/
def State.maskDecode (s : State) (n m i : Nat) : Bool × State :=
  if m = 0 then (true, s) else s.engDecode n (1024 * m + i / 64)

end Sys2Proof.Machine
end

