-- ==== Sys2Proof/Machine/VecCheck.lean ====
section
/-! DEFINITION. The checks an accord meets when it begins: encoding, length, descriptors, capabilities, ranges, and
overlap (R104, R132 to R141, R148 to R168, R188, R194, R231). -/

namespace Sys2Proof.Machine

/-! ### What the opcode tables say -/

/-- Loads. -/
def isLoad (o : VOp) : Bool := o == .ld || o == .ldg
/-- Stores. -/
def isStore (o : VOp) : Bool := o == .st || o == .sts || o == .stc
/-- Operations: everything that is neither. -/
def isOp (o : VOp) : Bool := !isLoad o && !isStore o
/-- Mask operations (R161). -/
def isMaskOp (o : VOp) : Bool :=
  match o with
  | .mand | .mor | .mxor | .mandn | .mnot | .mfill | .mpop | .mfirst => true
  | _ => false

/-- TYPE of an instruction, where it is not reserved. -/
def vty (x : VInsn) : Option ElemTy := elemTy? x.f.ty.toNat
/-- TYPE2 of an instruction, where it is not reserved. -/
def vty2 (x : VInsn) : Option ElemTy := elemTy? x.f.ty2.toNat

/-- The PIPE codes an opcode accepts with a type: 0 A, 1 M, 2 F, 3 divide unit (R148 to R164). -/
def pipesOk (o : VOp) (t : ElemTy) : List Nat :=
  match o with
  | .add | .sub | .min | .max => [0, 1]
  | .abs | .neg | .absdiff | .avg | .clamp | .mov | .raw | .sel => [0]
  | .and | .or | .xor | .andn | .not | .shl | .shr | .bfx => [0]
  | .mul | .mulh | .mulw | .mac | .macw => [1]
  | .cmpeq | .cmpne | .cmplt | .cmple | .cmpgt | .cmpge => if t.isFlt then [2] else [0, 1]
  | .fadd | .fsub | .fmul | .fma | .fmin | .fmax | .fabs | .fneg | .cvt | .tlu | .twr => [2]
  | .div | .sqrt | .rsqrt => [3]
  | .rsum | .rmin | .rmax => if t.isFlt then [2] else [0, 1]
  | .rand | .ror => [0]
  | .mand | .mor | .mxor | .mandn | .mnot | .mfill | .mpop | .mfirst => [0]
  | .compress | .expand => [0]
  | .ld | .ldg => [0, 1]
  | .st | .sts | .stc => [0]

/-- The types an opcode accepts. -/
def tyOk (o : VOp) (t : ElemTy) : Bool :=
  match o with
  | .add | .sub | .min | .max | .abs | .absdiff | .avg | .clamp => t.isIntQ
  | .neg => t.signed
  | .and | .or | .xor | .andn | .not | .shl | .shr => t.isIntQ
  | .bfx | .mulh | .tlu | .rand | .ror => t.isInt
  | .mul | .mac => t.isIntQ
  | .mulw | .macw => t == .i8 || t == .u8 || t == .i16 || t == .u16 || t == .q15
  | .fadd | .fsub | .fmul | .fma | .fmin | .fmax | .fabs | .fneg | .rsqrt => t.isFlt
  | .twr => t == .i32 || t == .u32 || t == .q31 || t == .f32
  | .mand | .mor | .mxor | .mandn | .mnot | .mfill | .mpop | .mfirst => t == .u8
  | _ => true

/-- The type of twice the width that MULW and MACW give (R149). -/
def wideTy (t : ElemTy) : ElemTy :=
  match t with
  | .i8 => .i16 | .u8 => .u16 | .i16 => .i32 | .u16 => .u32 | _ => .q31

/-- Whether TYPE2 is one the opcode accepts, for the opcodes that name one. -/
def ty2Ok (o : VOp) (t : ElemTy) (t2 : Option ElemTy) : Bool :=
  match o with
  | .raw => match t2 with | some u => u.width == t.width | none => false
  | .mulw | .macw => t2 == some (wideTy t)
  | .cvt => match t2 with | some u => u != t | none => false
  | .tlu => t2 == some .i32 || t2 == some .u32 || t2 == some .q31 || t2 == some .f32
  | .ldg | .sts | .stc => t2 == some .i32 || t2 == some .u32
  | _ => true

/-- The destination kind an opcode's table gives (R138). -/
def dkindOf (o : VOp) : Nat :=
  match o with
  | .cmpeq | .cmpne | .cmplt | .cmple | .cmpgt | .cmpge => 1
  | .mand | .mor | .mxor | .mandn | .mnot | .mfill => 1
  | .rsum | .rmin | .rmax | .rand | .ror | .mpop | .mfirst => 2
  | _ => 0

/-- How many stream or scalar operands an operation reads. -/
def nSrc (o : VOp) : Nat :=
  match o with
  | .abs | .neg | .mov | .raw | .not | .bfx | .fabs | .fneg | .cvt | .tlu | .twr | .sqrt | .rsqrt => 1
  | .rsum | .rmin | .rmax | .rand | .ror | .compress | .expand => 1
  | .clamp | .mac | .macw | .fma => 3
  | .mand | .mor | .mxor | .mandn | .mnot | .mfill | .mpop | .mfirst => 0
  | .ld | .ldg | .st | .sts | .stc => 0
  | _ => 2

/-- SRC3, in IMM[5:0] (R132). -/
def src3 (f : VFields) : Nat := f.imm.toNat % 64

/-- The type of an operation's stream result, where it has one (R138). -/
def streamTy (x : VInsn) : Option ElemTy :=
  if dkindOf x.op ≠ 0 ∨ x.op = .twr then none
  else
    match vty x, vty2 x with
    | some t, some t2 => some (resTy x.op t t2)
    | some t, none => some (resTy x.op t t)
    | none, _ => none

/-- The type of the stream that selector `sel` names among the instructions before it: none where it names nothing the
accord has (R135, R136). -/
def selTy (before : List VInsn) (descs : Nat → QWord) (sel : Nat) : Option ElemTy :=
  if sel ≤ 1 then
    match before.find? (fun x => isLoad x.op && x.f.pipe.toNat == sel) with
    | some x => elemTy? ((descs (x.f.dreg.toNat % 16)).extractLsb' 56 4).toNat
    | none => none
  else
    match before.find? (fun x => isOp x.op && x.f.pipe.toNat + 2 == sel) with
    | some x => streamTy x
    | none => none

/-- Whether a data operand is one the instruction may name, with type `t` (R135, R136, R139). COMPRESS may feed only a
store (R162). -/
def operandOk (before : List VInsn) (descs : Nat → QWord) (store : Bool) (t : ElemTy) (sel : Nat) : Bool :=
  if sel ≤ 5 then
    selTy before descs sel == some t &&
      (store || sel != 2 || !(before.any (fun x => x.op == .compress)))
  else if sel = 6 then true
  else if sel = 7 then t == .i32 || t == .u32
  else decide (32 ≤ sel)

/-- Whether an index operand is one R166 allows. `ownPipe` is the pipe of an LDG, whose other L pipe may supply the
index; a store takes either, and the result of COMPRESS, which may feed only the store (R162).
[DEDUCED, unsafe: assumption 36] -/
def indexOk (before : List VInsn) (descs : Nat → QWord) (ownPipe : Option Nat) (t2 : ElemTy) (sel : Nat) : Bool :=
  if sel ≤ 1 then
    match before.find? (fun x => isLoad x.op && x.f.pipe.toNat == sel) with
    | some x =>
      let d := descs (x.f.dreg.toNat % 16)
      elemTy? (d.extractLsb' 56 4).toNat == some t2 &&
        (match ownPipe with | some p => p != sel && !d.getLsbD 60 | none => true)
    | none => false
  else if sel ≤ 3 then
    selTy before descs sel == some t2 &&
      (ownPipe.isNone || !(before.any (fun x => x.op == .compress && x.f.pipe.toNat + 2 == sel)))
  else if sel = 7 then true
  else decide (32 ≤ sel)

/-! ### Check 1: encoding (R188) -/

/-- The conditions of one instruction, given those before and after it; a field that its opcode does not use is ignored
(R133). [DEDUCED, unsafe: assumption 36] -/
def insnOk (vl : Nat) (descs : Nat → QWord) (before after : List VInsn) (x : VInsn) : Bool :=
  let f := x.f
  let s1 := f.src1.toNat
  let s2 := f.src2.toNat
  match vty x with
  | none => false
  | some t =>
    let t2 := (vty2 x).getD t
    f.rm != 3 && (pipesOk x.op t).contains f.pipe.toNat && tyOk x.op t && ty2Ok x.op t (vty2 x) &&
    f.dkind.toNat == dkindOf x.op &&
    (dkindOf x.op != 1 || (1 ≤ f.dreg.toNat && f.dreg.toNat ≤ 7)) &&
    -- the limits of R104: three operations, no pipe twice, one store
    !(isOp x.op && decide (3 ≤ (before.filter (fun y => isOp y.op)).length)) &&
    !(before.any (fun y =>
      (isLoad x.op && isLoad y.op && x.f.pipe == y.f.pipe) ||
      (isOp x.op && isOp y.op && x.f.pipe == y.f.pipe) || (isStore x.op && isStore y.op))) &&
    (if isLoad x.op || isStore x.op then
      f.dreg.toNat < 16 &&
      elemTy? ((descs (f.dreg.toNat % 16)).extractLsb' 56 4).toNat == some t
     else true) &&
    (match x.op with
    | .ld => true
    | .ldg => indexOk before descs (some f.pipe.toNat) t2 s1
    | .st => operandOk before descs true t s1
    | .sts => operandOk before descs true t s1 && indexOk before descs none t2 s2
    | .stc =>
      (match comb? (f.imm.toNat % 8) with
       | some c => combTyOk c t && (c == .hist || operandOk before descs true t s1)
       | none => false) && indexOk before descs none t2 s2
    | .mand | .mor | .mxor | .mandn => s1 < 8 && s2 < 8
    | .mnot | .mpop | .mfirst => s1 < 8
    | .mfill => true
    | .bfx =>
      let p := f.imm.toNat % 32
      let w := f.imm.toNat / 32 % 64
      operandOk before descs false t s1 && w != 0 && decide (p + w ≤ t.width)
    | .twr => operandOk before descs false t s1 && decide (f.imm.toNat % 4096 + vl ≤ 3072)
    | .compress => operandOk before descs false t s1 && !(after.any (fun y => isOp y.op))
    | .expand => s1 ≤ 1 && operandOk before descs false t s1
    | o =>
      operandOk before descs false t s1 && (nSrc o < 2 || operandOk before descs false t s2) &&
      (nSrc o < 3 || operandOk before descs false (if o = .macw then t2 else t) (src3 f)))

/-- The place of the first instruction whose encoding is refused. [DEDUCED, unsafe: assumption 36] -/
def encFaultFrom (vl : Nat) (descs : Nat → QWord) : List VInsn → List VInsn → Nat → Option Nat
  | _, [], _ => none
  | before, x :: r, k =>
    if insnOk vl descs before r x then encFaultFrom vl descs (before ++ [x]) r (k + 1) else some k

/-- Check 1 over a whole accord; an accord cut short by a scalar instruction is refused at its last vector instruction
(R134). -/
def encFault (vl : Nat) (descs : Nat → QWord) (a : Accord) : Option Nat :=
  if a.broken then some (a.insns.length - 1) else encFaultFrom vl descs [] a.insns 0

/-! ### Descriptors (R115) -/

/-- BASE, STRIDE, LO and HI of a descriptor, its KIND and its CAP. -/
def dBase (d : QWord) : Nat := (d.extractLsb' 0 32).toNat
@[inherit_doc dBase] def dStride (d : QWord) : Int := (d.extractLsb' 32 24).toInt
@[inherit_doc dBase] def dQueue (d : QWord) : Bool := d.getLsbD 60
@[inherit_doc dBase] def dCap (d : QWord) : Nat := (d.extractLsb' 61 3).toNat
@[inherit_doc dBase] def dLo (d : QWord) : Nat := (d.extractLsb' 64 32).toNat
@[inherit_doc dBase] def dHi (d : QWord) : Nat := (d.extractLsb' 96 32).toNat

/-- The descriptor an instruction names. -/
def vdesc (descs : Nat → QWord) (x : VInsn) : QWord := descs (x.f.dreg.toNat % 16)

/-- The address of element i of a strided stream, exactly (R116). -/
def strideAddr (d : QWord) (size i : Nat) : Int := (dBase d : Int) + i * dStride d * size

/-- The lowest byte and the number of bytes of a strided stream of `vl` > 0 elements. -/
def strideRange (d : QWord) (size vl : Nat) : Int × Int :=
  let a := strideAddr d size 0
  let b := strideAddr d size (vl - 1)
  (min a b, max a b + size - min a b)

/-- The range of a stream (R181): its lowest byte and the first byte above it. -/
def State.streamRange (s : State) (descs : Nat → QWord) (vl : Nat) (x : VInsn) : Int × Int :=
  let d := vdesc descs x
  let size := ((vty x).getD .u32).size
  if dQueue d then
    let n := dBase d % 8192
    ((s.get (Rg.Q_BASE n) : Int), (s.get (Rg.Q_BASE n) + 8 * s.qN n : Nat))
  else if x.op = .ld ∨ x.op = .st then
    let (a, n) := strideRange d size vl
    (a, a + n)
  else ((dLo d : Int), (dHi d : Int) + 1)

/-- Check 3 on one stream (R81, R116, R117, R168, R231). -/
def State.descOk (s : State) (descs : Nat → QWord) (vl : Nat) (x : VInsn) : Bool :=
  let d := vdesc descs x
  let size := ((vty x).getD .u32).size
  if x.op = .ld ∨ x.op = .st then
    if dQueue d then
      let n := dBase d % 8192
      dStride d == 1 && dBase d / 8192 == 0 && s.qOn n &&
        (if x.op = .ld then engMayTake n else engMayPush n)
    else
      let (a, len) := strideRange d size vl
      dBase d % size == 0 && decide ((dLo d : Int) ≤ a) && decide (a + len ≤ (dHi d : Int) + 1) &&
        !(x.op == .st && dStride d == 0)
  else
    !dQueue d && dBase d % size == 0 && dLo d % size == 0 && (dHi d + 1) % size == 0 && decide (dLo d ≤ dHi d) &&
      !(x.op != .ldg && dStride d == 0)

/-- Check 4 on one stream: the capability that CAP names is usable for the stream's range (R188). -/
def State.vcapOk (s : State) (n : Nat) (descs : Nat → QWord) (vl : Nat) (x : VInsn) : Bool :=
  let c := (s.eng n).cap (dCap (vdesc descs x))
  let (lo, hi) := s.streamRange descs vl x
  (c.unusable (if isLoad x.op then permLoad else permStore) lo.toNat (hi - lo).toNat).isNone && decide (0 ≤ lo)

/-- Check 5 on one stream (R75). -/
def State.rangeOk (s : State) (descs : Nat → QWord) (vl : Nat) (x : VInsn) : Bool :=
  let (lo, hi) := s.streamRange descs vl x
  decide (0 ≤ lo) && decide (hi ≤ (storeTop : Int))

/-- The place of the first stream of which `ok` does not hold. -/
def firstBad (ok : VInsn → Bool) : List VInsn → Nat → Option Nat
  | [], _ => none
  | x :: r, k => if (isLoad x.op || isStore x.op) && !ok x then some k else firstBad ok r (k + 1)

/-- The checks of R188 in their order; the answer is the CAUSE of the first that fails and the place of its
instruction. With VL 0 no check is made (R111). [DEDUCED, unsafe: assumption 42] -/
def State.issueFault (s : State) (n : Nat) (descs : Nat → QWord) (vl : Nat) (a : Accord) : Option (Nat × Nat) :=
  if vl = 0 then none
  else
    match encFault vl descs a with
    | some k => some (1, k)
    | none =>
      if vl > 65536 then some (2, 0)
      else
        match firstBad (s.descOk descs vl) a.insns 0 with
        | some k => some (3, k)
        | none =>
          match firstBad (s.vcapOk n descs vl) a.insns 0 with
          | some k => some (4, k)
          | none => (firstBad (s.rangeOk descs vl) a.insns 0).map (fun k => (5, k))

/-! ### Overlap (R194) -/

/-- Whether two ranges meet. -/
def intsMeet (a b : Int × Int) : Bool := decide (a.1 < b.2) && decide (b.1 < a.2)

/-- The mask registers an instruction reads: MASK and the mask operands. -/
def masksRead (x : VInsn) : List Nat :=
  x.f.mask.toNat :: (match x.op with
    | .mand | .mor | .mxor | .mandn => [x.f.src1.toNat % 8, x.f.src2.toNat % 8]
    | .mnot | .mpop | .mfirst => [x.f.src1.toNat % 8]
    | .sel => [x.f.imm.toNat % 8]
    | _ => [])

/-- Whether an instruction writes a mask register that it or an earlier one reads. -/
def maskOverlap : List VInsn → List Nat → Bool
  | [], _ => false
  | x :: r, seen =>
    let seen := seen ++ masksRead x
    (dkindOf x.op == 1 && seen.contains x.f.dreg.toNat) || maskOverlap r seen

/-- Whether an accord of VL > 0 is overlapping; one with STC always is (R177, R194). -/
def State.overlapping (s : State) (descs : Nat → QWord) (vl : Nat) (a : Accord) : Bool :=
  vl != 0 &&
  (a.insns.any (fun x => isStore x.op && a.insns.any (fun y => isLoad y.op &&
      intsMeet (s.streamRange descs vl x) (s.streamRange descs vl y))) ||
    a.insns.any (fun x => x.op == .stc) ||
    a.insns.any (fun x => (x.op == .ld || x.op == .st) && dQueue (vdesc descs x)) ||
    maskOverlap a.insns [])

end Sys2Proof.Machine
end

