-- ==== Sys2Proof/Machine/VecExec.lean ====
section
/-! DEFINITION. An accord at work: the streaming of its elements, its memory effects, its faults and its finish (R104 to
R114, R135 to R147, R160 to R199). -/

namespace Sys2Proof.Machine

/-! ### Operands -/

/-- The latched descriptors. -/
def Exec.desc (x : Exec) (d : Nat) : QWord := Tab.get x.descs d 0

/-- Whether arithmetic traps are disabled: by overlap (R195), or by a restart (R196).
[DEDUCED, unsafe: assumption 42] -/
def Exec.noTrap (x : Exec) : Bool := x.overlap || x.off

/-- TRAP in force. -/
def Exec.trap (x : Exec) (f : VFields) : Bool := f.trap && !x.noTrap

/-- SAT in force: an instruction whose TRAP is disabled saturates (R195). [DEDUCED, unsafe: assumption 42] -/
def Exec.satOn (x : Exec) (f : VFields) : Bool := f.sat || (f.trap && x.noTrap)

/-- An immediate as an element of a type (R137). -/
def immEl (t : ElemTy) (imm : BitVec 16) : Nat :=
  match t with
  | .i8 | .u8 => imm.toNat % 256
  | .i16 | .u16 | .q15 | .f16 => imm.toNat
  | .i32 => (imm.signExtend 32).toNat
  | .u32 => imm.toNat
  | .q31 | .f32 => imm.toNat * 2 ^ 16

/-- The value of a data operand for element `i`: none where its stream does not carry the element (R107, R135). `env`
holds the streams of L0, L1, A, M, F and the divide unit; `sc` is the scalar taken at issue. -/
def operand (env : List (Option Nat)) (i : Nat) (t : ElemTy) (imm : BitVec 16) (sc : Word) (sel : Nat) : Option Nat :=
  if sel ≤ 5 then (env[sel]?).join
  else if sel = 6 then some (immEl t imm)
  else if sel = 7 then some i
  else some (sc.toNat % 2 ^ t.width)

/-- Whether the instructions from here on hold a COMPRESS. -/
def hasCompress (is : List VInsn) : Bool := is.any (fun x => x.op == .compress)

/-! ### Loads -/

/-- The bytes a load gets for one element, from the addresses and bytes of what it reads: those the store holds, but a byte that
the same accord wrote for an earlier element is the value before the accord or one written, and nothing says which (R179).
[DESIGN CHOICE, safe: assumption 38] -/
def State.chooseBytes (s : State) (x : Exec) : List (Nat × Byte) → List Byte × State
  | [] => ([], s)
  | (a, b) :: r =>
    let cands := Tab.get x.written a []
    let (pick, s) := if cands = [] then (b, s)
      else let (k, s) := s.fresh cands.length; (cands.getD k b, s)
    let (rest, s) := s.chooseBytes x r
    (pick :: rest, s)

/-- How far the results of an accord that stops reach its store and the table memory: so many elements (R191); and the item of
its queue store that is torn, by the elements written when it is complete (R231). -/
structure Cut where
  store : Nat
  table : Nat
  tear  : Option Nat := none

/-- A fault found: CAUSE, the place of its instruction, the element reported, and the element of the sources at which it was
found (R193). -/
structure Found where
  cause : Nat
  insn  : Nat
  elem  : Nat
  seen  : Nat
deriving DecidableEq, Repr

/-- An accord at work: the state and the accord as its elements so far have left them. -/
structure Run where
  s     : State
  x     : Exec
  /-- The streams of L0, L1, A, M, F and the divide unit for the present element. -/
  env   : List (Option Nat)
  /-- The element is counted (R145). -/
  cnt   : Bool
  /-- The faults found. -/
  faults : List Found
  /-- Where the accord stops, where it does. -/
  cut   : Option Cut

/-- A fault of an instruction on its element `elem` is found; an accord that goes on past it carries no data from there. -/
def Run.failAt (r : Run) (cause k elem : Nat) : Run := { r with faults := r.faults ++ [⟨cause, k, elem, r.x.pos⟩] }

/-- A fault of the present element is found. -/
def Run.fail (r : Run) (cause k : Nat) : Run := r.failAt cause k r.x.pos

/-- Whether the present element still reaches the store, and the table memory. -/
def Run.stores (r : Run) : Bool := match r.cut with | some c => decide (r.x.pos < c.store) | none => true
@[inherit_doc Run.stores]
def Run.tables (r : Run) : Bool := match r.cut with | some c => decide (r.x.pos < c.table) | none => true

/-- One half as a load pipe reads it: the first element of a group that needs it reads it, and the others take their bytes
from that read; in a gather each byte is the same for all of them (R172, R179). -/
def Run.readHalf (r : Run) (n pipe h : Nat) : Option (List Byte) × Run :=
  let key := 2 ^ 40 * pipe + h
  match r.x.rdc.find? (fun e => e.1 = key) with
  | some (_, v) => (v, r)
  | none =>
    match r.s.decodeHalf h n with
    | (false, s) => (none, { r with s := s, x := { r.x with rdc := Tab.put r.x.rdc key none } })
    | (true, s) =>
      let (bs, s) := s.chooseBytes r.x (bytesAt (8 * h) (s.stBytes (8 * h) 8))
      (some bs, { r with s := s, x := { r.x with rdc := Tab.put r.x.rdc key (some bs) } })

/-- A load of one element from the store; `gather` says that it is an indexed one. -/
def Run.load (r : Run) (n k pipe a size : Nat) (gather : Bool) : Run :=
  match r.readHalf n pipe (a / 8) with
  | (none, r) => r.fail 7 k
  | (some bs, r) =>
    let (v, s) := if gather then ((bs.drop (a % 8)).take size, r.s)
      else r.s.chooseBytes r.x (bytesAt a (r.s.stBytes a size))
    { r with s := s, env := r.env.set pipe (some (leNat v)), x := { r.x with rdw := (2 ^ 40 * pipe + a / 16) :: r.x.rdw } }

/-- Element `i` of a queue load, from the bytes taken and the addresses of their ring words. A word that cannot be read is a
fault whether or not the element is active (R229, R241). -/
def Run.loadQueue (r : Run) (k pipe i size : Nat) (on : Bool) : Run :=
  let (q, qa) := if pipe = 0 then (r.x.q0, r.x.qa0) else (r.x.q1, r.x.qa1)
  let bs := (q.drop (i * size)).take size
  if bs.length < size then r
  else if bs.any (·.isNone) then r.fail 7 k
  else if ¬ on then r
  else
    let at' (j : Nat) : Nat := qa.getD ((i * size + j) / 8) 0 + (i * size + j) % 8
    let (v, s) := r.s.chooseBytes r.x (((List.range size).map at').zip (bs.map (·.getD 0)))
    { r with s := s, env := r.env.set pipe (some (leNat v)) }

/-- The index of an indexed stream as an integer (R169). -/
def indexInt (t2 : ElemTy) (v : Nat) : Int := if t2 == .i32 then (sext 32 v) else (v : Int)

/-- A bounds miss of an instruction's element (R170): counted, and a trap where TRAP is in force. -/
def Run.miss (r : Run) (n k elem idx : Nat) (f : VFields) : Run :=
  let s := ((r.s.bump (Rg.VE_OOB_CNT n)).set (Rg.VE_LAST_OOB_IDX n) idx).ecAdd n 18 1
  let r := { r with s := s, cnt := true }
  if r.x.trap f then r.failAt 6 k elem else r

/-- The address of an element of an indexed stream, where it is within bounds (R169). -/
def indexAddr (d : QWord) (t2 : ElemTy) (size idx : Nat) : Option Nat :=
  let a : Int := (dBase d : Int) + indexInt t2 idx * dStride d * size
  if a < (dLo d : Int) ∨ a + size - 1 > (dHi d : Int) then none else some a.toNat

/-! ### Stores -/

/-- Notes that this accord writes a byte, for the loads of later elements (R179). -/
def noteByte (s : State) (x : Exec) (a : Nat) (b : Byte) : Exec :=
  if ¬ x.overlap then x
  else
    let old := Tab.get x.written a []
    { x with written := Tab.put x.written a ((if old = [] then [s.stByte a] else old) ++ [b]) }

/-- Notes a run of bytes. -/
def noteBytes (s : State) (x : Exec) (a : Nat) : List Byte → Exec
  | [] => x
  | b :: r => noteBytes s (noteByte s x a b) (a + 1) r

/-- A strided store element: its bytes wait for their word to be complete. -/
def Run.putStrided (r : Run) (i a : Nat) (bs : List Byte) : Run :=
  let x := noteBytes r.s r.x a bs
  let ps := (bytesAt a bs).map (fun p => (⟨p.1, p.2, i⟩ : PendByte))
  { r with x := { x with pend := if r.stores then x.pend ++ ps else x.pend } }

/-- The payload words of an item in the making. [DEDUCED, unsafe: assumption 39] -/
def wordsOf : Nat → List Byte → List Nat
  | 0, _ => []
  | k + 1, bs => if bs = [] then [] else leNat (bs.take 8) :: wordsOf k (bs.drop 8)

/-- The store words that an item of `k` payload words occupies from its header on (event 27 of R386).
[DESIGN CHOICE, unsafe: assumption 52] -/
def State.itemStoreWords (s : State) (q k : Nat) : Nat :=
  ((List.range (k + 1)).map (fun j => s.qAddr q ((s.q q).alloc + j) / 16)).eraseDups.length

/-- The last item allocated was not fully issued: it is torn (R231). -/
def State.tearLast (s : State) (q : Nat) : State :=
  match (s.q q).items.getLast? with
  | none => s
  | some i =>
    let before := s.qItems q
    let a := s.qAddr q ((s.q q).alloc + 2 * s.qN q - (i.len + 1))
    let s := s.devWrite64 a (Nat.lor (s.stNat a 8) 32) srcQueue
    let s := s.setQ q { s.q q with items := (s.q q).items.dropLast ++ [{ i with committed := true, torn := true }] }
    ((s.qTorn q).qSettle q).qMark q before

/-- An item is allocated, and not all of its payload words are issued, nor does anything say how many: it is torn (R231).
[DESIGN CHOICE, safe: assumption 37] -/
def State.qPushTorn (s : State) (n q : Nat) (words : List Nat) : State :=
  let (k, s) := (s.qUse q).fresh words.length
  let c := (s.q q).alloc
  let ws := s.itemStoreWords q k
  let s := (s.qAllocate q words.length ⟨1, (s.slotOf n).getD 0⟩ false).qWriteWords q (c + 1) (words.take k)
  (s.tearLast q).ecAdd n 27 ws

/-- Notes the payload words of an item at a counter, for the loads of later elements (R179). -/
def noteItem (s : State) (q : Nat) : Nat → List Nat → Exec → Exec
  | _, [], x => x
  | c, w :: r, x => noteItem s q (c + 1) r (noteBytes s x (s.qAddr q c) (leBytes 8 w))

/-- An item of a queue store is complete: it is allocated, or it and every later item are discarded (R230). -/
def Run.putItem (r : Run) (n q : Nat) (elems : Nat) : Run :=
  let words := wordsOf 16 r.x.qbuf
  let x := { r.x with qbuf := [] }
  if x.qfull then { r with s := r.s.qDrop q, x := x }
  else if r.cut.any (fun c => c.tear == some (x.qelems + elems)) then { r with s := r.s.qPushTorn n q words, x := x }
  else
    let ws := r.s.itemStoreWords q words.length
    let old := r.s.qUse q
    match r.s.qPush q ⟨1, (r.s.slotOf n).getD 0⟩ words with
    | (true, s) =>
      { r with s := (s.ecAdd n 23 elems).ecAdd n 27 ws,
               x := { noteItem old q ((old.q q).alloc + 1) words x with qelems := x.qelems + elems } }
    | (false, s) => { r with s := s, x := { x with qfull := true } }

/-- Payload words per item of a queue store (R242). -/
def State.itemWords (s : State) (q : Nat) : Nat :=
  let w := s.get (Rg.Q_CFG_ITEM_WORDS q)
  if w = 0 then 16 else w

/-- One element of a queue store. -/
def Run.putQueue (r : Run) (n q size v : Nat) : Run :=
  if ¬ r.stores then r
  else
  let r := { r with x := { r.x with qbuf := r.x.qbuf ++ leBytes size v } }
  if 8 * r.s.itemWords q ≤ r.x.qbuf.length then r.putItem n q (r.x.qbuf.length / size) else r

/-- One element of an indexed store, its place in the store's stream and its index given (R169, R173, R174). -/
def Run.putIndexed (r : Run) (n k pos : Nat) (v : VInsn) (data idx : Nat) : Run :=
  let t := (vty v).getD .u32
  match indexAddr (vdesc r.x.desc v) ((vty2 v).getD .u32) t.size idx with
  | none => r.miss n k pos idx v.f
  | some a =>
    let x := if v.op = .sts then noteBytes r.s r.x a (leBytes t.size data) else r.x
    { r with x := { x with grp := x.grp ++ [⟨a, data, pos, x.pos⟩] } }

/-- What a store takes from COMPRESS: its data, and its index (R162, R166). -/
def packedData (v : VInsn) (comp : Bool) : Bool :=
  comp && v.f.src1.toNat == 2 && !(v.op == .stc && v.f.imm.toNat % 8 == 5)
@[inherit_doc packedData]
def packedIndex (v : VInsn) (comp : Bool) : Bool := comp && v.f.src2.toNat == 2 && v.op != .st

/-- The data and the index of the store's next element, where it has one now, with its place in the stream: the element's own
place, or the one at which COMPRESS puts it; an operand that is not compressed waits there for its place (R162). -/
def Run.storeElem (r : Run) (i : Nat) (v : VInsn) (comp : Bool) : Option (Nat × Option Nat × Option Nat) × Run :=
  let t := (vty v).getD .u32
  let hist := v.op == .stc && v.f.imm.toNat % 8 == 5
  let data := if hist then some 0 else operand r.env i t v.f.imm v.sc1 v.f.src1.toNat
  let idx := if v.op = .st then some 0 else operand r.env i .u32 v.f.imm v.sc2 v.f.src2.toNat
  let pd := packedData v comp
  let pi := packedIndex v comp
  if ¬ (pd ∨ pi) then (some (i, data, idx), r)
  else
    let d := if pd then r.x.dfifo else r.x.dfifo ++ [data]
    let x := if pi then r.x.ififo else r.x.ififo ++ [idx]
    if ((r.env[2]?).join).isNone then (none, { r with x := { r.x with dfifo := d, ififo := x } })
    else
      (some (r.x.comp - 1, if pd then data else (d.head?).join, if pi then idx else (x.head?).join),
        { r with x := { r.x with dfifo := d.tail, ififo := x.tail } })

/-- The store of an accord on one element, where its mask and its operands make one active (R107). -/
def Run.store (r : Run) (n k i : Nat) (v : VInsn) (comp : Bool) : Run :=
  let t := (vty v).getD .u32
  let d := vdesc r.x.desc v
  match r.storeElem i v comp with
  | (some (pos, some val, some ix), r) =>
    let (ok, s) := r.s.maskDecode n v.f.mask.toNat pos
    let r := { r with s := s }
    if ¬ ok then r.failAt 9 k pos
    else if ¬ (r.s.eng n).mbit v.f.mask.toNat pos then r
    else if v.op ≠ .st then r.putIndexed n k pos v val ix
    else if dQueue d then r.putQueue n (dBase d % 8192) t.size val
    else r.putStrided pos (strideAddr d t.size pos).toNat (leBytes t.size val)
  | (_, r) => r

/-! ### One instruction for one element -/

/-- Applies the outcome of an operation: count and trap (R145, R147). -/
def Run.outcome (r : Run) (k : Nat) (f : VFields) (o : OpOut) : Run :=
  let r := { r with cnt := r.cnt || o.counted }
  if r.x.trap f && (o.counted || o.wrapped || o.sub) then r.fail 6 k else r

/-- Writes a mask bit (R112, R141); the write of every bit of a group clears an error of it (R200). -/
def Run.putMask (r : Run) (n k i : Nat) (v : VInsn) (b : Bool) : Run :=
  let m := v.f.dreg.toNat
  let c := Tab.get r.x.mwr k 0 + 1
  let s := r.s.modEng n (·.setM m i b)
  let s := if c = 64 then s.modEng n (fun e => { e with stErr := Tab.del e.stErr (1024 * m + i / 64) }) else s
  { r with s := s, x := { r.x with mwr := Tab.put r.x.mwr k c } }

/-- Takes an active element into a reduction. -/
def Run.putRed (r : Run) (k i v : Nat) : Run :=
  { r with x := { r.x with red := Tab.put r.x.red k ((i, v) :: Tab.get r.x.red k []) } }

/-- A mask operand bit of a mask operation or SEL; an uncorrectable group is a fault and gives none. -/
def Run.maskOp (r : Run) (n k m i : Nat) : Option Bool × Run :=
  match r.s.maskDecode n m i with
  | (true, s) => (some ((s.eng n).mbit m i), { r with s := s })
  | (false, s) => (none, { r with s := s }.fail 9 k)

/-- The two mask operand bits of a mask operation. -/
def Run.maskOps (r : Run) (n k i : Nat) (f : VFields) : Option (Bool × Bool) × Run :=
  match r.maskOp n k (f.src1.toNat % 8) i with
  | (none, r) => (none, r)
  | (some x, r) =>
    match r.maskOp n k (f.src2.toNat % 8) i with
    | (none, r) => (none, r)
    | (some y, r) => (some (x, y), r)

/-- An operation other than a load or store on an active element with its operands a, b and c. -/
def Run.operate (r : Run) (n k i : Nat) (v : VInsn) (a b c : Nat) : Run :=
  let f := v.f
  let t := (vty v).getD .u32
  let t2 := (vty2 v).getD t
  let pipe := f.pipe.toNat + 2
  let stream (r : Run) (x : Nat) : Run := { r with env := r.env.set pipe (some x) }
  match v.op with
  | .sel =>
    match r.maskOp n k (f.imm.toNat % 8) i with
    | (some m, r) => stream r (if m then a else b)
    | (none, r) => r
  | .mand | .mor | .mxor | .mandn =>
    match r.maskOps n k i f with
    | (some (x, y), r) =>
      r.putMask n k i v (match v.op with | .mand => x && y | .mor => x || y | .mxor => x != y | _ => x && !y)
    | (none, r) => r
  | .mnot =>
    match r.maskOp n k (f.src1.toNat % 8) i with
    | (some x, r) => r.putMask n k i v (!x)
    | (none, r) => r
  | .mfill => r.putMask n k i v (f.imm.getLsbD 0)
  | .mpop | .mfirst =>
    match r.maskOp n k (f.src1.toNat % 8) i with
    | (some x, r) => r.putRed k i (if x then 1 else 0)
    | (none, r) => r
  | .rsum | .rmin | .rmax | .rand | .ror =>
    (r.outcome k f { val := 0, sub := subOf t a }).putRed k i a
  | .tlu =>
    let ix : Int := t.raw a + (f.imm.toNat % 4096 : Nat)
    let e : Nat := if ix < 0 then 0 else if ix > 3071 then 3071 else ix.toNat
    let (ok, s) := r.s.engDecode n (8192 + e)
    let r := { r with s := s }
    if ¬ ok then r.fail 9 k
    else
      let o := passF t2 ((s.eng n).tent e).toNat
      stream (r.outcome k f { o with counted := (e : Int) ≠ ix }) o.val
  | .twr =>
    let o := passF t a
    let r := r.outcome k f o
    if r.tables then { r with s := r.s.modEng n (·.setT (f.imm.toNat % 4096 + i) (BitVec.ofNat 32 o.val)) } else r
  | .compress => stream { r with x := { r.x with comp := r.x.comp + 1 } } (canonNan t a)
  | o =>
    match o.rel? with
    | some rel =>
      let q := cmpEl t rel a b
      (r.outcome k f q).putMask n k i v (q.val == 1)
    | none =>
      let q := opEl o t t2 f.rm.toNat (r.x.satOn f) f.imm.toNat a b c
      stream (r.outcome k f q) q.val

/-- One instruction on element `i`: it acts where its mask bit is 1 and every stream it reads carries the element
(R107). `comp` says that a COMPRESS stands in the accord. -/
def Run.insn (r : Run) (n i : Nat) (comp : Bool) (v : VInsn) (k : Nat) : Run :=
  let f := v.f
  let t := (vty v).getD .u32
  let t2 := (vty2 v).getD t
  if isStore v.op then r.store n k i v comp
  else
    let (ok, s) := r.s.maskDecode n f.mask.toNat i
    let r := { r with s := s }
    if ¬ ok then r.fail 9 k
    else
      let on := (r.s.eng n).mbit f.mask.toNat i
      let d := vdesc r.x.desc v
      let pipe := f.pipe.toNat
      match v.op with
      | .ld =>
        if dQueue d then r.loadQueue k pipe i t.size on
        else if on then r.load n k pipe (strideAddr d t.size i).toNat t.size false
        else r
      | .ldg =>
        match operand r.env i .u32 f.imm v.sc1 f.src1.toNat with
        | none => r
        | some ix =>
          if ¬ on then r
          else
            let r := { r with s := r.s.ecAdd n 19 1 }
            match indexAddr d t2 t.size ix with
            | none => { r.miss n k i ix f with env := r.env.set pipe (some 0) }
            | some a => r.load n k pipe a t.size true
      | .expand =>
        let x := { r.x with fifo := r.x.fifo ++ [(r.env[f.src1.toNat]?).join] }
        if ¬ on then { r with x := x }
        else
          { r with x := { x with fifo := x.fifo.tail },
                   env := r.env.set (pipe + 2) (((x.fifo.head?).join).map (canonNan t)) }
      | o =>
        let need := nSrc o
        let a := if need < 1 then some 0 else operand r.env i t f.imm v.sc1 f.src1.toNat
        let b := if need < 2 then some 0 else operand r.env i t f.imm v.sc2 f.src2.toNat
        let tc := if o = .macw then t2 else t
        let c := if need < 3 then some 0 else operand r.env i tc f.imm v.sc3 (src3 f)
        match a, b, c with
        | some a, some b, some c => if on then r.operate n k i v a b c else r
        | _, _, _ => r

/-- The instructions of an accord in order on one element (R105). -/
def Run.insns (r : Run) (n i : Nat) (comp : Bool) : List VInsn → Nat → Run
  | [], _ => r
  | v :: vs, k => (r.insn n i comp v k).insns n i comp vs (k + 1)

/-! ### Groups of 64 elements (R171) -/

/-- The store of an accord and its place. -/
def storeInsn : List VInsn → Nat → Option (VInsn × Nat)
  | [], _ => none
  | v :: vs, k => if isStore v.op then some (v, k) else storeInsn vs (k + 1)

/-- Notes a deferred store error at its lowest element (R178, R193). -/
def noteDefer (x : Exec) (k elem : Nat) : Exec := { x with deferAt := deferMin x.deferAt k elem }

/-- The lowest element of a list. -/
def lowest (es : List Nat) : Nat := es.foldl min (es.headD 0)

/-- A request of the store is lost to an uncorrectable word: counted, and a deferred store error (R178). -/
def Run.lost (r : Run) (n k elem : Nat) : Run :=
  { r with s := r.s.bump (Rg.VE_DEFER_UE_CNT n), x := noteDefer r.x k elem }

/-- Sends pending bytes, one request for each word (R173); they break the reservation of the engine's own sequencer too
(R182). -/
def Run.sendWords (r : Run) (n k : Nat) (ps : List PendByte) : List Nat → Run
  | [] => r
  | w :: ws =>
    let own : List PendByte := ps.filter (fun p => p.addr / 16 = w)
    let r := match r.s.wordWrite w (own.map (fun p => (p.addr, p.byte))) n none with
      | (none, s) => { r with s := s.ecAdd n 27 1 }
      | (some _, s) => { r with s := s }.lost n k (lowest (List.map PendByte.elem own))
    r.sendWords n k ps ws

/-- Sends a list of pending bytes. -/
def Run.sendBytes (r : Run) (n k : Nat) (ps : List PendByte) : Run :=
  r.sendWords n k ps ((ps.map (fun p => p.addr / 16)).eraseDups)

/-- Notes the bytes that a combine has written, with what they held before (R179). -/
def noteCombine (s : State) (before : State) (size : Nat) (x : Exec) (a : Nat) : Exec :=
  if ¬ x.overlap then x
  else
    { x with written := (List.range size).foldl (fun w j =>
        let old := Tab.get w (a + j) []
        Tab.put w (a + j) ((if old = [] then [before.stByte (a + j)] else old) ++ [s.stByte (a + j)])) x.written }

/-- Sends the combines of one group: for each element address one merged operand, and for each word one request (R174,
R175). -/
def Run.sendCombines (r : Run) (n k : Nat) (c : Comb) (t : ElemTy) (es : List PendElem) : List Nat → Run
  | [] => r
  | w :: ws =>
    let own : List PendElem := es.filter (fun e => e.addr / 16 = w)
    let addrs := (List.map PendElem.addr own).eraseDups
    let set (a : Nat) : List PendElem := own.filter (fun e => e.addr = a)
    let ops : List (Nat × Int) := addrs.map (fun a => (a, (combMerge c t ((set a).map (·.data))).1))
    let held := ((addrs.filter (fun a => (combMerge c t ((set a).map (·.data))).2)).map
      (fun a => List.map PendElem.src (set a))).flatten
    let before := r.s
    let x := { r.x with satGrp := held ++ r.x.satGrp }
    let s := (r.s.ecAdd n 20 1).ecAdd n 21 (own.length - addrs.length)
    let r := match s.wordCombine w c t ops n with
      | (some _, _, s) => { r with s := s, x := x }.lost n k (lowest (List.map PendElem.elem own))
      | (none, clamped, s) =>
        let s := (if clamped then s.bump (Rg.VE_CSAT_CNT n) else s).ecAdd n 27 1
        { r with s := s, x := addrs.foldl (noteCombine s before t.size) x }
    r.sendCombines n k c t es ws

/-- Whether the stream of the store has come to the end of a group of 64 of its own elements (R171). -/
def Exec.groupEnds (x : Exec) (v : VInsn) : Bool :=
  let comp := hasCompress x.acc.insns
  decide (x.vl ≤ x.pos) || (if packedData v comp || packedIndex v comp then x.comp % 64 == 0 else x.pos % 64 == 0)

/-- Where a group of an indexed store ends its requests are sent, all of them or, in an accord that stops, none (R171). -/
def Run.sendGroup (r : Run) (n : Nat) : Run :=
  match storeInsn r.x.acc.insns 0 with
  | none => r
  | some (v, k) =>
    if v.op = .st ∨ ¬ r.x.groupEnds v then r
    else
      let t := (vty v).getD .u32
      let es : List PendElem := r.x.grp
      let on : Bool := match r.cut with | some c => decide (r.x.pos ≤ c.store) | none => true
      let r : Run := { r with x := { r.x with grp := [] } }
      if ¬ on then r
      else if v.op = .sts then
        r.sendBytes n k ((es.map (fun e => (bytesAt e.addr (leBytes t.size e.data)).map
          (fun p => (⟨p.1, p.2, e.elem⟩ : PendByte)))).flatten)
      else
        match comb? (v.f.imm.toNat % 8) with
        | some c => r.sendCombines n k c t es ((es.map (fun e => e.addr / 16)).eraseDups)
        | none => r

/-- The pending bytes of a strided store are sent, but those of a word that the next element will touch.
[DEDUCED, unsafe: assumption 39] -/
def Run.sendStrided (r : Run) (n : Nat) : Run :=
  match storeInsn r.x.acc.insns 0 with
  | none => r
  | some (v, k) =>
    if v.op ≠ .st then r
    else
      let t := (vty v).getD .u32
      let next := (strideAddr (vdesc r.x.desc v) t.size (if hasCompress r.x.acc.insns then r.x.comp else r.x.pos)).toNat
      let back (p : PendByte) : Bool := decide (r.x.pos < r.x.vl) && p.addr / 16 == next / 16
      let now := r.x.pend.filter (fun p => !back p)
      { r with x := { r.x with pend := r.x.pend.filter back } }.sendBytes n k now

/-- The words that L0 and L1 have read in this group are counted (event 26 of R386). -/
def Run.countReads (r : Run) (n : Nat) : Run :=
  { r with s := r.s.ecAdd n 26 r.x.rdw.eraseDups.length, x := { r.x with rdw := [] } }

/-- The end of 64 elements: a strided store sends its requests, and the elements are counted, each once: one whose combine is
still to be sent waits for it (R145, R175). -/
def Run.endGroup (r : Run) (n : Nat) : Run :=
  let r := (r.sendStrided n).countReads n
  let x := r.x
  let (later, now) := x.satGrp.partition (fun i => x.grp.any (·.src == i))
  { r with x := { x with sat := x.sat + now.eraseDups.length, satGrp := later, mwr := [], rdc := [] } }

/-- Streams one element, and ends its group where it is the last of one. -/
def Run.elem (r : Run) (n : Nat) : Run :=
  let i := r.x.pos
  let r := { r with env := List.replicate 6 none, cnt := false }.insns n i (hasCompress r.x.acc.insns) r.x.acc.insns 0
  let x := { r.x with pos := i + 1, satGrp := if r.cnt then i :: r.x.satGrp else r.x.satGrp }
  let r := { r with x := x }.sendGroup n
  if (i + 1) % 64 = 0 ∨ i + 1 = x.vl then r.endGroup n else r

/-- Streams up to `k` elements. -/
def Run.elems (r : Run) (n : Nat) : Nat → Run
  | 0 => r
  | k + 1 => if r.x.vl ≤ r.x.pos then r else (r.elem n).elems n k

/-- The start of a run. -/
def State.run (s : State) (x : Exec) : Run := ⟨s, x, [], false, [], none⟩

/-! ### An accord that stops before its end (R24, R171, R191, R231) -/

/-- The queue that the store of an accord writes, where it does. -/
def storeQueue (x : Exec) : Option Nat :=
  match storeInsn x.acc.insns 0 with
  | some (v, _) => if v.op = .st ∧ dQueue (vdesc x.desc v) then some (dBase (vdesc x.desc v) % 8192) else none
  | none => none

/-- One mask register as an accord that stops leaves it: its results up to element `cut`, and what `old` held from there
on. -/
def Engine.cutMask (e old : Engine) (m cut : Nat) : Engine :=
  let mine (k : Nat) : Bool := decide (65536 * m + cut ≤ k) && decide (k < 65536 * (m + 1))
  let kept := e.masks.filter (fun b => !mine b.1)
  let errs := old.stErr.filter (fun x => x.2 && decide (x.1 < 8192) && x.1 / 1024 == m && decide (cut < x.1 % 1024 * 64 + 64))
  { e with masks := (old.masks.filter (fun b => mine b.1)).foldl (fun (t : Tab Bool) b => Tab.put t b.1 b.2) kept,
           stErr := errs.foldl (fun (t : Tab Bool) x => Tab.put t x.1 x.2) e.stErr }

/-- The accord streams up to element `look` and stops there. Its store, each mask and the table memory hold the results of a
prefix of the elements, of an indexed store in whole groups; which prefix, nothing says (R153, R171, R191). The last item of a
queue store may have been allocated and not fully issued (R231). What has streamed is counted (R386).
[DESIGN CHOICE, safe: assumption 37; DESIGN CHOICE, unsafe: assumption 52] -/
def State.runCut (s : State) (n : Nat) (x : Exec) (look : Nat) : Run :=
  let old := s.eng n
  let (a, s) := s.fresh (look - x.pos + 1)
  let (b, s) := s.fresh (look - x.pos + 1)
  let (tear, s) := s.fresh 2
  let go (c : Cut) : Run := { s.run x with cut := some c }.elems n (look - x.pos)
  let c : Cut := ⟨x.pos + a, x.pos + b, none⟩
  let kept := if (storeQueue x).isSome ∧ tear = 1 then (go c).x.qelems else x.qelems
  let r := go (if x.qelems < kept then { c with tear := some kept } else c)
  let r : Run := match storeInsn r.x.acc.insns 0 with
    | some (v, k) => if v.op = .st then { r with x := { r.x with pend := [] } }.sendBytes n k r.x.pend else r
    | none => r
  let r := r.countReads n
  let t := (List.range 7).foldl (fun (t : State) m =>
    let (c, t) := t.fresh (look - x.pos + 1)
    t.modEng n (fun e => e.cutMask old (m + 1) (x.pos + c))) (r.s.ecAdd n 4 r.x.pos)
  { r with s := t }

/-- The executing accord is abandoned (R24): a prefix of its effects stands. [DESIGN CHOICE, safe: assumption 37] -/
def State.abandonAccord (s : State) (n : Nat) : State :=
  match (s.eng n).exe with
  | none => s
  | some x =>
    let (j, s) := s.fresh (x.vl - x.pos + 1)
    (s.runCut n x (x.pos + j)).s.modEng n (fun e => { e with exe := none })

/-! ### Faults (R191 to R200) -/

/-- The engine's frame work ends through a fault (R199): an accord under way is abandoned; FAULTED; the slot will contribute
defaults. -/
def State.endFrameWork (s : State) (n : Nat) : State :=
  let s := (s.abandonAccord n).modEng n (fun e => { e with ended := true, helda := none, coll := [], wait := none, exc := none, vfDue := false })
  ((s.set (Rg.VE_STATUS_FAULTED n) 1).set (Rg.VE_STATUS_RUNNING n) 0).set (Rg.VE_VFAULT_PENDING n) 0

/-- Reports a vector fault in the engine's registers (R192, R202). -/
def State.vfReport (s : State) (n cause insn elem : Nat) (x : Exec) (pending : Bool) : State :=
  let addr := match x.acc.insns with | v :: _ => v.addr.toNat | [] => 0
  let s := ((s.set (Rg.VE_VFAULT_CAUSE n) cause).set (Rg.VE_VFAULT_INSN n) insn).setBit (Rg.VE_VFAULT_OVERLAP n) x.overlap
  let s := (s.set (Rg.VE_VFAULT_ATTEMPT n) x.attempt).setBit (Rg.VE_VFAULT_PENDING n) pending
  ((s.set (Rg.VE_VFADDR n) addr).set (Rg.VE_VFELEM n) elem).bump (Rg.VE_FAULT_CNT n)

/-- Raises the vector fault exception, which the sequencer takes at its next boundary (R192). -/
def State.vfRaise (s : State) (n : Nat) : State :=
  s.modEng n (fun e => { e with vfDue := true, vfBusy := true })

/-- The rank of a CAUSE where several faults are found in one accord: STATE_UE, STORE_UE, DEFER_UE, ARITH (R193). -/
def causeRank (c : Nat) : Nat := if c = 9 then 0 else if c = 7 then 1 else if c = 8 then 2 else 3

/-- The fault that ranks before another: by its cause, then by its element (R193). -/
def worseFault (a b : Found) : Found :=
  if causeRank b.cause < causeRank a.cause ∨ (b.cause = a.cause ∧ b.elem < a.elem) then b else a

/-- The fault that an accord reports of those found in it, `d` its deferred store error (R193). -/
def worstFault (fs : List Found) (d : Option (Nat × Nat)) : Option Found :=
  match fs ++ (match d with | some (e, k) => [(⟨8, k, e, e⟩ : Found)] | none => []) with
  | [] => none
  | f :: r => some (r.foldl worseFault f)

/-- A mid-vector fault is reported, and its outcome follows (R191 to R193, R196, R197, R199, R200). -/
def State.vfStop (s : State) (n : Nat) (f : Found) (x : Exec) : State :=
  let ⟨cause, insn, elem, _⟩ := f
  let s := s.modEng n (fun e => { e with exe := none })
  let s := if cause = 6 then s.ecAdd n 15 1 else s
  let s := if cause = 9 then (s.bump (Rg.VE_STATE_UE_CNT n)).strikeEngine n false else s
  if cause = 9 ∨ (cause = 7 ∧ x.overlap) ∨ (cause = 8 ∧ x.overlap) ∨ 3 ≤ x.attempt then
    (s.vfReport n cause insn elem x false).endFrameWork n
  else if cause = 8 then (s.vfReport n cause insn elem x false).vfRaise n
  else
    let s := s.modEng n (fun e => { e with helda := some { x with pos := 0 } })
    (s.vfReport n cause insn elem x true).vfRaise n

/-! ### Finish (R108, R142, R145, R146, R160, R162, R232) -/

/-- The results of an accord's reductions, each with its instruction and its place. -/
def reductions (x : Exec) : List VInsn → Nat → List (VInsn × Nat × OpOut)
  | [], _ => []
  | v :: vs, k =>
    let rest := reductions x vs (k + 1)
    if v.op.isReduction then
      (v, k, reduce v.op ((vty v).getD .u32) (x.satOn v.f) (Tab.get x.red k []).reverse) :: rest
    else rest

/-- Writes the scalar destinations (R142): the reductions' and the count of COMPRESS. -/
def State.putScalars (s : State) (n : Nat) (x : Exec) : State :=
  let s := (reductions x x.acc.insns 0).foldl (fun s (v, _, o) => s.setS n v.f.dreg.toNat (BitVec.ofNat 32 o.val)) s
  if hasCompress x.acc.insns then
    (x.acc.insns.filter (fun v => v.op == .compress)).foldl
      (fun s v => s.setS n (v.f.imm.toNat % 32) (BitVec.ofNat 32 x.comp)) s
  else s

/-- The queue-load count of pipe `p` (R232). -/
def queueLoads (x : Exec) (p : Nat) : Nat :=
  match x.acc.insns.find? (fun v => v.op == .ld && v.f.pipe.toNat == p && dQueue (vdesc x.desc v)) with
  | some v => (if p = 0 then x.q0 else x.q1).length / ((vty v).getD .u32).size
  | none => 0

/-- The accord has finished: counts, events, and a deferred store error where there is one (R178, R201). -/
def State.finish (s : State) (n : Nat) (x : Exec) : State :=
  let s := s.modEng n (fun e => { e with exe := none })
  let s := if x.vl = 0 then s else s.putScalars n x
  let reds := if x.vl = 0 then 0 else ((reductions x x.acc.insns 0).filter (fun r => r.2.2.counted)).length
  let sat := min (x.sat + reds) 65536
  -- with VL = 0 every saturation count is left unchanged (R111)
  let s := if x.vl = 0 then s else s.set (Rg.VE_SAT n) sat
  let s := ((s.set (Rg.VE_QCOUNT_L0 n) (queueLoads x 0)).set (Rg.VE_QCOUNT_L1 n) (queueLoads x 1)).set
    (Rg.VE_QCOUNT_S n) x.qelems
  let s := (((s.ecAdd n 2 x.acc.insns.length).ecAdd n 3 1).ecAdd n 4 x.vl).ecAdd n 17 sat
  match worstFault [] x.deferAt with
  | none => s
  | some f => s.vfStop n f x

/-- The last item of a queue store, cut to the words it fills (R230). -/
def Run.lastItem (r : Run) (n : Nat) : Run :=
  match storeInsn r.x.acc.insns 0 with
  | some (v, _) =>
    let d := vdesc r.x.desc v
    if v.op = .st ∧ dQueue d ∧ r.x.qbuf ≠ [] then
      r.putItem n (dBase d % 8192) (r.x.qbuf.length / ((vty v).getD .u32).size)
    else r
  | none => r

/-- A trap found only after the last element of a reduction (R147). -/
def endTrap (x : Exec) : Option Nat :=
  ((reductions x x.acc.insns 0).find? (fun (v, _, o) =>
    x.trap v.f && (o.counted || o.wrapped || (v.op == .rsum && o.sub)))).map (·.2.1)

/-- The executing accord has streamed up to element `look` when a fault stops it (R191, R193).
[DESIGN CHOICE, safe: assumption 37] -/
def State.stopBy (s : State) (n : Nat) (x : Exec) (faults : List Found) (look : Nat) : State :=
  let r := s.runCut n x look
  match worstFault faults r.x.deferAt with
  | some f => r.s.vfStop n f r.x
  | none => r.s

/-- A fault stops the executing accord, its lowest faulty element being `e`: how many elements more had been looked at by
then nothing says, nor therefore which other faults had been found (R191, R193). [DESIGN CHOICE, safe: assumption 37] -/
def State.stopAt (s : State) (n : Nat) (x : Exec) (faults : List Found) (e : Nat) : State :=
  let (j, s) := s.fresh (x.vl - e)
  s.stopBy n x (faults.filter (fun f => f.seen < e + 1 + j)) (e + 1 + j)

/-- The executing accord streams every element left: it finishes, or a fault stops it. -/
def State.completeAccord (s : State) (n : Nat) : State :=
  match (s.eng n).exe with
  | none => s
  | some x =>
    let r := (s.run x).elems n x.vl
    if r.faults ≠ [] then
      { s with freeCtr := r.s.freeCtr }.stopAt n x r.faults (lowest (r.faults.map Found.seen))
    else
      match endTrap r.x with
      | some k => { s with freeCtr := r.s.freeCtr }.stopBy n x [⟨6, k, x.vl - 1, x.vl - 1⟩] x.vl
      | none =>
        let r := r.lastItem n
        r.s.finish n r.x

/-- The executing accord streams its next `k` elements, unless one of them faults. -/
def State.advanceAccord (s : State) (n k : Nat) : State :=
  match (s.eng n).exe with
  | none => s
  | some x =>
    let r := (s.run x).elems n k
    if r.faults ≠ [] then s
    else r.s.modEng n (fun e => { e with exe := some r.x })

/-! ### Begin (R109, R188 to R190, R195, R229) -/

/-- Takes queue items for the queue loads of an accord.
[DEDUCED, unsafe: assumption 41; DESIGN CHOICE, unsafe: assumption 52] -/
def State.takeQueues (s : State) (n : Nat) (x : Exec) : List VInsn → State × Exec
  | [] => (s, x)
  | v :: vs =>
    let d := vdesc x.desc v
    if v.op = .ld ∧ dQueue d ∧ x.vl ≠ 0 then
      let q := dBase d % 8192
      match s.qTake q x.vl ((vty v).getD .u32).size n with
      | ((bs, is), s) =>
        let words (h : Nat) : List Nat := is.flatMap (fun i => (List.range (i.2 + 1 - h)).map (fun j => s.qAddr q (i.1 + h + j)))
        let x := if v.f.pipe = 0 then { x with q0 := bs, qa0 := words 1 } else { x with q1 := bs, qa1 := words 1 }
        let read := ((words 0).map (· / 16)).eraseDups.length
        ((s.ecAdd n 22 (bs.length / ((vty v).getD .u32).size)).ecAdd n 26 read).takeQueues n x vs
    else s.takeQueues n x vs

/-- An accord begins with what it latched: the checks, then its queue items (R188, R190, R195).
[DEDUCED, unsafe: assumption 41] -/
def State.beginWith (s : State) (n : Nat) (x : Exec) : State :=
  let x := { x with overlap := s.overlapping x.desc x.vl x.acc }
  let s := s.set (Rg.VE_VFAULT_ATTEMPT n) x.attempt
  match s.issueFault n x.desc x.vl x.acc with
  | some (cause, k) => (s.vfReport n cause k 0 x false).vfRaise n
  | none =>
    let s := if x.overlap ∧ x.acc.insns.any (fun v => v.f.trap) then s.bump (Rg.VE_OVL_CNT n) else s
    match s.takeQueues n x x.acc.insns with
    | (s, x) => s.modEng n (fun e => { e with exe := some x })

/-- The waiting accord begins: it latches VL and the descriptors (R189). -/
def State.beginWaiting (s : State) (n : Nat) : State :=
  match (s.eng n).wait with
  | none => s
  | some a =>
    let e := s.eng n
    let x : Exec := { acc := a, vl := e.vl.toNat, descs := e.descs, attempt := 1, off := false, overlap := false }
    (s.modEng n (fun e => { e with wait := none })).beginWith n x

/-- A held accord begins again at element 0 with what it latched (R196, R197). -/
def State.restartHeld (s : State) (n : Nat) (off : Bool) : State :=
  match (s.eng n).helda with
  | none => s
  | some h =>
    let x : Exec := { acc := h.acc, vl := h.vl, descs := h.descs, attempt := h.attempt + 1, off := off, overlap := false }
    let s := s.modEng n (fun e => { e with helda := none })
    let s := ((s.bump (Rg.VE_RESTART_CNT n)).ecAdd n 16 1).set (Rg.VE_VFAULT_PENDING n) 0
    (s.set (Rg.VE_VFCTL_ACTION n) 0).beginWith n x

end Sys2Proof.Machine
end

