-- ==== Sys2Proof/Machine/SeqCore.lean ====
section
/-! DEFINITION. What a scalar core does between instructions: its status word, its store buffer, results on their way,
and its stop (R275 to R277, R285 to R290, R312). -/

namespace Sys2Proof.Machine

/-- The number of the voted Triad's record (R323). -/
def triadNo : Nat := 68

/-! ### SST (R290, R312) -/

/-- A bit as a number. -/
def b2n (b : Bool) : Nat := if b then 1 else 0

/-- REP_COUNT: the iterations that a repetition under way has left, the present one counted; else what the last exception or
ERET left for the prefix to take (R273, R290). -/
def Engine.repCount (e : Engine) : Nat :=
  match e.rep with
  | some r => r.left
  | none => e.repCnt

/-- SST; LEVEL and IE are those of the Triad, and 0 on a sequencer (R290, R312). -/
def Engine.sst (e : Engine) : Nat :=
  b2n e.mode + b2n e.hold * 2 + b2n e.pbar * 4 + b2n e.repAct * 8 + b2n e.dslot * 16 + b2n e.locked * 32 +
    b2n e.icold * 64 + e.repCount % 65536 * 256 + e.level % 4 * 2 ^ 24 + b2n e.ie * 2 ^ 26

/-- SST written from a value. -/
def Engine.setSst (e : Engine) (v : Nat) : Engine :=
  { e with mode := v.testBit 0, hold := v.testBit 1, pbar := v.testBit 2, repAct := v.testBit 3, dslot := v.testBit 4,
           locked := v.testBit 5, icold := v.testBit 6, repCnt := v / 256 % 65536, level := v / 2 ^ 24 % 4,
           ie := v.testBit 26 }

/-! ### Results on their way (R275 to R277) -/

/-- A DLD's result is written (R275). -/
def Engine.landDesc (e : Engine) : Engine :=
  match e.dland with
  | some (d, v, _) => { e.setD d v with dland := none }
  | none => e

/-- Every result on its way is written: loads in program order, then a DLD's and the long operation's. -/
def Engine.landAll (e : Engine) : Engine :=
  let e := e.landDesc
  let e := e.lands.foldl (fun (e : Engine) l => e.setS l.rd l.val) e
  let e := match e.long with
    | some (rd, v) => e.setS rd v
    | none => e
  { e with lands := [], long := none }

/-! ### The store buffer of a sequencer (R285, R287) -/

/-- One entry fewer stands before the accords that wait for it (R181). -/
def Engine.sbLess (e : Engine) : Engine :=
  { e with sb := e.sb.tail, collSb := e.collSb - 1, waitSb := e.waitSb - 1 }

/-- The oldest entry of a sequencer's store buffer is accepted at its bank; a narrow entry that meets an uncorrectable
word is lost, and raises a deferred store error (R285, R287). -/
def State.sbIssue (s : State) (n : Nat) : State :=
  match (s.eng n).sb with
  | [] => s
  | x :: _ =>
    match (s.modEng n Engine.sbLess).stWrite x.addr x.bytes n (some n) with
    | ([], s) => s
    | (_ :: _, s) =>
      (s.set (Rg.SEQ_SB_UE_ADDR n) x.addr).modEng n
        (fun e => { e with sbErr := some { code := 8, addr := x.addr } })

/-- The store buffer of a sequencer drains. -/
def State.sbDrain (s : State) (n : Nat) : State := (List.range (s.eng n).sb.length).foldl (fun s _ => s.sbIssue n) s

/-! ### Stopping (R24, R199, R443) -/

/-- A sequencer and its vector unit stop: what was issued is performed, what is in progress is abandoned, and the engine
waits for the next frame tick (R24). -/
def State.stopEngine (s : State) (n : Nat) : State :=
  let s := (s.sbDrain n).abandonAccord n
  let s := s.modEng n (fun e =>
    { e.landAll with run := false, coll := [], wait := none, exe := none, helda := none, exc := none, sbErr := none, vfDue := false,
                     vfBusy := false, branch := none, rep := none, collSb := 0, waitSb := 0 })
  (s.set (Rg.VE_STATUS_RUNNING n) 0).set (Rg.VE_VFAULT_PENDING n) 0

/-- Every engine whose program runs stops. -/
def State.stopRunning (s : State) : State :=
  (List.range 68).foldl (fun (s : State) n => if (s.eng n).run then s.stopEngine n else s) s

end Sys2Proof.Machine
end

