-- ==== Sys2Proof/Machine/EngineMap.lean ====
section
/-! DEFINITION. Engine slots: frame start, checkpoints, migrations, restores and the engine-map registers (R118 to R130),
with the start and the abandonment of an LBIST (R403, R407). -/

namespace Sys2Proof.Machine

/-! ### The engine's cold context (R127) -/

/-- The cold context: scalar and descriptor registers, VL, masks and T are 0 and the sequencer status has its reset value;
the instruction cache is invalidated (R127, R281). -/
def Engine.cold (e : Engine) : Engine :=
  { e with sregs := [], descs := [], vl := 0, masks := [], table := [], stErr := [], mode := false, hold := false,
           pbar := false, repAct := false, dslot := false, locked := false, icold := true, repCnt := 0, llAge := none,
           lines := [], lineBuf := none, btc := [], lands := [], dland := none, long := none }

/-- The context of another engine: what a checkpoint holds of it (R122, R126). The target's caches are empty (R281). -/
def Engine.takeContext (e src : Engine) : Engine :=
  let t := e.cold.setSst src.sst
  { t with sregs := src.sregs, descs := src.descs, vl := src.vl, masks := src.masks, table := src.table, icold := true }

/-! ### Checkpoint halves (R122) -/

/-- The address of the half that holds the checkpoint of a slot for an evaluated frame. -/
def State.chkHalf (s : State) (slot frame : Nat) : Nat :=
  s.get Rg.EM_CHK_BASE + slot * 0x24000 + frame % 2 * 0x12000

/-- Bytes put into a table at an offset; bytes that are 0 are not listed. -/
def Tab.putBytes (t : Tab Byte) (a : Nat) : List Byte → Tab Byte
  | [] => t
  | b :: r => Tab.putBytes (Tab.set t a 0 b) (a + 1) r

/-- The context of an engine as the bytes of a half that are not 0, by offset (R122). -/
def ctxTab (e : Engine) (sat : Nat) : Tab Byte :=
  let t := e.sregs.foldl (fun (t : Tab Byte) x => Tab.putBytes t (4 * x.1) (leBytes 4 x.2.toNat)) []
  let t := e.descs.foldl (fun (t : Tab Byte) x => Tab.putBytes t (0x80 + 16 * x.1) (leBytes 16 x.2.toNat)) t
  let t := Tab.putBytes t 0x180 (leBytes 4 e.vl.toNat)
  let t := Tab.putBytes t 0x184 (leBytes 4 e.sst)
  let t := Tab.putBytes t 0x188 (leBytes 4 sat)
  let t := e.table.foldl (fun (t : Tab Byte) x => Tab.putBytes t (0x400 + 4 * x.1) (leBytes 4 x.2.toNat)) t
  e.masks.foldl (fun (t : Tab Byte) x =>
    let i := x.1 - 65536
    Tab.put t (0x3400 + i / 8) (Tab.get t (0x3400 + i / 8) 0 ||| BitVec.ofNat 8 (2 ^ (i % 8)))) t

/-- The size of the context: 4,416 words (R120). -/
def ctxSize : Nat := 0x11400

/-- The context of an engine with an uncorrectable mask group or table entry: the halves of its image that are written
poisoned (R200). -/
def ctxPoison (e : Engine) : List Nat :=
  (e.stErr.filter (fun x => x.2)).map (fun x =>
    if x.1 < 8192 then (0x3400 + (x.1 / 1024 - 1) * 8192 + x.1 % 1024 * 8) / 8 else (0x400 + (x.1 - 8192) * 4) / 8)

/-- Writes the first `words` words of a context into a half. -/
def State.ctxWrite (s : State) (n half words : Nat) : State :=
  let e := s.eng n
  let hi := half + 16 * words
  let t := (ctxTab e (s.get (Rg.VE_SAT n))).filter (fun x => x.1 < 16 * words)
  let st := s.store.filter (fun x => x.1 < half ∨ hi ≤ x.1)
  let er := s.storeErr.filter (fun x => x.1 * 8 < half ∨ hi ≤ x.1 * 8)
  let s := match s.rot with
    | .idle => s
    | _ => (List.range words).foldl (fun (s : State) j => s.mirror (half / 16 + j) [half / 8 + 2 * j, half / 8 + 2 * j + 1]) s
  let s := { s with store := t.foldl (fun (m : Tab Byte) x => Tab.set m (half + x.1) 0 x.2) st, storeErr := er,
                    resv := s.resv.filter (fun r => r.word * 16 < half ∨ hi ≤ r.word * 16) }
  ((ctxPoison e).filter (fun h => h < 2 * words)).foldl (fun s h => s.poisonHalf (half / 8 + h)) s

/-- The CRC of a context (R122). -/
def ctxCrc (t : Tab Byte) : Nat := crc32c ((List.range ctxSize).map (fun i => Tab.get t i 0))

/-- Engine `n` has sent every context word of its checkpoint, where it has one under way.
[DEDUCED, unsafe: assumption 63] -/
def State.ctxSend (s : State) (n : Nat) : State :=
  match Tab.get s.chks n none with
  | none => s
  | some c =>
    if c.sent then s
    else
      let e := s.eng n
      let c' : Chk := { c with sent := true, crc := ctxCrc (ctxTab e (s.get (Rg.VE_SAT n))), poison := ctxPoison e != [] }
      let s := (e.stErr.map (·.1)).foldl (fun (s : State) k => (s.engDecode n k).2) s
      { (s.ctxWrite n (s.chkHalf c.slot c.frame) (ctxSize / 16)) with chks := Tab.set s.chks n none (some c') }

/-- The 16 bytes of a trailer (R122). -/
def chkTrailer (frame crc slot ve : Nat) : List Byte :=
  leBytes 8 frame ++ leBytes 4 crc ++ [BitVec.ofNat 8 slot, BitVec.ofNat 8 ve, 0, 0xA5]

/-- The trailer of engine `n` is written, once every context word has been performed; a poisoned image gets none (R120,
R200). -/
def State.trailer (s : State) (n : Nat) : State :=
  let s := s.ctxSend n
  match Tab.get s.chks n none with
  | none => s
  | some c =>
    let s := { s with chks := Tab.set s.chks n none none }
    if c.poison then s
    else
      (s.devWrite (s.chkHalf c.slot c.frame + ctxSize) (chkTrailer c.frame c.crc c.slot n) n).set2
        (Rg.VE_CHK_FRAME_LO n) (Rg.VE_CHK_FRAME_HI n) c.frame

/-- Whether a half is valid (R122): marker, slot number and CRC. A half with a word that cannot be read is not.
[DEDUCED, unsafe: assumption 63] -/
def State.halfValid (s : State) (half slot : Nat) : Bool :=
  s.stByte (half + ctxSize + 15) == 0xA5 && (s.stByte (half + ctxSize + 12)).toNat == slot &&
    !s.storeErr.any (fun e => decide (half ≤ e.1 * 8) && decide (e.1 * 8 < half + ctxSize + 16) && e.2 != some .single) &&
    s.stNat (half + ctxSize + 8) 4 == crc32c (s.stBytes half ctxSize)

/-- Engine `n` reads a half: each of its words is decoded as any store read is (R87, R127, R392).
[DEDUCED, unsafe: assumption 64] -/
def State.chkRead (s : State) (n half : Nat) : State :=
  (s.decodeHalves n ((s.storeErr.map (·.1)).filter (fun h => half ≤ h * 8 ∧ h * 8 < half + ctxSize + 16))).2

/-- The newer valid half of a slot, where one is valid (R128). -/
def State.newerHalf (s : State) (slot : Nat) : Option Nat :=
  let a := s.chkHalf slot 0
  let b := s.chkHalf slot 1
  let f (h : Nat) : Nat := s.stNat (h + ctxSize) 8
  match s.halfValid a slot, s.halfValid b slot with
  | true, true => some (if f a < f b then b else a)
  | true, false => some a
  | false, true => some b
  | false, false => none

/-- The masks of an image: its bytes that are not 0. -/
def State.imgMasks (s : State) (half : Nat) : Tab Bool :=
  (s.store.filter (fun x => half + 0x3400 ≤ x.1 ∧ x.1 < half + ctxSize)).foldl (fun (t : Tab Bool) x =>
    (List.range 8).foldl (fun (t : Tab Bool) j =>
      if x.2.getLsbD j then Tab.put t (65536 + (x.1 - half - 0x3400) * 8 + j) true else t) t) []

/-- An engine whose context is read from a half (R122, R127). -/
def State.ctxLoad (s : State) (e : Engine) (half : Nat) : Engine :=
  let w (o : Nat) : Word := BitVec.ofNat 32 (s.stNat (half + o) 4)
  let t := e.cold.setSst (s.stNat (half + 0x184) 4 % 2 ^ 24)
  let t := (List.range 31).foldl (fun (t : Engine) r => t.setS (r + 1) (w (4 * (r + 1)))) t
  let t := (List.range 16).foldl (fun (t : Engine) d => t.setD d (BitVec.ofNat 128 (s.stNat (half + 0x80 + 16 * d) 16))) t
  let t := (List.range 3072).foldl (fun (t : Engine) i => t.setT i (w (0x400 + 4 * i))) t
  { t with vl := w 0x180, masks := s.imgMasks half, icold := true }

/-! ### Frame start (R120, R123) -/

/-- The slot's capability set is read into c0 to c7; an entry that is not a valid capability is invalid (R123). -/
def State.loadCaps (s : State) (slot n : Nat) : State :=
  (List.range 8).foldl (fun s i =>
    match s.loadCap (s.get Rg.EM_CAPSET_OFF + slot * 128 + 16 * i) with
    | (some c, s) => s.modEng n (fun e => e.setC i c)
    | (none, s) => s.modEng n (fun e => e.setC i ⟨false, 0⟩)) s

/-- cc 0 at an engine that starts the frame: it leaves what the frame before ended in (R120 step 1). -/
def State.leaveFrame (s : State) (n : Nat) : State :=
  let s := s.modEng n (fun e =>
    let e := e.landAll
    { e with rstack := { ptr := (e.cap 7).base }, hold := false, locked := false, llAge := none, repAct := false,
             repCnt := 0, dslot := false, fromV := 0, helda := none, ended := false, exc := none, vfDue := false, vfBusy := false,
             branch := none, rep := none, run := false })
  (s.set (Rg.VE_VFAULT_PENDING n) 0).set (Rg.VE_STATUS_RUNNING n) 0

/-- cc 0: no FEND has retired in the frame that begins (R130). -/
def State.fendClear (s : State) : State :=
  (List.range 68).foldl (fun (s : State) n => s.set (Rg.VE_STATUS_FENDED n) 0) s

/-- cc 0 at the engine `n` of a slot, in a frame that evaluates frame `frame`: its checkpoint begins and its capability
set is read (R120 steps 1 and 2). -/
def State.frameStart (s : State) (slot n frame : Nat) : State :=
  let s := (s.leaveFrame n).loadCaps slot n
  let s := s.modEng n (fun e => { e with rstack := { ptr := (e.cap 7).base } })
  { s with chks := Tab.set s.chks n none (some ⟨slot, frame, false, 0, false⟩) }

/-- The slot runs a lean program in this frame: its bit is set in `DD_LEAN_LO` and `DD_LEAN_HI` (R442). -/
def State.leanSlot (s : State) (slot : Nat) : Bool :=
  (if slot < 32 then s.get Rg.DD_LEAN_LO else s.get Rg.DD_LEAN_HI).testBit (slot % 32)

/-- cc 96 at the engine of a slot: the frame-start registers are written, and the program begins (R120 step 4). -/
def State.programStart (s : State) (slot n : Nat) : State :=
  let reason := Tab.get s.reason slot 0
  let entry := if s.dd.lean then s.get (Rg.EM_LEAN_ENTRY slot) else s.get (Rg.EM_ENTRY slot)
  let vals : List Nat := [s.bufBase s.evalBuf, ((s.get2 Rg.FT_FRAME_LO Rg.FT_FRAME_HI) + 2 ^ 64 - 1) % 2 ^ 32, slot,
    s.frameF, s.budgetW, reason]
  let s := s.modEng n (fun e =>
    let e := (List.range 6).foldl (fun (e : Engine) i => e.setS (i + 1) (BitVec.ofNat 32 (vals.getD i 0))) e
    { e with pc := BitVec.ofNat 32 (entry / 4 * 4), run := true })
  { s.set (Rg.VE_STATUS_RUNNING n) 1 with reason := Tab.set s.reason slot 0 0 }

/-! ### Migrations (R125 to R128) -/

/-- An engine that a copy or a restore has not taken as its target yet. -/
def State.untaken (s : State) (n : Nat) : Bool :=
  !(s.copies.any (fun c => c.target == n)) && !(s.restores.any (fun r => r.target == n))

/-- The target the device chooses: a SPARE engine of the source's quadrant, else the lowest-numbered SPARE engine
(R125). -/
def State.pickTarget (s : State) (src : Nat) : Option Nat :=
  let free (n : Nat) : Bool := s.veState n == 1 && s.untaken n
  match (List.range 68).find? (fun n => n / 17 == src / 17 && free n) with
  | some n => some n
  | none => (List.range 68).find? free

/-- Records the result of a migration: 0 copied, 1 restored, 2 cold, 3 left without an engine (R129). -/
def State.migResult (s : State) (slot r : Nat) : State :=
  (s.set Rg.EM_STATUS_LAST_SLOT slot).set Rg.EM_STATUS_LAST_RESULT r

/-- An engine enters ACTIVE for a slot. -/
def State.serveSlot (s : State) (slot n : Nat) : State :=
  ((s.setVeState n 2).set (Rg.EM_MAP_VE slot) n).set (Rg.EM_MAP_VALID slot) 1

/-- The state the source of a copy enters (R126). -/
def afterCopy : MigWhy → Nat
  | .command => 1
  | .policy => 4
  | .blotter => 3

/-- The source of a copy has sent its last word: it leaves ACTIVE. -/
def State.releaseSource (s : State) (c : Copy) : State :=
  ((s.dropResvOf c.source).setVeState c.source (afterCopy c.why)).set (Rg.VE_STATUS_RUNNING c.source) 0

/-- A copy completes: the target runs the slot (R126, R128). -/
def State.copyDone (s : State) (c : Copy) : State :=
  let s := ((s.ctxSend c.source).trailer c.source).leaveFrame c.target
  let src := s.eng c.source
  let s := (s.modEng c.target (fun e => e.takeContext src)).set (Rg.VE_SAT c.target) (s.get (Rg.VE_SAT c.source))
  let s := ((s.loadCaps c.slot c.target).releaseSource c).serveSlot c.slot c.target
  let s := s.modEng c.target (fun e => { e with rstack := { ptr := (e.cap 7).base } })
  let s := { s with reason := Tab.set s.reason c.slot 0 1, copies := s.copies.erase c }
  (((s.raise Rg.EM_INT_STATUS_MIG_DONE).bump Rg.EM_MIG_CNT).migResult c.slot 0)

/-- A cold start, or a slot left without an engine, is counted (R128, R129). -/
def State.coldCount (s : State) : State := (s.raise Rg.EM_INT_STATUS_COLD).bump Rg.EM_COLD_CNT

/-- A target takes the cold context, or its slot is left without an engine (R127). [DEDUCED, unsafe: assumption 64] -/
def State.coldStart (s : State) (slot target : Nat) : State :=
  let s := s.coldCount
  if s.flag Rg.EM_CTRL_COLD_EN then
    let s := ((s.modEng target Engine.cold).loadCaps slot target).serveSlot slot target
    { s with reason := Tab.set s.reason slot 0 3 }.migResult slot 2
  else ((s.set (Rg.EM_MAP_VALID slot) 0).setVeState target 1).migResult slot 3

/-- A target begins to restore a slot from a half that it has read, or goes cold where none is valid (R127, R445). -/
def State.restoreSlot (s : State) (slot target : Nat) (half : Option Nat) (sag : Bool) : State :=
  match half with
  | some h =>
    let s := (s.modEng target (fun e => s.ctxLoad e h)).set (Rg.VE_SAT target) (s.stNat (h + 0x188) 4)
    { s with restores := s.restores ++ [(⟨slot, target, h, sag⟩ : Restore)] }
  | none => s.coldStart slot target

/-- A target reads both halves of a slot and begins to restore it from the newer valid one (R128, R445).
[DEDUCED, unsafe: assumption 64] -/
def State.restoreNewer (s : State) (slot target : Nat) (sag : Bool) : State :=
  let s := (s.chkRead target (s.chkHalf slot 0)).chkRead target (s.chkHalf slot 1)
  s.restoreSlot slot target (s.newerHalf slot) sag

/-- A restore completes: the target has the context of the half, reads the capability set and serves the slot (R127).
[DEDUCED, unsafe: assumption 64] -/
def State.restoreDone (s : State) (r : Restore) : State :=
  let s := (s.loadCaps r.slot r.target).serveSlot r.slot r.target
  let s := { s with reason := Tab.set s.reason r.slot 0 2, restores := s.restores.erase r }
  ((s.raise Rg.EM_INT_STATUS_RESTORED).bump Rg.EM_RESTORE_CNT).migResult r.slot 1

/-! ### LBIST: its start and its abandonment (R125, R403, R407) -/

/-- Whether a migration waits for a target (R129). -/
def State.migPending (s : State) : State := s.setBit Rg.EM_STATUS_MIG_PENDING (s.migReqs.any (·.waits))

/-- A running LBIST is abandoned: an engine in TEST returns to SPARE, and so will the source of a copy made for the test; a
migration asked for the test is forgotten (R407). -/
def State.lbistAbort (s : State) : State :=
  match s.blLbist with
  | none => s
  | some n =>
    let s := { s with
      blLbist := none, migReqs := s.migReqs.filter (fun r => r.why ≠ MigWhy.blotter),
      copies := s.copies.map (fun (c : Copy) => if c.why = MigWhy.blotter then { c with why := .command } else c) }.migPending
    let s := ((s.set Rg.BL_STATUS_LBIST 4).raise Rg.BL_INT_STATUS_ABORTED).set (Rg.BL_VE_RESULT n) 3
    if s.veState n = 3 then s.setVeState n 1 else s

/-- The engine whose running test a migration may take (R125). -/
def State.testTarget (s : State) : Option Nat := s.blLbist.filter (fun n => s.veState n == 3)

/-- A source that must leave the map although no target was found leaves it: the slot is without an engine (R128). -/
def State.leaveMap (s : State) (slot n : Nat) (why : MigWhy) : State :=
  let s := ((s.dropResvOf n).setVeState n (afterCopy why)).set (Rg.VE_STATUS_RUNNING n) 0
  (s.coldCount.set (Rg.EM_MAP_VALID slot) 0).migResult slot 3

/-- A request of the policy or of Blotter that finds no target: the source keeps the slot while it can run, and for one that
the policy has found permanent nothing says whether it can (R128). [DESIGN CHOICE, safe: assumption 109] -/
def State.heldSource (s : State) (r : MigReq) : State :=
  match s.veOf r.slot, r.why with
  | some n, .policy =>
    let (gone, s) := s.fresh 2
    if gone = 1 then s.leaveMap r.slot n r.why else s
  | _, _ => s

/-- The target of a request: the one it names, where it is SPARE, else, for a request that only EM_CMD makes none and for any
other the one that the device chooses. A slot without an engine counts as in the quadrant that serves it at reset (R125).
[DEDUCED, unsafe: assumption 63] -/
def State.migTarget (s : State) (r : MigReq) : Option Nat :=
  match r.target.filter (fun t => s.veState t == 1 && s.untaken t) with
  | some t => some t
  | none => if r.target.isSome ∧ r.why = .command then none else s.pickTarget ((s.veOf r.slot).getD (17 * (r.slot / 16)))

/-- Serves one migration request at a boundary: the copy or the restore begins, or the request is held (R125 to R128).
A request for a target that is no longer SPARE is held for it. [DEDUCED, unsafe: assumption 63] -/
def State.serveMig (s : State) (r : MigReq) : State :=
  let src := s.veOf r.slot
  let target := s.migTarget r
  let again (s : State) : State := { s with migReqs := s.migReqs ++ [{ r with due := 1, waits := true }] }
  match target, src with
  | some t, some n =>
    { s with copies := s.copies ++ [(⟨r.slot, n, t, r.why⟩ : Copy)] }.set (Rg.EM_MAP_VE r.slot) t
  | some t, none => { (s.restoreNewer r.slot t false) with ft := { s.ft with back := r.slot :: s.ft.back } }
  | none, _ =>
    if r.target = none ∧ r.why ≠ .blotter ∧ s.testTarget ≠ none then again s.lbistAbort
    else again ((s.raise Rg.EM_INT_STATUS_NO_SPARE).heldSource r)

/-- The one migration that the requests of one slot make at a boundary, and those that wait for the next: the policy's comes
before Blotter's and that before EM_CMD's, whose target it takes; a second EM_CMD waits.
[DESIGN CHOICE, unsafe: assumption 136] -/
def oneMig (rs : List MigReq) : List MigReq × List MigReq :=
  let cmds := rs.filter (fun (r : MigReq) => r.why = MigWhy.command)
  let first := match rs.find? (fun (r : MigReq) => r.why = MigWhy.policy) with
    | some r => some r
    | none => (rs.find? (fun (r : MigReq) => r.why = MigWhy.blotter)).or cmds.head?
  match first with
  | none => ([], [])
  | some r => ([{ r with target := match r.target with | some t => some t | none => cmds.head?.bind (·.target) }], cmds.drop 1)

/-- The migrations due at one boundary in the order of their slots, and the requests that wait for the next (R125).
[DESIGN CHOICE, unsafe: assumption 136] -/
def bySlot (rs : List MigReq) : List MigReq × List MigReq :=
  let each := (List.range 64).map (fun k => oneMig (rs.filter (fun r => r.slot == k)))
  ((each.map (·.1)).flatten, (each.map (·.2)).flatten)

/-- cc 0: the migrations due now are served, the lowest slot first; the others come one boundary nearer (R26, R125). -/
def State.serveMigs (s : State) : State :=
  let (due, later) := bySlot (s.migReqs.filter (fun r => r.due ≤ 1))
  let rest := (s.migReqs.filter (fun r => ¬ r.due ≤ 1)).map (fun r => { r with due := r.due - 1 })
  (due.foldl State.serveMig { s with migReqs := rest ++ later }).migPending

/-- COPY_ABANDON: the copy of a slot ends before the source's last context word. A source that fails leaves the slot to a
restore, a cold start or nothing; a target that fails is RETIRED, and the source keeps the slot: the request is retried, with
a target that the device chooses even where EM_CMD named the one that failed (R127, R128). `sent` is how many words had been
sent. [DEDUCED, unsafe: assumption 63] -/
def State.copyAbandon (s : State) (slot : Nat) (byTarget : Bool) (sent : Nat) : State :=
  match s.copies.find? (fun c => c.slot == slot) with
  | none => s
  | some c =>
    let s := { s with copies := s.copies.erase c }
    if byTarget then
      let s := (s.set (Rg.EM_MAP_VE slot) c.source).setVeState c.target 4
      { s with migReqs := s.migReqs ++ [({ slot, target := none, why := c.why, due := 1 } : MigReq)] }
    else
      let frame := ((s.get2 Rg.FT_FRAME_LO Rg.FT_FRAME_HI) + 2 ^ 64 - 1) % 2 ^ 64
      let s := match Tab.get s.chks c.source none with
        | some k =>
          { (s.ctxWrite c.source (s.chkHalf k.slot k.frame) (min sent (ctxSize / 16))) with
            chks := Tab.set s.chks c.source none none }
        | none => s
      let s := (s.releaseSource c).strikeEngine c.source false
      let other := s.chkHalf slot (frame + 1)
      let s := s.chkRead c.target other
      let s := s.restoreSlot slot c.target (if s.halfValid other slot then some other else none) false
      { s with ft := { s.ft with starts := s.ft.starts.filter (· ≠ slot), back := slot :: s.ft.back } }

/-- A copy ends: it completes, or a context word of its source is uncorrectable and it is abandoned there (R127, R200). -/
def State.copyEnd (s : State) (c : Copy) : State :=
  match ctxPoison (s.eng c.source) with
  | [] => s.copyDone c
  | h :: r => s.copyAbandon c.slot false ((r.foldl min h) / 2)

/-- Every copy and restore under way completes. -/
def State.settleMigs (s : State) : State :=
  let s := s.copies.foldl State.copyEnd s
  s.restores.foldl State.restoreDone s

/-- While the unit is not LOCKED there is no cc 0: a migration takes effect at once (R26).
[DEDUCED, unsafe: assumption 63] -/
def State.migsNow (s : State) : State :=
  if s.locked then s
  else
    let s := ({ s with migReqs := s.migReqs.map (fun r => { r with due := 1 }) } : State).serveMigs.settleMigs
    { s with ft := { s.ft with back := [] } }

/-- A migration waits that nothing holds back but the boundary or a target: while the unit is not LOCKED it is served as soon
as it can be (R26, R125, R128). [DEDUCED, unsafe: assumption 63] -/
def State.migsDue (s : State) : State := if s.migReqs = [] then s else s.migsNow

/-- CHECKPOINT_TRAILER_WRITE (R120). -/
def execCheckpointTrailerWrite (n : VE) (s : State) : Host.Outcome State Fault Refusal := act s fun s => (s.trailer n).migsDue

@[inherit_doc State.copyAbandon]
def execCopyAbandon (slot : Slot) (byTarget : Bool) (sent : BitVec 13) (s : State) : Host.Outcome State Fault Refusal :=
  act s fun s => (s.copyAbandon slot byTarget sent.toNat).migsDue

/-- CHECKPOINT_RESTORE: the target of a slot has read its half (R127). -/
def execCheckpointRestore (slot : Slot) (s : State) : Host.Outcome State Fault Refusal :=
  act s fun s =>
    match s.restores.find? (fun r => r.slot == slot.val) with
    | none => s
    | some r => (s.restoreDone r).migsDue

/-- An LBIST of engine `n` starts: a SPARE engine enters TEST, a RETIRED one is tested in place, an ACTIVE one, or one that a
migration has taken as its target, is migrated first (R401). -/
def State.lbistStart (s : State) (n : Nat) : State :=
  let s := (({ s with blLbist := some n }).set Rg.BL_STATUS_LBIST 1).set Rg.BL_STATUS_LBIST_VE n
  let asked := match s.restores.find? (fun r => r.target == n) with
    | some r => some r.slot
    | none => s.slotOf n
  if s.veState n = 1 ∧ s.untaken n then s.setVeState n 3
  else if s.veState n = 1 ∨ s.veState n = 2 then
    match asked with
    | some slot => (s.migRequest slot none .blotter).migsNow
    | none => s
  else s

/-! ### Registers (R129, R130) -/

/-- OP 1 of `EM_CMD`: a migration (R125, R128). -/
def State.emMigrate (s : State) (slot ve : Nat) (any : Bool) : WRes :=
  if ¬ s.flag (Rg.EM_MAP_VALID slot) then .refused s
  else if any then .ok (s.migRequest slot none .command).migsNow
  else if 68 ≤ ve ∨ s.veState ve ≠ 1 then .refused s
  else .ok (s.migRequest slot (some ve) .command).migsNow

/-- OP 2: a SPARE engine is retired; the target of a migration under way is no longer one.
[DEDUCED, unsafe: assumption 63] -/
def State.emRetire (s : State) (ve : Nat) : WRes :=
  if ve < 68 ∧ s.veState ve = 1 ∧ s.untaken ve then .ok (s.setVeState ve 4) else .refused s

/-- OP 3: a RETIRED engine whose latest test passed returns to SPARE. -/
def State.emReturn (s : State) (ve : Nat) : WRes :=
  if ve < 68 ∧ s.veState ve = 4 ∧ s.get (Rg.BL_VE_RESULT ve) = 1 then .ok (s.setVeState ve 1).migsDue else .refused s

/-- A write of `EM_CMD` (R129). -/
def State.emCmd (s : State) (v : Nat) : WRes :=
  let ve := bits v 14 8
  match bits v 19 16 with
  | 1 => s.emMigrate (bits v 5 0) ve (bits v 15 15 == 1)
  | 2 => s.emRetire ve
  | 3 => s.emReturn ve
  | _ => .refused s

/-- An `EM_CMD` write with its OP. -/
def State.emTrig (s : State) (m op : Nat) (v : Word) : State :=
  s.regCommand m Rg.EM_CMD_OP.addr 4 (fun s => s.emCmd (v.toNat % 2 ^ 16 + op * 2 ^ 16))

/-- MIGRATE: `EM_CMD` with OP 1 (R125). -/
def execMigrate (m : Master) (v : Word) (s : State) : Host.Outcome State Fault Refusal := act s fun s => s.emTrig m 1 v

/-- ENGINE_RETIRE: `EM_CMD` with OP 2 (R129). -/
def execEngineRetire (m : Master) (v : Word) (s : State) : Host.Outcome State Fault Refusal :=
  act s fun s => s.emTrig m 2 v

/-- ENGINE_RETURN: `EM_CMD` with OP 3 (R129). -/
def execEngineReturn (m : Master) (v : Word) (s : State) : Host.Outcome State Fault Refusal :=
  act s fun s => s.emTrig m 3 v

/-- A write of `EM_MAPs` (R129): only in UNLOCKED or REFUSED; the engine it names must be SPARE and not mapped, and the one
that served the slot returns to SPARE. -/
def State.emMap (s : State) (slot v : Nat) : WRes :=
  let ve := bits v 6 0
  let valid := bits v 7 7
  if ¬ s.unlocked ∨ 68 ≤ ve ∨ s.veState ve ≠ 1 ∨ (s.slotOf ve).isSome then .refused s
  else
    let s := match s.veOf slot with | some old => s.setVeState old 1 | none => s
    let s := (s.set (Rg.EM_MAP_VE slot) ve).set (Rg.EM_MAP_VALID slot) valid
    .ok (if valid = 1 then s.setVeState ve 2 else s).migsDue

/-- A write of a register that only UNLOCKED and REFUSED admit, whose value has low bits that must be 0 (R129, R322,
R506). -/
def State.unlockedReg (s : State) (f : Fld) (low v : Nat) : WRes :=
  if ¬ s.unlocked ∨ v % low ≠ 0 then .refused s else .ok (s.set f v)

/-- A write of `VE_CTRL` (R130). -/
def State.veCtrl (s : State) (n v : Nat) : WRes :=
  if bits v 0 0 = 0 then .ok s
  else if s.veState n = 1 ∨ s.veState n = 4 then .ok (s.modEng n Engine.cold)
  else .refused s

/-- SRESET: `VE_CTRL` written with SRESET: the cold context of a SPARE or RETIRED engine (R130). -/
def execSreset (m : Master) (n : VE) (v : Word) (s : State) : Host.Outcome State Fault Refusal :=
  act s fun s => s.regCommand m (Rg.VE_CTRL_SRESET n).addr 4 (fun s => s.veCtrl n (Nat.lor v.toNat 1))

end Sys2Proof.Machine
end

