-- ==== Sys2Proof/Machine/Timers.lean ====
section
/-! DEFINITION. Timers, the calendar, the CRC units, the event counters and random tagging (R363 to R390). -/

namespace Sys2Proof.Machine

/-! ### Timers (R366 to R374) -/

/-- The count of a timer. -/
def State.tmrCount (s : State) (n : Nat) : Nat := s.get2 (Rg.TMR_COUNT_LO n) (Rg.TMR_COUNT_HI n)

/-- The state with a timer's count set. -/
def State.setTmr (s : State) (n v : Nat) : State := s.set2 (Rg.TMR_COUNT_LO n) (Rg.TMR_COUNT_HI n) v

/-- The compare value in force (R368). -/
def State.tmrCmp (s : State) (n : Nat) : Nat :=
  s.force (Rg.TMR_CMP_LO n) + s.force (Rg.TMR_CMP_HI n) * 2 ^ 32

/-- The wrap value in force. -/
def State.tmrTop (s : State) (n : Nat) : Nat :=
  s.force (Rg.TMR_TOP_LO n) + s.force (Rg.TMR_TOP_HI n) * 2 ^ 32

/-- The compare value last committed comes into force. -/
def State.forceCmp (s : State) (n : Nat) : State :=
  (s.setForce (Rg.TMR_CMP_LO n) (s.get (Rg.TMR_CMP_LO n))).setForce (Rg.TMR_CMP_HI n) (s.get (Rg.TMR_CMP_HI n))

/-- The wrap value last committed comes into force. -/
def State.forceTop (s : State) (n : Nat) : State :=
  (s.setForce (Rg.TMR_TOP_LO n) (s.get (Rg.TMR_TOP_LO n))).setForce (Rg.TMR_TOP_HI n) (s.get (Rg.TMR_TOP_HI n))

/-- Both preload values come into force (R370). -/
def State.tmrForce (s : State) (n : Nat) : State := (s.forceCmp n).forceTop n

/-- A pin action: 0 none, 1 drive high, 2 drive low, 3 toggle (R371). -/
def State.tmrAct (s : State) (n act : Nat) : State :=
  match act with
  | 1 => s.set (Rg.TMR_STATUS_OUT n) 1
  | 2 => s.set (Rg.TMR_STATUS_OUT n) 0
  | 3 => s.set (Rg.TMR_STATUS_OUT n) (1 - s.get (Rg.TMR_STATUS_OUT n))
  | _ => s

/-- The level that timer `n` drives on TMR_OUT[n]; none while OE leaves the pin to its pull-up (R371). -/
def State.tmrOut (s : State) (n : Nat) : Option Bool :=
  if s.flag (Rg.TMR_CTRL_OE n) then some (s.flag (Rg.TMR_STATUS_OUT n)) else none

/-- The events of one mc: on both, only the match action applies, and a match of R369 that fired in this mc already is the
same match (R371, R373). [DEDUCED, unsafe: assumption 49] -/
def State.tmrEvents (s : State) (n : Nat) (isMatch ovf : Bool) : State :=
  let s := if isMatch then s.raise (Rg.TMR_INT_STATUS_MATCH n) else s
  let s := if ovf then s.raise (Rg.TMR_INT_STATUS_OVF n) else s
  if n ∈ s.tmrFired then s
  else if isMatch then s.tmrAct n (s.get (Rg.TMR_CTRL_MATCH_ACT n))
  else if ovf then s.tmrAct n (s.get (Rg.TMR_CTRL_OVF_ACT n))
  else s

/-- A tick of timer `n`'s source (R367, R368, R370, R373). [DEDUCED, unsafe: assumption 49] -/
def State.tmrTick (s : State) (n : Nat) : State :=
  if n ∈ s.tmrZero then
    let s := { s with tmrZero := s.tmrZero.filter (· ≠ n) }
    (s.setTmr n 0).tmrEvents n (s.tmrCmp n == 0) false
  else
    let c := s.tmrCount n
    if s.tmrTop n ≤ c then
      let s := if s.flag (Rg.TMR_STATUS_PRELOAD n) then (s.tmrForce n).set (Rg.TMR_STATUS_PRELOAD n) 0 else s
      (s.setTmr n 0).tmrEvents n (s.tmrCmp n == 0) true
    else (s.setTmr n (c + 1)).tmrEvents n (s.tmrCmp n == c + 1) false

/-- A tick of one source reaches every timer that it advances (R366). -/
def State.tmrTicks (s : State) (src : Nat) : State :=
  ((List.range 8).filter (fun n => s.get (Rg.TMR_CTRL_SRC n) = src)).foldl State.tmrTick s

/-- The frame tick reaches the timers and the IDR of the Triad (R43, R324, R366). -/
def State.frameTicks (s : State) : State :=
  let s := s.tmrTicks 2
  { s with triad := { s.triad with tick := 3 } }

/-- The test of R369 after a commit in immediate mode: a compare value at or shortly behind the count fires a match in
the next mc. [DEDUCED, unsafe: assumption 49] -/
def State.tmrBehind (s : State) (n : Nat) : State :=
  let r := s.tmrTop n + 1
  let b := ((s.tmrCount n : Int) - s.tmrCmp n) % (r : Int)
  if s.tmrCmp n ≤ s.tmrTop n ∧ 2 * b < r then { s with tmrFire := s.tmrFire.filter (· ≠ n) ++ [n] } else s

/-- A compare value, or with `top` a wrap value, is committed: at once in immediate mode, at the next wrap in preload mode
(R369, R370). A preload of the other value that is still pending waits for its wrap. [DEDUCED, unsafe: assumption 49] -/
def State.tmrCommit (s : State) (n : Nat) (top : Bool) : State :=
  if s.flag (Rg.TMR_CTRL_MODE n) then s.set (Rg.TMR_STATUS_PRELOAD n) 1
  else (if top then s.forceTop n else s.forceCmp n).tmrBehind n

/-- A write of `TMR_CTRL` (R374). -/
def State.tmrCtrl (s : State) (n v : Nat) : WRes :=
  if bits v 1 0 = 3 then .refused s
  else
    let s := (((s.set (Rg.TMR_CTRL_SRC n) (bits v 1 0)).set (Rg.TMR_CTRL_MODE n) (bits v 2 2)).set
      (Rg.TMR_CTRL_MATCH_ACT n) (bits v 4 3)).set (Rg.TMR_CTRL_OVF_ACT n) (bits v 6 5)
    .ok (((s.set (Rg.TMR_CTRL_OE n) (bits v 7 7)).set (Rg.TMR_CTRL_CAP_PIN n) (bits v 9 8)).set
      (Rg.TMR_CTRL_CAP_EDGE n) (bits v 11 10))

/-- Shows the oldest capture and the queue's level (R372). -/
def State.tmrShow (s : State) (n : Nat) (q : List Nat) : State :=
  (({ s with tmrCaps := Tab.set s.tmrCaps n [] q }).set2 (Rg.TMR_CAP_LO n) (Rg.TMR_CAP_HI n) (q.headD 0)).set
    (Rg.TMR_STATUS_CAP_LEVEL n) q.length

/-- A write of `TMR_CMD`: RESTART, CAP_POP, OUT_SET and OUT_CLR (R371 to R374). -/
def State.tmrCmd (s : State) (n v : Nat) : WRes :=
  let s := if bits v 0 0 = 1 then { s with tmrZero := s.tmrZero.filter (· ≠ n) ++ [n] } else s
  let s := if bits v 1 1 = 1 then s.tmrShow n (Tab.get s.tmrCaps n []).tail else s
  let s := if bits v 2 2 = 1 then s.set (Rg.TMR_STATUS_OUT n) 1 else s
  .ok (if bits v 3 3 = 1 then s.set (Rg.TMR_STATUS_OUT n) 0 else s)

/-- The management-cycle count advances, and the matches of R369 that were waiting are to fire (R365). -/
def State.mcTick (s : State) : State :=
  { s with tmrFire := [], tmrFired := [], triad := { s.triad with tick := s.triad.tick - 1, awayPc := none } }.set2
    Rg.TMR_MC_LO Rg.TMR_MC_HI (s.mc + 1)

/-- An edge of input-capture pin `pin` reaches the timers that watch it (R372). -/
def State.tmrCapture (s : State) (pin : Nat) (rising : Bool) : State :=
  ((List.range 8).filter (fun n => s.get (Rg.TMR_CTRL_CAP_PIN n) == pin &&
    (s.get (Rg.TMR_CTRL_CAP_EDGE n) == 3 || s.get (Rg.TMR_CTRL_CAP_EDGE n) == (if rising then 1 else 2)))).foldl
    (fun s n =>
      let q := Tab.get s.tmrCaps n []
      if q.length < 4 then (s.tmrShow n (q ++ [s.tmrCount n])).raise (Rg.TMR_INT_STATUS_CAP n)
      else s.raise (Rg.TMR_INT_STATUS_CAP_OVF n)) s

/-- TIMER_CAPTURE: input-capture pin `pin` has taken a level and holds it for some mc; where the glitch filter passes it, and
the level behind the filter was the other one, the edge reaches the timers in the mc of the command (R372, R496, R505).
[DESIGN CHOICE, unsafe: assumption 133] -/
def execTimerCapture (pin : Fin 4) (edge : Edge) (s : State) : Host.Outcome State Fault Refusal :=
  act s fun s =>
    if Tab.get s.tmrIn pin true = edge.rising then s
    else
      s.whenPassed (s.get Rg.PAD_FILT_TMR_FILT) (s.sinceFilt edge.mc.toNat) (fun s =>
        { s with tmrIn := Tab.set s.tmrIn pin true edge.rising }.tmrCapture pin edge.rising)

/-! ### Calendar (R375 to R379) -/

/-- `CAL_TIME` (R376). -/
def State.calTime (s : State) : Nat := s.get2 Rg.CAL_TIME_LO Rg.CAL_TIME_HI

/-- Advances the calendar by one tick: the alarm fires when the seconds become equal to `CAL_ALARM` (R376, R378).
[DEDUCED, unsafe: assumption 50] -/
def State.calStep (s : State) : State :=
  let t := (s.calTime + 1) % 2 ^ 63
  let was := s.calTime / 2 ^ 15
  let s := s.set2 Rg.CAL_TIME_LO Rg.CAL_TIME_HI t
  let s := { s with calCount := s.calCount + 1 }
  if t / 2 ^ 15 ≠ was ∧ t / 2 ^ 15 = s.get2 Rg.CAL_ALARM_LO Rg.CAL_ALARM_HI ∧ s.flag Rg.CAL_CTRL_ALARM_EN then
    s.raise Rg.CAL_STATUS_ALARM
  else s

/-- Advances the calendar by several ticks. -/
def State.calSteps (s : State) : Nat → State
  | 0 => s
  | k + 1 => s.calStep.calSteps k

/-- CAL_TICK: a tick of 32.768 kHz, unless a negative trim skips it (R375, R377). The backup domain is not reset with
the rest of the device. [DEDUCED, unsafe: assumption 50] -/
def execCalTick (s : State) : Host.Outcome State Fault Refusal :=
  always s fun s => (if s.calSkip = 0 then s.calStep else { s with calSkip := s.calSkip - 1 })

/-- CAL_TRIM: once 64 s have been counted, TRIM ticks are added, or −TRIM of them will be skipped (R377).
[DEDUCED, unsafe: assumption 50] -/
def execCalTrim (s : State) : Host.Outcome State Fault Refusal :=
  always s fun s =>
    if s.calCount < 64 * 2 ^ 15 then s
    else
      let t := sext 8 (s.get Rg.CAL_CTRL_TRIM)
      let s := { s with calCount := s.calCount - 64 * 2 ^ 15 }
      (if 0 ≤ t then s.calSteps t.toNat else { s with calSkip := s.calSkip + (-t).toNat })

/-- CAL_SET_DONE: a set completes (R376). -/
def execCalSetDone (s : State) : Host.Outcome State Fault Refusal :=
  always s fun s =>
    if s.flag Rg.CAL_STATUS_BUSY then
      (((s.set2 Rg.CAL_TIME_LO Rg.CAL_TIME_HI (s.get2 Rg.CAL_SET_LO Rg.CAL_SET_HI)).set Rg.CAL_STATUS_BUSY 0).set
        Rg.CAL_STATUS_VALID 1)
    else s

/-- The calendar drives its open-drain output CAL_ALARM_N low, with or without main power (R378). -/
def State.calAlarmLow (s : State) : Bool := s.flag Rg.CAL_STATUS_ALARM

/-- OSC_FAIL: the 32.768 kHz crystal has stopped (R378). -/
def execOscFail (s : State) : Host.Outcome State Fault Refusal :=
  always s fun s => ((s.raise Rg.CAL_STATUS_OSC_FAIL).set Rg.CAL_STATUS_VALID 0)

/-- A write of `CAL_CTRL` (R379). -/
def State.calCtrl (s : State) (v : Nat) : WRes :=
  if bits v 8 1 = 128 then .refused s
  else .ok ((s.set Rg.CAL_CTRL_ALARM_EN (bits v 0 0)).set Rg.CAL_CTRL_TRIM (bits v 8 1))

/-- BACKUP_DOMAIN_POWER_UP: the calendar's registers and `BK_BOOT` take their reset values (R375). -/
def execBackupDomainPowerUp (s : State) : Host.Outcome State Fault Refusal :=
  always s fun s =>
    let fs := [Rg.CAL_TIME_LO, Rg.CAL_TIME_HI, Rg.CAL_SET_LO, Rg.CAL_SET_HI, Rg.CAL_ALARM_LO, Rg.CAL_ALARM_HI,
      Rg.CAL_CTRL_ALARM_EN, Rg.CAL_CTRL_TRIM, Rg.CAL_STATUS_BUSY, Rg.CAL_STATUS_VALID, Rg.CAL_STATUS_OSC_FAIL,
      Rg.CAL_STATUS_ALARM, Rg.CAL_INT_EN_ALARM, Rg.CAL_INT_EN_OSC_FAIL, Rg.BK_BOOT_SLOT, Rg.BK_BOOT_CONFIRMED,
      Rg.BK_BOOT_TRIES]
    let s := fs.foldl State.resetFld s
    { s with calCount := 0, calSkip := 0,
                   heldLo := s.heldLo.filter (fun e => e.1 / 2 ≠ Rg.CAL_SET_LO.addr ∧ e.1 / 2 ≠ Rg.CAL_ALARM_LO.addr) }

/-! ### CRC units (R380 to R384) -/

/-- The parameters in force in CRC unit `u` (R380, R381). -/
def State.crcParams (s : State) (u : Nat) : CrcParams :=
  match s.get (Rg.CRC_CFG_PRESET u) with
  | 1 => ⟨32, 0x04C11DB7, 0xFFFFFFFF, true, true, 0xFFFFFFFF⟩
  | 2 => crc32cParams
  | 3 => ⟨16, 0x1021, 0xFFFF, false, false, 0⟩
  | 4 => ⟨64, 0x42F0E1EBA9EA3693, 0, false, false, 0⟩
  | _ =>
    let w := s.get (Rg.CRC_CFG_WIDTH_M1 u) + 1
    ⟨w, s.get2 (Rg.CRC_POLY_LO u) (Rg.CRC_POLY_HI u) % 2 ^ w, s.get2 (Rg.CRC_INIT_LO u) (Rg.CRC_INIT_HI u) % 2 ^ w,
      s.flag (Rg.CRC_CFG_REFIN u), s.flag (Rg.CRC_CFG_REFOUT u),
      s.get2 (Rg.CRC_XOROUT_LO u) (Rg.CRC_XOROUT_HI u) % 2 ^ w⟩

/-- The running register of a unit. -/
def State.crcReg (s : State) (u : Nat) : Nat :=
  s.get2 (Rg.CRC_VALUE_LO u) (Rg.CRC_VALUE_HI u) % 2 ^ (s.crcParams u).width

/-- RESULT (R380). -/
def State.crcRes (s : State) (u : Nat) : Nat := crcResult (s.crcParams u) (s.crcReg u)

/-- The running register set. -/
def State.setCrc (s : State) (u v : Nat) : State := s.set2 (Rg.CRC_VALUE_LO u) (Rg.CRC_VALUE_HI u) v

/-- Feeds bytes to a unit, which then absorbs them. A write that finds the unit absorbing is held until it has finished
(R382). -/
def State.crcFeed (s : State) (u : Nat) (bs : List Byte) : WRes :=
  let s := s.setCrc u (crcBytes (s.crcParams u) (s.crcReg u) bs)
  .ok ((s.bumpBy (Rg.CRC_BYTES u) bs.length).set (Rg.CRC_STATUS_BUSY u) 1)

/-- The access of a held kind: absorption ends first (R382). [DEDUCED, safe: assumption 51] -/
def State.crcWait (s : State) (u : Nat) : State := s.set (Rg.CRC_STATUS_BUSY u) 0

/-- A write of `CRC_CMD`: START first, then CHECK (R383). -/
def State.crcCmd (s : State) (u v : Nat) : WRes :=
  let s := if bits v 0 0 = 1 then s.setCrc u (s.crcParams u).init else s
  if bits v 1 1 = 1 then
    let s := s.crcWait u
    let e := s.get2 (Rg.CRC_EXPECT_LO u) (Rg.CRC_EXPECT_HI u) % 2 ^ (s.crcParams u).width
    if s.crcRes u = e then .ok (s.set (Rg.CRC_STATUS_CHECK_OK u) 1)
    else .ok ((s.set (Rg.CRC_STATUS_CHECK_OK u) 0).raise (Rg.CRC_STATUS_MISMATCH u))
  else .ok s

/-- A write of `CRC_CFG`: the other fields are ignored where the preset written fixes them (R381). -/
def State.crcCfg (s : State) (u v : Nat) : WRes :=
  let p := bits v 2 0
  if 5 ≤ p then .refused s
  else
    let s := s.set (Rg.CRC_CFG_PRESET u) p
    if p = 0 then
      .ok (((s.set (Rg.CRC_CFG_WIDTH_M1 u) (bits v 8 3)).set (Rg.CRC_CFG_REFIN u) (bits v 9 9)).set
        (Rg.CRC_CFG_REFOUT u) (bits v 10 10))
    else .ok s

/-- CRC_ABSORB_DONE: the unit has absorbed what it was fed (R382). -/
def execCrcAbsorbDone (u : Fin 16) (s : State) : Host.Outcome State Fault Refusal :=
  act s fun s => s.crcWait u

/-! ### Pairs (R364) -/

/-- The two halves of a pair. -/
def pairFlds : Pair → Fld × Fld
  | .tmrCmp n => (Rg.TMR_CMP_LO n, Rg.TMR_CMP_HI n)
  | .tmrTop n => (Rg.TMR_TOP_LO n, Rg.TMR_TOP_HI n)
  | .calSet => (Rg.CAL_SET_LO, Rg.CAL_SET_HI)
  | .calAlarm => (Rg.CAL_ALARM_LO, Rg.CAL_ALARM_HI)
  | .crcPoly u => (Rg.CRC_POLY_LO u, Rg.CRC_POLY_HI u)
  | .crcInit u => (Rg.CRC_INIT_LO u, Rg.CRC_INIT_HI u)
  | .crcXorout u => (Rg.CRC_XOROUT_LO u, Rg.CRC_XOROUT_HI u)
  | .crcValue u => (Rg.CRC_VALUE_LO u, Rg.CRC_VALUE_HI u)
  | .crcExpect u => (Rg.CRC_EXPECT_LO u, Rg.CRC_EXPECT_HI u)
  | .lbistExp => (Rg.BL_LBIST_EXP_LO, Rg.BL_LBIST_EXP_HI)

/-- A CRC parameter that the preset fixes: writes to its registers are ignored (R381). -/
def State.pairFixed (s : State) (p : Pair) : Bool :=
  match p with
  | .crcPoly u => s.get (Rg.CRC_CFG_PRESET u) != 0
  | .crcInit u => s.get (Rg.CRC_CFG_PRESET u) != 0
  | .crcXorout u => s.get (Rg.CRC_CFG_PRESET u) != 0
  | _ => false

/-- A LO write: it is held for its side, with no other effect (R364); a parameter that the preset fixes ignores it. -/
def State.pairLo (s : State) (m : Nat) (p : Pair) (v : Nat) : WRes :=
  .ok (if s.pairFixed p then s else s.holdLo m (pairFlds p).1.addr (v % 2 ^ 32))

/-- Both halves of a pair take a committed value. -/
def State.setPair (s : State) (p : Pair) (v : Nat) : State := s.set2 (pairFlds p).1 (pairFlds p).2 v

/-- A HI write applies both halves of its side in one cycle (R364, R369, R370, R376, R381). -/
def State.pairHi (s : State) (m : Nat) (p : Pair) (v : Nat) : WRes :=
  let x := s.loHeld m (pairFlds p).1 + v % 2 ^ 32 * 2 ^ 32
  if s.pairFixed p then .ok s
  else match p with
  | .tmrCmp n => .ok ((s.setPair p x).tmrCommit n false)
  | .tmrTop n => .ok ((s.setPair p x).tmrCommit n true)
  | .calSet =>
    if s.flag Rg.CAL_STATUS_BUSY ∨ v / 2 ^ 31 % 2 = 1 then .refused s
    else .ok ((s.setPair p x).set Rg.CAL_STATUS_BUSY 1)
  | .crcValue u => .ok (s.setPair p (x % 2 ^ (s.crcParams u).width))
  | _ => .ok (s.setPair p x)

/-- PAIR_LO_WRITE: master `m` writes the LO register of a pair (R364). -/
def execPairLoWrite (m : Master) (p : Pair) (v : Word) (s : State) : Host.Outcome State Fault Refusal :=
  act s fun s => s.regCommand m (pairFlds p).1.addr 4 (fun s => s.pairLo m p v.toNat)

/-- PAIR_HI_COMMIT: master `m` writes the HI register of a pair (R364). -/
def execPairHiCommit (m : Master) (p : Pair) (v : Word) (s : State) : Host.Outcome State Fault Refusal :=
  act s fun s => s.regCommand m (pairFlds p).2.addr 4 (fun s => s.pairHi m p v.toNat)

/-! ### Register commands of the timers and the CRC units -/

/-- A write of `TMR_CMD` with a bit forced to 1. -/
def State.tmrTrig (s : State) (m n bit : Nat) (v : Word) : State :=
  s.regCommand m (Rg.TMR_CMD_RESTART n).addr 4 (fun s => s.tmrCmd n (Nat.lor v.toNat (2 ^ bit)))

/-- TIMER_RESTART (R373, R374). -/
def execTimerRestart (m : Master) (n : Fin 8) (v : Word) (s : State) : Host.Outcome State Fault Refusal :=
  act s fun s => s.tmrTrig m n 0 v

/-- CAP_POP (R372). -/
def execCapPop (m : Master) (n : Fin 8) (v : Word) (s : State) : Host.Outcome State Fault Refusal :=
  act s fun s => s.tmrTrig m n 1 v

/-- OUT_SET (R371). -/
def execOutSet (m : Master) (n : Fin 8) (v : Word) (s : State) : Host.Outcome State Fault Refusal :=
  act s fun s => s.tmrTrig m n 2 v

/-- OUT_CLR (R371). -/
def execOutClr (m : Master) (n : Fin 8) (v : Word) (s : State) : Host.Outcome State Fault Refusal :=
  act s fun s => s.tmrTrig m n 3 v

/-- CRC_DATA8: one byte (R382). -/
def execCrcData8 (m : Master) (u : Fin 16) (v : Word) (s : State) : Host.Outcome State Fault Refusal :=
  act s fun s => s.regCommand m (Rg.CRC_DATA8 u).addr 4 (fun s => s.crcFeed u (leBytes 1 v.toNat))

/-- CRC_DATA16: two bytes, the low one first (R382). -/
def execCrcData16 (m : Master) (u : Fin 16) (v : Word) (s : State) : Host.Outcome State Fault Refusal :=
  act s fun s => s.regCommand m (Rg.CRC_DATA16 u).addr 4 (fun s => s.crcFeed u (leBytes 2 v.toNat))

/-- CRC_DATA32: four bytes, the low one first (R382). -/
def execCrcData32 (m : Master) (u : Fin 16) (v : Word) (s : State) : Host.Outcome State Fault Refusal :=
  act s fun s => s.regCommand m (Rg.CRC_DATA32 u).addr 4 (fun s => s.crcFeed u (leBytes 4 v.toNat))

/-- CRC_START: `CRC_CMD` written with START (R380). -/
def execCrcStart (m : Master) (u : Fin 16) (v : Word) (s : State) : Host.Outcome State Fault Refusal :=
  act s fun s => s.regCommand m (Rg.CRC_CMD_START u).addr 4 (fun s => s.crcCmd u (Nat.lor v.toNat 1))

/-- CRC_CHECK: `CRC_CMD` written with CHECK (R383). -/
def execCrcCheck (m : Master) (u : Fin 16) (v : Word) (s : State) : Host.Outcome State Fault Refusal :=
  act s fun s => s.regCommand m (Rg.CRC_CMD_START u).addr 4 (fun s => s.crcCmd u (Nat.lor v.toNat 2))

/-! ### Event counters and tagging (R385 to R390) -/

/-- A write of `EC_CTRL`: CLEAR_ALL sets all 128 counts to 0 (R385). -/
def State.ecCtrl (s : State) (n v : Nat) : WRes :=
  if bits v 0 0 = 1 then
    .ok ((List.range 128).foldl (fun s k => s.set2 (Rg.EC_LO n k) (Rg.EC_HI_COUNT n k) 0) s)
  else .ok s

/-- CLEAR_ALL: `EC_CTRL.CLEAR_ALL` written (R385). -/
def execClearAll (m : Master) (n : VE) (v : Word) (s : State) : Host.Outcome State Fault Refusal :=
  act s fun s => s.regCommand m (Rg.EC_CTRL_CLEAR_ALL n).addr 4 (fun s => s.ecCtrl n (Nat.lor v.toNat 1))

/-- A write of `TAG_CFG` (R388, R389). A new N tags the next instruction that retires.
[DEDUCED, unsafe: assumption 84] -/
def State.tagCfg (s : State) (n v : Nat) : WRes :=
  let k := bits v 4 0
  let q := bits v 17 5
  if ¬ (k = 0 ∨ (4 ≤ k ∧ k ≤ 20)) ∨ (q ≠ 0 ∧ q < 2688) then .refused s
  else
    let s := if k = s.get (Rg.TAG_CFG_N n) then s else { s with tagWait := Tab.set s.tagWait n 0 1 }
    .ok ((s.set (Rg.TAG_CFG_N n) k).set (Rg.TAG_CFG_QUEUE n) q)

/-- The two words of a tag record of the instruction that engine `e` retired last (R389). -/
def tagWords (e : Engine) (t : TagInfo) (frame : Nat) : List Nat :=
  let b (x : Bool) : Nat := if x then 1 else 0
  [e.lastPc.toNat + t.s0.toNat * 2 ^ 32 + t.s1.toNat * 2 ^ 48,
   t.s2.toNat + t.s3.toNat * 2 ^ 16 + t.s4.toNat * 2 ^ 32 + frame % 256 * 2 ^ 48 + b e.lastVec * 2 ^ 56 +
     b e.lastIter * 2 ^ 57 + b t.exc * 2 ^ 58]

/-- TAG_RECORD: the instruction that VE `n` retired last is tagged where the interval of R388 has run out; its record is
held and, where a queue is named, pushed (R388, R389), and the next interval is 2^(N − 1) + r instructions, r a free value
below 2^N. Tagging stops under a drydown tier. [DEDUCED, unsafe: assumption 84] -/
def State.tagRecord (s : State) (n : Nat) (t : TagInfo) : State :=
  if s.get (Rg.TAG_CFG_N n) = 0 ∨ s.get Rg.DD_STATUS_TIER ≠ 0 ∨ Tab.get s.tagWait n 0 ≠ 0 then s
  else
    let (r, s) := s.fresh (2 ^ s.get (Rg.TAG_CFG_N n))
    let s := { s with tagWait := Tab.set s.tagWait n 0 (2 ^ (s.get (Rg.TAG_CFG_N n) - 1) + r) }
    let ws := tagWords (s.eng n) t (s.get Rg.FT_FRAME_LO)
    let w0 := ws.headD 0
    let w1 := ws.getLastD 0
    let s := (s.set2 (Rg.TAG_REC n 0) (Rg.TAG_REC n 1) w0).set2 (Rg.TAG_REC n 2) (Rg.TAG_REC n 3) w1
    let s := (s.bump (Rg.TAG_CNT n)).ecAdd n 29 1
    let q := s.get (Rg.TAG_CFG_QUEUE n)
    if q = 0 then s
    else
      match s.qPush q ⟨1, (s.slotOf n).getD 0⟩ ws with
      | (true, s) => s
      | (false, s) => s.bump (Rg.TAG_DROP_CNT n)

@[inherit_doc State.tagRecord]
def execTagRecord (n : VE) (t : TagInfo) (s : State) : Host.Outcome State Fault Refusal :=
  act s fun s => s.tagRecord n t

end Sys2Proof.Machine
end

