-- ==== Sys2Proof/Machine/Blotter.lean ====
section
/-! DEFINITION. Blotter and the reliability registers (R395 to R407, R418). -/

namespace Sys2Proof.Machine

/-- Bucket leak: once LEAK_FRAMES advances of the policy frame count have gone by, every bucket that is not 0 goes down
by 1 (R395). -/
def execBucketLeak (s : State) : Host.Outcome State Fault Refusal :=
  act s fun s =>
    let n := max (s.get Rg.RL_CFG_LEAK_FRAMES) 1
    if s.polLeak < n then s else { s with polLeak := s.polLeak - n }.leakAll

/-! ### LBIST (R403, R406, R407) -/

/-- LBIST_DONE: the signature is compared with the expected one (R403, R407). [DEDUCED, unsafe: assumption 57] -/
def execLbistDone (sig : DWord) (s : State) : Host.Outcome State Fault Refusal :=
  act s fun s =>
    match s.blLbist with
    | none => s
    | some n =>
      if s.veState n ≠ 3 ∧ s.veState n ≠ 4 then s
      else State.migsDue <|
        let s := { s with blLbist := none }.modEng n Engine.cold
        let s := s.set2 Rg.BL_LBIST_SIG_LO Rg.BL_LBIST_SIG_HI sig.toNat
        if sig.toNat = s.get2 Rg.BL_LBIST_EXP_LO Rg.BL_LBIST_EXP_HI then
          let s := ((s.set Rg.BL_STATUS_LBIST 2).raise Rg.BL_INT_STATUS_DONE).set (Rg.BL_VE_RESULT n) 1
          if s.veState n = 3 then s.setVeState n 1 else s
        else
          let s := ((s.set Rg.BL_STATUS_LBIST 3).raise Rg.BL_INT_STATUS_FAIL).set (Rg.BL_VE_RESULT n) 2
          if s.veState n = 3 then s.strikeEngine n true else s

/-- The next SPARE engine in number order after `k` that no migration takes (R406). -/
def State.nextSpare (s : State) (k : Nat) : Option Nat :=
  ((List.range 68).map (fun i => (k + 1 + i) % 68)).find? (fun n => s.veState n == 1 && s.untaken n)

/-- AUTO_LBIST: the automatic period is over. A test is skipped at a drydown tier, while one runs, or with no SPARE engine
(R406, R407). -/
def execAutoLbist (s : State) : Host.Outcome State Fault Refusal :=
  act s fun s =>
    if ¬ s.flag Rg.BL_CTRL_AUTO_EN ∨ s.get Rg.DD_STATUS_TIER ≠ 0 ∨ s.get Rg.BL_STATUS_LBIST = 1 then s
    else
      match s.nextSpare s.blLast with
      | none => s
      | some n => { s with blLast := n }.lbistStart n

/-! ### March tests and loopback (R404, R405) -/

/-- MBIST_DONE: the march of the spare completes; a spare that fails is retired (R404). -/
def execMbistDone (pass : Bool) (s : State) : Host.Outcome State Fault Refusal :=
  act s fun s =>
    if ¬ s.marching ∨ s.rot ≠ .idle then s
    else if pass then ((s.set Rg.BL_STATUS_MBIST 2).raise Rg.BL_INT_STATUS_DONE).rotService
    else
      let s := (s.set Rg.BL_STATUS_MBIST 3).raise Rg.BL_INT_STATUS_FAIL
      let s := ((s.set Rg.ST_RETIRED_PHYS (s.get Rg.BL_STATUS_MBIST_PHYS)).set Rg.ST_RETIRED_VALID 1).set
        Rg.ST_STATUS_NO_SPARE 1
      { s.raise Rg.ST_INT_STATUS_NO_SPARE with rotWant := [] }

/-! ### `BL_CMD` (R401, R402) -/

/-- A write of `BL_CMD` with OP 1. [DEDUCED, unsafe: assumption 57] -/
def State.blLbistCmd (s : State) (t : Nat) : WRes :=
  if 68 ≤ t ∨ s.get Rg.BL_STATUS_LBIST = 1 ∨ s.veState t = 0 then .refused s else .ok (s.lbistStart t)

/-- OP 2: the march of the spare begins, after the rotation step where one is in progress, whose spare takes part in it
(R401, R404). [DESIGN CHOICE, unsafe: assumption 35] -/
def State.blSpareCmd (s : State) : WRes :=
  if s.flag Rg.ST_STATUS_NO_SPARE ∨ s.get Rg.BL_STATUS_MBIST = 1 then .refused s
  else
    let s := s.set Rg.BL_STATUS_MBIST 1
    .ok (if s.rot = .idle then s.marchNext else s)

/-- OP 3: a targeted rotation step, whose test is the result. -/
def State.blRotCmd (s : State) (t : Nat) : WRes :=
  if 8191 ≤ t ∨ s.flag Rg.ST_STATUS_NO_SPARE ∨ s.get Rg.BL_STATUS_MBIST = 1 then .refused s
  else .ok (({ s with blMbist := some t }.set Rg.BL_STATUS_MBIST 1).rotRequest (some t))

/-- OP 4. -/
def State.blLoopCmd (s : State) (t : Nat) : WRes :=
  if 128 ≤ t ∨ s.get Rg.BL_STATUS_LOOP = 1 ∨ s.get (Rg.LN_STATUS_STATE t) ∉ [0, 4, 5] then .refused s
  else .ok ((s.set Rg.BL_STATUS_LOOP 1).set Rg.BL_LOOP_LANE t)

/-- A write of `BL_CMD` (R402). -/
def State.blCmd (s : State) (v : Nat) : WRes :=
  let t := bits v 20 8
  match bits v 2 0 with
  | 1 => s.blLbistCmd t
  | 2 => s.blSpareCmd
  | 3 => s.blRotCmd t
  | 4 => s.blLoopCmd t
  | _ => .refused s

/-- A write of `BL_CFG` (R418). -/
def State.blCfg (s : State) (v : Nat) : WRes :=
  let l := bits v 20 16
  if l < 10 ∨ 20 < l then .refused s
  else .ok (((s.set Rg.BL_CFG_AUTO_PERIOD_S (bits v 15 0)).set Rg.BL_CFG_LBIST_LOG2 l).set Rg.BL_CFG_LOOP_MS (bits v 31 24))

/-- A write of `RL_CLASSc`: ACT of classes 0 and 2 reads 1 (R418). [DEDUCED, unsafe: assumption 58] -/
def State.rlClass (s : State) (c v : Nat) : WRes :=
  let s := (s.set (Rg.RL_CLASS_RETRY c) (bits v 3 0)).set (Rg.RL_CLASS_WINDOW c) (bits v 27 4)
  .ok (if c = 1 then s.set (Rg.RL_CLASS_ACT c) (bits v 28 28) else s)

/-- A `BL_CMD` write with its OP and TARGET. -/
def State.blTrig (s : State) (m op t : Nat) : State :=
  s.regCommand m Rg.BL_CMD_OP.addr 4 (fun s => s.blCmd (op + t * 256))

/-- LBIST: `BL_CMD` with OP 1 (R403). -/
def execLbist (m : Master) (t : BitVec 13) (s : State) : Host.Outcome State Fault Refusal :=
  act s fun s => s.blTrig m 1 t.toNat

/-- MBIST_SPARE: `BL_CMD` with OP 2 (R404). -/
def execMbistSpare (m : Master) (t : BitVec 13) (s : State) : Host.Outcome State Fault Refusal :=
  act s fun s => s.blTrig m 2 t.toNat

/-- MBIST_ROTATION: `BL_CMD` with OP 3 (R404). -/
def execMbistRotation (m : Master) (t : BitVec 13) (s : State) : Host.Outcome State Fault Refusal :=
  act s fun s => s.blTrig m 3 t.toNat

/-- LOOPBACK: `BL_CMD` with OP 4 (R405). -/
def execLoopback (m : Master) (t : BitVec 13) (s : State) : Host.Outcome State Fault Refusal :=
  act s fun s => s.blTrig m 4 t.toNat

end Sys2Proof.Machine
end

