-- ==== Sys2Proof/Machine/Journal.lean ====
section
/-! DEFINITION. The Fixative journal and the serial flash it lives in (R408 to R419). -/

namespace Sys2Proof.Machine

/-! ### The flash -/

/-- A byte of the flash. [DESIGN CHOICE, unsafe: assumption 15] -/
def State.flByte (s : State) (a : Nat) : Byte := Tab.get s.flash a 0xFF

/-- `n` bytes of the flash. -/
def State.flBytes (s : State) (a n : Nat) : List Byte := (List.range n).map (fun i => s.flByte (a + i))

/-- The value of `n` flash bytes. -/
def State.flNat (s : State) (a n : Nat) : Nat := leNat (s.flBytes a n)

/-- The state with one flash byte set. -/
def State.flPut (s : State) (a : Nat) (b : Byte) : State := { s with flash := Tab.set s.flash a 0xFF b }

/-- A program operation: it clears bits, and sets none (R408). -/
def State.flProgram (s : State) (a : Nat) : List Byte → State
  | [] => s
  | b :: r => (s.flPut a (s.flByte a &&& b)).flProgram (a + 1) r

/-- The erase of a sector of 4 KiB. -/
def State.flErase (s : State) (a : Nat) : State :=
  { s with flash := s.flash.filter (fun e => !(decide (a ≤ e.1) && decide (e.1 < a + 4096))) }

/-! ### Sectors and slots (R408, R409) -/

/-- The flash address of a sector. -/
def State.jSector (s : State) (k : Nat) : Nat := s.get Rg.JNL_BASE + 4096 * (k % 256)

/-- The flash address of a slot. -/
def State.jSlot (s : State) (k slot : Nat) : Nat := s.jSector k + 64 * slot

/-- HSTATE of a sector. -/
def State.jHstate (s : State) (k : Nat) : Nat := (s.flByte (s.jSector k + 0x3F)).toNat

/-- Whether a sector is READY: its state, its magic and its CRC (R409). -/
def State.jReady (s : State) (k : Nat) : Bool :=
  s.jHstate k == 0x3F && s.flNat (s.jSector k) 4 == 0x46584A31 &&
    s.flNat (s.jSector k + 0x38) 4 == crc32c (s.flBytes (s.jSector k) 0x38)

/-- Sectors that are BAD. -/
def State.jBad (s : State) : List Nat := (List.range 256).filter (fun k => s.jHstate k == 0)

/-- The next sector after `k` that is not BAD. [DEDUCED, unsafe: assumption 53] -/
def State.jNext (s : State) (k : Nat) : Option Nat :=
  ((List.range 256).map (fun i => (k + 1 + i) % 256)).find? (fun j => s.jHstate j != 0)

/-- SSEQ of a sector. -/
def State.jSseq (s : State) (k : Nat) : Nat := s.flNat (s.jSector k + 4) 4

/-- The highest ERASE_COUNT found in READY headers (R416). -/
def State.jMaxErase (s : State) : Nat :=
  ((List.range 256).filter s.jReady).foldl (fun m k => max m (s.flNat (s.jSector k + 8) 4)) 0

/-- The sector of the highest SSEQ among some. -/
def State.jNewestOf (s : State) (ks : List Nat) : Option Nat :=
  ks.foldl (fun b k =>
    match b with
    | none => some k
    | some j => if s.jSseq j < s.jSseq k then some k else some j) none

/-- What a scan makes of a slot (R416). -/
inductive SlotKind where
  | free | torn | valid | corrupt
deriving DecidableEq, Repr

/-- The class of a slot: free when all of it reads 0xFF; committed records are valid when their CRC matches; everything
else is torn (R416). -/
def State.jKind (s : State) (k slot : Nat) : SlotKind :=
  let a := s.jSlot k slot
  let st := (s.flByte (a + 0x3F)).toNat
  if st = 0xFF ∧ (s.flBytes a 64).all (· == 0xFF) then .free
  else if st = 0x3F then
    if s.flNat (a + 0x38) 4 = crc32c (s.flBytes a 0x38) then .valid else .corrupt
  else .torn

/-- Slots 1 to 63. -/
def jSlots : List Nat := (List.range 63).map (· + 1)

/-- Whether a sector holds nothing but its header. -/
def State.jEmpty (s : State) (k : Nat) : Bool := jSlots.all (fun i => s.jKind k i == SlotKind.free)

/-- What the scan takes as the sector that was being written, and the empty one that was prepared after it: a sector is
prepared when the one before it is started, so an empty READY sector of the highest SSEQ is the next one where another READY
sector precedes it (R414, R416). [DEDUCED, unsafe: assumption 53] -/
def State.jNewest (s : State) : Option (Nat × Option Nat) :=
  let ready := (List.range 256).filter s.jReady
  match s.jNewestOf ready with
  | none => none
  | some k =>
    if s.jEmpty k then
      match s.jNewestOf (ready.filter (· ≠ k)) with
      | some j => some (j, some k)
      | none => some (k, none)
    else some (k, none)

/-- The highest valid SEQ plus 1 (R416). [DEDUCED, unsafe: assumption 53] -/
def State.jNextSeq (s : State) : Nat :=
  ((List.range 256).filter s.jReady).foldl (fun m k =>
    jSlots.foldl (fun m i => if s.jKind k i = .valid then max m (s.flNat (s.jSlot k i + 4) 4 + 1) else m) m) 0

/-- The first free slot after the last of 1 to 61 that is not free; 62 when there is none (R416). -/
def State.jFirstFree (s : State) (k : Nat) : Nat :=
  ((List.range 61).map (· + 1)).foldl (fun p i => if s.jKind k i = .free then p else i + 1) 1

/-! ### Starting and stopping (R415, R416, R419) -/

/-- A write of `JNL_CTRL`: the enable reads the flash's tables, and is refused for a flash without erase suspend and for a
region outside the flash (R415, R419). [DEDUCED, unsafe: assumptions 53, 54] -/
def State.jnlCtrl (s : State) (v : Nat) : WRes :=
  if bits v 0 0 = 0 then .ok { (s.set Rg.JNL_CTRL_ENABLE 0).set Rg.JNL_STATUS_READY 0 with jnl := { s.jnl with scanning := false } }
  else if s.flag Rg.JNL_CTRL_ENABLE then .ok s
  else if ¬ s.flashInfo.suspend then .refused (s.set Rg.JNL_STATUS_NO_SUSPEND 1)
  else if s.flashInfo.size < s.get Rg.JNL_BASE + 2 ^ 20 then .refused (s.set Rg.JNL_STATUS_NO_SUSPEND 0)
  else
    let s := ((s.set Rg.JNL_STATUS_NO_SUSPEND 0).setBit Rg.JNL_STATUS_SLOW_FLASH s.flashInfo.slow).set Rg.JNL_CTRL_ENABLE 1
    .ok { s with jnl := { s.jnl with scanning := true } }

/-- JOURNAL_ENABLE: `JNL_CTRL` written with ENABLE, and what the tables of the flash declare (R415).
[DEDUCED, unsafe: assumption 56] -/
def execJournalEnable (m : Master) (v : Word) (info : FlashInfo) (s : State) : Host.Outcome State Fault Refusal :=
  act s fun s =>
    s.regCommand m Rg.JNL_CTRL_ENABLE.addr 4 (fun s => { s with flashInfo := info }.jnlCtrl (Nat.lor v.toNat 1))

/-- JOURNAL_SCAN_DONE: the scan sets SEQ, the write position and READY (R414 to R416). A current sector whose reserved
slots are not both free is left; with no READY sector the next one prepared is sector 0.
[DEDUCED, unsafe: assumption 53] -/
def execJournalScanDone (s : State) : Host.Outcome State Fault Refusal :=
  act s fun s =>
    if ¬ s.jnl.scanning then s
    else
      let bad := s.jBad.length
      let s := ((s.set Rg.JNL_BAD_SECT bad).set Rg.JNL_MAX_ERASE s.jMaxErase).set Rg.JNL_SEQ s.jNextSeq
      let s := match s.jNewest with
        | none => { (s.set Rg.JNL_STATUS_SECTOR 255).set Rg.JNL_STATUS_SLOT 62 with jnl := { s.jnl with sseq := 0, next := none, left := true } }
        | some (k, next) =>
          let torn := (jSlots.filter (fun i => s.jKind k i = SlotKind.torn)).length
          let corrupt := (jSlots.filter (fun i => s.jKind k i = SlotKind.corrupt)).length
          let keep := s.jKind k 62 = SlotKind.free ∧ s.jKind k 63 = SlotKind.free
          let pos := s.jFirstFree k
          let q := s.jSseq (next.getD k)
          let s := (s.bumpBy Rg.JNL_TORN_CNT torn).bumpBy Rg.JNL_CRC_ERR_CNT corrupt
          let s := if torn = 0 then s else s.raise Rg.JNL_INT_STATUS_TORN_FOUND
          { (s.set Rg.JNL_STATUS_SECTOR k).set Rg.JNL_STATUS_SLOT (if keep then pos else 62) with
            jnl := { s.jnl with sseq := q, next := next, left := !decide keep } }
      let s := { s.set Rg.JNL_STATUS_READY 1 with jnl := { s.jnl with scanning := false } }
      if 256 - bad < 8 then (s.set Rg.JNL_STATUS_FAILED 1).raise Rg.JNL_INT_STATUS_FAILED else s

/-! ### Submitting records (R411, R412) -/

/-- Records staged and not yet written. -/
def State.jPending (s : State) : Nat :=
  (s.get Rg.JNL_STAGE_PTR_TAIL + 64 - s.get Rg.JNL_STAGE_PTR_HEAD) % 64

/-- A write of `JNL_PUSH` (R412). -/
def State.jnlPush (s : State) (v : Nat) : WRes :=
  if bits v 0 0 = 0 then .ok s
  else if 63 ≤ s.jPending then
    .refused ((s.bump Rg.JNL_STAGE_FULL_CNT).raise Rg.JNL_INT_STATUS_STAGE_FULL)
  else .ok (s.set Rg.JNL_STAGE_PTR_TAIL ((s.get Rg.JNL_STAGE_PTR_TAIL + 1) % 64))

/-- JNL_PUSH_GO: `JNL_PUSH` written with GO (R412). -/
def execJnlPushGo (m : Master) (v : Word) (s : State) : Host.Outcome State Fault Refusal :=
  act s fun s => s.regCommand m Rg.JNL_PUSH_GO.addr 4 (fun s => s.jnlPush (Nat.lor v.toNat 1))

/-- A write of `JNL_BASE` or `JNL_STAGE_OFF`: only while ENABLE is 0, the low bits 0 (R419, R506). -/
def State.jnlOff (s : State) (f : Fld) (low v : Nat) : WRes :=
  if s.flag Rg.JNL_CTRL_ENABLE ∨ v % low ≠ 0 then .refused s else .ok (s.set f v)

/-- The 0x38 bytes of a record (R410). -/
def State.jBody (s : State) (type src : Nat) (payload : List Byte) : List Byte :=
  leBytes 1 type ++ leBytes 1 0 ++ leBytes 2 src ++ leBytes 4 (s.get Rg.JNL_SEQ) ++ leBytes 8 s.mc ++
    leBytes 8 s.calTime ++ leBytes 8 (s.get2 Rg.FT_FRAME_LO Rg.FT_FRAME_HI) ++
    (payload ++ List.replicate (24 - payload.length) 0)

/-- The journal engine forms an urgent record from registers; it waits for a flash program (R411, R415). -/
def State.jUrgent (s : State) (type : Nat) (payload : List Byte) : State :=
  if s.flag Rg.JNL_CTRL_ENABLE then
    { s with jnl := { s.jnl with urgent := s.jnl.urgent ++ [s.jBody type 0 payload] } }
  else s

/-- The payload of a LAST_RESORT record (R336, R411): `VT_STATUS`, the last retired PCs of the three cores, and
`VT_LR_CAUSE`. -/
def State.lrPayload (s : State) (vt : Nat) (pcs : List Word) : List Byte :=
  leBytes 4 vt ++ (pcs.map (fun p => leBytes 4 p.toNat)).flatten ++ leBytes 4 (s.get Rg.VT_LR_CAUSE)

/-! ### Writing (R413 to R415) -/

/-- The body of a record with its SEQ and CRC as the engine sets them (R412, R413). -/
def State.jFinish (s : State) (body : List Byte) : List Byte :=
  let b := body.take 4 ++ leBytes 4 (s.get Rg.JNL_SEQ) ++ (body.drop 8).take 0x30
  b ++ leBytes 4 (crc32c b)

/-- The operation under way is over: a suspended erase resumes (R415). -/
def State.jIdle (s : State) : State :=
  match s.jnl.susp with
  | some o => { s with jnl := { s.jnl with op := some o, susp := none } }
  | none => { s with jnl := { s.jnl with op := none } }.set Rg.JNL_STATUS_BUSY 0

/-- A program or erase starts; a journal that has FAILED starts none (R414). -/
def State.jStart (s : State) (o : FlashOp) : State :=
  if s.flag Rg.JNL_STATUS_FAILED then s.jIdle
  else { s with jnl := { s.jnl with op := some o } }.set Rg.JNL_STATUS_BUSY 1

/-- The prepared sector becomes the current one (R414). -/
def State.jAdvance (s : State) : State :=
  match s.jnl.next with
  | none => s
  | some k =>
    { (s.set Rg.JNL_STATUS_SECTOR k).set Rg.JNL_STATUS_SLOT 1 with jnl := { s.jnl with next := none, left := false } }

/-- Takes a record in hand and starts its first program operation. -/
def State.jTake (s : State) (body : List Byte) (sector slot : Nat) (urgent : Bool) : State :=
  let b := s.jFinish body
  ({ s with jnl := { s.jnl with hand := some ⟨b, sector, slot, urgent⟩ } }.set Rg.JNL_SEQ (s.get Rg.JNL_SEQ + 1)).jStart
    (.record 1)

/-- The journal may write: enabled, scanned, not FAILED, no record in hand. -/
def State.jMayWrite (s : State) : Bool :=
  s.flag Rg.JNL_CTRL_ENABLE && s.flag Rg.JNL_STATUS_READY && !s.flag Rg.JNL_STATUS_FAILED && s.jnl.hand.isNone

/-- The first free reserved slot of a sector that can take a record. -/
def State.jReserved (s : State) (k : Nat) : Option (Nat × Nat) :=
  if ¬ s.jReady k then none
  else if s.jKind k 62 = .free then some (k, 62)
  else if s.jKind k 63 = .free then some (k, 63)
  else none

/-- Where an urgent record goes: the first free reserved slot of the current sector, unless the scan left it, else that of the
prepared one (R415, R417). -/
def State.jUrgentPlace (s : State) : Option (Nat × Nat) :=
  match (if s.jnl.left then none else s.jReserved (s.get Rg.JNL_STATUS_SECTOR)) with
  | some p => some p
  | none => s.jnl.next.bind s.jReserved

/-- Starts an urgent record that waits; an erase in progress is suspended for it (R415). -/
def State.jWriteUrgent (s : State) : State :=
  match s.jnl.urgent, s.jUrgentPlace with
  | b :: r, some (k, slot) =>
    match s.jnl.op with
    | none => { s with jnl := { s.jnl with urgent := r } }.jTake b k slot true
    | some (.erase a c) =>
      { s with jnl := { s.jnl with urgent := r, op := none, susp := some (.erase a c) } }.jTake b k slot true
    | some _ => s
  | _, _ => s

/-- Starts the oldest staged record in the current sector. The prepared sector becomes the current one when no ordinary slot is
left, and records wait in staging while the next sector is not prepared (R412, R414). The engine reads the entry as master 8;
one that it cannot read waits too (R353, R357). [DEDUCED, unsafe: assumption 111] -/
def State.jWriteStaged (s : State) : State :=
  if s.jPending = 0 ∨ s.jnl.op ≠ none then s
  else if 61 < s.get Rg.JNL_STATUS_SLOT then s.jAdvance
  else if s.jnl.next = none then s
  else
    match s.lmFetch 8 (s.get Rg.JNL_STAGE_OFF + 64 * s.get Rg.JNL_STAGE_PTR_HEAD) 0x38 with
    | (none, s) => s
    | (some bs, s) => s.jTake bs (s.get Rg.JNL_STATUS_SECTOR) (s.get Rg.JNL_STATUS_SLOT) false

/-- JOURNAL_RECORD_WRITE: the engine starts writing an urgent record, or else a staged one (R413, R415, R417). -/
def execJournalRecordWrite (s : State) : Host.Outcome State Fault Refusal :=
  act s fun s =>
    if ¬ s.jMayWrite then s
    else if s.jnl.urgent ≠ [] then s.jWriteUrgent
    else s.jWriteStaged

/-- SECTOR_PREPARE: the erase of the next sector that is not BAD starts (R414). -/
def execSectorPrepare (s : State) : Host.Outcome State Fault Refusal :=
  act s fun s =>
    if ¬ s.jMayWrite ∨ s.jnl.op ≠ none ∨ s.jnl.next ≠ none then s
    else
      match s.jNext (s.get Rg.JNL_STATUS_SECTOR) with
      | none => s
      | some k =>
        let c := if s.jReady k then s.flNat (s.jSector k + 8) 4 else s.get Rg.JNL_MAX_ERASE
        s.jStart (.erase k (c + 1))

/-- A sector becomes BAD (R413, R414): with fewer than 8 left the journal stops. -/
def State.jSectorBad (s : State) (k : Nat) : State :=
  let s := s.flProgram (s.jSector k + 0x3F) [0]
  let s := ((s.set Rg.JNL_BAD_SECT s.jBad.length).raise Rg.JNL_INT_STATUS_BAD_SECTOR)
  if 256 - s.jBad.length < 8 then (s.set Rg.JNL_STATUS_FAILED 1).raise Rg.JNL_INT_STATUS_FAILED else s

/-- The header bytes 0x00 to 0x3B of a sector being prepared (R409). -/
def jHeader (sseq count : Nat) : List Byte :=
  let b := leBytes 4 0x46584A31 ++ leBytes 4 sseq ++ leBytes 4 count ++ List.replicate 44 0xFF
  b ++ leBytes 4 (crc32c b)

/-- A record is committed (R413). -/
def State.jCommit (s : State) (r : JRec) : State :=
  let s := ({ s with jnl := { s.jnl with hand := none } }.bump Rg.JNL_REC_CNT).raise Rg.JNL_INT_STATUS_COMMIT
  let s := if r.urgent then s
    else (s.set Rg.JNL_STAGE_PTR_HEAD ((s.get Rg.JNL_STAGE_PTR_HEAD + 1) % 64)).set Rg.JNL_STATUS_SLOT (r.slot + 1)
  s.jIdle

/-- One operation completes well (R413, R414). -/
def State.jOpDone (s : State) (o : FlashOp) : State :=
  match o, s.jnl.hand with
  | .record 1, some r => (s.flProgram (s.jSlot r.sector r.slot + 0x3F) [0x7F]).jStart (.record 2)
  | .record 2, some r => (s.flProgram (s.jSlot r.sector r.slot) r.body).jStart (.record 3)
  | .record _, some r => (s.flProgram (s.jSlot r.sector r.slot + 0x3F) [0x3F]).jCommit r
  | .record _, none => s.jIdle
  | .erase k c, _ => (s.flErase (s.jSector k)).jStart (.header k c)
  | .header k c, _ =>
    let s := { s with jnl := { s.jnl with sseq := s.jnl.sseq + 1 } }
    let s := s.set Rg.JNL_MAX_ERASE (max (s.get Rg.JNL_MAX_ERASE) c)
    (s.flProgram (s.jSector k) (jHeader s.jnl.sseq c)).jStart (.hstate k)
  | .hstate k, _ => { (s.flProgram (s.jSector k + 0x3F) [0x3F]) with jnl := { s.jnl with next := some k } }.jIdle

/-- The sector an operation works on. -/
def opSector (o : FlashOp) (h : Option JRec) : Nat :=
  match o, h with
  | .record _, some r => r.sector
  | .record _, none => 0
  | .erase k _, _ => k
  | .header k _, _ => k
  | .hstate k, _ => k

/-- A sector that has become BAD takes no more records: the current one has no ordinary slot left, and a prepared one is no
longer the next (R413). -/
def State.jLeave (s : State) (k : Nat) : State :=
  let s := if s.jnl.next = some k then { s with jnl := { s.jnl with next := none } } else s
  if s.get Rg.JNL_STATUS_SECTOR = k then s.set Rg.JNL_STATUS_SLOT 62 else s

/-- A record whose write is not retried: LAST_RESORT (R336). -/
def onceOnly (r : JRec) : Bool := r.urgent && r.body.headD 0 == 9

/-- One operation fails: its sector becomes BAD, and a record in hand is written again in the next prepared sector, save the
LAST_RESORT record, which is not (R336, R413). -/
def State.jOpFailed (s : State) (o : FlashOp) : State :=
  let k := opSector o s.jnl.hand
  let s := (s.jSectorBad k).jLeave k
  match o, s.jnl.hand with
  | .record _, some r =>
    let s := { s with jnl := { s.jnl with hand := none } }.set Rg.JNL_SEQ (s.get Rg.JNL_SEQ + 2 ^ 32 - 1)
    if r.urgent ∧ ¬ onceOnly r then { s with jnl := { s.jnl with urgent := r.body.take 0x38 :: s.jnl.urgent } }.jIdle
    else s.jIdle
  | _, _ => s.jIdle

/-- FLASH_OPERATION_DONE: the flash reports its program or erase as completed or as failed (R413, R414). -/
def execFlashOperationDone (ok : Bool) (s : State) : Host.Outcome State Fault Refusal :=
  act s fun s =>
    match s.jnl.op with
    | none => s
    | some o => if ok then s.jOpDone o else s.jOpFailed o

/-! ### Power lost during an operation (R416) -/

/-- Bytes that an interrupted erase leaves at any value. [DESIGN CHOICE, safe: assumption 55] -/
def State.flFree (s : State) : List Nat → State
  | [] => s
  | a :: r => let (v, s) := s.fresh 256; (s.flPut a (BitVec.ofNat 8 v)).flFree r

/-- Bytes whose program was interrupted: of the bits it was to clear, any may be clear (R408, R416).
[DESIGN CHOICE, safe: assumption 55] -/
def State.flPart (s : State) (a : Nat) : List Byte → State
  | [] => s
  | b :: r => let (v, s) := s.fresh 256; (s.flPut a (s.flByte a &&& (b ||| BitVec.ofNat 8 v))).flPart (a + 1) r

/-- A byte that holds one of some values. [DESIGN CHOICE, safe: assumption 55] -/
def State.flOneOf (s : State) (a : Nat) (vs : List Byte) : State :=
  let (v, s) := s.fresh vs.length
  s.flPut a (vs.getD v 0xFF)

/-- The values of HSTATE that the scan takes neither for READY nor for BAD (R416). -/
def hstateNeither : List Byte := (List.range 256).filterMap (fun v => if v = 0 ∨ v = 0x3F then none else some (BitVec.ofNat 8 v))

/-- What the flash holds when reset cuts off an operation (R416). A cut erase leaves a sector that is not READY, and is prepared
again before use. [DESIGN CHOICE, safe: assumption 55] -/
def State.flCut (s : State) : State :=
  let cut (s : State) (o : Option FlashOp) : State :=
    match o, s.jnl.hand with
    | some (.record 1), some r => s.flOneOf (s.jSlot r.sector r.slot + 0x3F) [0xFF, 0x7F]
    | some (.record 2), some r => s.flPart (s.jSlot r.sector r.slot) r.body
    | some (.record _), some r => s.flOneOf (s.jSlot r.sector r.slot + 0x3F) [0x7F, 0x3F]
    | some (.erase k _), _ =>
      (s.flFree ((List.range 4096).map (s.jSector k + ·))).flOneOf (s.jSector k + 0x3F) hstateNeither
    | some (.header k c), _ => s.flPart (s.jSector k) (jHeader (s.jnl.sseq + 1) c)
    | some (.hstate k), _ => s.flOneOf (s.jSector k + 0x3F) [0xFF, 0xBF, 0x7F]
    | _, _ => s
  let s := cut (cut s s.jnl.op) s.jnl.susp
  { s with jnl := {} }

end Sys2Proof.Machine
end

