-- ==== Sys2Proof/Machine/HostLink.lean ====
section
/-! DEFINITION. The PCIe endpoint as requester: posted writes, MSI-X messages and wakes (R467, R470 to R473). -/

namespace Sys2Proof.Machine

/-- What the endpoint's configuration space reads as: Device ID, Revision ID and class code (R466). -/
def pcieDeviceId : Nat := 0x8191
@[inherit_doc pcieDeviceId] def pcieRevisionId : Nat := 0xB0
@[inherit_doc pcieDeviceId] def pcieClassCode : Nat := 0x118000

/-- The identifiers of the capabilities of R466: PCI Express, Power Management, MSI-X, AER, L1 PM Substates, LTR and Device
Serial Number. [PRESUMED, unsafe: assumption 134] -/
def pcieCaps : List Nat := [0x10, 0x01, 0x11, 0x0001, 0x001E, 0x0018, 0x0003]

/-- What a configuration register reads as (R466, R469, R471). [PRESUMED, unsafe: assumption 134] -/
def State.cfgRead (s : State) : CfgReg → Nat
  | .ids => Config.vendorId.toNat + pcieDeviceId * 2 ^ 16
  | .revClass => pcieRevisionId + pcieClassCode * 2 ^ 8
  | .cap i => pcieCaps.getD i 0
  -- a Max Payload Size of 512 bytes
  | .devCap => 2
  | .linkControl => if s.aspm then 2 else 0
  | .aerCorrectable => if s.aerAdvisory then 2 ^ 13 else 0
  | .serial => Config.serialNo.toNat

/-- What a configuration write does: Link Control holds the host's ASPM setting, and a 1 clears the advisory error of AER; no
image and no host changes what the device is (R466, R471).
[DEDUCED, unsafe: assumption 99; PRESUMED, unsafe: assumption 134] -/
def State.cfgWrite (s : State) (r : CfgReg) (v : Nat) : State :=
  match r with
  | .linkControl => { s with aspm := v.testBit 1 }
  | .aerCorrectable => if v.testBit 13 then { s with aerAdvisory := false } else s
  | _ => s

/-- The endpoint may issue requests: D0, the link up, PCIE_PERST_N high (R471). -/
def State.hostReady (s : State) : Bool :=
  s.get Rg.HB_STATUS_DSTATE == 0 && decide (s.get Rg.HB_STATUS_LSTATE < 4) && !s.flag Rg.HB_STATUS_PERST

/-- A byte of the MSI-X table; the vector control of an entry reads as masked until it is written (assumption 10).
[PRESUMED, unsafe: assumption 10] -/
def State.msixByte (s : State) (a : Nat) : Nat := Tab.get s.msix a (if a % 16 = 12 then 1 else 0)

/-- A byte of the MSI-X table written. -/
def State.setMsixByte (s : State) (a v : Nat) : State :=
  { s with msix := Tab.set s.msix a (if a % 16 = 12 then 1 else 0) (v % 256) }

/-- `n` bytes of the MSI-X table as a value. -/
def State.msixNat (s : State) (a : Nat) : Nat → Nat
  | 0 => 0
  | n + 1 => s.msixByte a + 256 * s.msixNat (a + 1) n

/-- Sends the message of a vector, or sets its pending bit while the vector is masked or the endpoint may issue nothing
(R470, R471). -/
def State.msi (s : State) (v : Nat) : State :=
  if s.hostReady ∧ s.msixByte (16 * v + 12) % 2 = 0 then
    { s with msixPend := s.msixPend.filter (· ≠ v) }.emit (.msi v (s.msixNat (16 * v) 8) (s.msixNat (16 * v + 8) 4))
  else { s with msixPend := s.msixPend.filter (· ≠ v) ++ [v] }

/-- Pending vectors that may be sent now are sent (R470). -/
def State.msiFlush (s : State) : State := s.msixPend.foldl State.msi s

/-- WAKE_N is driven low: a wake is pending (R472). -/
def State.wakeLow (s : State) : Bool := s.flag Rg.HB_STATUS_WAKE_PENDING

/-- A collision of a wake with a host exit (R473). -/
def State.wakeMerge (s : State) : State :=
  (((s.set Rg.HB_STATUS_WAKE_PENDING 0).raise Rg.HB_STATUS_WAKE_MERGED).bump Rg.HB_WAKE_MERGE_CNT).raise
    Rg.HB_INT_STATUS_WAKE_MERGED

/-- A wake arises: pending and driven in D3hot or D3cold, merged into a host exit under way (R472, R473). -/
def State.wake (s : State) : State :=
  if ¬ s.flag Rg.HB_CTRL_WAKE_EN ∨ s.get Rg.HB_STATUS_DSTATE = 0 then s
  else if s.hostExit then s.wakeMerge
  else s.raise Rg.HB_STATUS_WAKE_PENDING

/-- A DEST 1 channel waits with an item: that makes one wake, and none anew until the wait is over or the endpoint has been in D0
(R472, R473). -/
def State.wakeFor (s : State) (r : Nat) : State :=
  if ¬ s.flag Rg.HB_CTRL_WAKE_EN ∨ s.get Rg.HB_STATUS_DSTATE = 0 ∨ r ∈ s.woken then s
  else { s with woken := s.woken ++ [r] }.wake

/-- Every DEST 1 readout channel that waits with an item (R472). -/
def State.hostWaits (s : State) : List Nat :=
  (List.range 16).filter (fun r => s.flag (Rg.RD_CFG_ENABLE r) && s.flag (Rg.RD_CFG_DEST r) && s.flag (Rg.RD_STATUS_WAITING r))

/-- Wakes become possible, in D3hot or D3cold: every channel that waits makes its wake (R472). -/
def State.wakeWaiting (s : State) : State := s.hostWaits.foldl State.wakeFor s

/-- Channel `r` waits no more. -/
def State.waitOver (s : State) (r : Nat) : State :=
  { s.set (Rg.RD_STATUS_WAITING r) 0 with woken := s.woken.filter (· ≠ r) }

end Sys2Proof.Machine
end

