-- ==== Sys2Proof/Machine/Verdict.lean ====
section
/-! DEFINITION. The verdict unit and the readout channels: words, pins, sillage, verdict queues, verdict frames and
readout items (R244 to R260). -/

namespace Sys2Proof.Machine

/-! ### Words (R244 to R246) -/

/-- A verdict word (R244). -/
def verdictWord (trigger quality crossing frame : Nat) : Nat :=
  trigger % 2 ^ 16 + quality % 256 * 2 ^ 16 + crossing % 64 * 2 ^ 24 + frame % 4 * 2 ^ 30

/-- Reads halves of one slot's partial area, each once, as four u16 apiece; those of an uncorrectable half are none.
[DEDUCED, unsafe: assumption 29] -/
def State.readHalves (s : State) (a : Nat) : Nat → List (Option Nat) × State
  | 0 => ([], s)
  | n + 1 =>
    match s.readHalves a n with
    | (r, s) =>
      match s.stRead (a + 8 * n) 8 srcQueue with
      | (.data bs, s) => (r ++ (List.range 4).map (fun j => some (leNat ((bs.drop (2 * j)).take 2))), s)
      | (.bad _, s) => (r ++ List.replicate 4 none, s)

/-- The u16 of the first `n` crossings of one slot's partial area (R245). -/
def State.readPartials (s : State) (a n : Nat) : List (Option Nat) × State :=
  match s.readHalves a ((n + 3) / 4) with
  | (r, s) => (r.take n, s)

/-- The partial verdicts of the slots, F u16 each; a slot without a valid one has none (R245).
[DEDUCED, unsafe: assumption 29] -/
def State.readSlots (s : State) (invalid : Nat) : List Nat → Tab (List (Option Nat)) × State
  | [] => ([], s)
  | k :: r =>
    if invalid.testBit k then s.readSlots invalid r
    else
      match s.readPartials (s.get Rg.VU_PV_BASE + 128 * k) s.frameF with
      | (p, s) =>
        match s.readSlots invalid r with
        | (t, s) => (Tab.put t k p, s)

/-- A trigger bit of a crossing: the OR or the AND of the contributions of the slots that `VU_SLOTSb` names (R246). -/
def State.trigBit (s : State) (parts : Tab (List (Option Nat))) (c b : Nat) : Bool :=
  let dflt := (s.get Rg.VU_DEFAULT).testBit b
  let slots := (List.range 64).filter (fun k => (s.get (Rg.VU_SLOTS b)).testBit k)
  let vals := slots.map (fun k =>
    match (Tab.get parts k []).getD c none with
    | some u => u.testBit b
    | none => dflt)
  if slots = [] then dflt
  else if (s.get Rg.VU_COMBINE).testBit b then vals.all id else vals.any id

/-- The 16 trigger bits of a crossing. -/
def State.trigger (s : State) (parts : Tab (List (Option Nat))) (c : Nat) : Nat :=
  (List.range 16).foldl (fun v b => if s.trigBit parts c b then v + 2 ^ b else v) 0

/-- Whether a frame's words carry ALLDEF (R32, R246, R255, R443). -/
def State.allDef (s : State) : Bool :=
  !(s.ft.evalRun && s.ft.anyRun) || s.ft.baseStop || s.flag Rg.VU_STATUS_CFG_ERR

/-- The quality flags of the frame in evaluation (R32, R61). -/
def State.quality (s : State) : Nat :=
  let f (b : Bool) (n : Nat) : Nat := if b then 2 ^ n else 0
  f (s.vu.late != 0) 0 + f s.vu.qFault 1 + (s.hdr s.evalBuf 0x18 / 2 ^ 32 % 32 / 4 * 4) + f s.ft.leanRun 5 +
    f s.allDef 6

/-- The number of the frame in collection. -/
def State.frameNo (s : State) : Nat := s.get2 Rg.FT_FRAME_LO Rg.FT_FRAME_HI

/-- The number of the frame `d` before the one in collection. -/
def State.frameAgo (s : State) (d : Nat) : Nat := (s.frameNo + 2 ^ 64 - d) % 2 ^ 64

/-- The verdict unit assembles the words of the frame in evaluation, and they join those that wait for their crossings
(R246, R247). -/
def State.assemble (s : State) : State :=
  let k := s.frameAgo 1
  let q := s.quality
  match (if s.allDef then ([], s) else s.readSlots (Nat.lor s.vu.late s.vu.fault) (List.range 64)) with
  | (parts, s) =>
    let words := (List.range s.frameF).map (fun c =>
      verdictWord (if q / 64 % 2 = 1 then s.get Rg.VU_DEFAULT else s.trigger parts c) q c k)
    { s with vu := { s.vu with fifo := s.vu.fifo ++ words, cur := some ⟨k, words, q, s.vu.late, s.vu.fault⟩ } }

/-! ### Pins (R35, R248, R508) -/

/-- A crossing without a word: VVALID is low. -/
def State.vuQuiet (s : State) : State := { s with vu := { s.vu with out := none } }

/-- A crossing with a word, where one is left. While `PIN_EN` is 0, the drivers are disabled or the test port drives the pins,
they do not carry it (R248, R477, R504). -/
def State.vuNext (s : State) : State :=
  match s.vu.fifo with
  | w :: r =>
    let s := { s with vu := { s.vu with fifo := r, out := some w } }
    if s.flag Rg.VU_CTRL_PIN_EN ∧ s.force Rg.PAD_CTRL_VERDICT_EN ≠ 0 ∧ s.jtag.ownPins then s.emit (.verdict w) else s
  | [] => s.vuQuiet

/-- The crossing with index `x` since the lock opens: from crossing 2F + E on, one word leaves (R35, R508).
[DEDUCED, unsafe: assumption 21] -/
def State.vuCrossing (s : State) (x : Nat) : State :=
  if x < 2 * s.frameF + s.get Rg.FT_CFG_E then s else s.vuNext

/-- The levels of VERDICT[15:0] in one half of a crossing, and of VVALID; none while their drivers are disabled (R248, R450,
R504, R505). [DEDUCED, unsafe: assumption 106] -/
def State.verdictPins (s : State) (refHigh : Bool) : Option (Nat × Bool) :=
  if s.force Rg.PAD_CTRL_VERDICT_EN = 0 then none
  else
    match s.vu.out with
    | none => some (0, false)
    | some w =>
      if ¬ s.flag Rg.VU_CTRL_PIN_EN then some (0, true)
      else some (if refHigh then w % 2 ^ 16 else w / 2 ^ 16, true)

/-- VVALID falls and no further word leaves (R39, R40). [DEDUCED, unsafe: assumption 28] -/
def State.vuDrop (s : State) : State := { s with vu := { s.vu with fifo := [], out := none, cur := none } }

/-! ### Sillage (R253, R254) -/

/-- The sillage stops (R254). -/
def State.freeze (s : State) : State :=
  if s.flag Rg.VU_STATUS_FROZEN then s else (s.raise Rg.VU_STATUS_FROZEN).raise Rg.VU_INT_STATUS_FROZEN

/-- An event that may freeze the sillage: bit of `FREEZE_ON`. -/
def State.freezeOn (s : State) (bit : Nat) : State :=
  if (s.get Rg.VU_SIL_CFG_FREEZE_ON).testBit bit then s.freeze else s

/-- The two words of a header-ring entry after the frame number. -/
def silHeader (s : State) (f : VFrame) : Nat :=
  s.vu.silX % 2 ^ 32 + s.get Rg.FT_CFG_F_M1 * 2 ^ 32 + s.get Rg.FT_CFG_E * 2 ^ 40 + f.quality * 2 ^ 48

/-- Writes a frame's words into the word ring, from entry X on. -/
def State.silWords (s : State) (ws : List Nat) : State :=
  let e := s.vu.silX % 65536
  let b := s.get Rg.VU_SIL_BASE
  let first := ws.take (65536 - e)
  let rest := ws.drop (65536 - e)
  (s.devWrite (b + 4 * e) ((first.map (leBytes 4)).flatten) srcQueue).devWrite b ((rest.map (leBytes 4)).flatten) srcQueue

/-- The counters are updated, and the frame's words and header are written to the sillage, where it is enabled and not frozen
(R21, R33, R253 to R255). -/
def State.sillage (s : State) : State :=
  match s.vu.cur with
  | none => s
  | some f =>
    let s := if f.quality / 2 ^ 0 % 4 ≠ 0 ∨ f.quality / 64 % 2 = 1 then s.bump Rg.FT_DEFAULT_CNT else s
    let s := if f.late = 0 then s else s.bump Rg.FT_OVERRUN_CNT
    if ¬ s.flag Rg.VU_CTRL_SIL_EN ∨ s.flag Rg.VU_STATUS_FROZEN ∨ s.vu.silWait ∨ s.flag Rg.VU_STATUS_CFG_ERR then s
    else
      let h := s.get Rg.VU_SIL_BASE + 0x40000 + 32 * (f.frame % 1024)
      let s := (s.devWrite64 h f.frame srcQueue).devWrite64 (h + 8) (silHeader s f) srcQueue
      let s := (s.devWrite64 (h + 16) f.late srcQueue).devWrite64 (h + 24) f.fault srcQueue
      let s := s.silWords f.words
      { s with vu := { s.vu with silX := s.vu.silX + f.words.length } }

/-! ### Chunks: verdict frames and verdict-queue items (R249 to R251) -/

/-- Two verdict words to a payload word; 0 beyond the last (R249). -/
def pairWords : List Nat → List Nat
  | [] => []
  | [a] => [a]
  | a :: b :: r => (a + b * 2 ^ 32) :: pairWords r

/-- The payloads of the chunks of 28 crossings, from crossing `first` on; `n` bounds their number (R249). -/
def chunksFrom (frame first : Nat) (ws : List Nat) : Nat → List (List Nat)
  | 0 => []
  | n + 1 =>
    if ws = [] then []
    else
      let c := ws.take 28
      ((first + c.length * 2 ^ 6 + frame % 2 ^ 48 * 2 ^ 16) :: pairWords c) ::
        chunksFrom frame (first + 28) (ws.drop 28) n

/-- The payloads of a frame's chunks. -/
def chunks (f : VFrame) : List (List Nat) := chunksFrom f.frame 0 f.words 3

/-- What a lane holds. -/
def State.lane (s : State) (l : Nat) : LaneState := Tab.get s.lanes l {}

/-- The state with a lane changed. -/
def State.modLane (s : State) (l : Nat) (f : LaneState → LaneState) : State :=
  { s with lanes := Tab.put s.lanes l (f (s.lane l)) }

/-- Whether a lane is in service (R428). -/
def State.inService (s : State) (l : Nat) : Bool := s.get (Rg.LN_STATUS_STATE l) == 2

/-- The header word of a Saonjo frame (R48). -/
def saonjoHeader (type source frame count : Nat) : Nat :=
  count % 512 * 2 ^ 15 + frame % 2 ^ 16 * 2 ^ 24 + source % 2 ^ 16 * 2 ^ 40 + type % 256 * 2 ^ 56

/-- A chunk falls due on one lane: it waits for the transmitter, or is counted where the lane is not in service
(R250). [DEDUCED, unsafe: assumption 28] -/
def State.sendChunk (s : State) (frame : Nat) (payload : List Nat) (l : Nat) : State :=
  if s.inService l then
    let h := saonjoHeader 3 (s.get Rg.VU_LANE_CFG_SOURCE) frame payload.length
    s.modLane l (fun x => { x with txq := x.txq ++ [⟨l, s.get Rg.VU_LANE_CFG_VC, h :: payload⟩] })
  else s.bump Rg.VU_LANE_DROP_CNT

/-- The lanes that send verdict frames. -/
def State.verdictLanes (s : State) : List Nat :=
  (List.range 128).filter (fun l => (s.get (Rg.VU_LANE_EN (l / 32))).testBit (l % 32))

/-- Each chunk of the frame goes to every enabled lane (R250). -/
def State.sendVerdicts (s : State) : State :=
  match s.vu.cur with
  | none => s
  | some f => (chunks f).foldl (fun s p => s.verdictLanes.foldl (fun s l => s.sendChunk f.frame p l) s) s

/-- Writes the chunks of a frame to one verdict queue; from the first that does not fit on, they are discarded (R251). -/
def State.queueChunks (s : State) (q : Nat) : Bool → List (List Nat) → State
  | _, [] => s
  | true, _ :: r => (s.qDrop q).queueChunks q true r
  | false, p :: r =>
    match s.qPush q ⟨3, 0⟩ p with
    | (ok, s) => s.queueChunks q (!ok) r

/-- Whether the verdict unit writes items to Q(2560 + i). -/
def State.vqOn (s : State) (i : Nat) : Bool :=
  (if i < 32 then s.get Rg.VU_VQ_EN_LO else s.get Rg.VU_VQ_EN_HI).testBit (i % 32)

/-- cc 0 of the emission frame: the frame assembled in the frame before goes to the verdict queues (R247, R251). -/
def State.verdictItems (s : State) : State :=
  let s' := match s.vu.cur with
    | none => s
    | some f => ((List.range 64).filter s.vqOn).foldl (fun s i => s.queueChunks (2560 + i) false (chunks f)) s
  { s' with vu := { s'.vu with cur := none, late := 0, fault := 0, qFault := false, silWait := false } }

/-! ### Placement (R255) -/

/-- Whether a range of the store meets the ring of an enabled queue. -/
def State.meetsRing (s : State) (a n : Nat) : Bool :=
  (List.range 8192).any (fun q => s.qOn q && rangesMeet a n (s.get (Rg.Q_BASE q)) (8 * s.qN q))

/-- The check of the partial area and the sillage made at the transition from MEASURING (R245, R253, R255). The other
areas the device uses are the frame buffers, the checkpoint area, the channel table and the rings of the enabled queues.
[DEDUCED, unsafe: assumption 31] -/
def State.vuPlaced (s : State) : Bool :=
  let p := s.get Rg.VU_PV_BASE
  let q := s.get Rg.VU_SIL_BASE
  let buf := 0x800 + 8 * s.bufSlots
  let clear (a n : Nat) : Bool :=
    (List.range 4).all (fun i => !rangesMeet a n (s.bufBase i) buf) &&
      !rangesMeet a n (s.get Rg.EM_CHK_BASE) (64 * 0x24000) &&
      !(s.get Rg.CT_SIZE_COUNT_K != 0 && rangesMeet a n (s.get Rg.CT_BASE) (32768 * s.get Rg.CT_SIZE_COUNT_K)) && !s.meetsRing a n
  p % 4096 == 0 && q % 4096 == 0 && decide (p + 0x2000 ≤ storeTop) && decide (q + 0x48000 ≤ storeTop) &&
    !rangesMeet p 0x2000 q 0x48000 && clear p 0x2000 && clear q 0x48000

/-- The result of that check. [DEDUCED, unsafe: assumption 31] -/
def State.vuCheck (s : State) : State :=
  if s.vuPlaced then s.set Rg.VU_STATUS_CFG_ERR 0
  else (s.set Rg.VU_STATUS_CFG_ERR 1).raise Rg.VU_INT_STATUS_CFG_ERR

/-! ### Registers of the verdict unit (R254, R260) -/

/-- A write of `VU_SIL_CFG`. -/
def State.vuSilCfg (s : State) (v : Nat) : WRes :=
  let s := s.set Rg.VU_SIL_CFG_FREEZE_ON (bits v 2 0)
  .ok (if bits v 3 3 = 1 then s.freeze else s)

/-- A write of `VU_STATUS`: clearing FROZEN lets the writing resume at the next frame. -/
def State.vuStatus (s : State) (v : Nat) : WRes :=
  if bits v 0 0 = 1 ∧ s.flag Rg.VU_STATUS_FROZEN then
    .ok { s.set Rg.VU_STATUS_FROZEN 0 with vu := { s.vu with silWait := s.locked } }
  else .ok s

/-- FREEZE: `VU_SIL_CFG` written with FREEZE (R254). -/
def execFreeze (m : Master) (v : Word) (s : State) : Host.Outcome State Fault Refusal :=
  act s fun s => s.regCommand m Rg.VU_SIL_CFG_FREEZE_ON.addr 4 (fun s => s.vuSilCfg (Nat.lor v.toNat 8))

/-- SILLAGE_UNFREEZE: `VU_STATUS` written with FROZEN (R254). -/
def execSillageUnfreeze (m : Master) (v : Word) (s : State) : Host.Outcome State Fault Refusal :=
  act s fun s => s.regCommand m Rg.VU_STATUS_FROZEN.addr 4 (fun s => s.vuStatus (Nat.lor v.toNat 1))

/-! ### Readout channels (R256 to R258) -/

/-- Whether the queue of a channel may be drained: within Q2048 to Q2623, and no other enabled channel's. -/
def State.rdQueueOk (s : State) (r q : Nat) : Bool :=
  decide (2048 ≤ q) && decide (q ≤ 2623) &&
    (List.range 16).all (fun k => k == r || !s.flag (Rg.RD_CFG_ENABLE k) || s.get (Rg.RD_CFG_QUEUE k) != q)

/-- A write of `RD_CFG`: an enabled channel keeps its fields (R256). -/
def State.rdCfg (s : State) (r v : Nat) : WRes :=
  let en := bits v 0 0
  let same := s.get (Rg.RD_CFG_DEST r) = bits v 1 1 ∧ s.get (Rg.RD_CFG_QUEUE r) = bits v 14 2 ∧
    s.get (Rg.RD_CFG_LANE r) = bits v 21 15 ∧ s.get (Rg.RD_CFG_VC r) = bits v 24 22
  if s.flag (Rg.RD_CFG_ENABLE r) ∧ ¬ same then .refused s
  else if en = 1 ∧ ¬ s.rdQueueOk r (bits v 14 2) then .refused s
  else
    let s := ((s.set (Rg.RD_CFG_DEST r) (bits v 1 1)).set (Rg.RD_CFG_QUEUE r) (bits v 14 2)).set (Rg.RD_CFG_LANE r) (bits v 21 15)
    let s := (s.set (Rg.RD_CFG_VC r) (bits v 24 22)).set (Rg.RD_CFG_ENABLE r) en
    .ok (if en = 1 then s
      else { s.setBit (Rg.RD_STATUS_PAUSED r) (s.get Rg.DD_STATUS_TIER != 0) with
             rdHold := Tab.set s.rdHold r none none }.waitOver r)

/-- A write of `RD_TYPE`: only while the channel is disabled (R256). -/
def State.rdType (s : State) (r v : Nat) : WRes :=
  if s.flag (Rg.RD_CFG_ENABLE r) then .refused s
  else .ok ((s.set (Rg.RD_TYPE_TYPE r) (bits v 7 0)).set (Rg.RD_TYPE_VECTOR r) (bits v 13 8))

/-- READOUT_ENABLE: `RD_CFG` written with ENABLE (R256). -/
def execReadoutEnable (m : Master) (r : Fin 16) (v : Word) (s : State) : Host.Outcome State Fault Refusal :=
  act s fun s => s.regCommand m (Rg.RD_CFG_ENABLE r).addr 4 (fun s => s.rdCfg r (Nat.lor v.toNat 1))

/-- A host-ring register of a channel: writable only while it is disabled (R256). [DEDUCED, unsafe: assumption 127] -/
def State.rdRing (s : State) (r : Nat) (f : Fld) (v : Nat) : WRes :=
  if s.flag (Rg.RD_CFG_ENABLE r) then .refused s else .ok (s.set f v)

/-- The words of the head item of a queue: its header and its payload. The first address that is uncorrectable, where
there is one. -/
def State.rdRead (s : State) (q : Nat) : Option (List Nat) × Nat × State :=
  match (s.q q).items with
  | [] => (none, 0, s)
  | i :: _ =>
    let a := (s.q q).head
    (List.range (i.len + 1)).foldl (fun (r : Option (List Nat) × Nat × State) j =>
      match r with
      | (none, b, s) => (none, b, s)
      | (some ws, b, s) =>
        match s.stRead (s.qAddr q (a + j)) 8 srcQueue with
        | (.data bs, s) => (some (ws ++ [leNat bs]), b, s)
        | (.bad _, s) => (none, s.qAddr q (a + j), s)) (some [], 0, s)

/-- The bytes in use of a host ring (R256). -/
def State.rdUsed (s : State) (r : Nat) : Nat :=
  let n := 2 ^ (s.get (Rg.RD_HOST_SIZE_LOG2 r) + 1)
  (s.get (Rg.RD_HWPTR r) + n - s.get (Rg.RD_HRPTR r) % n) % n

/-- Writes words into a host ring, wrapping as queue rings do. -/
def State.rdPut (s : State) (r : Nat) : List Nat → State
  | [] => s
  | w :: ws =>
    let n := 2 ^ s.get (Rg.RD_HOST_SIZE_LOG2 r)
    let p := s.get (Rg.RD_HWPTR r)
    let s := s.emit (.pcieWrite (s.get2 (Rg.RD_HOST_BASE_LO r) (Rg.RD_HOST_BASE_HI r) + p % n) [w])
    (s.set (Rg.RD_HWPTR r) ((p + 8) % (2 * n))).rdPut r ws

/-- An item that has been sent is released from its queue, if it still stands there. -/
def State.rdRelease (s : State) (r head : Nat) : State :=
  let q := s.get (Rg.RD_CFG_QUEUE r)
  let s := (s.bump (Rg.RD_ITEM_CNT r)).qUse q
  if (s.q q).head = head ∧ (s.q q).items ≠ [] then s.qRelease q else s

/-- An item for the host: its words go to the ring and the vector is raised, or the channel waits (R256, R471, R472). -/
def State.rdHost (s : State) (r : Nat) (ws : List Nat) : State :=
  if ¬ s.hostReady then (s.set (Rg.RD_STATUS_WAITING r) 1).wakeFor r
  else if 2 ^ s.get (Rg.RD_HOST_SIZE_LOG2 r) < s.rdUsed r + 8 * ws.length then s.set (Rg.RD_STATUS_WAITING r) 1
  else
    let head := (s.q (s.get (Rg.RD_CFG_QUEUE r))).head
    (((s.waitOver r).rdPut r ws).msi (s.get (Rg.RD_TYPE_VECTOR r))).rdRelease r head

/-- An item for a lane: its frame waits for the transmitter of the lane (R256, R425).
[DEDUCED, unsafe: assumption 127] -/
def State.rdLane (s : State) (r : Nat) (h : Nat) (ws : List Nat) : State :=
  let q := s.get (Rg.RD_CFG_QUEUE r)
  let t := s.get (Rg.RD_TYPE_TYPE r)
  if ws.length = 16 ∧ t ≠ 1 then (s.qRelease q).bump (Rg.RD_OVERSIZE_CNT r)
  else
    let l := s.get (Rg.RD_CFG_LANE r)
    let f := saonjoHeader t (s.get Rg.VU_LANE_CFG_SOURCE) (h / 2 ^ 32) ws.length
    { s with rdHold := Tab.set s.rdHold r none (some ⟨⟨l, s.get (Rg.RD_CFG_VC r), f :: ws⟩, (s.q q).head⟩) }

/-- Whether a channel waits: its host ring is full, or the lane of the item it holds is not in service (R260). -/
def State.rdWaits (s : State) (r : Nat) : Bool :=
  s.flag (Rg.RD_STATUS_WAITING r) ||
    match Tab.get s.rdHold r none with
    | some i => !s.inService i.tx.lane
    | none => false

/-- A drydown tier holds the channels, each from an item boundary on: one that has read an item sends it first (R258). -/
def State.rdPause (s : State) : State :=
  ((List.range 16).filter (fun r => Tab.get s.rdHold r none == none)).foldl
    (fun s r => s.set (Rg.RD_STATUS_PAUSED r) 1) s

/-- READOUT_ITEM_SEND: channel `r` reads the whole head item of its queue and sends it to its host ring, or hands it to
its lane; an uncorrectable word halts it (R256 to R258). The last-resort controller and every drydown tier hold the
channels (R258, R335). -/
def State.readoutItem (s : State) (r : Nat) : State :=
  let q := s.get (Rg.RD_CFG_QUEUE r)
  let s := if s.flag (Rg.RD_CFG_ENABLE r) then s.qUse q else s
  if ¬ s.flag (Rg.RD_CFG_ENABLE r) ∨ s.flag (Rg.RD_STATUS_HALTED r) ∨ s.get Rg.DD_STATUS_TIER ≠ 0 ∨ s.lastResort ∨
      Tab.get s.rdHold r none ≠ none ∨ (s.q q).ready = [] then s
  else
    match s.rdRead q with
    | (none, a, s) =>
      ((s.set (Rg.RD_STATUS_HALTED r) 1).set (Rg.RD_UE_ADDR r) a).raise Rg.VU_INT_STATUS_RD_HALT
    | (some ws, _, s) =>
      if s.flag (Rg.RD_CFG_DEST r) then s.rdHost r ws else s.rdLane r (ws.headD 0) ws.tail

@[inherit_doc State.readoutItem]
def execReadoutItemSend (r : Fin 16) (up : Option Upset) (s : State) : Host.Outcome State Fault Refusal :=
  act s fun s => (s.upsetOpt up).readoutItem r

/-- A write of `RD_CMD`: RESUME lets a halted channel try its head item again (R257). -/
def State.rdCmd (s : State) (r v : Nat) : WRes :=
  .ok (if bits v 0 0 = 1 ∧ s.flag (Rg.RD_STATUS_HALTED r) then (s.set (Rg.RD_STATUS_HALTED r) 0).readoutItem r else s)

/-- READOUT_RESUME: `RD_CMD` written with RESUME: the head item is tried again (R257). -/
def execReadoutResume (m : Master) (r : Fin 16) (v : Word) (s : State) : Host.Outcome State Fault Refusal :=
  act s fun s => s.regCommand m (Rg.RD_CMD_RESUME r).addr 4 (fun s => s.rdCmd r (Nat.lor v.toNat 1))

end Sys2Proof.Machine
end

