-- ==== Sys2Proof/Machine/Triad.lean ====
section
/-! DEFINITION. The Triad: the vote, fencing, resync, dual mode and the last-resort controller (R323 to R338). -/

namespace Sys2Proof.Machine

/-! ### State of the voted Triad -/

/-- The voted Triad's scalar core (R323). -/
def State.tri (s : State) : Engine := s.eng triadNo

/-- The Triad's record of votes and save sets changed. -/
def State.modTriad (s : State) (f : Triad → Triad) : State := { s with triad := f s.triad }

/-- A save set (R312). -/
def State.save (s : State) (level : Nat) : SaveSet := Tab.get s.triad.saves level {}

/-- A save set written. -/
def State.setSave (s : State) (level : Nat) (x : SaveSet) : State :=
  s.modTriad (fun t => { t with saves := Tab.set t.saves level {} x })

/-- `VT_STATUS` as one word (R343). -/
def State.vtStatus (s : State) : Nat :=
  s.get Rg.VT_STATUS_STATE + s.get Rg.VT_STATUS_IN * 8 + s.get Rg.VT_STATUS_FENCED_CORE * 64 +
    s.get Rg.VT_STATUS_OUT_CORE * 256 + s.get Rg.VT_STATUS_OUT_VALID * 1024 + s.get Rg.VT_STATUS_FAILS0 * 4096 +
    s.get Rg.VT_STATUS_FAILS1 * 16384 + s.get Rg.VT_STATUS_FAILS2 * 65536

/-- `FAILSn` (R330). -/
def failsFld (n : Nat) : Fld := if n = 0 then Rg.VT_STATUS_FAILS0 else if n = 1 then Rg.VT_STATUS_FAILS1 else Rg.VT_STATUS_FAILS2

/-- The Triad executes nothing: from the start of a quiesce to the end of the check (R329). -/
def State.triPaused (s : State) : Bool :=
  match s.triad.resync with
  | .quiesce | .copy | .check => true
  | _ => false

/-- The level the Triad runs at (R312). -/
def State.triLevel (s : State) : Nat := s.tri.level

/-! ### The last-resort controller (R334 to R337) -/

/-- The controller takes control for a cause: the cores are held in reset, FAULT_N goes low, the sillage freezes where
bit 0 of FREEZE_ON says so, and one LAST_RESORT record is queued (R335, R336). `pcs` are the last retired PCs. -/
def State.lastResortEnter (s : State) (cause : Nat) (pcs : List Word) : State :=
  if s.lastResort then s
  else
    let s := ((s.fresh 1).2.set Rg.VT_LR_CAUSE cause).set Rg.VT_STATUS_STATE 4
    let s := { s with faultLow := true }.modTriad (fun t => { t with resync := .idle, inject := [] })
    let s := s.modEng triadNo (fun e =>
      { e with run := false, sb := [], lands := [], dland := none, long := none, branch := none, rep := none, exc := none, sbErr := none })
    (s.jUrgent 9 (s.lrPayload s.vtStatus pcs)).freezeOn 0

/-! ### Voter events (R343) -/

/-- A voter event: its bit of `VT_EVENT`, and an NMI where `VT_CFG.NMI_ON` asks for one: 0 FENCE, 1 RESYNC_DONE,
2 RESYNC_FAIL, 3 DUAL. -/
def State.vtEvent (s : State) (bit : Nat) : State :=
  let s := s.set Rg.VT_EVENT (Nat.lor (s.get Rg.VT_EVENT) (2 ^ bit))
  if (s.get Rg.VT_CFG_NMI_ON).testBit bit then
    (s.raise Rg.IC_NMI_CAUSE_VOTER).set Rg.IC_NMI_CAUSE_PENDING 1
  else s

/-- The pair runs in dual mode (R331); `out` says that the core stays out until reset. -/
def State.dualEnter (s : State) (core : Nat) (out : Bool) : State :=
  let s := (s.set Rg.VT_STATUS_STATE 3).modTriad (fun t => { t with resync := .idle })
  let s := if out then (s.set Rg.VT_STATUS_OUT_CORE core).set Rg.VT_STATUS_OUT_VALID 1 else s
  s.vtEvent 3

/-- A fenced core waits for its resync, from the next resync point on, or the pair enters dual mode (R327, R329, R331). -/
def State.fenced (s : State) (core : Nat) : State :=
  let s := (s.set Rg.VT_STATUS_FENCED_CORE core).modTriad (fun t => { t with resync := .idle, tick := 0, fenceAt := some s.mc })
  if 3 ≤ s.get (failsFld core) then s.dualEnter core true
  else if ¬ s.flag Rg.VT_CFG_RESYNC_EN then s.dualEnter core false
  else s.set Rg.VT_STATUS_STATE 1

/-- A core is taken out of service. -/
def State.outOfService (s : State) (core : Nat) : State := s.set Rg.VT_STATUS_IN (7 - 2 ^ core)

/-- A resync fails (R330). -/
def State.resyncFail (s : State) : State :=
  let c := s.get Rg.VT_STATUS_FENCED_CORE
  let s := (s.set (failsFld c) (min 3 (s.get (failsFld c) + 1))).bump Rg.VT_RESYNC_FAIL_CNT
  (s.vtEvent 2).fenced c

/-- What is recorded of a dissent (R343): 0 a register write, 1 a signature. -/
def State.dissentNote (s : State) (core kind reg : Nat) : State :=
  let s := ((s.set Rg.VT_LAST_CORE core).set Rg.VT_LAST_KIND kind).set Rg.VT_LAST_REG reg
  let s := s.set2 Rg.VT_LAST_MC_LO Rg.VT_LAST_MC_HI s.mc
  s.bump (if kind = 0 then Rg.VT_REG_DIS_CNT else Rg.VT_SIG_DIS_CNT)

/-! ### One vote (R325, R326) -/

/-- What a vote of three comes to. -/
inductive Vote where
  | agree
  | dissent (core : Nat)
  | none
deriving DecidableEq, Repr

/-- The vote over three offers. -/
def vote {α : Type} [DecidableEq α] (v : Votes α) : Vote :=
  if v.v0 = v.v1 then (if v.v1 = v.v2 then .agree else .dissent 2)
  else if v.v0 = v.v2 then .dissent 1
  else if v.v1 = v.v2 then .dissent 0
  else .none

/-- The majority of three offers. -/
def majority {α : Type} [DecidableEq α] (v : Votes α) : α := if v.v0 = v.v1 ∨ v.v0 = v.v2 then v.v0 else v.v1

/-- The offer of one core. -/
def voteOf {α : Type} (v : Votes α) (core : Nat) : α := if core = 0 then v.v0 else if core = 1 then v.v1 else v.v2

/-- Whether the two cores other than `core` agree (R332). -/
def pairAgrees {α : Type} [DecidableEq α] (v : Votes α) (core : Nat) : Bool :=
  if core = 0 then v.v1 == v.v2 else if core = 1 then v.v0 == v.v2 else v.v0 == v.v1

/-- Core `core` inverts bit 0 of what it offers (R343). -/
def invert (v : Votes (BitVec 129)) (core : Nat) : Votes (BitVec 129) :=
  if core = 0 then { v with v0 := v.v0 ^^^ 1 } else if core = 1 then { v with v1 := v.v1 ^^^ 1 } else { v with v2 := v.v2 ^^^ 1 }

/-- Writes a voted register, as `VT_LAST.REG` numbers them: s, c, SST, PC, and the six fields of R312 of save sets 1 to
3. -/
def State.voted (s : State) (reg : Nat) (v : BitVec 129) : State :=
  let w : Word := v.truncate 32
  if reg < 32 then s.setS triadNo reg w
  else if reg < 40 then s.modEng triadNo (fun e => e.setC (reg - 32) ⟨v.getLsbD 128, v.truncate 128⟩)
  else if reg = 40 then s.modEng triadNo (fun e => e.setSst w.toNat)
  else if reg = 41 then s.modEng triadNo (fun e => { e with lastPc := w })
  else
    let level := (reg - 42) / 6 + 1
    let x := s.save level
    s.setSave level (match (reg - 42) % 6 with
      | 0 => { x with pc := w }
      | 1 => { x with sst := w.toNat }
      | 2 => { x with cause := w.toNat }
      | 3 => { x with addr := x.addr / 2 ^ 32 * 2 ^ 32 + w.toNat }
      | 4 => { x with addr := w.toNat % 2 ^ 16 * 2 ^ 32 + x.addr % 2 ^ 32 }
      | _ => { x with s29 := w })

/-- The core a resync in probation has rejoined, where there is one. [DEDUCED, unsafe: assumption 81] -/
def State.rejoined (s : State) : Option Nat :=
  match s.triad.resync with
  | .probation _ => some (s.get Rg.VT_STATUS_FENCED_CORE)
  | _ => none

/-- The core that takes no part in the vote (R325). [DEDUCED, unsafe: assumption 81] -/
def State.absent (s : State) : Option Nat :=
  match s.rejoined with
  | some _ => none
  | none =>
    if s.get Rg.VT_STATUS_STATE = 0 then none
    else if s.get Rg.VT_STATUS_STATE = 3 ∧ s.flag Rg.VT_STATUS_OUT_VALID then some (s.get Rg.VT_STATUS_OUT_CORE)
    else some (s.get Rg.VT_STATUS_FENCED_CORE)

/-- The last retired PC of each core. A core out of the vote runs on by itself: its last one is known in the mc of its fence
and where a vote has shown it, is a free value after that, and is the pair's once a resync has copied it (R327, R329, R336).
[DEDUCED, unsafe: assumption 81] -/
def State.triPcs (s : State) : List Word :=
  (List.range 3).map fun k =>
    if s.absent = some k ∧ s.triad.resync ≠ .check then s.triad.awayPc.getD (BitVec.ofNat 32 (s.fresh (2 ^ 32)).1)
    else s.tri.lastPc

/-- The PCs that the cores retire in an mc, where a write of the PC is among its votes. -/
def pcVotes (ws : List VoteWrite) : Option (Votes Word) :=
  (ws.find? (fun w => w.reg.val == 41)).map
    (fun w => ⟨w.vals.v0.truncate 32, w.vals.v1.truncate 32, w.vals.v2.truncate 32⟩)

/-- The last retired PCs where a vote over the PC was lost. -/
def State.votePcs (s : State) (ws : List VoteWrite) : List Word :=
  match pcVotes ws with
  | some v => [v.v0, v.v1, v.v2]
  | none => s.triPcs

/-- The last retired PC of core `core`, which is out of the vote: the one it shows in this mc, else `old` (R336). -/
def State.awayAt (s : State) (ws : List VoteWrite) (core : Nat) (old : Option Word) : State :=
  s.modTriad (fun t => { t with awayPc := match pcVotes ws with | some v => some (voteOf v core) | none => old })

/-- The dissenters among the writes of one mc, with the registers, and whether some write has no majority. -/
def dissenters : List VoteWrite → List (Nat × Nat) × Bool
  | [] => ([], false)
  | w :: r =>
    let (l, b) := dissenters r
    match vote w.vals with
    | .agree => (l, b)
    | .dissent c => ((c, w.reg.val) :: l, b)
    | .none => (l, true)

/-- The majority of every write is written (R326). -/
def State.voteAll (s : State) (ws : List VoteWrite) : State :=
  ws.foldl (fun (s : State) w => s.voted w.reg.val (majority w.vals)) s

/-- A core's signature: CRC-32 over the write requests of a window, each with its 48-bit address, 128 data bits, 16 byte
enables and mc offset, folded byte by byte from the low end (R325). [DESIGN CHOICE, unsafe: assumption 102] -/
def sigFold (ws : List SigWrite) : Nat :=
  let p : CrcParams := ⟨32, 0x04C11DB7, 0xFFFFFFFF, true, true, 0⟩
  crcResult p (crcBytes p p.init (ws.flatMap fun w =>
    leBytes 6 w.addr.toNat ++ leBytes 16 w.data.toNat ++ leBytes 2 w.en.toNat ++ leBytes 1 w.off.toNat))

/-- The signatures of the three cores over their writes. -/
def sigsOf (v : Votes (List SigWrite)) : Votes Nat := ⟨sigFold v.v0, sigFold v.v1, sigFold v.v2⟩

/-- The signatures of the cores other than `core` differ, where a window ends. -/
def sigSplit (sig : Option (Votes Nat)) (core : Nat) : Bool :=
  match sig with
  | some v => !pairAgrees v core
  | none => false

/-- One mc of votes among three cores: the writes of voted registers, and the signatures where a window ends there
(R325, R326, R328, R330, R338). -/
def State.voteThree (s : State) (ws : List VoteWrite) (sig : Option (Votes Nat)) : State :=
  let (ds, lost) := dissenters ws
  let sv : Vote := match sig with | some v => vote v | none => .agree
  let cores := ds.map (·.1) ++ (match sv with | .dissent c => [c] | _ => [])
  match s.rejoined with
  | some r =>
    if ws.any (fun w => !pairAgrees w.vals r) || sigSplit sig r then
      s.lastResortEnter 6 (s.votePcs ws)
    else if cores = [] then s
    else
      let s := s.voteAll ws
      let s := match ds with | (c, g) :: _ => s.dissentNote c 0 g | [] => s
      let s := match sv with | .dissent c => s.dissentNote c 1 0 | _ => s
      (s.awayAt ws r (some s.tri.lastPc)).resyncFail
  | none =>
    if lost || sv == Vote.none || cores.any (fun c => cores.any (fun d => d != c)) then s.lastResortEnter 3 (s.votePcs ws)
    else
      match cores with
      | [] => s
      | c :: _ =>
        let s := s.voteAll ws
        let s := match ds with | (c, g) :: _ => s.dissentNote c 0 g | [] => s
        let s := match sv with | .dissent c => s.dissentNote c 1 0 | _ => s
        (((s.outOfService c).vtEvent 0).awayAt ws c (some s.tri.lastPc)).fenced c

/-- One mc of votes in a pair: a disagreement ends it (R332, R333). -/
def State.votePair (s : State) (out : Nat) (ws : List VoteWrite) (sig : Option (Votes Nat)) : State :=
  if ws.any (fun w => !pairAgrees w.vals out) then s.lastResortEnter 1 (s.votePcs ws)
  else if sigSplit sig out then s.lastResortEnter 2 s.triPcs
  else s.awayAt ws out s.triad.awayPc

/-- One mc of votes. A pair is checked through the pause of a resync as well (R327). -/
def State.votes (s : State) (ws : List VoteWrite) (sig : Option (Votes Nat)) : State :=
  if s.lastResort then s
  else
    match s.absent with
    | some c => s.votePair c ws sig
    | none => s.voteThree ws sig

/-- The register writes of one mc are voted, and the signatures of a window that ends in it. A core that `VT_CMD.INJECT`
named inverts bit 0 of its first write (R326, R343). -/
def State.voteWrites (s : State) (ws : List VoteWrite) (sig : Option (Votes (List SigWrite))) : State :=
  match ws with
  | [] => s.votes [] (sig.map sigsOf)
  | w :: r =>
    let w' : VoteWrite := { w with vals := s.triad.inject.foldl invert w.vals }
    (s.modTriad (fun t => { t with inject := [] })).votes (w' :: r) (sig.map sigsOf)

/-- A signature window ends: this is the first mc of the next one, and no comparison has been made in it (R325). -/
def State.windowEnds (s : State) : Bool := s.mc % 64 == 0 && s.mc / 64 != s.triad.window

/-- The votes of one mc with the signatures of the window that ends in it, where one does; a window that closes without
dissent brings probation one nearer to its end (R325, R329, R330). -/
def State.voteMc (s : State) (ws : List VoteWrite) (sig : Option (Votes (List SigWrite))) : State :=
  if sig.isNone ∨ ¬ s.windowEnds then s.voteWrites ws none
  else
    let s := (s.modTriad (fun t => { t with window := s.mc / 64 })).voteWrites ws sig
    match s.triad.resync with
    | .probation (k + 1) => s.modTriad (fun t => { t with resync := .probation k })
    | _ => s

/-- The bitwise majority of three values. -/
def bitMaj (v : Votes Nat) : Nat := Nat.lor (Nat.lor (Nat.land v.v0 v.v1) (Nat.land v.v0 v.v2)) (Nat.land v.v1 v.v2)

/-- Three offers, of each the same part. -/
def mapVotes {α β : Type} (f : α → β) (v : Votes α) : Votes β := ⟨f v.v0, f v.v1, f v.v2⟩

/-- The request that is the bitwise majority of three (R325). -/
def requestMaj (v : Votes CoreReq) : CoreReq where
  write := bitMaj (mapVotes (fun r => r.write.toNat) v) == 1
  addr := BitVec.ofNat 48 (bitMaj (mapVotes (fun r => r.addr.toNat) v))
  data := BitVec.ofNat 128 (bitMaj (mapVotes (fun r => r.data.toNat) v))
  en := BitVec.ofNat 16 (bitMaj (mapVotes (fun r => r.en.toNat) v))

/-- The matrix requests that the cores present in one mc, `t` the state after its other votes: the one that leaves the Triad,
if any, and the state. Three cores issue
the bitwise majority; a pair issues its lower-numbered core's where the two agree bit for bit, and else hands over to the
last-resort controller, as the pair of a probation does (R325, R330, R332, R333). -/
def State.requestVote (s t : State) (v : Votes CoreReq) : Option CoreReq × State :=
  if t.lastResort then (none, t)
  else
    match s.rejoined, s.absent with
    | some r, _ => if pairAgrees v r then (some (requestMaj v), t) else (none, t.lastResortEnter 6 t.triPcs)
    | none, some c =>
      if pairAgrees v c then (some (if c = 0 then v.v1 else v.v0), t) else (none, t.lastResortEnter 2 t.triPcs)
    | none, none => (some (requestMaj v), t)

/-- SIGNATURE_COMPARE: in the first mc of a window of 64 mc the signatures of the one before are compared (R325, R326, R332).
[DESIGN CHOICE, unsafe: assumption 102] -/
def execSignatureCompare (sig : Votes (List SigWrite)) (s : State) : Host.Outcome State Fault Refusal :=
  act s fun s => s.voteMc [] (some sig)

/-- Every injection takes effect at the next voted write, which is the PC of the next instruction to retire.
[DEDUCED, unsafe: assumption 82] -/
def State.voteInject (s : State) (pc : Word) : State :=
  let s := s.modTriad (fun t => { t with awayPc := none })
  match s.triad.inject with
  | [] => s
  | cs =>
    let v : BitVec 129 := pc.zeroExtend 129
    (s.modTriad (fun t => { t with inject := [] })).votes [⟨41, cs.foldl invert ⟨v, v, v⟩⟩] none

/-! ### Resync (R329, R330) -/

/-- This mc is a resync point: the IDR delivers a frame tick while the frame/tick unit is LOCKED; else `TMR_MC` is a multiple
of 2,048, and it is not the one of the fence (R329). -/
def State.resyncPoint (s : State) : Bool :=
  if s.locked then s.triad.tick != 0 else s.mc % 2048 == 0 && s.triad.fenceAt != some s.mc

/-- RESYNC_START: at a resync point the pair quiesces (R329); not while the Triad is under debug halt (R338). -/
def execResyncStart (s : State) : Host.Outcome State Fault Refusal :=
  act s fun s =>
    if s.get Rg.VT_STATUS_STATE = 1 ∧ s.flag Rg.VT_CFG_RESYNC_EN ∧ ¬ s.tri.halted ∧ s.resyncPoint then
      (s.set Rg.VT_STATUS_STATE 2).modTriad (fun t => { t with resync := .quiesce })
    else s

/-- RESYNC_QUIESCE_TIMEOUT: 512 mc were not enough (R330). -/
def execResyncQuiesceTimeout (s : State) : Host.Outcome State Fault Refusal :=
  act s fun s => if s.triad.resync = .quiesce then s.resyncFail else s

/-- RESYNC_COPY_DONE: the fenced core holds the pair's state, and the caches of all three are invalidated (R329). -/
def execResyncCopyDone (s : State) : Host.Outcome State Fault Refusal :=
  act s fun s =>
    if s.triad.resync = .copy then
      (s.modEng triadNo (fun e => { e.landAll with lines := [], lineBuf := none, btc := [], icold := true })).modTriad
        (fun t => { t with resync := .check })
    else s

/-- RESYNC_CHECK: the three state CRCs are compared (R330). [DEDUCED, unsafe: assumption 81] -/
def execResyncCheck (crc : Votes Word) (s : State) : Host.Outcome State Fault Refusal :=
  act s fun s =>
    if s.triad.resync ≠ .check then s
    else
      let c := s.get Rg.VT_STATUS_FENCED_CORE
      if ¬ pairAgrees crc c then s.lastResortEnter 6 s.triPcs
      else if voteOf crc c ≠ voteOf crc ((c + 1) % 3) then s.resyncFail
      else
        let n := max 1 (s.get Rg.VT_CFG_PROBATION) + (if s.mc % 64 = 0 then 0 else 1)
        s.modTriad (fun t => { t with resync := .probation n })

/-- RESYNC_DONE: the probation windows have closed without dissent (R330). [DEDUCED, unsafe: assumption 81] -/
def execResyncDone (s : State) : Host.Outcome State Fault Refusal :=
  act s fun s =>
    if s.triad.resync = .probation 0 then
      let s := (s.set Rg.VT_STATUS_STATE 0).set Rg.VT_STATUS_IN 7
      ((s.modTriad (fun t => { t with resync := .idle })).bump Rg.VT_RESYNC_CNT).vtEvent 1
    else s

/-! ### Registers (R343, R344) -/

/-- A write of `VT_CMD`: a core numbered 3 is refused. [DEDUCED, unsafe: assumption 82] -/
def State.vtCmd (s : State) (v : Nat) : WRes :=
  if bits v 1 0 = 3 then .refused s
  else if bits v 2 2 = 1 then .ok (s.modTriad (fun t => { t with inject := t.inject.filter (· ≠ bits v 1 0) ++ [bits v 1 0] }))
  else .ok s

/-- VOTER_INJECT: `VT_CMD` written with INJECT. [DEDUCED, unsafe: assumption 82] -/
def execVoterInject (m : Master) (v : Word) (s : State) : Host.Outcome State Fault Refusal :=
  act s fun s => s.regCommand m Rg.VT_CMD_INJECT.addr 4 (fun s => s.vtCmd (Nat.lor v.toNat 4))

/-- A write of `VT_CFG`: with RESYNC_EN 0 a fenced core stays out, a resync under way ends, and the core waits for its resync again when the bit returns
(R331). -/
def State.vtCfg (s : State) (v : Nat) : WRes :=
  let s := ((s.set Rg.VT_CFG_PROBATION (bits v 7 0)).set Rg.VT_CFG_RESYNC_EN (bits v 8 8)).set Rg.VT_CFG_NMI_ON (bits v 12 9)
  let st := s.get Rg.VT_STATUS_STATE
  if bits v 8 8 = 0 ∧ (st = 1 ∨ st = 2) then .ok (s.dualEnter (s.get Rg.VT_STATUS_FENCED_CORE) false)
  else if bits v 8 8 = 1 ∧ st = 3 ∧ ¬ s.flag Rg.VT_STATUS_OUT_VALID then .ok (s.set Rg.VT_STATUS_STATE 1)
  else .ok s

/-- A write of an ownership register: only in UNLOCKED and REFUSED (R344); bits [5:0] of `BASE_LO` must be 0 (R506). -/
def State.ownReg (s : State) (low v : Nat) (f : State → State) : WRes :=
  if ¬ s.unlocked ∨ v % low ≠ 0 then .refused s else .ok (f s)

end Sys2Proof.Machine
end

