-- ==== Sys2Proof/Machine/Debug.lean ====
section
/-! DEFINITION. The registers by which a debugger halts, steps and resumes an engine or the Triad, and reads and writes
it while it is halted (R480 to R485). -/

namespace Sys2Proof.Machine

/-- The life-cycle state in force is FIELD (R462). [DEDUCED, unsafe: assumption 87] -/
def State.inField (s : State) : Bool := s.lcForce == 2

/-- A halt is asked for (R480). [DEDUCED, unsafe: assumption 83] -/
def Engine.askHalt (e : Engine) : Engine :=
  if e.halted ∨ e.haltReq.isSome then e else { e with haltReq := some 0 }

/-- A halted core is to execute one instruction, or one iteration (R480). [DEDUCED, unsafe: assumption 83] -/
def Engine.askStep (e : Engine) : Engine := if e.halted then { e with stepping := true, skipBp := true } else e

/-- A halted core goes on where it stands (R483). [DEDUCED, unsafe: assumption 83] -/
def Engine.goOn (e : Engine) : Engine :=
  if e.halted then { e with halted := false, stepping := false, skipBp := true, haltReq := none } else e

/-- RESUME of an engine: after a cc 0 it waits for the next one (R483). -/
def State.engResume (s : State) (n : Nat) : State :=
  let late := s.flag (Rg.DBG_STATUS_TICK_PASSED n) && (s.eng n).halted
  let s := s.modEng n (fun e =>
    let g := e.goOn
    if late then { g with run := false, repAct := false, locked := false, branch := none, rep := none } else g)
  (s.set (Rg.DBG_STATUS_HALTED n) 0).set (Rg.DBG_STATUS_TICK_PASSED n) 0

/-- A write of `DBG_CTRL` (R480, R482, R483): HALT, STEP and RESUME are refused in FIELD. -/
def State.dbgCtrl (s : State) (n v : Nat) : WRes :=
  if s.inField ∧ bits v 2 0 ≠ 0 then .refused s
  else
    let s := s.set (Rg.DBG_CTRL_ATTACH n) (bits v 3 3)
    let s := if bits v 0 0 = 1 then s.modEng n Engine.askHalt else s
    let s := if bits v 1 1 = 1 then s.modEng n Engine.askStep else s
    .ok (if bits v 2 2 = 1 then s.engResume n else s)

/-- A `DBG_CTRL` write with one of its action bits. -/
def State.dbgTrig (s : State) (m n bit : Nat) (v : Word) : State :=
  s.regCommand m (Rg.DBG_CTRL_HALT n).addr 4 (fun s => s.dbgCtrl n (Nat.lor v.toNat (2 ^ bit)))

/-- ENGINE_HALT (R480). -/
def execEngineHalt (m : Master) (n : VE) (v : Word) (s : State) : Host.Outcome State Fault Refusal :=
  act s fun s => s.dbgTrig m n 0 v

/-- ENGINE_STEP (R480). -/
def execEngineStep (m : Master) (n : VE) (v : Word) (s : State) : Host.Outcome State Fault Refusal :=
  act s fun s => s.dbgTrig m n 1 v

/-- ENGINE_RESUME (R483). -/
def execEngineResume (m : Master) (n : VE) (v : Word) (s : State) : Host.Outcome State Fault Refusal :=
  act s fun s => s.dbgTrig m n 2 v

/-- A write of `DBG_Sr`: only while the engine is halted (R483, R485). -/
def State.dbgS (s : State) (n r v : Nat) : WRes :=
  if (s.eng n).halted then .ok (s.setS n r (BitVec.ofNat 32 v)) else .refused s

/-- A write of `DBG_PC`: only while the engine is halted, bits [1:0] 0. [DEDUCED, unsafe: assumption 86] -/
def State.dbgPc (s : State) (n v : Nat) : WRes :=
  if (s.eng n).halted ∧ v % 4 = 0 then .ok (s.modEng n (fun e => { e with pc := BitVec.ofNat 32 v })) else .refused s

/-- A write of `TD_CTRL` (R480). The Triad waits for no cc 0. -/
def State.tdCtrl (s : State) (v : Nat) : WRes :=
  if s.inField ∧ bits v 2 0 ≠ 0 then .refused s
  else
    let s := if bits v 0 0 = 1 then s.modEng triadNo Engine.askHalt else s
    let s := if bits v 1 1 = 1 then s.modEng triadNo Engine.askStep else s
    .ok (if bits v 2 2 = 1 then (s.modEng triadNo Engine.goOn).set Rg.TD_STATUS_HALTED 0 else s)

/-- A `TD_CTRL` write with one of its bits. -/
def State.tdTrig (s : State) (m bit : Nat) (v : Word) : State :=
  s.regCommand m Rg.TD_CTRL_HALT.addr 4 (fun s => s.tdCtrl (Nat.lor v.toNat (2 ^ bit)))

/-- TRIAD_HALT (R480). -/
def execTriadHalt (m : Master) (v : Word) (s : State) : Host.Outcome State Fault Refusal := act s fun s => s.tdTrig m 0 v

/-- TRIAD_STEP (R480). -/
def execTriadStep (m : Master) (v : Word) (s : State) : Host.Outcome State Fault Refusal := act s fun s => s.tdTrig m 1 v

/-- TRIAD_RESUME (R480). -/
def execTriadResume (m : Master) (v : Word) (s : State) : Host.Outcome State Fault Refusal := act s fun s => s.tdTrig m 2 v

/-- A write of `TD_Sr`: only while the Triad is halted. -/
def State.tdS (s : State) (r v : Nat) : WRes :=
  if s.tri.halted then .ok (s.setS triadNo r (BitVec.ofNat 32 v)) else .refused s

/-- A write of `SEQ_CTRL`: not in ACTIVE state (R290); nor in OFF, where the rule names only SPARE, TEST and RETIRED.
[DEDUCED, unsafe: assumption 86] -/
def State.seqCtrl (s : State) (n v : Nat) : WRes :=
  if s.veState n = 1 ∨ s.veState n = 3 ∨ s.veState n = 4 then
    .ok ((s.set (Rg.SEQ_CTRL_IC_EN n) (bits v 0 0)).set (Rg.SEQ_CTRL_BTC_EN n) (bits v 1 1))
  else .refused s

/-! ### Interrupt lines (R320 to R322) -/

/-- A unit's request: a status bit with its enable. -/
def State.intLine (s : State) (l : List (Fld × Fld)) : Bool := l.any (fun p => s.flag p.1 && s.flag p.2)

/-- Whether a source of the Triad's interrupt controller is pending (R320). [DEDUCED, unsafe: assumption 43] -/
def State.srcPend (s : State) (n : Nat) : Bool :=
  if n = 0 then s.intLine Rg.FT_INTS
  else if n = 1 then s.intLine Rg.IR_INTS
  else if n = 2 then s.intLine Rg.ST_INTS
  else if n = 3 then s.intLine Rg.EM_INTS
  else if n = 4 then s.intLine Rg.CT_INTS
  else if n = 5 then (List.range 256).any (fun j => s.get (Rg.QF_PEND j) != 0)
  else if n = 6 then s.intLine Rg.VU_INTS
  else if 8 ≤ n ∧ n ≤ 15 then s.intLine (Rg.TMR_INTS (n - 8))
  else if n = 16 then
    s.intLine [(Rg.CAL_STATUS_ALARM, Rg.CAL_INT_EN_ALARM), (Rg.CAL_STATUS_OSC_FAIL, Rg.CAL_INT_EN_OSC_FAIL)]
  else if 17 ≤ n ∧ n ≤ 32 then s.intLine [(Rg.CRC_STATUS_MISMATCH (n - 17), Rg.CRC_INT_EN_MISMATCH (n - 17))]
  else if n = 33 then s.intLine Rg.DD_INTS
  else if n = 34 then s.intLine Rg.BL_INTS
  else if n = 35 then s.intLine Rg.JNL_INTS
  else if n = 36 then s.intLine Rg.HB_INTS
  else if n = 37 then s.intLine [(Rg.PAD_THERM_ALERT_ST, Rg.PAD_THERM_ALERT_EN)]
  else if n = 38 then s.intLine Rg.MX_INTS
  else if 64 ≤ n ∧ n ≤ 131 then s.flag (Rg.VE_STATUS_FAULTED (n - 64)) || s.flag (Rg.VE_ESC_VALID (n - 64))
  else if 132 ≤ n ∧ n ≤ 163 then (List.range 4).any (fun j => s.intLine (Rg.LN_INTS (4 * (n - 132) + j)))
  else if 192 ≤ n ∧ n ≤ 255 then s.flag (Rg.IC_SRC_SW n)
  else false

/-- Whether a source may be accepted: pending, with a vector of 17 to 63 and a PRIO above `IC_THRESH` (R314, R321). -/
def State.srcOpen (s : State) (n : Nat) : Bool :=
  decide (17 ≤ s.get (Rg.IC_SRC_VECTOR n)) && decide (s.get Rg.IC_THRESH < s.get (Rg.IC_SRC_PRIO n)) && s.srcPend n

/-- The source that is accepted: the highest PRIO, then the lowest number (R314). -/
def State.srcFirst (s : State) : Option Nat :=
  ((List.range 256).filter s.srcOpen).foldl (fun (b : Option Nat) n =>
    match b with
    | none => some n
    | some x => if s.get (Rg.IC_SRC_PRIO x) < s.get (Rg.IC_SRC_PRIO n) then some n else some x) none

/-- A write of `IC_SRCn`: SW makes a software source pending, and is ignored for the others (R321). -/
def State.icSrc (s : State) (n v : Nat) : State :=
  let s := (s.set (Rg.IC_SRC_PRIO n) (bits v 3 0)).set (Rg.IC_SRC_VECTOR n) (bits v 9 4)
  if 192 ≤ n ∧ bits v 17 17 = 1 then s.set (Rg.IC_SRC_SW n) 1 else s

/-- SW_INTERRUPT_SET: `IC_SRCn` written with SW (R321). -/
def execSwInterruptSet (m : Master) (n : BitVec 8) (v : Word) (s : State) : Host.Outcome State Fault Refusal :=
  act s fun s => s.regCommand m (Rg.IC_SRC_SW n.toNat).addr 4 (fun s => .ok (s.icSrc n.toNat (Nat.lor v.toNat (2 ^ 17))))

/-- A write of `VE_IRQ_PEND`: every 1 makes an interrupt of the sequencer pending (R322). -/
def State.veIrq (s : State) (n v : Nat) : State :=
  s.set (Rg.VE_IRQ_PEND n) (Nat.lor (s.get (Rg.VE_IRQ_PEND n)) (v % 2 ^ 32))

/-- VE_IRQ_SET (R322). -/
def execVeIrqSet (m : Master) (n : VE) (v : Word) (s : State) : Host.Outcome State Fault Refusal :=
  act s fun s => s.regCommand m (Rg.VE_IRQ_PEND n).addr 4 (fun s => .ok (s.veIrq n v.toNat))

end Sys2Proof.Machine
end

