-- ==== Sys2Proof/Machine/ChannelTable.lean ====
section
/-! DEFINITION. The channel table: the calibration loader, the noise sweep, lane marking and reinstatement (R203 to
R222). -/

namespace Sys2Proof.Machine

/-! ### Placement (R203, R204) -/

/-- COUNT (R203). -/
def State.ctCount (s : State) : Nat := 1024 * s.get Rg.CT_SIZE_COUNT_K

/-- The address of a record (R204, R205). -/
def State.ctAddr (s : State) (ch : Nat) : Nat := s.get Rg.CT_BASE + 32 * ch

/-- Whether the placement keeps the conditions of R204. -/
def State.ctPlaced (s : State) : Bool :=
  let b := s.get Rg.CT_BASE
  let n := 32 * s.ctCount
  let buf := 0x800 + 8 * s.bufSlots
  b % 4096 == 0 && decide (b + n ≤ storeTop) &&
    (n == 0 || ((List.range 4).all (fun i => !rangesMeet b n (s.bufBase i) buf) &&
      !rangesMeet b n (s.get Rg.EM_CHK_BASE) (64 * 0x24000)))

/-- The check made when the frame/tick unit leaves UNLOCKED or REFUSED for MEASURING (R204). -/
def State.ctCheck (s : State) : State := s.setBit Rg.CT_STATUS_CFG_ERR (!s.ctPlaced)

/-- Whether the device may write the table at all. -/
def State.ctOn (s : State) : Bool := !s.flag Rg.CT_STATUS_CFG_ERR && decide (s.ctCount ≠ 0)

/-- Whether the device's own table writes are fenced (R210). -/
def State.ctFenced (s : State) : Bool := s.flag Rg.CT_CTRL_FENCE && s.locked && s.force Rg.FT_CTRL_EVAL_EN == 1

/-- Whether a device write to the table may be performed now: always unless fenced, else from cc W + 32 to cc W + 191
(R210). -/
def State.ctOpen (s : State) : Bool :=
  !s.ctFenced || (decide (s.budgetW + 32 ≤ s.ft.cc) && decide (s.ft.cc ≤ s.budgetW + 191))

/-- The logical bank that holds word 0 of a record. -/
def State.ctBank (s : State) (ch : Nat) : Nat := bankOf (s.ctAddr ch / 16)

/-- Whether the bank of a record may perform one more device access now: 40 in a fenced window (R211).
[DEDUCED, unsafe: assumption 112] -/
def State.ctRoom (s : State) (ch : Nat) : Bool :=
  s.ctOpen && (!s.ctFenced || decide (Tab.get s.ctUsed (s.ctBank ch) 0 < 40))

/-- A fenced access takes one of its bank's 40. -/
def State.ctCount1 (s : State) (ch : Nat) : State :=
  if s.ctFenced then { s with ctUsed := Tab.set s.ctUsed (s.ctBank ch) 0 (Tab.get s.ctUsed (s.ctBank ch) 0 + 1) } else s

/-- cc 0: the counts of the frame start anew (R211, R213). -/
def State.ctFrame (s : State) : State := { s with ctUsed := [], ctItems := 0 }

/-! ### One access to word 0 of a record (R209) -/

/-- Word 0 of a record, read and written in one hold of its bank; the write covers the bytes that change and leaves the
reservations alone when none does. The answer is the word as read, where it reads well.
[DEDUCED, unsafe: assumption 45] -/
def State.ctAccess (s : State) (ch : Nat) (f : List Byte → List Byte) : Option (List Byte) × State :=
  let s := s.ctCount1 ch
  let a := s.ctAddr ch
  match s.stRead a 16 srcScrub with
  | (.bad _, s) => (none, s.bump Rg.CT_UE_SKIP_CNT)
  | (.data bs, s) =>
    let ps := ((List.range 16).filter (fun j => (f bs).getD j 0 ≠ bs.getD j 0)).map (fun j => (a + j, (f bs).getD j 0))
    (some bs, if ps = [] then s else s.putWord (a / 16) ps none)

/-- HWFLAGS of a word 0. -/
def hwflags (bs : List Byte) : Nat := (bs.getD 7 0).toNat

/-- Sets bits of HWFLAGS (R206). -/
def setHw (v : Nat) (bs : List Byte) : List Byte := bs.set 7 (BitVec.ofNat 8 v)

/-- A record marked ORPHAN and DEAD (R217). -/
def markOrphan (bs : List Byte) : List Byte := setHw (Nat.lor (hwflags bs) 5) bs

/-- A record reinstated on a lane's return: ORPHAN cleared, and DEAD where NOISY is 0 (R218). -/
def clearOrphan (bs : List Byte) : List Byte :=
  let h := hwflags bs
  setHw (if h / 2 % 2 = 1 then h - h / 4 % 2 * 4 else h - h / 4 % 2 * 4 - h % 2) bs

/-- STRIKES of a word 0. -/
def strikesOf (bs : List Byte) : Nat := (bs.getD 14 0).toNat % 16

/-- STRIKES set. -/
def setStrikes (k : Nat) (bs : List Byte) : List Byte :=
  bs.set 14 (BitVec.ofNat 8 ((bs.getD 14 0).toNat / 16 * 16 + k % 16))

/-- A record reinstated by command: DEAD, NOISY, ORPHAN and STRIKES cleared (R219). -/
def clearAllHw (bs : List Byte) : List Byte := setStrikes 0 (setHw (hwflags bs / 8 * 8) bs)

/-! ### Tasks (R216 to R219) -/

/-- The valid ranges that name a lane; one whose LAST is below its FIRST is ignored (R216). -/
def State.laneRanges (s : State) (lane : Nat) : List (Nat × Nat) :=
  ((List.range 512).filter (fun j => s.flag (Rg.CT_RANGE_VALID j) && s.get (Rg.CT_RANGE_LANE j) == lane &&
    decide (s.get (Rg.CT_RANGE_FIRST j) ≤ s.get (Rg.CT_RANGE_LAST j)))).map
    (fun j => (s.get (Rg.CT_RANGE_FIRST j), s.get (Rg.CT_RANGE_LAST j)))

/-- Whether a list of ranges covers a channel. -/
def covered (rs : List (Nat × Nat)) (ch : Nat) : Bool := rs.any (fun r => decide (r.1 ≤ ch) && decide (ch ≤ r.2))

/-- Whether a valid range of another retired lane covers a channel (R218). -/
def State.otherRetired (s : State) (lane ch : Nat) : Bool :=
  (List.range 128).any (fun l => l != lane && s.get (Rg.LN_STATUS_STATE l) == 4 && covered (s.laneRanges l) ch)

/-- Shows whether a marking or an automatic reinstatement runs. -/
def State.ctBusy (s : State) : State :=
  s.setBit Rg.CT_STATUS_MARK_BUSY (s.ctTasks.any (fun t => match t.kind with | .command _ _ => false | _ => true))

/-- A task begins. -/
def State.ctBegin (s : State) (k : CtKind) (rs : List (Nat × Nat)) : State :=
  { s with ctTasks := s.ctTasks ++ [(⟨k, rs, []⟩ : CtTask)] }.ctBusy

/-- The marking of a retired lane, when AUTO_ORPHAN is 1 (R217). -/
def State.ctMarkLane (s : State) (lane : Nat) : State :=
  if s.flag Rg.CT_CTRL_AUTO_ORPHAN then s.ctBegin (.orphan lane) (s.laneRanges lane) else s

/-- The channels a task covers: those of its ranges below COUNT. -/
def State.taskChans (s : State) (t : CtTask) : List Nat :=
  ((t.ranges.map (fun r => (List.range (min (r.2 + 1) s.ctCount - r.1)).map (· + r.1))).flatten).eraseDups

/-- The channels a task has still to do. [DEDUCED, unsafe: assumption 44] -/
def State.taskLeft (s : State) (t : CtTask) : List Nat := (s.taskChans t).filter (fun c => !t.done.contains c)

/-- One record of a task (R217 to R219): the write, and its counter where the record changed. -/
def State.taskWrite (s : State) (k : CtKind) (ch : Nat) : State :=
  let (f, cnt) := match k with
    | .orphan _ => (markOrphan, Rg.CT_ORPHAN_CNT)
    | .reinstate _ => (clearOrphan, Rg.CT_REINST_CNT)
    | .command _ _ => (clearAllHw, Rg.CT_REINST_CNT)
  let skip := match k with
    | .reinstate lane => s.otherRetired lane ch
    | _ => false
  if skip ∨ ¬ s.ctOn then s
  else
    match s.ctAccess ch f with
    | (none, s) => s
    | (some bs, s) => if f bs = bs then s else s.bump cnt

/-- Task `i` does the record of a channel, where its bank has room for it now (R209 to R211). -/
def State.taskRecord (s : State) (i ch : Nat) : State :=
  match s.ctTasks[i]? with
  | none => s
  | some t =>
    if s.ctRoom ch then
      { (s.taskWrite t.kind ch) with ctTasks := s.ctTasks.set i { t with done := ch :: t.done } }
    else s

/-- Whether a marking or a reinstatement has a record of a bank still to do: in the fenced window it goes first (R211).
[DEDUCED, unsafe: assumption 112] -/
def State.tasksHold (s : State) (bank : Nat) : Bool :=
  s.ctFenced && s.ctTasks.any (fun t => (s.taskLeft t).any (fun c => s.ctBank c == bank))

/-- TABLE_RECORD_WRITE: the record of one channel, for the first task that still has it to do (R209 to R211). -/
def execTableRecordWrite (ch : BitVec 23) (up : Option Upset) (s : State) : Host.Outcome State Fault Refusal :=
  act s fun s =>
    let s := s.upsetOpt up
    match s.ctTasks.findIdx? (fun t => covered t.ranges ch.toNat && decide (ch.toNat < s.ctCount) &&
        !t.done.contains ch.toNat) with
    | none => s
    | some i => s.taskRecord i ch.toNat

/-- A task goes on with the records still to do, as far as their banks have room for them in this frame, and is over when none
is left; the answer says whether it is. -/
def State.taskFinish (s : State) (i : Nat) (t : CtTask) : Bool × State :=
  let s := (s.taskLeft t).foldl (fun (s : State) c => s.taskRecord i c) s
  match s.ctTasks[i]? with
  | some t =>
    if s.taskLeft t = [] then (true, { s with ctTasks := s.ctTasks.eraseIdx i }.ctBusy) else (false, s)
  | none => (false, s)

/-- Whether a kind is a marking, an automatic reinstatement or a command. -/
def isOrphan : CtKind → Bool
  | .orphan _ => true
  | _ => false
@[inherit_doc isOrphan] def isReinstate : CtKind → Bool
  | .reinstate _ => true
  | _ => false
@[inherit_doc isOrphan] def isCommand : CtKind → Bool
  | .command _ _ => true
  | _ => false

/-- Completes the first task of a kind, and what its completion then does. [DEDUCED, unsafe: assumption 44] -/
def State.ctFinish (s : State) (p : CtKind → Bool) (f : CtTask → State → State) : State :=
  match s.ctTasks.findIdx? (fun t => p t.kind) with
  | none => s
  | some i =>
    match s.ctTasks[i]? with
    | none => s
    | some t =>
      match s.taskFinish i t with
      | (false, s) => s
      | (true, s) => f t s

/-- ORPHAN_MARKING_DONE: the oldest marking completes (R217). -/
def execOrphanMarkingDone (s : State) : Host.Outcome State Fault Refusal :=
  act s fun s => s.ctFinish isOrphan (fun _ s => s.raise Rg.CT_INT_STATUS_ORPHAN)

/-- CMD_DONE: the reinstatement command completes (R219). [DEDUCED, unsafe: assumption 44] -/
def execCmdDone (s : State) : Host.Outcome State Fault Refusal :=
  act s fun s => s.ctFinish isCommand (fun _ s => (s.set Rg.CT_STATUS_CMD_BUSY 0).raise Rg.CT_INT_STATUS_CMD_DONE)

/-- A write of `CT_CMD` (R219). -/
def State.ctCmd (s : State) (v : Nat) : WRes :=
  let first := s.get Rg.CT_CMD_FIRST_FIRST
  let last := bits v 22 0
  if s.flag Rg.CT_STATUS_CMD_BUSY ∨ last < first then .refused s
  else if bits v 23 23 = 1 then
    .ok ((s.set Rg.CT_STATUS_CMD_BUSY 1).ctBegin (.command first last) [(first, last)])
  else .ok s

/-- CT_CMD_GO: `CT_CMD` written with GO (R219). -/
def execCtCmdGo (m : Master) (v : Word) (s : State) : Host.Outcome State Fault Refusal :=
  act s fun s => s.regCommand m Rg.CT_CMD_LAST.addr 4 (fun s => s.ctCmd (Nat.lor v.toNat (2 ^ 23)))

/-- A write of a range entry; RANGE_ERR shows whether a valid entry has LAST below FIRST (R216, R222). -/
def State.ctRange (s : State) : State :=
  s.setBit Rg.CT_STATUS_RANGE_ERR ((List.range 512).any (fun j => s.flag (Rg.CT_RANGE_VALID j) &&
    decide (s.get (Rg.CT_RANGE_LAST j) < s.get (Rg.CT_RANGE_FIRST j))))

/-! ### The calibration loader (R212, R213) -/

/-- The first 16 bytes of a record after a loader item. -/
def loadRecord (w0 w1 : Nat) (bs : List Byte) : List Byte :=
  let fields := bits w0 29 24
  let put (bs : List Byte) (k off n v : Nat) : List Byte :=
    if fields / 2 ^ k % 2 = 1 then
      (List.range n).foldl (fun l j => l.set (off + j) ((leBytes n v).getD j 0)) bs else bs
  let bs := put bs 0 0 2 (bits w1 15 0)
  let bs := put bs 1 2 2 (bits w1 31 16)
  let bs := put bs 2 4 2 (bits w1 47 32)
  let bs := put bs 3 6 1 (bits w1 55 48)
  let bs := put bs 4 12 2 (bits w0 47 32)
  let bs := put bs 5 8 4 0
  put bs 5 14 2 0

/-- Whether an item is one the loader applies (R213). -/
def State.loadOk (s : State) (ws : List Nat) : Bool :=
  match ws with
  | [w0, w1] =>
    decide (bits w0 22 0 < s.ctCount) && bits w0 29 24 != 0 && bits w0 23 23 == 0 && bits w0 31 30 == 0 &&
      bits w0 63 48 == 0 && bits w1 55 49 == 0 && bits w1 63 56 == 0
  | _ => false

/-- An item is rejected. -/
def State.loadReject (s : State) (w0 : Nat) : State :=
  ((s.bump Rg.CT_LOAD_REJ_CNT).set Rg.CT_LAST_REJ (bits w0 22 0)).raise Rg.CT_INT_STATUS_LOAD_REJ

/-- The payload words of the head deliverable item; none stands for an uncorrectable word. -/
def State.qHeadWords (s : State) (n src : Nat) : Option (List (Option Nat)) × State :=
  match (s.q n).ready with
  | [] => (none, s)
  | i :: _ =>
    match s.qReadWords n src ((s.q n).head + 1) i.len with
    | (bs, s) =>
      let word (k : Nat) : Option Nat :=
        let b := (bs.drop (8 * k)).take 8
        if b.all Option.isSome then some (leNat (b.map (·.getD 0))) else none
      (some ((List.range i.len).map word), s)

/-- Whether the loader may take an item now: it runs, the fence is open, and a fenced frame has taken fewer than 80 (R210, R212,
R213, R220). -/
def State.loaderOn (s : State) : Bool :=
  s.flag Rg.CT_CTRL_LOADER_EN && decide (s.get Rg.DD_STATUS_TIER < 2) && s.ctOpen && !s.flag Rg.CT_STATUS_CFG_ERR &&
    (!s.ctFenced || decide (s.ctItems < 80))

/-- The channel of the item at the head of the loader's queue, where there is one. -/
def State.loaderHead (s : State) : Option Nat :=
  let q := s.get Rg.CT_LOADER_QUEUE
  match (s.q q).ready with
  | [] => none
  | _ :: _ => some (bits (s.stNat (s.qAddr q ((s.q q).head + 1)) 8) 22 0)

/-- Whether the bank of the loader's next record has room for it, and no marking or reinstatement goes before it (R211).
[DEDUCED, unsafe: assumption 112] -/
def State.loaderRoom (s : State) : Bool :=
  match s.loaderHead with
  | none => true
  | some c => s.ctCount ≤ c || (s.ctRoom c && !s.tasksHold (s.ctBank c))

/-- A fenced frame has applied one item more (R213). -/
def State.itemCount (s : State) : State := if s.ctFenced then { s with ctItems := s.ctItems + 1 } else s

/-- LOADER_ITEM: the loader takes one item from its queue and writes the record, or rejects it (R212, R213, R220). An item
with an uncorrectable word is skipped (R221). -/
def State.loaderItem (s : State) : State :=
  let q := s.get Rg.CT_LOADER_QUEUE
  let s := s.qUse q
  if ¬ s.loaderOn ∨ ¬ s.loaderRoom then s
  else
    match s.qHeadWords q srcQueue with
    | (none, s) => s
    | (some ws, s) =>
      let s := s.qRelease q
      if ws.all Option.isSome then
        let ws := ws.map (·.getD 0)
        if s.loadOk ws then
          let w0 := ws.headD 0
          match s.itemCount.ctAccess (bits w0 22 0) (loadRecord w0 (ws.getLastD 0)) with
          | (none, s) => s
          | (some _, s) => s.bump Rg.CT_LOAD_CNT
        else s.loadReject (ws.headD 0)
      else s.bump Rg.CT_UE_SKIP_CNT

@[inherit_doc State.loaderItem]
def execLoaderItem (up : Option Upset) (s : State) : Host.Outcome State Fault Refusal :=
  act s fun s => (s.upsetOpt up).loaderItem

/-! ### The noise sweep (R214, R215, R220) -/

/-- A pass begins. -/
def Sweep.first : Sweep := { visited := [], retired := 0, capped := false, next := false }

/-- SWEEP_PASS_START: the period is over: a pass begins, or SWEEP_LATE is set and the next one begins after the present
one. A pass that the top note interrupted does not set it, and an absent or misplaced table has no pass (R203, R204, R214,
R215, R220). [DEDUCED, unsafe: assumption 46] -/
def execSweepPassStart (s : State) : Host.Outcome State Fault Refusal :=
  act s fun s =>
    if ¬ s.flag Rg.CT_CTRL_SWEEP_EN ∨ s.get Rg.DD_STATUS_TIER ≠ 0 ∨ ¬ s.ctOn then s
    else
      match s.ctSweep with
      | none => { s with ctSweep := some Sweep.first }
      | some p =>
        let s := if p.cut then s else (s.raise Rg.CT_STATUS_SWEEP_LATE).raise Rg.CT_INT_STATUS_SWEEP_LATE
        { s with ctSweep := some { p with next := true } }

/-- The top note stops the sweep: the pass in progress is an interrupted one (R220). -/
def State.sweepCut (s : State) : State := { s with ctSweep := s.ctSweep.map (fun p => { p with cut := true }) }

/-- Whether a record that is tested is over its limits (R214). -/
def State.overLimit (s : State) (bs : List Byte) : Bool :=
  let ml := s.get Rg.CT_LIMIT_MEAN_LIMIT
  let vl := s.get Rg.CT_LIMIT_VAR_LIMIT
  (ml != 0 && decide (ml < leNat ((bs.drop 8).take 2))) || (vl != 0 && decide (vl < leNat ((bs.drop 10).take 2)))

/-- Whether a record is tested: its u16 at 0x06 is 0, and a limit is set. -/
def State.tested (s : State) (bs : List Byte) : Bool :=
  leNat ((bs.drop 6).take 2) == 0 && (s.get Rg.CT_LIMIT_MEAN_LIMIT != 0 || s.get Rg.CT_LIMIT_VAR_LIMIT != 0)

/-- What a visit makes of word 0; `room` says that the pass may still retire channels (R215). -/
def State.visitWord (s : State) (room : Bool) (bs : List Byte) : List Byte :=
  let limit := max (s.get Rg.CT_SWEEP_STRIKE_LIMIT) 1
  if ¬ s.tested bs then bs
  else if ¬ s.overLimit bs then setStrikes 0 bs
  else if strikesOf bs + 1 < limit then setStrikes (strikesOf bs + 1) bs
  else if room then setHw (Nat.lor (hwflags bs) 3) (setStrikes limit bs)
  else setStrikes limit bs

/-- The pass after one more visit; it completes when every record below COUNT has been visited.
[DEDUCED, unsafe: assumption 46] -/
def State.sweepNext (s : State) (p : Sweep) : State :=
  if s.ctCount ≤ (p.visited.filter (fun ch => decide (ch < s.ctCount))).length then
    { s.bump Rg.CT_SWEEP_CNT with ctSweep := if p.next then some Sweep.first else none }
  else { s with ctSweep := some p }

/-- Whether the bank of a record has room for a visit, and neither a marking, a reinstatement nor the loader goes before it
(R211). [DEDUCED, unsafe: assumption 112] -/
def State.sweepRoom (s : State) (ch : Nat) : Bool :=
  s.ctRoom ch && !s.tasksHold (s.ctBank ch) &&
    !(s.ctFenced && s.loaderOn && match s.loaderHead with | some c => s.ctBank c == s.ctBank ch | none => false)

/-- One visit of the sweep (R209, R215). [DEDUCED, unsafe: assumption 46] -/
def State.sweepVisit (s : State) (ch : Nat) : State :=
  match s.ctSweep with
  | none => s
  | some p =>
    if ¬ s.flag Rg.CT_CTRL_SWEEP_EN ∨ s.get Rg.DD_STATUS_TIER ≠ 0 ∨ ¬ s.ctOn ∨ s.ctCount ≤ ch ∨ p.visited.contains ch ∨
        ¬ s.sweepRoom ch then s
    else
      let p := { p with visited := ch :: p.visited }
      let room := decide (p.retired < s.get Rg.CT_CAP_RETIRE_CAP)
      match s.ctAccess ch (s.visitWord room) with
      | (none, s) => s.sweepNext p
      | (some bs, s) =>
        let limit := max (s.get Rg.CT_SWEEP_STRIKE_LIMIT) 1
        if s.tested bs && s.overLimit bs && decide (limit ≤ strikesOf bs + 1) then
          if room then
            let s := ((s.bump Rg.CT_NOISY_CNT).set Rg.CT_LAST_RETIRED_CHANNEL ch).set Rg.CT_LAST_RETIRED_VALID 1
            (s.raise Rg.CT_INT_STATUS_NOISY).sweepNext { p with retired := p.retired + 1 }
          else if p.capped then s.sweepNext p
          else ((s.raise Rg.CT_STATUS_CAPPED).raise Rg.CT_INT_STATUS_CAPPED).sweepNext { p with capped := true }
        else s.sweepNext p

/-- SWEEP_VISIT: the sweep visits word 0 of one record (R214, R215). The order of visits is the bank-group programs'.
[DEDUCED, unsafe: assumption 46] -/
def execSweepVisit (ch : BitVec 23) (up : Option Upset) (s : State) : Host.Outcome State Fault Refusal :=
  act s fun s => (s.upsetOpt up).sweepVisit ch.toNat

/-! ### Registers with value checks (R222) -/

/-- A write of `CT_BASE` or `CT_SIZE`: only in UNLOCKED or REFUSED; `CT_BASE` is stored as written (R506). A pass that has
visited every record below a lower COUNT completes (R214). -/
def State.ctBase (s : State) (v : Nat) : WRes :=
  if ¬ s.unlocked then .refused s else .ok (s.set Rg.CT_BASE v)

@[inherit_doc State.ctBase]
def State.ctSize (s : State) (v : Nat) : WRes :=
  if ¬ s.unlocked ∨ 8192 < bits v 13 0 then .refused s
  else
    let s := s.set Rg.CT_SIZE_COUNT_K (bits v 13 0)
    .ok (match s.ctSweep with
      | some p => if s.ctCount = 0 then s else s.sweepNext p
      | none => s)

/-- A write of `CT_SWEEP`. -/
def State.ctSweepCfg (s : State) (v : Nat) : WRes :=
  if bits v 15 0 < 100 then .refused s
  else .ok ((s.set Rg.CT_SWEEP_PERIOD_MS (bits v 15 0)).set Rg.CT_SWEEP_STRIKE_LIMIT (bits v 19 16))

/-- A write of `CT_LOADER`. -/
def State.ctLoader (s : State) (v : Nat) : WRes :=
  if bits v 12 0 < 2688 then .refused s else .ok (s.set Rg.CT_LOADER_QUEUE (bits v 12 0))

end Sys2Proof.Machine
end

