-- ==== Sys2Proof/Machine/Fec.lean ====
section
/-! DEFINITION. The Reed-Solomon code of a lane, RS(544,514) over GF(2^10) (R422): encoding by its generator polynomial, decoding
by Berlekamp and Massey with the errors of Chien and Forney. -/

namespace Sys2Proof.Machine

/-! ### The field GF(2^10) -/

/-- `b` times the powers of x that the bits of `a` name, from the lowest on; `k` bits are left. -/
def gfMulBits : Nat → Nat → Nat → Nat → Nat
  | 0, _, _, acc => acc
  | k + 1, a, b, acc =>
    gfMulBits k (a / 2) (if b < 512 then 2 * b else Nat.xor (2 * b) 0x409) (if a % 2 = 1 then Nat.xor acc b else acc)

/-- The product in GF(2^10) with the primitive polynomial x^10 + x^3 + 1. [PRESUMED, unsafe: assumption 137] -/
def gfMul (a b : Nat) : Nat := if a = 0 ∨ b = 0 then 0 else gfMulBits 10 a b 0

/-- A power, by the bits of the exponent; `k` bits are left. -/
def gfPowBits : Nat → Nat → Nat → Nat → Nat
  | 0, _, _, acc => acc
  | k + 1, a, e, acc => gfPowBits k (gfMul a a) (e / 2) (if e % 2 = 1 then gfMul acc a else acc)

/-- The power α^e. -/
def gfExp (e : Nat) : Nat := gfPowBits 10 2 (e % 1023) 1

/-- The inverse of an element that is not 0. -/
def gfInv (a : Nat) : Nat := gfPowBits 10 a 1022 1

/-- The value of a polynomial at `x`, its highest coefficient first. -/
def gfEval (x : Nat) (cs : List Nat) : Nat := cs.foldl (fun acc c => Nat.xor (gfMul acc x) c) 0

/-- The sum of two polynomials, the lowest coefficient first. -/
def gfAdd : List Nat → List Nat → List Nat
  | [], q => q
  | p, [] => p
  | a :: p, b :: q => Nat.xor a b :: gfAdd p q

/-! ### Encoding -/

/-- The generator polynomial, (x − α^0) … (x − α^29), the lowest coefficient first.
[PRESUMED, unsafe: assumption 137] -/
def rsGen : List Nat := (List.range 30).foldl (fun g j => gfAdd (0 :: g) (g.map (gfMul (gfExp j)))) [1]

/-- One message symbol enters the division by the generator, whose coefficients below the highest are `g`, highest first; the
remainder so far is given and answered highest first. -/
def rsDivide (g : List Nat) (rem : List Nat) (m : Nat) : List Nat :=
  let f := Nat.xor m (rem.headD 0)
  if f = 0 then rem.drop 1 ++ [0] else List.zipWith Nat.xor (rem.drop 1 ++ [0]) (g.map (gfMul f))

/-- The codeword of 514 message symbols: they come first, and their 30 parity symbols after them (R422).
[PRESUMED, unsafe: assumption 137] -/
def rsEncode (ms : List Nat) : List Nat :=
  let g := (rsGen.take 30).reverse
  ms ++ ms.foldl (rsDivide g) (List.replicate 30 0)

/-! ### Decoding -/

/-- The 30 syndromes of a received word. -/
def rsSyndromes (ws : List Nat) : List Nat := (List.range 30).map (fun j => gfEval (gfExp j) ws)

/-- What Berlekamp and Massey's algorithm has come to: the locator, the one before its last change of length with its
discrepancy and the steps since, and the length. -/
structure BmState where
  c : List Nat
  b : List Nat
  d : Nat
  m : Nat
  l : Nat

/-- One step of the algorithm on the syndromes up to number `n`. -/
def bmStep (syn : List Nat) (t : BmState) (n : Nat) : BmState :=
  let d := (List.range (t.l + 1)).foldl (fun acc i => Nat.xor acc (gfMul (t.c.getD i 0) (syn.getD (n - i) 0))) 0
  if d = 0 then { t with m := t.m + 1 }
  else
    let f := gfMul d (gfInv t.d)
    let c := gfAdd t.c (List.replicate t.m 0 ++ t.b.map (gfMul f))
    if 2 * t.l ≤ n then ⟨c, t.c, d, 1, n + 1 - t.l⟩ else { t with c := c, m := t.m + 1 }

/-- The error locator and the number of errors of a received word. -/
def rsLocate (syn : List Nat) : List Nat × Nat :=
  let t := (List.range 30).foldl (bmStep syn) ⟨[1], [1], 1, 1, 0⟩
  (t.c, t.l)

/-- The coefficients of a locator's derivative. -/
def gfDeriv (c : List Nat) : List Nat := (List.range (c.length - 1)).map (fun i => if i % 2 = 0 then c.getD (i + 1) 0 else 0)

/-- The error value at a place with locator number α^p (Forney). -/
def rsValue (syn c : List Nat) (p : Nat) : Nat :=
  let xi := gfExp (1023 - p)
  let omega := (List.range 30).map (fun n =>
    (List.range (n + 1)).foldl (fun acc i => Nat.xor acc (gfMul (c.getD i 0) (syn.getD (n - i) 0))) 0)
  gfMul (gfExp p) (gfMul (gfEval xi omega.reverse) (gfInv (gfEval xi (gfDeriv c).reverse)))

/-- Decodes 544 received symbols: the 514 message symbols and the number of symbols corrected, where at most 15 are in error;
none where the word cannot be corrected (R422). [PRESUMED, unsafe: assumption 137] -/
def rsDecode (ws : List Nat) : Option (List Nat × Nat) :=
  let syn := rsSyndromes ws
  if syn.all (· == 0) then some (ws.take 514, 0)
  else
    let (c, l) := rsLocate syn
    let roots := (List.range 544).filter (fun p => gfEval (gfExp (1023 - p)) c.reverse == 0)
    if 15 < l ∨ roots.length ≠ l then none
    else
      let fixed := roots.foldl (fun ws p => ws.set (543 - p) (Nat.xor (ws.getD (543 - p) 0) (rsValue syn c p))) ws
      some (fixed.take 514, l)

/-- How a lane finds a received codeword: the symbols it corrects, 16 where it cannot (R422). -/
def rsOutcome (ws : List (BitVec 10)) : Nat :=
  match rsDecode (ws.map BitVec.toNat) with
  | some (_, k) => k
  | none => 16

/-! ### The flit stream of a transmitter (R422, R423) -/

/-- Symbols of ten bits, of a stream of bits that begins at the low end of a number.
[PRESUMED, unsafe: assumption 137] -/
def symbols (n v : Nat) : List Nat := (List.range n).map (fun i => v / 2 ^ (10 * i) % 1024)

/-- The codewords that a stream of `n` bits fills, and the bits left; the fuel is how many there can be. -/
def codewords : Nat → Nat × Nat → List (List Nat) × (Nat × Nat)
  | 0, x => ([], x)
  | k + 1, (n, v) =>
    if n < 5140 then ([], (n, v))
    else
      let (ws, r) := codewords k (n - 5140, v / 2 ^ 5140)
      (rsEncode (symbols 514 v) :: ws, r)

/-- The bits of flits after those that wait. [PRESUMED, unsafe: assumption 137] -/
def flitStream (x : Nat × Nat) (fs : List (BitVec 256)) : Nat × Nat :=
  fs.foldl (fun x f => (x.1 + 256, x.2 + f.toNat * 2 ^ x.1)) x

end Sys2Proof.Machine
end

