-- ==== Sys2Proof/Machine/Lanes.lean ====
section
/-! DEFINITION. Serial lanes: flits, the transmitter, loss of link, scripts, retirement and return (R420 to R437), with
the loopback that a return needs (R405, R407). -/

namespace Sys2Proof.Machine

/-- The state of a lane (R428): 0 OFF, 1 TRAINING, 2 IN_SERVICE, 3 RETRAIN, 4 RETIRED, 5 RETURNING. -/
def State.lnState (s : State) (l : Nat) : Nat := s.get (Rg.LN_STATUS_STATE l)

/-! ### Frames in progress (R424, R51) -/

/-- The words of a list of bytes; a last word that is not whole is left out. -/
def wholeWords (bs : List Byte) : List Nat :=
  (List.range (bs.length / 8)).map (fun i => leNat ((bs.drop (8 * i)).take 8))

/-- The frame in progress on a virtual channel is discarded as incomplete, where there is one (R51, R69). -/
def State.dropProg (s : State) (l vc : Nat) : State :=
  match Tab.get (s.lane l).prog vc [] with
  | [] => s
  | bs =>
    (s.modLane l (fun x => { x with prog := Tab.set x.prog vc [] [] })).routeFrame
      (⟨l, vc, wholeWords bs, false⟩ : SFrame)

/-- Every frame in progress on a lane is discarded. -/
def State.dropAllProg (s : State) (l : Nat) : State := (List.range 8).foldl (fun s vc => s.dropProg l vc) s

/-! ### Leaving service (R432, R433) -/

/-- The receiver of a lane that is withdrawn or off sees no signal, no lock and no flits (R428, R437).
[DEDUCED, unsafe: assumption 61] -/
def State.lnDark (s : State) (l : Nat) : State :=
  ((s.set (Rg.LN_STATUS_SIGNAL l) 0).set (Rg.LN_STATUS_CDR_LOCK l) 0).set (Rg.LN_STATUS_ALIGNED l) 0

/-- A lane that leaves its return is reinstated no more: only one that still returns enters service by it (R218, R433, R434). -/
def State.reinstateDrop (s : State) (l : Nat) : State :=
  if s.ctTasks.any (fun t => t.kind == CtKind.reinstate l)
    then { s with ctTasks := s.ctTasks.filter (fun t => !(t.kind == CtKind.reinstate l)) }.ctBusy
  else s

/-- A lane leaves a state: verdict frames that wait are not sent, and are counted; frames in progress are discarded
(R51, R432). -/
def State.lnLeave (s : State) (l st : Nat) : State :=
  let n := (s.lane l).txq.length
  let s := (s.reinstateDrop l).dropAllProg l |>.bumpBy Rg.VU_LANE_DROP_CNT n
  let s := (s.modLane l (fun x =>
    { x with txq := [], txBits := (0, 0), fseq := none, badRun := 0, uncorr := 0, adapting := false, repeatWait := false })).set
    (Rg.LN_STATUS_STATE l) st
  if st = 0 ∨ st = 4 then s.lnDark l else s

/-- A lane is retired (R433): its channels are marked, and the expected SEQ of its virtual channels is cleared. -/
def State.lnRetire (s : State) (l : Nat) : State :=
  let s := s.lnLeave l 4
  let s := s.modLane l (fun x => { x with ret := none, lost := false })
  let s := { s with expSeq := (List.range 8).foldl (fun t vc => Tab.del t (8 * l + vc)) s.expSeq }
  (s.raise (Rg.LN_INT_STATUS_RETIRED l)).ctMarkLane l

/-- A FAST attempt starts (R431, R432). -/
def State.lnFast (s : State) (l : Nat) : State := s.bump (Rg.LN_RETRAIN_CNT l)

/-- A class-2 strike on a lane: a permanent one retires it, a transient one starts another FAST attempt (R432). -/
def State.lnStrike (s : State) (l : Nat) : State :=
  match s.strike 2 l false with
  | (true, s) => s.lnRetire l
  | (false, s) => s.lnFast l

/-- A FULL training starts (R431). -/
def State.lnFull (s : State) (l st : Nat) : State :=
  (s.modLane l (fun x => { x with repeatWait := false })).set (Rg.LN_STATUS_STATE l) st

/-! ### The return sequence (R434) -/

/-- A return ends where it stands: the lane is RETIRED again, its channels as they are, no strike counted (R434, R436). -/
def State.lnReturnEnd (s : State) (l : Nat) : State :=
  (s.lnLeave l 4).modLane l (fun x => { x with ret := none })

/-- A step of the return fails. -/
def State.lnReturnFail (s : State) (l : Nat) : State := (s.lnReturnEnd l).raise (Rg.LN_INT_STATUS_RETURN_FAIL l)

/-- The lane enters IN_SERVICE, or OFF where its ENABLE is 0: at once where there is no cc 0 to wait for (R26, R428, R434).
[DEDUCED, unsafe: assumption 61] -/
def State.lnServe (s : State) (l : Nat) : State :=
  if ¬ s.flag (Rg.LN_CTRL_ENABLE l) then (s.lnLeave l 0).modLane l (fun x => { x with ret := none, lost := false })
  else
  let s := (s.set (Rg.LN_STATUS_STATE l) 2).modLane l (fun x => { x with ret := none, lost := false, badRun := 0, uncorr := 0 })
  { s.raise (Rg.LN_INT_STATUS_RETURNED l) with strikes := Tab.del s.strikes (strikeKey 2 l) }

/-- The last step of the return waits for a frame boundary. -/
def State.lnEnter (s : State) (l : Nat) : State :=
  if s.locked then s.modLane l (fun x => { x with ret := some (.enter s.dueNow) }) else s.lnServe l

/-- After FULL training: reinstatement, or the entry where AUTO_REINSTATE is 0. -/
def State.lnReinstate (s : State) (l : Nat) : State :=
  if s.flag Rg.CT_CTRL_AUTO_REINSTATE then
    (s.modLane l (fun x => { x with ret := some .reinstate })).ctBegin (.reinstate l) (s.laneRanges l)
  else s.lnEnter l

/-- Starts the loopback of the lowest-numbered returning lane that waits for one, when none runs and no drydown tier holds
Blotter's tests (R407, R434, R441). [DEDUCED, unsafe: assumption 61] -/
def State.lnLoopNext (s : State) : State :=
  if s.get Rg.BL_STATUS_LOOP = 1 ∨ s.get Rg.DD_STATUS_TIER ≠ 0 then s
  else
    match (List.range 128).find? (fun l => (s.lane l).ret == some .waitLoopback) with
    | none => s
    | some l =>
      ((s.modLane l (fun x => { x with ret := some .loopback })).set Rg.BL_STATUS_LOOP 1).set Rg.BL_LOOP_LANE l

/-- A return starts with the loopback. -/
def State.lnReturn (s : State) (l : Nat) : State :=
  ((s.set (Rg.LN_STATUS_STATE l) 5).modLane l (fun x => { x with ret := some .waitLoopback })).lnLoopNext

/-- The loopback of a lane has ended: a returning lane goes on with FULL training, or fails. -/
def State.lnLooped (s : State) (l : Nat) (pass : Bool) : State :=
  let s := if (s.lane l).ret ≠ some .loopback then s
    else if pass then (s.modLane l (fun x => { x with ret := some .training })).lnFull l 5
    else s.lnReturnFail l
  s.lnLoopNext

/-- LOOPBACK_DONE: the loopback has counted its bit errors (R405, R434). -/
def execLoopbackDone (errors : Word) (s : State) : Host.Outcome State Fault Refusal :=
  act s fun s =>
    if s.get Rg.BL_STATUS_LOOP ≠ 1 then s
    else
      let s := s.set Rg.BL_LOOP_ERR errors.toNat
      let s := if errors = 0 then (s.set Rg.BL_STATUS_LOOP 2).raise Rg.BL_INT_STATUS_DONE
        else (s.set Rg.BL_STATUS_LOOP 3).raise Rg.BL_INT_STATUS_FAIL
      s.lnLooped (s.get Rg.BL_LOOP_LANE) (errors == 0)

/-- The march of the spare and a loopback, where they run, are abandoned (R407). -/
def State.othersAbort (s : State) : State :=
  let s := if s.marching then s.mbistAbort.rotService else s
  if s.get Rg.BL_STATUS_LOOP = 1 then
    let s := (s.set Rg.BL_STATUS_LOOP 4).raise Rg.BL_INT_STATUS_ABORTED
    let l := s.get Rg.BL_LOOP_LANE
    (if (s.lane l).ret = some .loopback then s.lnReturnFail l else s).lnLoopNext
  else s

/-- The drydown top note abandons every test but OP 3 (R407). -/
def State.testsAbort (s : State) : State := s.lbistAbort.othersAbort

/-- TEST_ABORT: the tests that the drydown top note, or a migration without a SPARE engine, abandons (R125, R407). -/
def execTestAbort (s : State) : Host.Outcome State Fault Refusal :=
  act s fun s =>
    if s.get Rg.DD_STATUS_TIER ≠ 0 then s.testsAbort
    else if s.migReqs.any (fun r => decide (r.target = none) && decide (r.why ≠ MigWhy.blotter)) ∧
        (List.range 68).all (fun n => s.veState n ≠ 1) ∧ s.blLbist.any (fun n => s.veState n == 3) then s.lbistAbort
    else s

/-- REINSTATED: the automatic reinstatement completes (R218, R434). -/
def execReinstated (s : State) : Host.Outcome State Fault Refusal :=
  act s fun s => s.ctFinish isReinstate (fun t s =>
    let s := s.raise Rg.CT_INT_STATUS_REINSTATED
    match t.kind with
    | .reinstate l => if (s.lane l).ret = some .reinstate then s.lnEnter l else s
    | _ => s)

/-! ### Loss of link (R429, R432) -/

/-- A loss of link with its cause: 1 no signal, 2 lock, 3 flits, 4 codewords. -/
def State.lnLoss (s : State) (l cause : Nat) : State :=
  let s := (s.bump (Rg.LN_LOSS_CNT l)).set (Rg.LN_LAST_LOSS l) cause
  let s := (s.raise (Rg.LN_INT_STATUS_LOSS l)).set (Rg.LN_STATUS_ALIGNED l) 0
  let s := if cause = 1 then s.set (Rg.LN_STATUS_SIGNAL l) 0 else s
  let s := if cause ≤ 2 then s.set (Rg.LN_STATUS_CDR_LOCK l) 0 else s
  if s.lnState l = 5 then s.lnReturnFail l
  else
    let s := (s.lnLeave l 3).modLane l (fun x => { x with lost := true })
    -- every frame in collection until the lane is back carries HITLOSS (R432)
    let s := if s.locked then s.hitLoss s.collBuf else s
    s.lnStrike l

/-- LOSS_OF_LINK: lane `l` loses its link for a cause of R429; a lane that is returning fails its return (R434).
[DEDUCED, safe: assumption 60] -/
def execLossOfLink (l : Lane) (cause : Fin 4) (s : State) : Host.Outcome State Fault Refusal :=
  act s fun s => if s.lnState l = 2 ∨ s.lnState l = 5 then s.lnLoss l (cause + 1) else s

/-! ### Flits (R422 to R424, R430) -/

/-- A correctable event of a lane: an overflow of its bucket is a strike of class 2, which retires the lane where it is
permanent; no link is lost, so nothing is retrained (R395, R396, R398, R430). [DEDUCED, unsafe: assumption 113] -/
def State.ceLane (s : State) (l : Nat) : State :=
  match s.bucketAdd (202 + l) with
  | (false, s) => s
  | (true, s) =>
    match s.strike 2 l false with
    | (true, s) => s.lnRetire l
    | (false, s) => s

/-- The codeword that ends with this flit, where one does: the symbols that decoding corrects, 16 for uncorrectable; while the unit
is not LOCKED there is no frame to count uncorrectable ones in (R422, R429, R430). [DEDUCED, safe: assumption 60] -/
def State.lnCodeword (s : State) (l : Nat) (fec : Option (List (BitVec 10))) : State :=
  match fec with
  | none => s
  | some w =>
    if ¬ s.flag (Rg.LN_CTRL_FEC_EN l) then s
    else
    let k := rsOutcome w
    if k = 16 then
      (s.bump (Rg.LN_FEC_UNCORR_CNT l)).modLane l (fun x => { x with uncorr := x.uncorr + b2n s.locked })
    else
      let n := (s.lane l).corr + k
      let step := 2 ^ s.get (Rg.LN_CFG_CE_LOG2 l)
      let s := (s.bumpBy (Rg.LN_FEC_CORR_CNT l) k).modLane l (fun x => { x with corr := n % step })
      (List.range (n / step)).foldl (fun s _ => s.ceLane l) s

/-- Whether this codeword is the one that makes 16 uncorrectable ones in the frame (R429). -/
def State.lnSixteen (s : State) (l : Nat) (fec : Option (List (BitVec 10))) : Bool :=
  s.flag (Rg.LN_CTRL_FEC_EN l) && decide (16 ≤ (s.lane l).uncorr) && fec.any (fun w => rsOutcome w == 16)

/-- The 32 bytes of a flit. -/
def flitBytes (f : BitVec 256) : List Byte := leBytes 32 f.toNat

/-- What the receiver does with a flit beyond its FSEQ; the answer is whether the flit was in error (R424).
[DEDUCED, safe: assumption 60] -/
def State.lnFlit (s : State) (l : Nat) (f : BitVec 256) : Bool × State :=
  let h := f.toNat % 2 ^ 16
  let vc := bits h 2 0
  let sof := bits h 3 3 = 1
  let eof := bits h 4 4 = 1
  let nb := bits h 9 5
  let data := ((flitBytes f).drop 2).take nb
  let err (s : State) : Bool × State := (true, s.bump (Rg.LN_FLIT_ERR_CNT l))
  if nb = 0 then (if bits h 4 0 = 0 then (false, s) else err (s.dropProg l vc))
  else if 30 < nb ∨ (nb < 30 ∧ ¬ eof) then err (s.dropProg l vc)
  else if ¬ sof ∧ Tab.get (s.lane l).prog vc [] = [] then err s
  else
    let s := if sof then s.dropProg l vc else s
    let bs := Tab.get (s.lane l).prog vc [] ++ data
    if eof then
      let s := (s.modLane l (fun x => { x with prog := Tab.set x.prog vc [] [] })).bump (Rg.LN_RX_FRAME_CNT l)
      (false, { s with rxDone := s.rxDone ++ [(⟨l, vc, wholeWords bs, bs.length % 8 == 0⟩ : SFrame)] })
    else (false, s.modLane l (fun x => { x with prog := Tab.set x.prog vc [] bs }))

/-- FLIT_RECEIVE: a lane in service receives a flit: its codeword, its FSEQ, its content, and the losses of link that
the device itself decides (R424, R429). -/
def State.flitReceive (s : State) (l : Nat) (f : BitVec 256) (fec : Option (List (BitVec 10))) : State :=
  if s.lnState l ≠ 2 then s
  else
    let s := s.lnCodeword l fec
    if s.lnState l ≠ 2 then s
    else
    let fseq := bits (f.toNat % 2 ^ 16) 15 10
    let gap := match (s.lane l).fseq with
      | none => false
      | some p => fseq != (p + 1) % 64
    let s := s.modLane l (fun x => { x with fseq := some fseq })
    let s := if gap then s.bump (Rg.LN_FSEQ_ERR_CNT l) else s
    match s.lnFlit l f with
    | (bad, s) =>
      let s := s.modLane l (fun x => { x with badRun := if bad || gap then x.badRun + 1 else 0 })
      if 4 ≤ (s.lane l).badRun then s.lnLoss l 3
      else if s.lnSixteen l fec then s.lnLoss l 4
      else s

@[inherit_doc State.flitReceive]
def execFlitReceive (l : Lane) (f : BitVec 256) (fec : Option (List (BitVec 10))) (s : State) : Host.Outcome State Fault Refusal :=
  act s fun s => s.flitReceive l f fec

/-- SAONJO_FRAME_ACCEPT: the CRC check of the oldest complete frame of a lane and virtual channel completes: the router
takes it (R51, R69). -/
def execSaonjoFrameAccept (l : Lane) (vc : Fin 8) (up : Option Upset) (s : State) : Host.Outcome State Fault Refusal :=
  act s fun s =>
    let s := s.upsetOpt up
    match s.rxDone.find? (fun f => f.lane == l.val && f.vc == vc.val) with
    | none => s
    | some f => { s with rxDone := s.rxDone.erase f }.routeFrame f

/-- IR_ENABLE_WRITE: `IR_CTRL` written with ENABLE (R58). -/
def execIrEnableWrite (m : Master) (v : Word) (s : State) : Host.Outcome State Fault Refusal :=
  act s fun s => s.regCommand m Rg.IR_CTRL_ENABLE.addr 4 (fun s => s.irCtrl (Nat.lor v.toNat 1))

/-! ### The transmitter (R425, R49) -/

/-- A flit: its header and its payload bytes, the unused ones 0 (R423). -/
def flitOf (vc : Nat) (sof eof : Bool) (fseq : Nat) (data : List Byte) : BitVec 256 :=
  BitVec.ofNat 256 (vc % 8 + b2n sof * 2 ^ 3 + b2n eof * 2 ^ 4 + data.length % 32 * 2 ^ 5 + fseq % 64 * 2 ^ 10 +
    leNat data * 2 ^ 16)

/-- The consecutive flits of a frame from a number on: the first has SOF set, the last EOF, and every other one is full; `n`
bounds how many they are (R423). -/
def frameFlits (vc fseq : Nat) (sof : Bool) (bs : List Byte) : Nat → List (BitVec 256)
  | 0 => []
  | n + 1 =>
    if bs.length ≤ 30 then [flitOf vc sof true fseq bs]
    else flitOf vc sof false fseq (bs.take 30) :: frameFlits vc (fseq + 1) false (bs.drop 30) n

/-- How many flits have been sent. -/
def State.lnSent (s : State) (l n : Nat) : State := s.modLane l (fun x => { x with txFseq := (x.txFseq + n) % 64 })

/-- The flits that leave with FEC are carried by codewords, each of which leaves once its 5,140 bits are there (R422). -/
def State.lnCoded (s : State) (l : Nat) (fs : List (BitVec 256)) : State :=
  if ¬ s.flag (Rg.LN_CTRL_FEC_EN l) then s
  else
    let (ws, r) := codewords (fs.length + 1) (flitStream (s.lane l).txBits fs)
    ws.foldl (fun s w => s.emit (.laneCodeword l w)) (s.modLane l (fun x => { x with txBits := r }))

/-- Sends a frame on a lane: its trailer takes the next SEQ of the virtual channel, and the CRC; its bytes leave in flits (R49,
R423, R425). -/
def State.lnSend (s : State) (l : Nat) (t : TxFrame) : State :=
  let q := Tab.get (s.lane l).txSeq t.vc 0
  let crc := crc32c ((t.words.map (leBytes 8)).flatten ++ leBytes 4 q)
  let ws := t.words ++ [crc + q * 2 ^ 32]
  let fs := frameFlits t.vc (s.lane l).txFseq true ((ws.map (leBytes 8)).flatten) ws.length
  let s := s.modLane l (fun x => { x with txSeq := Tab.set x.txSeq t.vc 0 ((q + 1) % 2 ^ 32) })
  (((s.lnSent l fs.length).emit (.laneFrame l t.vc ws fs)).lnCoded l fs).bump (Rg.LN_TX_FRAME_CNT l)

/-- With nothing to send, an idle flit leaves (R423, R425). -/
def State.lnIdle (s : State) (l : Nat) : State :=
  let f := flitOf 0 false false (s.lane l).txFseq []
  ((s.lnSent l 1).emit (.idleFlit l f)).lnCoded l [f]

/-- The readout channel whose turn it is on a lane: round-robin, with an item ready for it (R425). -/
def State.lnTurn (s : State) (l : Nat) : Option Nat :=
  let last := Tab.get s.rdTurn l 15
  ((List.range 16).map (fun i => (last + 1 + i) % 16)).find? (fun r =>
    match Tab.get s.rdHold r none with
    | some i => i.tx.lane == l
    | none => false)

/-- LANE_TRANSMIT_FRAME: between frames the transmitter takes a verdict frame, else the item of the next readout channel,
which is then released; with neither it sends an idle flit, as it does in RETRAIN. A channel that a drydown tier has caught with
an item in hand stops here, at the item boundary (R256, R258, R425, R428). -/
def State.lnTransmit (s : State) (l : Nat) : State :=
  if s.lnState l = 3 then s.lnIdle l
  else if ¬ s.inService l then s
  else
    match (s.lane l).txq with
    | t :: r => (s.modLane l (fun x => { x with txq := r })).lnSend l t
    | [] =>
      match s.lnTurn l with
      | none => s.lnIdle l
      | some r =>
        match Tab.get s.rdHold r none with
        | none => s
        | some i =>
          let s := ({ s with rdHold := Tab.set s.rdHold r none none, rdTurn := Tab.set s.rdTurn l 15 r }.lnSend l i.tx)
          (if s.get Rg.DD_STATUS_TIER = 0 then s else s.set (Rg.RD_STATUS_PAUSED r) 1).rdRelease r i.head

@[inherit_doc State.lnTransmit]
def execLaneTransmitFrame (l : Lane) (s : State) : Host.Outcome State Fault Refusal := act s fun s => s.lnTransmit l

/-! ### Scripts (R431) -/

/-- The event whose script runs on a lane, where one does: 0 FULL, 1 FAST, 2 ADAPT. -/
def State.lnEvent (s : State) (l : Nat) : Option Nat :=
  let x := s.lane l
  match s.lnState l with
  | 1 => if x.repeatWait then none else some 0
  | 2 => if x.adapting then some 2 else none
  | 3 => some 1
  | 5 => if x.ret = some .training then some 0 else none
  | _ => none

/-- A FULL training fails or times out: it repeats after `TRAIN_MS`, or fails the return (R431, R434). -/
def State.lnFullFail (s : State) (l : Nat) : State :=
  let s := s.raise (Rg.LN_INT_STATUS_TRAIN_FAIL l)
  if s.lnState l = 5 then s.lnReturnFail l else s.modLane l (fun x => { x with repeatWait := true })

/-- The lane has aligned: signal, lock and flits. -/
def State.lnAligned (s : State) (l : Nat) : State :=
  ((s.set (Rg.LN_STATUS_SIGNAL l) 1).set (Rg.LN_STATUS_CDR_LOCK l) 1).set (Rg.LN_STATUS_ALIGNED l) 1

/-- The outcome of a script that passed with the lane aligned. [DEDUCED, unsafe: assumption 61] -/
def State.lnPass (s : State) (l e : Nat) : State :=
  match e with
  | 0 => if s.lnState l = 5 then (s.lnAligned l).lnReinstate l
      else ((s.lnAligned l).set (Rg.LN_STATUS_STATE l) 2).modLane l (fun x => { x with lost := false, badRun := 0, uncorr := 0 })
  | 1 => (((s.lnAligned l).set (Rg.LN_STATUS_STATE l) 2).raise (Rg.LN_INT_STATUS_RETRAINED l)).modLane l
      (fun x => { x with lost := false, badRun := 0, uncorr := 0 })
  | _ => s

/-- One coefficient after a script: an ADAPT script moves it by one step at most, within its range; the taps are signed (R431,
R437). -/
def lnStep (adapt signed : Bool) (w old new : Nat) : Nat :=
  let pos (v : Nat) : Int := if signed && decide (2 ^ (w - 1) ≤ v) then (v : Int) - 2 ^ w else v
  if ¬ adapt ∨ (pos new ≤ pos old + 1 ∧ pos old ≤ pos new + 1) then new else old

/-- The equaliser registers as the script leaves them, and the ratio measured (R431, R437). -/
def State.lnEqualise (s : State) (l e : Nat) (tx : BitVec 24) (rx : BitVec 10) (snr : BitVec 16) : State :=
  let put (s : State) (signed : Bool) (f : Fld) (v : Nat) : State := s.set f (lnStep (e == 2) signed f.w (s.get f) v)
  let t := tx.toNat
  let s := put (put s true (Rg.LN_PHY_TX_PRE2 l) (bits t 5 0)) true (Rg.LN_PHY_TX_PRE1 l) (bits t 11 6)
  let s := put (put s false (Rg.LN_PHY_TX_MAIN l) (bits t 17 12)) true (Rg.LN_PHY_TX_POST1 l) (bits t 23 18)
  let s := put (put s false (Rg.LN_PHY_RX_CTLE l) (bits rx.toNat 3 0)) false (Rg.LN_PHY_RX_VGA l) (bits rx.toNat 9 4)
  s.set (Rg.LN_SNR l) snr.toNat

/-- SCRIPT_RESULT: the script of a lane reports PASS or FAIL; `aligned` says whether the hardware has the clock lock and
the flits without error that a PASS needs (R431). A PASS without them changes nothing but the report.
[DESIGN CHOICE, safe: assumption 8] -/
def execScriptResult (l : Lane) (pass aligned : Bool) (tx : BitVec 24) (rx : BitVec 10) (snr : BitVec 16) (s : State) :
    Host.Outcome State Fault Refusal :=
  act s fun s =>
    match s.lnEvent l with
    | none => s
    | some e =>
      let s := ((s.set (Rg.LN_SCRIPT_RESULT l) (if pass then 1 else 2)).set (Rg.LN_SCRIPT_EVENT l) e).lnEqualise l e tx rx snr
      let s := if e = 2 then s.modLane l (fun x => { x with adapting := false }) else s
      if pass then (if aligned then s.lnPass l e else s)
      else if e = 0 then s.lnFullFail l
      else if e = 1 then s.lnStrike l
      else s

/-- SCRIPT_TIMEOUT: the script of a lane exceeds its limit (R431, R432). -/
def execScriptTimeout (l : Lane) (s : State) : Host.Outcome State Fault Refusal :=
  act s fun s =>
    match s.lnEvent l with
    | none => s
    | some e =>
      let s := (s.set (Rg.LN_SCRIPT_RESULT l) 3).set (Rg.LN_SCRIPT_EVENT l) e
      if e = 0 then s.lnFullFail l
      else if e = 1 then s.lnStrike l
      else (s.modLane l (fun x => { x with adapting := false })).bump (Rg.LN_ADAPT_SKIP_CNT l)

/-- ADAPT_TICK: an ADAPT script starts on a lane in service (R431). -/
def execAdaptTick (l : Lane) (s : State) : Host.Outcome State Fault Refusal :=
  act s fun s =>
    if s.inService l ∧ s.flag (Rg.LN_ADAPT_ADAPT_EN l) then s.modLane l (fun x => { x with adapting := true }) else s

/-- FULL_TRAINING_REPEAT: `TRAIN_MS` after a FULL training failed, it starts again (R431). -/
def execFullTrainingRepeat (l : Lane) (s : State) : Host.Outcome State Fault Refusal :=
  act s fun s => if s.lnState l = 1 ∧ (s.lane l).repeatWait then s.lnFull l 1 else s

/-! ### Registers of a lane (R420, R433, R434, R437) -/

/-- Whether the lane is powered off by the heart note (R435). -/
def State.lnShed (s : State) (l : Nat) : Bool :=
  s.flag (Rg.LN_CTRL_ROLE l) && decide (2 ≤ s.get Rg.DD_STATUS_TIER)

/-- The rates that run in the quad of a lane, other than its own. -/
def State.quadRates (s : State) (l : Nat) : List Nat :=
  (((List.range 4).map (· + l / 4 * 4)).filter (fun k => k ≠ l ∧ s.flag (Rg.LN_CTRL_ENABLE k))).map
    (fun k => s.get (Rg.LN_CTRL_RATE k))

/-- Whether a rate would be a third one in the quad. -/
def State.thirdRate (s : State) (l rate : Nat) : Bool :=
  decide (2 < ((rate :: s.quadRates l).eraseDups).length)

/-- A write of `LN_CTRL` (R420, R428, R437). [DEDUCED, unsafe: assumption 61] -/
def State.lnCtrl (s : State) (l v : Nat) : WRes :=
  let en := bits v 0 0
  let rate := bits v 4 2
  let free := s.lnState l = 0 ∨ s.lnState l = 4
  let same := s.get (Rg.LN_CTRL_FEC_EN l) = bits v 1 1 ∧ s.get (Rg.LN_CTRL_RATE l) = rate ∧
    s.get (Rg.LN_CTRL_ROLE l) = bits v 5 5 ∧ s.get (Rg.LN_CTRL_PRECODE l) = bits v 6 6
  if 5 ≤ rate ∨ (¬ free ∧ ¬ same) then .refused s
  else if en = 1 ∧ s.thirdRate l rate then .refused s
  else
    let was := s.flag (Rg.LN_CTRL_ENABLE l)
    let s := ((s.set (Rg.LN_CTRL_ENABLE l) en).set (Rg.LN_CTRL_FEC_EN l) (bits v 1 1)).set (Rg.LN_CTRL_RATE l) rate
    let s := ((s.set (Rg.LN_CTRL_ROLE l) (bits v 5 5)).set (Rg.LN_CTRL_PRECODE l) (bits v 6 6)).set (Rg.LN_CTRL_TX_INV l) (bits v 7 7)
    let s := (s.set (Rg.LN_CTRL_RX_INV l) (bits v 8 8)).set (Rg.LN_CTRL_AUTO_RETURN l) (bits v 9 9)
    if en = 0 then .ok (if was then (s.lnLeave l 0).modLane l (fun x => { x with ret := none, lost := false }) else s)
    else if s.lnState l = 0 ∧ ¬ s.lnShed l then .ok (s.lnFull l 1)
    else .ok s

/-- LANE_ENABLE: `LN_CTRL` written with ENABLE (R420, R431). -/
def execLaneEnable (m : Master) (l : Lane) (v : Word) (s : State) : Host.Outcome State Fault Refusal :=
  act s fun s => s.regCommand m (Rg.LN_CTRL_ENABLE l).addr 4 (fun s => s.lnCtrl l (Nat.lor v.toNat 1))

/-- `LN_CMD.RETIRE`: at once, and permanent (R433, R436). [DEDUCED, unsafe: assumption 61] -/
def State.lnRetireCmd (s : State) (l : Nat) : State :=
  if s.lnState l = 4 then s
  else
    let s := { s with strikes := Tab.del s.strikes (strikeKey 2 l) }
    let s := ((s.raise Rg.BL_INT_STATUS_PERM).set Rg.RL_LAST_PERM_CLASS 2).set Rg.RL_LAST_PERM_UNIT l
    (s.bump Rg.RL_PERM_CNT).lnRetire l

/-- A write of `LN_CMD`; a lane that the heart note has powered off does not return (R433 to R437).
[DEDUCED, unsafe: assumption 61] -/
def State.lnCmd (s : State) (l v : Nat) : WRes :=
  if bits v 1 1 = 1 ∧ (s.lnState l ≠ 4 ∨ bits v 0 0 = 1 ∨ s.lnShed l) then .refused s
  else
    let s := if bits v 0 0 = 1 then s.lnRetireCmd l else s
    let s := if bits v 1 1 = 1 then s.lnReturn l else s
    .ok (if bits v 2 2 = 1 ∧ s.lnState l = 2 then (s.lnLeave l 3).lnFast l else s)

/-- A write of `LN_CMD` with a bit forced to 1. -/
def State.lnTrig (s : State) (m l bit : Nat) (v : Word) : State :=
  s.regCommand m (Rg.LN_CMD_RETIRE l).addr 4 (fun s => s.lnCmd l (Nat.lor v.toNat (2 ^ bit)))

/-- LANE_RETIRE (R433). -/
def execLaneRetire (m : Master) (l : Lane) (v : Word) (s : State) : Host.Outcome State Fault Refusal :=
  act s fun s => s.lnTrig m l 0 v

/-- LANE_RETURN (R434). -/
def execLaneReturn (m : Master) (l : Lane) (v : Word) (s : State) : Host.Outcome State Fault Refusal :=
  act s fun s => s.lnTrig m l 1 v

/-- RETRAIN (R437). -/
def execRetrain (m : Master) (l : Lane) (v : Word) (s : State) : Host.Outcome State Fault Refusal :=
  act s fun s => s.lnTrig m l 2 v

/-- AUTO_RETURN: `RETURN_S` after its retirement, a lane with AUTO_RETURN starts its return (R434). -/
def execAutoReturn (l : Lane) (s : State) : Host.Outcome State Fault Refusal :=
  act s fun s => if s.lnState l = 4 ∧ s.flag (Rg.LN_CTRL_AUTO_RETURN l) ∧ ¬ s.lnShed l then s.lnReturn l else s

/-- A write of `LN_ADAPT`. -/
def State.lnAdapt (s : State) (l v : Nat) : WRes :=
  if bits v 15 0 < 10 then .refused s
  else .ok ((s.set (Rg.LN_ADAPT_ADAPT_US l) (bits v 15 0)).set (Rg.LN_ADAPT_ADAPT_EN l) (bits v 16 16))

/-! ### Drydown and the frame boundary (R432, R434, R435) -/

/-- The heart note takes the DAQ lanes to OFF; a returning lane stays RETIRED (R435, R436). -/
def State.lnHeart (s : State) : State :=
  ((List.range 128).filter (fun l => s.flag (Rg.LN_CTRL_ROLE l) && s.lnState l != 4)).foldl (fun s l =>
    if s.lnState l = 5 then s.lnReturnEnd l
    else (s.lnLeave l 0).modLane l (fun x => { x with lost := false })) s

/-- The DAQ lanes run FULL on recovery from the heart note (R435). -/
def State.lnRecover (s : State) : State :=
  ((List.range 128).filter (fun l => s.flag (Rg.LN_CTRL_ROLE l) && s.flag (Rg.LN_CTRL_ENABLE l) && s.lnState l == 0)).foldl
    (fun s l => s.lnFull l 1) s

/-- A frame is in collection while a lane is lost: it carries HITLOSS (R432). -/
def State.lnLost (s : State) : State := if s.lanes.any (fun e => e.2.lost) then s.hitLoss s.collBuf else s

/-- cc 0 at the lanes: those that have been reinstated come one boundary nearer to service, the codewords of the frame
start anew, and the frame now in collection carries HITLOSS where a lane is lost (R429, R432, R434). -/
def State.lnTick (s : State) : State :=
  let s := s.lnLost
  s.lanes.foldl (fun s e =>
    let l := e.1
    let s := s.modLane l (fun x => { x with uncorr := 0 })
    match (s.lane l).ret with
    | some (.enter d) => if d ≤ 1 then s.lnServe l else s.modLane l (fun x => { x with ret := some (.enter (d - 1)) })
    | _ => s) s

end Sys2Proof.Machine
end

