-- ==== Sys2Proof/Machine/Drydown.lean ====
section
/-! DEFINITION. Drydown: tiers, what they shed, and how the device comes back (R440 to R447). -/

namespace Sys2Proof.Machine

/-! ### Engines off and on (R441, R442, R445) -/

/-- The event counters of engine `n` at their reset values (R445). -/
def State.ecReset (s : State) (n : Nat) : State :=
  (List.range 128).foldl (fun s k =>
    (((s.resetFld (Rg.EC_LO n k)).resetFld (Rg.EC_HI_COUNT n k)).resetFld (Rg.EC_HI_OVF n k)).resetFld (Rg.EC_SEL n k)) s

/-- An engine drains and is powered off: its state is lost, the checkpoint keeps its context (R287, R443).
[DEDUCED, unsafe: assumption 65] -/
def State.engineOff (s : State) (n : Nat) : State :=
  let s := (s.stopEngine n).dropResvOf n
  (s.setEng n {}).setVeState n 0

/-- Whether an engine is that of a lean slot (R442). -/
def State.leanEngine (s : State) (n : Nat) : Bool := match s.slotOf n with | some k => s.leanSlot k | none => false

/-- The engines that the heart note sheds: SPARE ones, and those of slots that are not lean (R441, R442). -/
def State.heartSheds (s : State) : List Nat :=
  (List.range 68).filter (fun n => s.veState n == 1 ||
    (s.veState n == 2 && !s.leanEngine n))

/-- Engines that are powering on and that the tier sheds are off again: only some go on (R441, R445). -/
def State.powerKeep (s : State) (p : Nat → Bool) : State :=
  let ns := s.dd.power.filter p
  if ns = [] then { s with dd := { s.dd with power := [], ready := false } }.set Rg.DD_STATUS_POWERING 0
  else { s with dd := { s.dd with power := ns } }

/-- The heart note takes effect (R435, R441, R443). -/
def State.heartApply (s : State) : State :=
  let s := (s.heartSheds.foldl State.engineOff s).powerKeep s.leanEngine
  { s.lnHeart with dd := { s.dd with heartDue := false, lean := true } }

/-- The base note takes the engines off; a RETIRED one stays RETIRED (R441, R443). -/
def State.baseApply (s : State) : State :=
  (((List.range 68).filter (fun n => s.veState n != 0 && s.veState n != 4)).foldl State.engineOff s).powerKeep (fun _ => false)

/-- Every running slot is stopped as at the deadline (R443). -/
def State.baseStop (s : State) : State :=
  let s := s.stopRunning
  { s with ft := { s.ft with baseStop := true } }

/-! ### Entering a tier (R441, R443, R444) -/

/-- The top note: tests end, a rotation step that has not reached its switch is abandoned, the sweep stops and readout pauses
(R100, R220, R258, R407, R441). -/
def State.topEnter (s : State) : State :=
  let s := ((s.testsAbort.bump Rg.DD_TOP_CNT).rotAbandon.sweepCut).rdPause
  { s with dd := { s.dd with minMv := 0x3FF, path := 1, topFrame := s.frameNo } }

/-- The heart note: pending migrations are cancelled at once, the rest waits for cc 0 (R128, R443). -/
def State.heartEnter (s : State) : State :=
  let s := { s with migReqs := [], dd := { s.dd with path := Nat.lor s.dd.path 2 } }
  let s := (s.set Rg.EM_STATUS_MIG_PENDING 0).bump Rg.DD_HEART_CNT
  if s.locked then { s with dd := { s.dd with heartDue := true } } else s.heartApply

/-- The base note (R443). -/
def State.baseEnter (s : State) : State :=
  let s := { s with dd := { s.dd with path := Nat.lor s.dd.path 4 } }.bump Rg.DD_BASE_CNT
  let s := s.freezeOn 1
  if ¬ s.locked then s.baseApply
  else if s.ft.evalRun ∧ s.ft.phase < 3 then s.baseStop
  else s

/-- Enters a tier deeper than the present one: the effects of every tier passed through apply in the same step (R440).
[DEDUCED, unsafe: assumption 65] -/
def State.ddEnter (s : State) (t : Nat) : State :=
  let o := s.get Rg.DD_STATUS_TIER
  if t ≤ o then s
  else
    let s := ((s.set Rg.DD_STATUS_TIER t).set Rg.DD_STATUS_GOOD 0).raise Rg.DD_INT_STATUS_DEEPER
    let s := { s with dd := { s.dd with leaveDue := false, since := 0 } }
    let s := if o < 1 then s.topEnter else s
    let s := if o < 2 ∧ 2 ≤ t then s.heartEnter else s
    if t = 3 then s.baseEnter else s

/-- The samples of `SUSTAIN_US`, one each 10 ns; 0 acts as 1 (R440, R464). -/
def State.ddSustain (s : State) : Nat := 100 * max 1 (s.get Rg.DD_CFG_SUSTAIN_US)

/-- The deepest tier whose threshold is crossed: every sample of `SUSTAIN_US` lies below it (R440). -/
def State.ddCrossed (s : State) : Nat :=
  if s.ddSustain ≤ Tab.get s.dd.runs 3 0 then 3
  else if s.ddSustain ≤ Tab.get s.dd.runs 2 0 then 2
  else if s.ddSustain ≤ Tab.get s.dd.runs 1 0 then 1
  else 0

/-- A sample of VDD_CORE is recorded (R447, R464). -/
def State.ddSample (s : State) (mv : Nat) : State :=
  let s := (s.set Rg.DD_VCORE_MV mv).set Rg.DD_VCORE_MIN_MV (min mv (s.get Rg.DD_VCORE_MIN_MV))
  { s with dd := { s.dd with minMv := min mv s.dd.minMv } }

/-- How many samples in a row lie below a tier's threshold after `r` more. -/
def State.ddRunOf (s : State) (r : SampleRun) (t : Nat) : Nat :=
  if r.mv.toNat < s.ddThreshold t then Tab.get s.dd.runs t 0 + r.n.toNat else 0

/-- `n` samples of one voltage: while EN is 1 the device enters the deepest tier that they cross, and one below the limit of
the present tier returns its count of good frames to 0 (R440, R444, R464). -/
def State.ddRun (s : State) (r : SampleRun) : State :=
  if r.n = 0 then s
  else
    let s := { s with dd := { s.dd with runs := [1, 2, 3].map (fun t => (t, s.ddRunOf r t)) } }
    let s := (if s.flag Rg.DD_CTRL_EN then s.ddEnter s.ddCrossed else s).ddSample r.mv.toNat
    if s.ddGood r.mv.toNat then s
    else { s.set Rg.DD_STATUS_GOOD 0 with dd := { s.dd with badFrame := true } }

/-- The samples since the last ones, oldest first. -/
def State.ddSamples (s : State) (l : List SampleRun) : State := l.foldl State.ddRun s

/-- DRYDOWN_TIER_ENTER: the samples by which VDD_CORE crosses a threshold (R440, R441, R464).
[DESIGN CHOICE, unsafe: assumption 115] -/
def execDrydownTierEnter (samples : List SampleRun) (s : State) : Host.Outcome State Fault Refusal :=
  act s fun s => s.ddSamples samples

/-! ### Leaving a tier (R444, R445) -/

/-- Powers engines on. -/
def State.ddPower (s : State) (ns : List Nat) : State :=
  if ns = [] then s
  else { s with dd := { s.dd with power := (s.dd.power ++ ns).eraseDups, ready := false } }.set Rg.DD_STATUS_POWERING 1

/-- The engines of lean slots that are off. -/
def State.leanOff (s : State) : List Nat :=
  (List.range 68).filter (fun n => s.veState n == 0 && s.leanEngine n)

/-- One tier is left, as a frame begins, which is the first whole one of the tier above (R444, R445).
[DEDUCED, unsafe: assumption 65] -/
def State.ddLeave (s : State) : State :=
  let o := s.get Rg.DD_STATUS_TIER
  let s := { s with dd := { s.dd with leaveDue := false, since := 1, badFrame := false } }
  let s := ((s.set Rg.DD_STATUS_TIER (o - 1)).set Rg.DD_STATUS_GOOD 0).raise Rg.DD_INT_STATUS_LIGHTER
  match o with
  | 3 => s.ddPower s.leanOff
  | 2 =>
    let s := (s.ddPower ((List.range 68).filter (fun n => s.veState n == 0))).lnRecover
    if s.dd.power = [] then { s with dd := { s.dd with lean := false } } else s
  | 1 => ((List.range 16).foldl (fun s r => s.set (Rg.RD_STATUS_PAUSED r) 0) s).rotService.lnLoopNext
  | _ => s

/-- The step that the frame which ends completes (R444). -/
def State.ddLeaveDue (s : State) : State := if s.dd.leaveDue then s.ddLeave else s

/-- DRYDOWN_TIER_LEAVE: the samples of VDD_CORE of the frames by which a tier is left: each cc 0, or each 2,048 mc outside
LOCKED, counts the frame that ends where all its samples were good, and the one that completes `GOOD_FRAMES` of them leaves
the tier (R444). [DESIGN CHOICE, unsafe: assumption 115] -/
def execDrydownTierLeave (samples : List SampleRun) (s : State) : Host.Outcome State Fault Refusal :=
  act s fun s => s.ddSamples samples

/-- The engines that are ready come back: each one that the map names takes its slot with a restore or the cold context,
the others return to SPARE (R445). -/
def State.ddBack (s : State) : State :=
  let ns := s.dd.power
  let s := ns.foldl (fun (s : State) n => s.ecReset n) s
  let slots := (List.range 64).filter (fun k => match s.veOf k with | some n => ns.contains n | none => false)
  let s := { s with dd := { s.dd with power := [], ready := false, back := slots, lean := decide (2 ≤ s.get Rg.DD_STATUS_TIER) } }
  let s := (ns.filter (fun n => (s.slotOf n).isNone)).foldl (fun s n => s.setVeState n 1) s
  let s := slots.foldl (fun (s : State) k => s.restoreNewer k (s.get (Rg.EM_MAP_VE k)) true) s
  s.set Rg.DD_STATUS_POWERING 0

/-- ENGINE_POWER_READY: the engines powered on are ready; they take their slots at the next cc 0 (R445). -/
def execEnginePowerReady (s : State) : Host.Outcome State Fault Refusal :=
  act s fun s =>
    if s.dd.power = [] then s
    else if s.locked then { s with dd := { s.dd with ready := true } }
    else
      let s := s.ddBack.settleMigs
      { s with dd := { s.dd with back := [] } }

/-! ### Registers (R443, R464) -/

/-- A write of `DD_CTRL`: FORCE holds at least that tier; a FORCE that holds the present one stands for a voltage below it, and
returns its count of good frames to 0 (R443, R444). [DEDUCED, unsafe: assumption 65] -/
def State.ddCtrl (s : State) (v : Nat) : WRes :=
  let s := (s.set Rg.DD_CTRL_EN (bits v 0 0)).set Rg.DD_CTRL_FORCE (bits v 2 1)
  let s := s.ddEnter (bits v 2 1)
  .ok (if s.get Rg.DD_STATUS_TIER ≤ bits v 2 1 then
      { s.set Rg.DD_STATUS_GOOD 0 with dd := { s.dd with badFrame := true } }
    else s)

/-- DRYDOWN_FORCE: `DD_CTRL` written with FORCE (R443). -/
def execDrydownForce (m : Master) (tier : BitVec 2) (v : Word) (s : State) : Host.Outcome State Fault Refusal :=
  act s fun s => s.regCommand m Rg.DD_CTRL_EN.addr 4 (fun s => s.ddCtrl (v.toNat % 2 + tier.toNat * 2))

/-- A write of `DD_THR0` or `DD_THR1`: the thresholds keep their order. -/
def State.ddThr (s : State) (top heart base : Nat) : WRes :=
  if heart < top ∧ base < heart ∧ 680 ≤ base then
    .ok (((s.set Rg.DD_THR0_TOP_MV top).set Rg.DD_THR0_HEART_MV heart).set Rg.DD_THR1_BASE_MV base)
  else .refused s

/-- The bits set in a word. -/
def popcount (w v : Nat) : Nat := ((List.range w).filter (fun i => v.testBit i)).length

/-- A write of `DD_LEAN_LO` or `DD_LEAN_HI`: at most 32 bits may be set, and only in UNLOCKED or REFUSED. -/
def State.ddLean (s : State) (lo hi : Nat) : WRes :=
  if ¬ s.unlocked ∨ 32 < popcount 32 lo + popcount 32 hi then .refused s
  else .ok ((s.set Rg.DD_LEAN_LO lo).set Rg.DD_LEAN_HI hi)

/-- A write of `DD_CFG`. -/
def State.ddCfg (s : State) (v : Nat) : WRes :=
  if bits v 5 0 < 5 then .refused s
  else .ok (((s.set Rg.DD_CFG_HYST_MV (bits v 5 0)).set Rg.DD_CFG_GOOD_FRAMES (bits v 15 8)).set
    Rg.DD_CFG_SUSTAIN_US (bits v 23 16))

end Sys2Proof.Machine
end

