-- ==== Sys2Proof/Machine/FrameTick.lean ====
section
/-! DEFINITION. The frame/tick unit: locking, crossings, the frame boundary, the phases of the evaluation frame, and
loss of lock (R14 to R43, R508). -/

namespace Sys2Proof.Machine

/-- Changes a field of the unit's own state. -/
def State.modFt (s : State) (f : FrameTick → FrameTick) : State := { s with ft := f s.ft }

/-- Enters a state of R42. -/
def State.ftState (s : State) (st : Nat) : State := s.set Rg.FT_STATUS_STATE st

/-! ### Leaving LOCKED (R26, R39 to R41) -/

/-- There is no cc 0 any more: what waits for one takes effect at once (R26). -/
def State.boundaryNow (s : State) : State :=
  let s := s.applyAll
  let s := match s.rot with | .switching _ _ _ => s.rotSwitch | _ => s
  let s := if s.dd.heartDue then s.heartApply else s
  let s := if s.get Rg.DD_STATUS_TIER = 3 then s.baseApply else s
  let s := if s.dd.ready then s.ddBack else s
  let s := s.settleMigs.migsNow
  let s := ((List.range 128).filter (fun l => match (s.lane l).ret with | some (.enter _) => true | _ => false)).foldl
    State.lnServe s
  { s with dd := { s.dd with back := [] } }.ddWhole false

/-- The unit leaves LOCKED for another state: there is no evaluation frame any more, so the programs that still run in it stop
as at the deadline, and none of them is under way when the next lock opens its first frame (R24, R39, R508). An UNLOCK that
still waits for its cc 0 is forgotten where the unit goes back to SEEKING (R39, R41).
[DEDUCED, unsafe: assumptions 119, 131] -/
def State.leaveLocked (s : State) (st : Nat) : State :=
  ((s.stopRunning.ftState st).modFt (fun f =>
    { f with evalRun := false, baseStop := false, anyRun := false, leanRun := false, unlockReq := false, sync := false,
             badRun := 0, lostRun := false, crossOpen := false, marker := false, starts := [], back := [] })).boundaryNow

/-- SYNC_LOST with RELOCK_EN: the frames in collection and evaluation are discarded, and the unit seeks again (R39). -/
def State.relock (s : State) : State :=
  let next := (s.frameNo + 1) % 2 ^ 64
  (s.vuDrop.leaveLocked 3).modFt (fun f => { f with relock := some next, seekCount := 0, seekGap := 0 })

/-- REF_LOSS: no REFCLK edge for 1 µs in a watched state. The contents of the frame buffers are discarded: nothing reads them
any more, and the next lock opens all four empty (R40, R54). [DEDUCED, unsafe: assumption 118] -/
def execRefLoss (s : State) : Host.Outcome State Fault Refusal :=
  act s fun s =>
    if s.unlocked then s
    else
      let s := ((s.raise Rg.FT_INT_STATUS_REF_LOSS).vuDrop).freezeOn 2
      if s.locked then s.leaveLocked 0 else s.ftState 0

/-! ### `FT_CTRL` (R37, R38, R41, R42) -/

/-- A write of 1 to EVAL_EN is refused in a state other than UNLOCKED or REFUSED when the budget is too small (R38). -/
def State.evalRefused (s : State) : Bool :=
  !s.unlocked && (decide (s.frameCc < 512) || decide (s.budgetW < s.get Rg.FT_BUDGET_PROVED_W))

/-- LOCK_REQ in UNLOCKED or REFUSED starts the lock sequence; UNLOCK acts in every other state (R41). -/
def State.ftReq (s : State) (lock unlock : Bool) : State :=
  if s.unlocked then
    if lock then (s.ctCheck.ftState 1).modFt (fun f => { f with relock := none, seekCount := 0, seekGap := 0 }) else s
  else if ¬ unlock then s
  else if s.locked then s.modFt (fun f => { f with unlockReq := true })
  else s.ftState 0

/-- A write of `FT_CTRL`. -/
def State.ftCtrl (s : State) (v : Nat) : WRes :=
  if bits v 2 2 = 1 ∧ s.evalRefused then .refused s
  else
    let s := (s.set Rg.FT_CTRL_RELOCK_EN (bits v 3 3)).set Rg.FT_CTRL_EVAL_EN (bits v 2 2)
    .ok ((s.stage Rg.FT_CTRL_EVAL_EN (bits v 2 2)).ftReq (bits v 0 0 == 1) (bits v 1 1 == 1))

/-- LOCK_REQ: `FT_CTRL` written with LOCK_REQ (R42). -/
def execLockReq (m : Master) (v : Word) (s : State) : Host.Outcome State Fault Refusal :=
  act s fun s => s.regCommand m Rg.FT_CTRL_LOCK_REQ.addr 4 (fun s => s.ftCtrl (Nat.lor v.toNat 1))

/-- UNLOCK: `FT_CTRL` written with UNLOCK (R41). -/
def execUnlock (m : Master) (v : Word) (s : State) : Host.Outcome State Fault Refusal :=
  act s fun s => s.regCommand m Rg.FT_CTRL_LOCK_REQ.addr 4 (fun s => s.ftCtrl (Nat.lor v.toNat 2))

/-- EVAL_EN_WRITE: `FT_CTRL` written with neither LOCK_REQ nor UNLOCK (R38). -/
def execEvalEnWrite (m : Master) (v : Word) (s : State) : Host.Outcome State Fault Refusal :=
  act s fun s => s.regCommand m Rg.FT_CTRL_LOCK_REQ.addr 4 (fun s => s.ftCtrl (v.toNat / 4 * 4))

/-- A write of `FT_CFG` (R37). -/
def State.ftCfg (s : State) (v : Nat) : WRes :=
  if ¬ s.unlocked then .refused s
  else .ok (((s.set Rg.FT_CFG_F_M1 (bits v 5 0)).set Rg.FT_CFG_M (bits v 15 8)).set Rg.FT_CFG_E (bits v 21 16))

/-- A write of `FT_SYNC`: FSYNC_DIV_M1 changes only in UNLOCKED or REFUSED; a write that repeats it there is accepted
(R42). [DEDUCED, unsafe: assumption 117] -/
def State.ftSync (s : State) (v : Nat) : WRes :=
  if ¬ s.unlocked ∧ bits v 11 0 ≠ s.get Rg.FT_SYNC_FSYNC_DIV_M1 then .refused s
  else .ok (((s.set Rg.FT_SYNC_FSYNC_DIV_M1 (bits v 11 0)).set Rg.FT_SYNC_LOCK_COUNT (bits v 15 12)).set
    Rg.FT_SYNC_MISS_LIMIT (bits v 23 16))

/-- A write of `FT_BUDGET` (R38). -/
def State.ftBudget (s : State) (v : Nat) : WRes :=
  if ¬ s.unlocked then .refused s else .ok (s.set Rg.FT_BUDGET_PROVED_W (bits v 31 16))

/-! ### The lock sequence (R16, R493) -/

/-- The refusal code of a measurement, where one applies: the first of codes 1 to 4 (R16, R28, R30). -/
def State.refuseCode (s : State) (khz : Nat) : Option Nat :=
  if khz < 10000 ∨ 80000 < khz then some 1
  else if s.frameM * khz < 1200000 ∨ 2200000 < s.frameM * khz then some 2
  else if s.force Rg.FT_CTRL_EVAL_EN = 1 ∧ s.frameCc < 512 then some 3
  else if s.force Rg.FT_CTRL_EVAL_EN = 1 ∧ s.budgetW < s.get Rg.FT_BUDGET_PROVED_W then some 4
  else none

/-- The lock is refused with a code. -/
def State.refuse (s : State) (code : Nat) : State :=
  ((s.ftState 6).set Rg.FT_STATUS_REFUSE_CODE code).raise Rg.FT_INT_STATUS_REFUSED

/-- REF_MEASURE_DONE: 1 ms of REFCLK edges has been counted, `khz` of them (R16, R255).
[DESIGN CHOICE, safe: assumption 8] -/
def execRefMeasureDone (khz : BitVec 17) (s : State) : Host.Outcome State Fault Refusal :=
  act s fun s =>
    if s.get Rg.FT_STATUS_STATE ≠ 1 then s
    else
      let s := (s.set Rg.FT_REFMEAS_REF_KHZ khz.toNat).vuCheck
      match s.refuseCode khz.toNat with
      | some c => s.refuse c
      | none => s.ftState 2

/-- PLL_LOCK_DONE: the CCLK PLL has locked; the unit seeks markers (R16). [DESIGN CHOICE, unsafe: assumption 11] -/
def execPllLockDone (s : State) : Host.Outcome State Fault Refusal :=
  act s fun s =>
    if s.get Rg.FT_STATUS_STATE ≠ 2 then s
    else (s.ftState 3).modFt (fun f => { f with seekCount := 0, seekGap := 0 })

/-- PLL_LOCK_TIMEOUT: 200 µs without a lock (R493). [DESIGN CHOICE, unsafe: assumption 104] -/
def execPllLockTimeout (s : State) : Host.Outcome State Fault Refusal :=
  act s fun s => if s.get Rg.FT_STATUS_STATE ≠ 2 then s else s.refuse 5

/-- The distance between markers, in crossings (R39). -/
def State.markerGap (s : State) : Nat := s.frameF * (s.get Rg.FT_SYNC_FSYNC_DIV_M1 + 1)

/-- The unit locks: the crossing of the last marker is crossing 0 of the first collection frame, which is no rotation of
the buffers; all four start empty. It is a frame boundary and a crossing as any other is: reservations break, and the timers
get both ticks (R16 step 5, R43, R54, R93, R432, R508). -/
def State.lockNow (s : State) : State :=
  let p := match s.ft.relock with
    | some n => n
    | none => s.get2 Rg.FT_PRESET_LO Rg.FT_PRESET_HI
  let s := ((s.migsNow.ftState 4).raise Rg.FT_INT_STATUS_LOCKED).set2 Rg.FT_FRAME_LO Rg.FT_FRAME_HI p
  let s := { s with ft := { cross := 1, inFrame := 1, crossOpen := true, marker := true }, resv := [], bankHeld := [] }
  let s := { s with vu := { s.vu with fifo := [], out := none, cur := none, silX := 0, late := 0, fault := 0, qFault := false,
                                      silWait := false } }
  let s := (s.openBuf s.collBuf p).openBuf s.spareBuf (p + 1)
  let s := (s.openBuf s.evalBuf (p + 2 ^ 64 - 1)).openBuf s.emitBuf (p + 2 ^ 64 - 2)
  ((s.lnTick.fendClear.ctFrame.frameTicks).ddWhole true).tmrTicks 1

/-- A marker while SEEKING (R39). -/
def State.seekMarker (s : State) : State :=
  let n := if s.ft.seekCount ≠ 0 ∧ s.ft.seekGap = s.markerGap then s.ft.seekCount + 1 else 1
  if max 2 (s.get Rg.FT_SYNC_LOCK_COUNT) ≤ n then s.lockNow
  else s.modFt (fun f => { f with seekCount := n, seekGap := 0 })

/-! ### Markers and crossings while LOCKED (R35, R39, R43) -/

/-- A missing or misplaced marker (R39). -/
def State.syncErr (s : State) : State :=
  ((s.bump Rg.FT_SYNC_ERR_CNT).raise Rg.FT_INT_STATUS_SYNC_MISS).modFt (fun f => { f with sync := true })

/-- Whether a marker is due at a crossing counted from the lock (R39). [DEDUCED, unsafe: assumption 24] -/
def State.markerDue (s : State) (x : Nat) : Bool := x % s.markerGap == 0

/-- The open crossing ends: an expected position without its marker is bad (R39). [DEDUCED, unsafe: assumption 24] -/
def State.closeCrossing (s : State) : State :=
  if ¬ s.ft.crossOpen then s
  else
    let due := s.markerDue (s.ft.cross - 1)
    let seen := s.ft.marker
    let s := s.modFt (fun f => { f with crossOpen := false, marker := false })
    if ¬ due then s
    else if seen then s.modFt (fun f => { f with badRun := 0, lostRun := false })
    else
      let s := s.syncErr.modFt (fun f => { f with badRun := f.badRun + 1 })
      if ¬ s.ft.lostRun ∧ max 1 (s.get Rg.FT_SYNC_MISS_LIMIT) ≤ s.ft.badRun then
        let s := (s.modFt (fun f => { f with lostRun := true })).raise Rg.FT_INT_STATUS_SYNC_LOST
        if s.flag Rg.FT_CTRL_RELOCK_EN then s.relock else s
      else s

/-- FSYNC_MARKER: a rising transition of FSYNC is sampled at the present crossing (R39). -/
def execFsyncMarker (s : State) : Host.Outcome State Fault Refusal :=
  act s fun s =>
    if s.get Rg.FT_STATUS_STATE = 3 then s.seekMarker
    else if ¬ s.locked then s
    else
      let x := if s.ft.crossOpen then s.ft.cross - 1 else s.ft.cross
      if s.markerDue x ∧ ¬ s.ft.marker then s.modFt (fun f => { f with marker := true }) else s.syncErr

/-- A REFCLK edge: a write of `VERDICT_EN` takes effect (R505). -/
def State.padEdge (s : State) : State := s.setForce Rg.PAD_CTRL_VERDICT_EN (s.get Rg.PAD_CTRL_VERDICT_EN)

/-- One crossing opens: its verdict word leaves, and the timers that count crossings advance (R35, R43). -/
def State.openCrossing (s : State) : State :=
  let x := s.ft.cross
  let cc := s.ft.inFrame * s.frameM
  let s := (s.padEdge.vuCrossing x).modFt (fun f =>
    { f with cross := x + 1, inFrame := f.inFrame + 1, crossOpen := true, cc := max f.cc cc })
  s.tmrTicks 1

/-- A crossing tick while LOCKED; after the last crossing of the frame the frame tick is due. -/
def State.crossing (s : State) : State :=
  let s := s.closeCrossing
  if s.locked ∧ s.ft.inFrame < s.frameF then s.openCrossing else s

/-- A crossing after an unlock at cc 0: the words of the frame then in emission still leave, at the positions that R35 gives
them (R41). -/
def State.crossingUnlocked (s : State) : State :=
  if s.ft.hold = 0 then s.vuNext
  else (s.modFt (fun f => { f with hold := f.hold - 1 })).vuQuiet

/-- CROSSING_TICK: a REFCLK edge. While SEEKING it counts the distance between markers; after an unlock at cc 0 the words
of the frame then in emission still leave (R39, R41, R43). [DEDUCED, unsafe: assumption 21] -/
def execCrossingTick (s : State) : Host.Outcome State Fault Refusal :=
  act s fun s =>
    if s.locked then s.crossing
    else
      let s := s.padEdge.crossingUnlocked
      if s.get Rg.FT_STATUS_STATE = 3 then s.modFt (fun f => { f with seekGap := f.seekGap + 1 }) else s

/-! ### The phases of an evaluation frame (R20 to R24, R120, R247) -/

/-- cc 96: context copies and checkpoint words are out, and the programs of the frame begin, where it is evaluated and no base
note has stopped it (R28, R120, R126, R443). -/
def State.phaseStart (s : State) : State :=
  let s := (s.chks.map (·.1)).foldl State.ctxSend s
  let s := s.copies.foldl State.copyEnd s
  if ¬ s.ft.evalRun ∨ s.ft.baseStop then s
  else
  let s := s.ft.starts.foldl (fun (s : State) (k : Nat) => match s.veOf k with | some n => s.programStart k n | none => s) s
  s.modFt (fun f => { f with anyRun := f.starts != [], leanRun := (s.dd.lean || s.dd.back != []) && f.starts != [] })

/-- A slot is marked late, and its engine stopped (R22, R24). [DEDUCED, unsafe: assumptions 22, 25] -/
def State.slotLate (s : State) (slot n : Nat) : State :=
  let s := ((s.stopEngine n).ecAdd n 25 1).set (Rg.VE_STATUS_LATE n) 1
  { s with vu := { s.vu with late := Nat.lor s.vu.late (2 ^ slot) } }

/-- A slot contributes defaults; `q` says that the frame carries FAULT for it (R31, R32).
[DEDUCED, unsafe: assumption 25] -/
def State.slotOut (s : State) (slot : Nat) (q : Bool) : State :=
  { s with vu := { s.vu with fault := Nat.lor s.vu.fault (2 ^ slot), qFault := s.vu.qFault || q } }

/-- cc W at one slot; an accord or a restart under way is abandoned (R22, R24, R31 to R33, R128, R185, R198, R442,
R445, R483). [DEDUCED, unsafe: assumptions 22, 25] -/
def State.slotDeadline (s : State) (k : Nat) : State :=
  let shed := s.dd.lean && !s.leanSlot k
  match s.veOf k with
  | none => s.slotOut k (!shed)
  | some n =>
    let e := s.eng n
    if s.veState n = 0 ∨ shed then s.slotOut k false
    else if s.dd.back.contains k then s.slotOut k false
    else if s.ft.back.contains k then s.slotOut k true
    else if e.ended then
      let s := s.slotOut k true
      if e.halted then s.slotLate k n else s.stopEngine n
    else if s.flag (Rg.VE_STATUS_FENDED n) ∧ s.ft.starts.contains k then s
    else if e.halted ∨ s.ft.starts.contains k then s.slotLate k n
    else s.slotOut k false

/-- What an engine shows of the evaluated frame that ends, but for its being late: an engine without a FEND in it shows none,
and one that serves a slot whether a fault ended it (R130). [DEDUCED, unsafe: assumption 22] -/
def State.veShow (s : State) (n : Nat) : State :=
  let s := if s.flag (Rg.VE_STATUS_FENDED n) then s else s.set (Rg.VE_FEND_CC n) 0xFFFF
  (s.setBit (Rg.VE_STATUS_FAULTED n) ((s.eng n).ended && (s.slotOf n).isSome)).set (Rg.VE_STATUS_LATE n) 0

/-- No slot ran in the frame, or all were stopped: every bit of the frame's map is set (R31, R253, R259). -/
def State.noneRan (s : State) : State := { s with vu := { s.vu with fault := 2 ^ 64 - 1 } }

/-- cc W: the deadline guard (R24). Checkpoint trailers still to be written have been written by cc 127 (R120). In a frame that
a base note has stopped no slot is late any more: all were stopped at the note (R443).
[DEDUCED, unsafe: assumption 22] -/
def State.phaseDeadline (s : State) : State :=
  let s := (s.chks.map (·.1)).foldl State.trailer s
  if ¬ s.ft.evalRun then s.noneRan
  else
    let s := (List.range 68).foldl State.veShow s
    let s := if s.ft.baseStop then s.noneRan else (List.range 64).foldl State.slotDeadline s
    let s := (s.set Rg.FT_LATE_LO (s.vu.late % 2 ^ 32)).set Rg.FT_LATE_HI (s.vu.late / 2 ^ 32)
    if s.vu.late = 0 then s else s.raise Rg.FT_INT_STATUS_OVERRUN

/-- The cc of a phase: 0 the program start, 1 the deadline, 2 verdict assembly, 3 the sillage, 4 the verdict frames
(R21). In a verdict-only frame, which has no guard phases, a phase has no cc of its own, but that its verdict frames leave at
the staging point, as those of an evaluated frame do (R26, R28). [DESIGN CHOICE, unsafe: assumption 120] -/
def State.phaseCc (s : State) (k : Nat) : Nat :=
  if s.force Rg.FT_CTRL_EVAL_EN = 0 then (if k = 4 then s.stagingPoint else 0)
  else match k with
  | 0 => 96
  | 1 => s.budgetW
  | 2 => s.budgetW + 32
  | 3 => s.budgetW + 160
  | _ => s.budgetW + 224

/-- Performs a phase. Nothing is done for the frame before the first one (R508). -/
def State.phase (s : State) (k : Nat) : State :=
  let s := s.modFt (fun f => { f with phase := k + 1, cc := max f.cc (s.phaseCc k) })
  if s.ft.frames = 0 then s
  else
    match k with
    | 0 => s.phaseStart
    | 1 => s.phaseDeadline
    | 2 => s.assemble
    | 3 => s.sillage
    | _ => s.sendVerdicts

/-- The phases up to phase `k`, in order, that have not been performed in this frame.
[DESIGN CHOICE, unsafe: assumption 13] -/
def State.phasesTo (s : State) (k : Nat) : State :=
  (List.range (k + 1)).foldl (fun (s : State) i => if s.ft.phase ≤ i then s.phase i else s) s

/-- A phase of the present frame is due. [DESIGN CHOICE, unsafe: assumption 13] -/
def State.phaseDue (s : State) (k : Nat) : State := if s.locked then s.phasesTo k else s

/-- FRAME_PROGRAM_START: cc 96 (R120). -/
def execFrameProgramStart (s : State) : Host.Outcome State Fault Refusal := act s fun s => s.phaseDue 0

/-- DEADLINE_GUARD: cc W (R24). [DEDUCED, unsafe: assumption 22] -/
def execDeadlineGuard (s : State) : Host.Outcome State Fault Refusal := act s fun s => s.phaseDue 1

/-- VERDICT_ASSEMBLY: from cc W + 32 (R246, R247). -/
def execVerdictAssembly (s : State) : Host.Outcome State Fault Refusal := act s fun s => s.phaseDue 2

/-- SILLAGE_WRITE: from cc W + 160 (R253). -/
def execSillageWrite (s : State) : Host.Outcome State Fault Refusal := act s fun s => s.phaseDue 3

/-- VERDICT_FRAME_SEND: from cc W + 224 (R250). -/
def execVerdictFrameSend (s : State) : Host.Outcome State Fault Refusal := act s fun s => s.phaseDue 4

/-! ### cc 0 (R18, R26, R41, R61, R120) -/

/-- The collection buffer is sealed, the roles rotate, and the buffer that enters the spare role is opened (R18, R19,
R61). -/
def State.rotateBuffers (s : State) : State :=
  let s := if s.ft.sync then s.orHdr s.collBuf 0x18 (32 + 4) else s
  let s := s.set Rg.IR_STATUS_COLL_BUF ((s.collBuf + 1) % 4)
  s.openBuf s.spareBuf (s.frameNo + 1)

/-- Evaluation is on for the frame that was collected last (R28, R335, R441). -/
def State.evalOn (s : State) : Bool :=
  s.force Rg.FT_CTRL_EVAL_EN == 1 && s.get Rg.DD_STATUS_TIER != 3 && !s.lastResort && s.ft.frames != 0

/-- The frame start of the engine of a slot; while the heart note is in force the program of a slot that is not lean does not
begin (R120, R442). -/
def State.slotStart (s : State) (k n : Nat) : State :=
  let t := s.frameStart k n (s.frameAgo 1)
  if s.dd.lean ∧ ¬ s.leanSlot k then t else t.modFt (fun f => { f with starts := f.starts ++ [k] })

/-- The frame start of every ACTIVE engine that is not halted, in every frame but the first after a lock, evaluated or not; an
engine that a restore fills does not start (R120, R127, R483, R508). -/
def State.frameStarts (s : State) : State :=
  let ok (k n : Nat) : Bool := s.veState n == 2 && !(s.restores.any (fun r => r.slot == k)) &&
    !s.ft.back.contains k && !s.dd.back.contains k
  (List.range 64).foldl (fun (s : State) k =>
    match s.copies.find? (fun c => c.slot == k) with
    | some c => s.slotStart k c.source
    | none =>
      match s.veOf k with
      | none => s
      | some n => if ok k n ∧ ¬ (s.eng n).halted then s.slotStart k n else s) s

/-- A cc 0 passes at the halted engines (R483, R485). -/
def State.ticksPassed (s : State) : State :=
  ((List.range 68).filter (fun n => (s.eng n).halted)).foldl (fun s n => s.set (Rg.DBG_STATUS_TICK_PASSED n) 1) s

/-- What drydown does at cc 0 (R443 to R445). -/
def State.ddTick (s : State) : State :=
  let s := { s with dd := { s.dd with back := [] } }.ddLeaveDue
  let s := if s.dd.heartDue then s.heartApply else s
  let s := if s.get Rg.DD_STATUS_TIER = 3 then s.baseApply else s
  if s.dd.ready then s.ddBack else s

/-- The unlock at cc 0: the words of the frame then in emission still leave (R41). It is no frame boundary of the frames: the
roles of the buffers, FT_FRAME and the reservations stay as they are. [DESIGN CHOICE, unsafe: assumption 132] -/
def State.unlockTick (s : State) : State :=
  let keep := s.vu.fifo.length - (match s.vu.cur with | some f => f.words.length | none => 0)
  let s := { s with vu := { s.vu with fifo := s.vu.fifo.take keep, cur := none } }
  let hold := 2 * s.frameF + s.get Rg.FT_CFG_E - s.ft.cross
  (s.leaveLocked 0).modFt (fun f => { f with hold := hold })

/-- cc 0 of a frame (R18, R26, R93, R120, R247). -/
def State.boundary (s : State) : State :=
  let s := s.settleMigs
  let s := s.set2 Rg.FT_FRAME_LO Rg.FT_FRAME_HI ((s.frameNo + 1) % 2 ^ 64)
  let s := (s.applyDue.rotateBuffers).modFt (fun f =>
    { f with cc := 0, inFrame := 0, phase := 0, frames := f.frames + 1, sync := false, baseStop := false,
             anyRun := false, leanRun := false, starts := [], back := [] })
  let s := (({ s with resv := [] }.bankFrame.rotBoundary).frameTicks).polAdvance.ddFrame.ddTick
  let s := s.verdictItems.lnTick.ticksPassed
  let s := s.fendClear.ctFrame.serveMigs
  (s.modFt (fun f => { f with evalRun := s.evalOn })).frameStarts

/-- FRAME_TICK: the crossings and the phases of the frame that ends have all been performed when its cc 0 comes (R18).
[DESIGN CHOICE, unsafe: assumption 13] -/
def State.frameTick (s : State) : State :=
  let s := s.phasesTo 4
  let s := (List.range (s.frameF - s.ft.inFrame)).foldl (fun (s : State) _ => s.crossing) s
  let s := s.closeCrossing
  if ¬ s.locked then s
  else if s.ft.unlockReq then s.unlockTick
  else s.boundary

/-- 2,048 mc outside LOCKED stand for a frame of the policy and of drydown (R395, R444). -/
def State.idleFrame (s : State) : State := s.polAdvance.ddFrame.ddLeaveDue

/-- TIMER_TICK: one management cycle. The matches of R369 that were waiting fire, and the timers of source 0 advance
(R365 to R369). -/
def execTimerTick (s : State) : Host.Outcome State Fault Refusal :=
  act s fun s =>
    let fire := s.tmrFire
    let s := s.mcTick
    let s := if ¬ s.locked ∧ s.mc % 2048 = 0 then s.idleFrame else s
    let s := fire.foldl (fun s n => s.tmrEvents n true false) s
    { s with tmrFired := fire }.tmrTicks 0

@[inherit_doc State.frameTick]
def execFrameTick (s : State) : Host.Outcome State Fault Refusal :=
  act s fun s => if s.locked then s.frameTick else s

end Sys2Proof.Machine
end

