-- ==== Sys2Proof/Machine/Power.lean ====
section
/-! DEFINITION. The registers of the reset, strap and life-cycle unit, the host bridge and the pads, bank-rotation commands
and queue commands (R99, R101, R233 to R237, R359, R451, R463, R472, R474, R484, R504). -/

namespace Sys2Proof.Machine

/-! ### Bank rotation (R99, R101) -/

/-- A write of `ST_ROT_CMD`: GO starts a step, now or after the one in progress; with no spare it is refused (R100).
[DEDUCED, unsafe: assumption 86] -/
def State.rotCmd (s : State) (v : Nat) : WRes :=
  if bits v 14 14 = 0 then .ok s
  else if s.flag Rg.ST_STATUS_NO_SPARE then .refused s
  else if bits v 13 13 = 0 then .ok (s.rotRequest none)
  else if bits v 12 0 = 8191 then .refused s
  else .ok (s.rotRequest (some (bits v 12 0)))

/-- ROT_STEP_CMD: `ST_ROT_CMD` written with GO and without TARGETED (R101). -/
def execRotStepCmd (m : Master) (v : Word) (s : State) : Host.Outcome State Fault Refusal :=
  act s fun s => s.regCommand m Rg.ST_ROT_CMD_GO.addr 4 (fun s => s.rotCmd (bits v.toNat 12 0 + 2 ^ 14))

/-- ROT_TARGETED_CMD: `ST_ROT_CMD` written with GO and TARGETED (R99). -/
def execRotTargetedCmd (m : Master) (log : BitVec 13) (s : State) : Host.Outcome State Fault Refusal :=
  act s fun s => s.regCommand m Rg.ST_ROT_CMD_GO.addr 4 (fun s => s.rotCmd (log.toNat + 2 ^ 13 + 2 ^ 14))

/-! ### Queue commands (R223, R233 to R237) -/

/-- Q_PUSH_LEN: a management master opens an item (R233). `err` is an error of the pointers that the use meets (R394). -/
def execQPushLen (m : Master) (n : Queue) (v : Word) (err : Option Bool) (s : State) : Host.Outcome State Fault Refusal :=
  act s fun s => s.regCommand m (Rg.Q_PUSH_LEN n).addr 4 (fun s => (s.qPtrErr n err).qPushLen n m (bits v.toNat 4 0))

/-- Q_PUSH_DATA: the next payload word of the open item; the last commits it (R233). -/
def execQPushData (m : Master) (n : Queue) (v : DWord) (up : Option Upset) (s : State) : Host.Outcome State Fault Refusal :=
  act s fun s => (s.upsetOpt up).regCommand m (Rg.Q_PUSH_DATA n).addr 8 (fun s => s.qPushData n m v.toNat)

/-- QUEUE_POP: `Q_CMD` written with POP (R234). -/
def execQueuePop (m : Master) (n : Queue) (v : Word) (err : Option Bool) (s : State) : Host.Outcome State Fault Refusal :=
  act s fun s => s.regCommand m (Rg.Q_CMD_POP n).addr 4 (fun s => (s.qPtrErr n err).qCmd n (Nat.lor v.toNat 2))

/-- QUEUE_FLUSH: `Q_CMD` written with FLUSH (R236). -/
def execQueueFlush (m : Master) (n : Queue) (v : Word) (s : State) : Host.Outcome State Fault Refusal :=
  act s fun s => s.regCommand m (Rg.Q_CMD_FLUSH n).addr 4 (fun s => s.qCmd n (Nat.lor v.toNat 1))

/-- QUEUE_ENABLE: `Q_CFG` written with ENABLE 1 (R223). -/
def execQueueEnable (m : Master) (n : Queue) (v : Word) (s : State) : Host.Outcome State Fault Refusal :=
  act s fun s => s.regCommand m (Rg.Q_CFG_ENABLE n).addr 4 (fun s => s.qCfg n (Nat.lor v.toNat 1))

/-- QUEUE_DISABLE: `Q_CFG` written with ENABLE 0 (R237). -/
def execQueueDisable (m : Master) (n : Queue) (v : Word) (s : State) : Host.Outcome State Fault Refusal :=
  act s fun s => s.regCommand m (Rg.Q_CFG_ENABLE n).addr 4 (fun s => s.qCfg n (v.toNat / 2 * 2))

/-! ### The vault (R359) -/

/-- A write of `VAULT_CMD`. -/
def State.vaultCmd (s : State) (v : Nat) : WRes := .ok (if v % 2 = 1 then s.vaultWipeCounted else s)

/-- VAULT_WIPE_CMD: `VAULT_CMD` written with WIPE. -/
def execVaultWipeCmd (m : Master) (v : Word) (s : State) : Host.Outcome State Fault Refusal :=
  act s fun s => s.regCommand m Rg.VAULT_CMD_WIPE.addr 4 (fun s => s.vaultCmd (Nat.lor v.toNat 1))

/-- A tamper event: 0 voltage, 1 clock, 2 temperature (R359). -/
def State.tamper (s : State) (cause : Nat) : State :=
  let f := if cause = 0 then Rg.VAULT_STATUS_TAMPER_V else if cause = 1 then Rg.VAULT_STATUS_TAMPER_C
    else Rg.VAULT_STATUS_TAMPER_T
  ((s.raise f).raise Rg.DD_INT_STATUS_TAMPER).vaultWipeCounted

/-- TAMPER_EVENT (R359). -/
def execTamperEvent (cause : Fin 3) (s : State) : Host.Outcome State Fault Refusal := act s fun s => s.tamper cause

/-- VAULT_WIPE_DONE: 4,096 mc of zeroing are over (R359). -/
def execVaultWipeDone (s : State) : Host.Outcome State Fault Refusal := act s fun s => s.set Rg.VAULT_STATUS_WIPING 0

/-! ### Block resets (R451) -/

/-- Lane `l` is reset: its serial, FEC and flit logic; its registers keep their values.
[DEDUCED, unsafe: assumption 62] -/
def State.laneBlock (s : State) (l : Nat) : State :=
  let x := s.lane l
  { s with lanes := Tab.set s.lanes l {} { ret := x.ret, lost := x.lost } }

/-- CRC unit `u` is reset: every register of it. -/
def State.crcBlock (s : State) (u : Nat) : State :=
  { s with regs := s.regs.filter (fun e => !(decide (0x500030000 + 128 * u ≤ e.1 / 64) &&
             decide (e.1 / 64 < 0x500030000 + 128 * u + 128))),
           heldLo := s.heldLo.filter (fun e => !(decide (0x500030000 + 128 * u ≤ e.1 / 2) &&
             decide (e.1 / 2 < 0x500030000 + 128 * u + 128))) }

/-- Readout channel `r` is reset: its state, with HALTED and PAUSED cleared. -/
def State.readoutBlock (s : State) (r : Nat) : State :=
  let s := ((s.set (Rg.RD_STATUS_HALTED r) 0).set (Rg.RD_STATUS_PAUSED r) 0).waitOver r
  { s with rdHold := Tab.set s.rdHold r none none }

/-- The flash controller is reset: the journal scans again on its next enable. -/
def State.flashBlock (s : State) : State :=
  { s.set Rg.JNL_STATUS_READY 0 with jnl := {} }

/-- Whether a block that `RST_BLK` names is idle. [DEDUCED, unsafe: assumption 128] -/
def State.blockIdle (s : State) (kind index : Nat) : Bool :=
  match kind with
  | 1 => s.lnState index == 0 || s.lnState index == 4
  | 2 => decide (index < 16) && !s.flag (Rg.RD_CFG_ENABLE index)
  | 3 => decide (index < 16) && !s.flag (Rg.CRC_STATUS_BUSY index)
  | 4 => index == 0 && !s.flag Rg.JNL_CTRL_ENABLE && !s.flag Rg.JNL_STATUS_BUSY
  | _ => false

/-- A write of `RST_BLK`: a block that is not idle, or that the table does not name, is refused and counted. -/
def State.rstBlk (s : State) (v : Nat) : WRes :=
  let kind := bits v 3 0
  let index := bits v 10 4
  if ¬ s.blockIdle kind index then .refused (s.bump Rg.RST_BLK_DENY_CNT)
  else
    .ok (match kind with
      | 1 => s.laneBlock index
      | 2 => s.readoutBlock index
      | 3 => s.crcBlock index
      | _ => s.flashBlock)

/-- A write of `RST_BLK` with its KIND. -/
def State.rstTrig (s : State) (m kind index : Nat) : State :=
  s.regCommand m Rg.RST_BLK_KIND.addr 4 (fun s => s.rstBlk (kind + index * 16))

/-- LANE_BLOCK_RESET (R451). -/
def execLaneBlockReset (m : Master) (index : BitVec 7) (s : State) : Host.Outcome State Fault Refusal :=
  act s fun s => s.rstTrig m 1 index.toNat

/-- READOUT_BLOCK_RESET (R451). -/
def execReadoutBlockReset (m : Master) (index : BitVec 7) (s : State) : Host.Outcome State Fault Refusal :=
  act s fun s => s.rstTrig m 2 index.toNat

/-- CRC_BLOCK_RESET (R451). -/
def execCrcBlockReset (m : Master) (index : BitVec 7) (s : State) : Host.Outcome State Fault Refusal :=
  act s fun s => s.rstTrig m 3 index.toNat

/-- FLASH_BLOCK_RESET (R451). -/
def execFlashBlockReset (m : Master) (index : BitVec 7) (s : State) : Host.Outcome State Fault Refusal :=
  act s fun s => s.rstTrig m 4 index.toNat

/-! ### Life-cycle (R463) -/

/-- Keys that are valid and not revoked. -/
def State.liveKeys (s : State) : List Nat :=
  (List.range 4).filter (fun k => (s.get Rg.LC_STATE_KEY_VALID).testBit k && !(s.get Rg.LC_STATE_KEY_REVOKED).testBit k)

/-- Whether a life-cycle operation is allowed. [DEDUCED, unsafe: assumption 87] -/
def State.lcAllowed (s : State) (op key : Nat) : Bool :=
  let st := s.get Rg.LC_STATE_STATE
  match op with
  | 1 => decide (st < 2) && s.liveKeys != []
  | 2 => st != 3
  | 3 => s.liveKeys.contains key && (st == 0 || st == 3 || s.liveKeys.any (· != key))
  | 4 => decide (st < 2) && !(s.get Rg.LC_STATE_KEY_VALID).testBit key
  | 5 => decide (s.get Rg.LC_SVN < 63)
  | _ => false

/-- A write of `LC_CMD`: the change starts, and a change of state wipes the vault at once. -/
def State.lcCmd (s : State) (v : Nat) : WRes :=
  let op := bits v 3 0
  let key := bits v 5 4
  if bits v 31 16 ≠ 0x4C43 ∨ s.flag Rg.LC_STATUS_BUSY ∨ ¬ s.lcAllowed op key then
    .refused (s.raise Rg.LC_STATUS_ERR)
  else
    let s := { s with fuseOp := some (op, key) }.set Rg.LC_STATUS_BUSY 1
    .ok (if op = 1 ∨ op = 2 then (s.raise Rg.VAULT_STATUS_LIFE).vaultWipeCounted else s)

/-- A write of `LC_CMD` with its OP. -/
def State.lcTrig (s : State) (m op : Nat) (v : Word) : State :=
  s.regCommand m Rg.LC_CMD_OP.addr 4 (fun s => s.lcCmd (v.toNat / 16 * 16 + op))

/-- ADVANCE (R463). -/
def execAdvance (m : Master) (v : Word) (s : State) : Host.Outcome State Fault Refusal := act s fun s => s.lcTrig m 1 v

/-- LC_RETIRE (R463). -/
def execLcRetire (m : Master) (v : Word) (s : State) : Host.Outcome State Fault Refusal := act s fun s => s.lcTrig m 2 v

/-- REVOKE (R463). -/
def execRevoke (m : Master) (v : Word) (s : State) : Host.Outcome State Fault Refusal := act s fun s => s.lcTrig m 3 v

/-- PROGRAM (R463). -/
def execProgram (m : Master) (v : Word) (s : State) : Host.Outcome State Fault Refusal := act s fun s => s.lcTrig m 4 v

/-- SVN_INCREMENT (R463). -/
def execSvnIncrement (m : Master) (v : Word) (s : State) : Host.Outcome State Fault Refusal := act s fun s => s.lcTrig m 5 v

/-- The 48-byte hash at `LC_ARG`; where a word of it is uncorrectable nothing says what is programmed (R357, R463).
[DEDUCED, unsafe: assumption 87] -/
def State.fuseHash (s : State) : Nat × State :=
  match s.lmRead (s.get Rg.LC_ARG) 48 with
  | (some bs, s) => (leNat bs, s)
  | (none, s) => s.fresh (2 ^ 384)

/-- FUSE_CHANGE_DONE: 1 ms is over, and the fuses hold the change (R463). PROGRAM takes the 48 bytes of local memory at
`LC_ARG`. [DEDUCED, unsafe: assumption 87] -/
def State.fuseDone (s : State) : State :=
  match s.fuseOp with
  | none => s
  | some (op, key) =>
    let s := { s with fuseOp := none }.set Rg.LC_STATUS_BUSY 0
    match op with
    | 1 => s.set Rg.LC_STATE_STATE (s.get Rg.LC_STATE_STATE + 1)
    | 2 => s.set Rg.LC_STATE_STATE 3
    | 3 => s.set Rg.LC_STATE_KEY_REVOKED (Nat.lor (s.get Rg.LC_STATE_KEY_REVOKED) (2 ^ key))
    | 4 =>
      let (v, s) := s.fuseHash
      { s with keyHash := Tab.set s.keyHash key 0 v }.set Rg.LC_STATE_KEY_VALID
        (Nat.lor (s.get Rg.LC_STATE_KEY_VALID) (2 ^ key))
    | _ => s.set Rg.LC_SVN (s.get Rg.LC_SVN + 1)

@[inherit_doc State.fuseDone]
def execFuseChangeDone (s : State) : Host.Outcome State Fault Refusal := act s fun s => s.fuseDone

/-! ### Boot registers (R452, R465) -/

/-- A write of `BOOT_CONFIRM`. -/
def State.bootConfirm (s : State) (v : Nat) : WRes := .ok (if v % 2 = 1 then s.set Rg.BK_BOOT_CONFIRMED 1 else s)

/-- BOOT_CONFIRM (R465). -/
def execBootConfirm (m : Master) (v : Word) (s : State) : Host.Outcome State Fault Refusal :=
  act s fun s => s.regCommand m Rg.BOOT_CONFIRM.addr 4 (fun s => s.bootConfirm (Nat.lor v.toNat 1))

/-- A write of `BOOT_GO`: the boot goes on when it waits for this and the host or JTAG writes it (R452). -/
def State.bootGoReg (s : State) (m v : Nat) : WRes :=
  match s.rom with
  | .go _ _ => .ok (if v % 2 = 1 ∧ hostSide m then { s with romGo := some m } else s)
  | _ => .ok s

/-! ### The host bridge (R470, R472, R474, R484) -/

/-- A write of `HB_CTRL`: wakes that it allows and that are due are made (R472). -/
def State.hbCtrl (s : State) (v : Nat) : WRes :=
  if bits v 2 1 = 3 then .refused s
  else .ok ((s.set Rg.HB_CTRL_WAKE_EN (bits v 0 0)).set Rg.HB_CTRL_MAX_SPEED (bits v 2 1)).wakeWaiting

/-- A write of `HB_WAKE` (R472). -/
def State.hbWake (s : State) (v : Nat) : WRes := .ok (if v % 2 = 1 then s.wake else s)

/-- WAKE_REQ: `HB_WAKE` written with REQ (R472). -/
def execWakeReq (m : Master) (v : Word) (s : State) : Host.Outcome State Fault Refusal :=
  act s fun s => s.regCommand m Rg.HB_WAKE_REQ.addr 4 (fun s => s.hbWake (Nat.lor v.toNat 1))

/-- A write of `HB_MSI_TRIG`: only a Triad-side write sends (R470). -/
def State.hbMsi (s : State) (m v : Nat) : WRes :=
  .ok (if bits v 6 6 = 1 ∧ ¬ hostSide m then s.msi (bits v 5 0) else s)

/-- MSI_TRIG: `HB_MSI_TRIG` written with GO (R470). -/
def execMsiTrig (m : Master) (v : Word) (s : State) : Host.Outcome State Fault Refusal :=
  act s fun s => s.regCommand m Rg.HB_MSI_TRIG_GO.addr 4 (fun s => s.hbMsi m (Nat.lor v.toNat 64))

/-- A write of `HB_LOAD`: GO tells the ROM that the image is written (R474). -/
def State.hbLoad (s : State) (m v : Nat) : WRes :=
  .ok (if bits v 1 1 = 1 ∧ s.rom = .load ∧ s.flag Rg.HB_LOAD_READY then { s with romGo := some m } else s)

/-! ### Pads (R499, R501, R504) -/

/-- A write of `PAD_CTRL`: a drive of 3 is refused. -/
def State.padCtrl (s : State) (v : Nat) : WRes :=
  if bits v 3 2 = 3 ∨ bits v 7 6 = 3 then .refused s
  else
    let s := ((s.set Rg.PAD_CTRL_GEN_SLEW (bits v 1 0)).set Rg.PAD_CTRL_GEN_DRIVE (bits v 3 2)).set Rg.PAD_CTRL_FL_SLEW (bits v 5 4)
    let s := (s.set Rg.PAD_CTRL_FL_DRIVE (bits v 7 6)).set Rg.PAD_CTRL_VERDICT_EN (bits v 8 8)
    .ok (s.set Rg.PAD_CTRL_REF_TERM (bits v 9 9))

/-- A write of `PAD_FILT`: the filters begin to count anew (R505). -/
def State.padFilt (s : State) (v : Nat) : WRes :=
  let s := ((s.set Rg.PAD_FILT_TMR_FILT (bits v 3 0)).set Rg.PAD_FILT_NMI_FILT (bits v 7 4)).set Rg.PAD_FILT_PERST_FILT (bits v 11 8)
  .ok { s with filtAt := some s.mc }

/-- A write of `PAD_SSC`: a change takes effect within 100 µs (R499). -/
def State.padSsc (s : State) (v : Nat) : WRes :=
  let s := s.set Rg.PAD_SSC_MGMT_SSC_EN (bits v 0 0)
  .ok { s with sscBusy := s.get Rg.PAD_SSC_MGMT_SSC_EN != s.get Rg.PAD_SSC_ACTIVE }

/-- SSC_CHANGE_DONE (R499). -/
def execSscChangeDone (s : State) : Host.Outcome State Fault Refusal :=
  act s fun s => { s.set Rg.PAD_SSC_ACTIVE (s.get Rg.PAD_SSC_MGMT_SSC_EN) with sscBusy := false }

/-- The hottest die sensor, 0 where none has been measured. -/
def State.hottest (s : State) : Int :=
  match s.sensors with
  | [] => 0
  | t :: r => r.foldl max t

/-- The die sensors are measured, in 1/8 °C: at or above `PAD_THERM.ALERT` the alert is set, and outside −40 to 125 °C a
temperature tamper event is raised (R359, R501). [DEDUCED, unsafe: assumption 129] -/
def State.sense (s : State) (temps : Vector (BitVec 16) 8) : State :=
  let s := { s with sensors := temps.toList.map BitVec.toInt }
  let s := if sext 11 (s.get Rg.PAD_THERM_ALERT) ≤ s.hottest then s.raise Rg.PAD_THERM_ALERT_ST else s
  if s.sensors.any (fun t => decide (t < -320) || decide (1000 < t)) then s.tamper 2 else s

/-- THERMAL_ALERT: the die sensors are measured (R501). -/
def execThermalAlert (temps : Vector (BitVec 16) 8) (s : State) : Host.Outcome State Fault Refusal :=
  act s fun s => s.sense temps

end Sys2Proof.Machine
end

