-- ==== Sys2Proof/Machine/RegWrite.lean ====
section
/-! DEFINITION. A write of a register: which register an address names, the writes that a rule gives a meaning of their
own, and what the access codes make of the others (R4, R7 to R9, R364, R506, R507). -/

namespace Sys2Proof.Machine

/-! ### Registers by address (R3, R4) -/

/-- The indices of the register of a row that holds the byte at `a`, and the byte's place in it, where one does. -/
def RegRow.at? (r : RegRow) (a : Nat) : Option (Nat × Nat × Nat) :=
  let d := a - r.base
  let n := d / r.s1
  let k := d % r.s1 / r.s2
  let o := d % r.s1 % r.s2
  if a < r.base ∨ r.c1 ≤ n ∨ r.c2 ≤ k ∨ r.bytes ≤ o then none else some (n, k, o)

/-- A register: its row, its two indices and the place of an access in it. -/
structure RegRef where
  row : RegRow
  n   : Nat
  k   : Nat
  off : Nat

/-- The first of a list of rows with a register that holds the byte at `a`. -/
def findReg (a : Nat) : List RegRow → Option RegRef
  | [] => none
  | r :: rs =>
    match r.at? a with
    | some (n, k, o) => some ⟨r, n, k, o⟩
    | none => findReg a rs

/-- The register that holds the byte at an address; none in unused space, which the default target answers (R2). -/
def regAt (a : Nat) : Option RegRef := findReg a Rg.table

/-- Whether a register accepts an access of `n` bytes: its own width, aligned; the two halves of `VU_SLOTSb` as well
(R4). -/
def RegRef.widthOk (r : RegRef) (n : Nat) : Bool :=
  (r.off == 0 && n == r.row.bytes) || (r.row.base == (Rg.VU_SLOTS 0).addr && n == 4 && r.off % 4 == 0)

/-! ### Access codes (R7 to R9, R506) -/

/-- A write of one field of a register by its access code. -/
def State.writeFld (s : State) (v : Nat) (p : Fld × Acc) : State :=
  let x := v / 2 ^ p.1.lo
  match p.2 with
  | .rw => s.set p.1 x
  | .wo => s.set p.1 x
  | .w1c => s.set p.1 ((List.range p.1.w).foldl (fun b i => if x.testBit i && b.testBit i then b - 2 ^ i else b) (s.get p.1))
  | .w1s => s.set p.1 (Nat.lor (s.get p.1) (x % 2 ^ p.1.w))
  | .ro => s
  | .rc => s

/-- A write of every field by its access code; reserved bits are ignored (R8). -/
def State.writeFlds (s : State) (v : Nat) (fs : List (Fld × Acc)) : State := fs.foldl (fun s p => s.writeFld v p) s

/-- A register whose value has low bits that must be 0 (R506). -/
def State.lowZero (s : State) (f : Fld) (low v : Nat) : WRes := if v % low = 0 then .ok (s.set f v) else .refused s

/-- A register whose value has a least value. -/
def State.atLeast (s : State) (f : Fld) (least v : Nat) : WRes :=
  if v % 2 ^ f.w < least then .refused s else .ok (s.set f v)

/-- A write of `OWN_CLASSu`: owner code 3 is refused (R340, R344). -/
def State.ownClassReg (s : State) (n v : Nat) : WRes :=
  if bits v 1 0 = 3 then .refused s else s.ownReg 1 v (fun s => s.set (Rg.OWN_CLASS_OWNER n) v)

/-- A write of the third word of `OWN_OVRk` (R340, R344). -/
def State.ownOvrReg (s : State) (n v : Nat) : WRes :=
  if bits v 21 20 = 3 then .refused s
  else s.ownReg 1 v (fun s => ((s.set (Rg.OWN_OVR_BLOCKS n) (bits v 19 0)).set (Rg.OWN_OVR_OWNER n) (bits v 21 20)).set
    (Rg.OWN_OVR_VALID n) (bits v 31 31))

/-! ### Writes with a meaning of their own -/

/-- What a write of a register does: the master, the register's two indices and the value written. -/
abbrev Writer := State → Nat → Nat → Nat → Nat → WRes

/-- The frame/tick unit, the ingress router and the store (R37, R38, R42, R57 to R59, R67, R71, R101). -/
def frameW : List (Nat × Writer) := [
  (Rg.FT_CTRL_LOCK_REQ.addr, fun s _ _ _ v => s.ftCtrl v),
  (Rg.FT_CFG_F_M1.addr, fun s _ _ _ v => s.ftCfg v),
  (Rg.FT_SYNC_FSYNC_DIV_M1.addr, fun s _ _ _ v => s.ftSync v),
  (Rg.FT_BUDGET_W.addr, fun s _ _ _ v => s.ftBudget v),
  (Rg.IR_CTRL_ENABLE.addr, fun s _ _ _ v => s.irCtrl v),
  (Rg.IR_BUF_CFG_SLOTS_LOG2.addr, fun s _ _ _ v => s.irBufCfg v),
  (Rg.IR_BUF_BASE_A.addr, fun s _ _ _ v => s.unlockedReg Rg.IR_BUF_BASE_A 1 v),
  (Rg.IR_BUF_BASE_B.addr, fun s _ _ _ v => s.unlockedReg Rg.IR_BUF_BASE_B 1 v),
  (Rg.IR_BUF_BASE_C.addr, fun s _ _ _ v => s.unlockedReg Rg.IR_BUF_BASE_C 1 v),
  (Rg.IR_BUF_BASE_D.addr, fun s _ _ _ v => s.unlockedReg Rg.IR_BUF_BASE_D 1 v),
  ((Rg.IR_WEIGHT_W0 0).addr, fun s _ n _ v => .ok (s.irWeight n v)),
  ((Rg.IR_PMAP_ENT0 0).addr, fun s _ n _ v => .ok (s.irPmap n v)),
  (Rg.ST_SCRUB_CFG_PERIOD_MS.addr, fun s _ _ _ v => s.atLeast Rg.ST_SCRUB_CFG_PERIOD_MS 100 v),
  (Rg.ST_ROT_CMD_TARGET_LOG.addr, fun s _ _ _ v => s.rotCmd v)]

/-- The engine map and the engine windows (R129, R130, R290, R322, R385, R388, R485). -/
def enginesW : List (Nat × Writer) := [
  (Rg.EM_CMD_SLOT.addr, fun s _ _ _ v => s.emCmd v),
  (Rg.EM_CHK_BASE.addr, fun s _ _ _ v => s.unlockedReg Rg.EM_CHK_BASE 4096 v),
  (Rg.EM_CAPSET_OFF.addr, fun s _ _ _ v => s.unlockedReg Rg.EM_CAPSET_OFF 8192 v),
  ((Rg.EM_MAP_VE 0).addr, fun s _ n _ v => s.emMap n v),
  ((Rg.EM_ENTRY 0).addr, fun s _ n _ v => s.unlockedReg (Rg.EM_ENTRY n) 4 v),
  ((Rg.EM_DTOFF 0).addr, fun s _ n _ v => s.unlockedReg (Rg.EM_DTOFF n) 4096 v),
  ((Rg.VE_CTRL_SRESET 0).addr, fun s _ n _ v => s.veCtrl n v),
  ((Rg.SEQ_CTRL_IC_EN 0).addr, fun s _ n _ v => s.seqCtrl n v),
  ((Rg.VE_IRQ_PEND 0).addr, fun s _ n _ v => .ok (s.veIrq n v)),
  ((Rg.DBG_CTRL_HALT 0).addr, fun s _ n _ v => s.dbgCtrl n v),
  ((Rg.DBG_S 0 0).addr, fun s _ n r v => s.dbgS n r v),
  ((Rg.DBG_PC 0).addr, fun s _ n _ v => s.dbgPc n v),
  ((Rg.EC_CTRL_CLEAR_ALL 0).addr, fun s _ n _ v => s.ecCtrl n v),
  ((Rg.TAG_CFG_N 0).addr, fun s _ n _ v => s.tagCfg n v)]

/-- The channel table and the queues (R222, R242). -/
def storeW : List (Nat × Writer) := [
  (Rg.CT_BASE.addr, fun s _ _ _ v => s.ctBase v),
  (Rg.CT_SIZE_COUNT_K.addr, fun s _ _ _ v => s.ctSize v),
  (Rg.CT_SWEEP_PERIOD_MS.addr, fun s _ _ _ v => s.ctSweepCfg v),
  (Rg.CT_LOADER_QUEUE.addr, fun s _ _ _ v => s.ctLoader v),
  (Rg.CT_CMD_LAST.addr, fun s _ _ _ v => s.ctCmd v),
  ((Rg.Q_BASE 0).addr, fun s _ n _ v => s.qBase n v),
  ((Rg.Q_CFG_ENABLE 0).addr, fun s _ n _ v => s.qCfg n v),
  ((Rg.Q_PUSH_LEN 0).addr, fun s m n _ v => s.qPushLen n m (bits v 4 0)),
  ((Rg.Q_CMD_FLUSH 0).addr, fun s _ n _ v => s.qCmd n v),
  ((Rg.Q_PUSH_DATA 0).addr, fun s m n _ v => s.qPushData n m v)]

/-- The verdict unit (R254 to R260). -/
def verdictW : List (Nat × Writer) := [
  (Rg.VU_PV_BASE.addr, fun s _ _ _ v => s.unlockedReg Rg.VU_PV_BASE 1 v),
  (Rg.VU_SIL_BASE.addr, fun s _ _ _ v => s.unlockedReg Rg.VU_SIL_BASE 1 v),
  (Rg.VU_SIL_CFG_FREEZE_ON.addr, fun s _ _ _ v => s.vuSilCfg v),
  (Rg.VU_STATUS_FROZEN.addr, fun s _ _ _ v => s.vuStatus v),
  ((Rg.RD_CFG_ENABLE 0).addr, fun s _ n _ v => s.rdCfg n v),
  ((Rg.RD_TYPE_TYPE 0).addr, fun s _ n _ v => s.rdType n v),
  ((Rg.RD_CMD_RESUME 0).addr, fun s _ n _ v => s.rdCmd n v),
  ((Rg.RD_HOST_BASE_LO 0).addr, fun s _ n _ v => if v % 4096 = 0 then s.rdRing n (Rg.RD_HOST_BASE_LO n) v else .refused s),
  ((Rg.RD_HOST_BASE_HI 0).addr, fun s _ n _ v => s.rdRing n (Rg.RD_HOST_BASE_HI n) v),
  ((Rg.RD_HOST_SIZE_LOG2 0).addr, fun s _ n _ v => if 12 ≤ bits v 4 0 ∧ bits v 4 0 ≤ 30 then s.rdRing n (Rg.RD_HOST_SIZE_LOG2 n) v else .refused s)]

/-- Interrupts, voter, ownership, vault, reset, host bridge and pads (R321, R343, R344, R362, R465, R484, R504). -/
def systemW : List (Nat × Writer) := [
  (Rg.IC_DTOFF.addr, fun s _ _ _ v => s.lowZero Rg.IC_DTOFF 4096 v),
  ((Rg.IC_SRC_PRIO 0).addr, fun s _ n _ v => .ok (s.icSrc n v)),
  (Rg.VT_CFG_PROBATION.addr, fun s _ _ _ v => s.vtCfg v),
  (Rg.VT_CMD_CORE.addr, fun s _ _ _ v => s.vtCmd v),
  ((Rg.OWN_CLASS_OWNER 0).addr, fun s _ n _ v => s.ownClassReg n v),
  ((Rg.OWN_OVR_BASE_LO 0).addr, fun s _ n _ v => s.ownReg 64 v (fun s => s.set (Rg.OWN_OVR_BASE_LO n) v)),
  ((Rg.OWN_OVR_BASE_HI 0).addr, fun s _ n _ v => s.ownReg 1 v (fun s => s.set (Rg.OWN_OVR_BASE_HI n) v)),
  ((Rg.OWN_OVR_BLOCKS 0).addr, fun s _ n _ v => s.ownOvrReg n v),
  (Rg.VAULT_CMD_WIPE.addr, fun s _ _ _ v => s.vaultCmd v),
  (Rg.RST_BLK_KIND.addr, fun s _ _ _ v => s.rstBlk v),
  (Rg.BOOT_CONFIRM.addr, fun s _ _ _ v => s.bootConfirm v),
  (Rg.BOOT_GO.addr, fun s m _ _ v => s.bootGoReg m v),
  (Rg.LC_CMD_OP.addr, fun s _ _ _ v => s.lcCmd v),
  (Rg.LC_ARG.addr, fun s _ _ _ v => s.lowZero Rg.LC_ARG 16 v),
  (Rg.PAD_CTRL_GEN_SLEW.addr, fun s _ _ _ v => s.padCtrl v),
  (Rg.PAD_FILT_TMR_FILT.addr, fun s _ _ _ v => s.padFilt v),
  (Rg.PAD_SSC_MGMT_SSC_EN.addr, fun s _ _ _ v => s.padSsc v),
  (Rg.HB_CTRL_WAKE_EN.addr, fun s _ _ _ v => s.hbCtrl v),
  (Rg.HB_WAKE_REQ.addr, fun s _ _ _ v => s.hbWake v),
  (Rg.HB_MSI_TRIG_VECTOR.addr, fun s m _ _ v => s.hbMsi m v),
  (Rg.HB_LOAD_READY.addr, fun s m _ _ v => s.hbLoad m v),
  (Rg.TD_CTRL_HALT.addr, fun s _ _ _ v => s.tdCtrl v),
  ((Rg.TD_S 0).addr, fun s _ n _ v => s.tdS n v)]

/-- Timers, calendar and CRC units (R364, R374, R379, R384). -/
def timersW : List (Nat × Writer) := [
  ((Rg.TMR_CTRL_SRC 0).addr, fun s _ n _ v => s.tmrCtrl n v),
  ((Rg.TMR_CMD_RESTART 0).addr, fun s _ n _ v => s.tmrCmd n v),
  ((Rg.TMR_CMP_LO 0).addr, fun s m n _ v => s.pairLo m (.tmrCmp (Fin.ofNat 8 n)) v),
  ((Rg.TMR_CMP_HI 0).addr, fun s m n _ v => s.pairHi m (.tmrCmp (Fin.ofNat 8 n)) v),
  ((Rg.TMR_TOP_LO 0).addr, fun s m n _ v => s.pairLo m (.tmrTop (Fin.ofNat 8 n)) v),
  ((Rg.TMR_TOP_HI 0).addr, fun s m n _ v => s.pairHi m (.tmrTop (Fin.ofNat 8 n)) v),
  (Rg.CAL_SET_LO.addr, fun s m _ _ v => s.pairLo m .calSet v),
  (Rg.CAL_SET_HI.addr, fun s m _ _ v => s.pairHi m .calSet v),
  (Rg.CAL_ALARM_LO.addr, fun s m _ _ v => s.pairLo m .calAlarm v),
  (Rg.CAL_ALARM_HI.addr, fun s m _ _ v => s.pairHi m .calAlarm v),
  (Rg.CAL_CTRL_ALARM_EN.addr, fun s _ _ _ v => s.calCtrl v),
  ((Rg.CRC_CFG_PRESET 0).addr, fun s _ n _ v => s.crcCfg n v),
  ((Rg.CRC_CMD_START 0).addr, fun s _ n _ v => s.crcCmd n v),
  ((Rg.CRC_DATA8 0).addr, fun s _ n _ v => s.crcFeed n (leBytes 1 v)),
  ((Rg.CRC_DATA16 0).addr, fun s _ n _ v => s.crcFeed n (leBytes 2 v)),
  ((Rg.CRC_DATA32 0).addr, fun s _ n _ v => s.crcFeed n (leBytes 4 v)),
  ((Rg.CRC_POLY_LO 0).addr, fun s m n _ v => s.pairLo m (.crcPoly (Fin.ofNat 16 n)) v),
  ((Rg.CRC_POLY_HI 0).addr, fun s m n _ v => s.pairHi m (.crcPoly (Fin.ofNat 16 n)) v),
  ((Rg.CRC_INIT_LO 0).addr, fun s m n _ v => s.pairLo m (.crcInit (Fin.ofNat 16 n)) v),
  ((Rg.CRC_INIT_HI 0).addr, fun s m n _ v => s.pairHi m (.crcInit (Fin.ofNat 16 n)) v),
  ((Rg.CRC_XOROUT_LO 0).addr, fun s m n _ v => s.pairLo m (.crcXorout (Fin.ofNat 16 n)) v),
  ((Rg.CRC_XOROUT_HI 0).addr, fun s m n _ v => s.pairHi m (.crcXorout (Fin.ofNat 16 n)) v),
  ((Rg.CRC_VALUE_LO 0).addr, fun s m n _ v => s.pairLo m (.crcValue (Fin.ofNat 16 n)) v),
  ((Rg.CRC_VALUE_HI 0).addr, fun s m n _ v => s.pairHi m (.crcValue (Fin.ofNat 16 n)) v),
  ((Rg.CRC_EXPECT_LO 0).addr, fun s m n _ v => s.pairLo m (.crcExpect (Fin.ofNat 16 n)) v),
  ((Rg.CRC_EXPECT_HI 0).addr, fun s m n _ v => s.pairHi m (.crcExpect (Fin.ofNat 16 n)) v)]

/-- Blotter, policy, journal, lanes and drydown (R418, R419, R437, R464). -/
def relW : List (Nat × Writer) := [
  (Rg.BL_CMD_OP.addr, fun s _ _ _ v => s.blCmd v),
  (Rg.BL_CFG_AUTO_PERIOD_S.addr, fun s _ _ _ v => s.blCfg v),
  (Rg.BL_LBIST_EXP_LO.addr, fun s m _ _ v => s.pairLo m .lbistExp v),
  (Rg.BL_LBIST_EXP_HI.addr, fun s m _ _ v => s.pairHi m .lbistExp v),
  ((Rg.RL_CLASS_RETRY 0).addr, fun s _ n _ v => s.rlClass n v),
  (Rg.JNL_CTRL_ENABLE.addr, fun s _ _ _ v => s.jnlCtrl v),
  (Rg.JNL_BASE.addr, fun s _ _ _ v => s.jnlOff Rg.JNL_BASE (2 ^ 20) v),
  (Rg.JNL_STAGE_OFF.addr, fun s _ _ _ v => s.jnlOff Rg.JNL_STAGE_OFF 4096 v),
  (Rg.JNL_PUSH_GO.addr, fun s _ _ _ v => s.jnlPush v),
  ((Rg.LN_CTRL_ENABLE 0).addr, fun s _ n _ v => s.lnCtrl n v),
  ((Rg.LN_CMD_RETIRE 0).addr, fun s _ n _ v => s.lnCmd n v),
  ((Rg.LN_ADAPT_ADAPT_US 0).addr, fun s _ n _ v => s.lnAdapt n v),
  (Rg.DD_CTRL_EN.addr, fun s _ _ _ v => s.ddCtrl v),
  (Rg.DD_THR0_TOP_MV.addr, fun s _ _ _ v => s.ddThr (bits v 9 0) (bits v 25 16) (s.get Rg.DD_THR1_BASE_MV)),
  (Rg.DD_THR1_BASE_MV.addr, fun s _ _ _ v => s.ddThr (s.get Rg.DD_THR0_TOP_MV) (s.get Rg.DD_THR0_HEART_MV) (bits v 9 0)),
  (Rg.DD_CFG_HYST_MV.addr, fun s _ _ _ v => s.ddCfg v),
  (Rg.DD_LEAN_LO.addr, fun s _ _ _ v => s.ddLean v (s.get Rg.DD_LEAN_HI)),
  (Rg.DD_LEAN_HI.addr, fun s _ _ _ v => s.ddLean (s.get Rg.DD_LEAN_LO) v)]

/-- Every write with a meaning of its own, by the address of the register's first instance. -/
def writers : List (Nat × Writer) := frameW ++ enginesW ++ storeW ++ verdictW ++ systemW ++ timersW ++ relW

/-- The writer of a row, where it has one. -/
def writerOf (base : Nat) : List (Nat × Writer) → Option Writer
  | [] => none
  | (b, w) :: r => if b = base then some w else writerOf base r

/-- The value a write of one half of a 64-bit register makes of it. -/
def State.mergeHalf (s : State) (r : RegRef) (n v : Nat) : Nat :=
  if n = r.row.bytes then v
  else
    let old := (r.row.flds r.n r.k).foldl (fun x p => x + s.get p.1 * 2 ^ p.1.lo) 0
    if r.off = 0 then old / 2 ^ 32 * 2 ^ 32 + v % 2 ^ 32 else old % 2 ^ 32 + v % 2 ^ 32 * 2 ^ 32

/-- A write of `n` bytes to a register by master `m`, every check of the matrix passed (R4, R507). After a write of a
range entry of the channel table, RANGE_ERR is formed anew. -/
def State.regWrite (s : State) (m : Nat) (r : RegRef) (n v : Nat) : WRes :=
  if ¬ r.widthOk n then .refused s
  else
    let v := s.mergeHalf r n v
    match writerOf r.row.base writers with
    | some w => w s m r.n r.k v
    | none =>
      let s := s.writeFlds v (r.row.flds r.n r.k)
      .ok (if (Rg.CT_RANGE_FIRST 0).addr ≤ r.row.base ∧ r.row.base ≤ (Rg.CT_RANGE_LAST 0).addr then s.ctRange else s)

end Sys2Proof.Machine
end

