-- ==== Sys2Proof/Machine/RegRead.lean ====
section
/-! DEFINITION. A read of a register: the fields as they stand, the registers that show a unit's state, and what a read
that is no peek read changes (R7, R363, R479). -/

namespace Sys2Proof.Machine

/-! ### Registers that show a unit's state -/

/-- A value with `w` bits from bit `lo` on replaced. -/
def putBits (x lo w v : Nat) : Nat := x - x / 2 ^ lo % 2 ^ w * 2 ^ lo + v % 2 ^ w * 2 ^ lo

/-- Engines in a state (R119). -/
def State.vesIn (s : State) (st : Nat) : Nat := ((List.range 68).filter (fun n => s.veState n == st)).length

/-- Every hit weight is 0 (R66). [DEDUCED, unsafe: assumption 123] -/
def State.weightZero (s : State) : Bool :=
  (List.range 16).all (fun i => s.get (Rg.IR_WEIGHT_W0 i) == 0 && s.get (Rg.IR_WEIGHT_W1 i) == 0 &&
    s.get (Rg.IR_WEIGHT_W2 i) == 0 && s.get (Rg.IR_WEIGHT_W3 i) == 0)

/-- The return-stack depth: entries held and spilled (R272). -/
def Engine.rsDepth (e : Engine) : Nat := e.rstack.held.length + e.rstack.spilled

/-- A rotation step copies: how far it has come is a matter of time, and `COPY_ROW` reads as a free value (R97, R101).
[DESIGN CHOICE, safe: assumption 114] -/
def State.rotCopying (s : State) : Bool :=
  match s.rot with
  | .copying _ _ => true
  | _ => false

/-- What a register shows, from its row's indices and what its fields hold. -/
abbrev View := State → Nat → Nat → Nat → Nat

/-- Views of the frame/tick unit, the router and the engine map (R42, R64, R66, R71, R129).
[DEDUCED, unsafe: assumption 122] -/
def frameV : List (Nat × View) := [
  (Rg.FT_STATUS_STATE.addr, fun s _ _ x => putBits x 8 1 (b2n (s.locked && s.force Rg.FT_CTRL_EVAL_EN == 0))),
  (Rg.FT_BUDGET_W.addr, fun s _ _ x => putBits x 0 16 s.budgetW),
  (Rg.FT_LATENCY_CROSSINGS.addr, fun s _ _ _ => (2 * s.frameF + s.get Rg.FT_CFG_E) % 256),
  (Rg.IR_STATUS_COLL_BUF.addr, fun s _ _ x => putBits x 3 1 (b2n s.weightZero)),
  (Rg.IR_EVAL_BASE.addr, fun s _ _ _ => s.bufBase s.evalBuf),
  ((Rg.IR_PMAP_ACT_ENT0 0).addr, fun s n _ _ => (List.range 4).foldl (fun x k => x + s.force (pmapFld (4 * n + k)) * 2 ^ (8 * k)) 0),
  (Rg.ST_ROT_STATUS_SRC_PHYS.addr, fun s _ _ x => if s.rotCopying then putBits x 13 12 (s.fresh 4096).1 else x),
  (Rg.EM_STATUS_SPARES.addr, fun s _ _ x => putBits x 0 7 (s.vesIn 1))]

/-- Views of the engine windows and of the Triad's debug registers (R130, R290, R484, R485). -/
def enginesV : List (Nat × View) := [
  ((Rg.VE_STATUS_STATE 0).addr, fun s n _ x => putBits (putBits x 0 3 (s.veState n)) 4 6 ((s.slotOf n).getD 0)),
  ((Rg.VE_VL 0).addr, fun s n _ _ => (s.eng n).vl.toNat),
  ((Rg.SEQ_STATUS 0).addr, fun s n _ _ => (s.eng n).sst),
  ((Rg.SEQ_PC 0).addr, fun s n _ _ => (s.eng n).lastPc.toNat),
  ((Rg.SEQ_RSDEPTH 0).addr, fun s n _ _ => (s.eng n).rsDepth % 2 ^ 16),
  ((Rg.DBG_S 0 0).addr, fun s n r _ => ((s.eng n).sreg r).toNat),
  ((Rg.DBG_PC 0).addr, fun s n _ _ => (s.eng n).pc.toNat),
  ((Rg.TD_S 0).addr, fun s r _ _ => (s.tri.sreg r).toNat)]

/-- Views of the queues (R226, R227, R243). -/
def queuesV : List (Nat × View) := [
  ((Rg.Q_HEAD 0).addr, fun s n _ _ => (s.q n).head),
  ((Rg.Q_TAIL 0).addr, fun s n _ _ => s.qTail n),
  ((Rg.Q_STATUS_EMPTY 0).addr, fun s n _ x =>
    putBits (putBits (putBits x 0 1 (b2n (s.q n).ready.isEmpty)) 1 1 (b2n (decide (s.qFree n < 2)))) 6 1 (b2n (s.q n).opn.isSome)),
  ((Rg.Q_ITEMS 0).addr, fun s n _ _ => s.qItems n),
  ((Rg.QF_SUM 0).addr, fun s n _ _ =>
    (List.range 32).foldl (fun x j => x + (if s.get (Rg.QF_PEND (32 * n + j)) = 0 then 0 else 2 ^ j)) 0)]

/-- A parameter of a CRC unit as it reads: the preset's where one is in force (R381). -/
def State.crcParamView (s : State) (u x : Nat) (f : CrcParams → Nat) : Nat :=
  if s.get (Rg.CRC_CFG_PRESET u) = 0 then x else f (s.crcParams u) % 2 ^ 32

/-- Views of the CRC units (R380, R381). -/
def crcV : List (Nat × View) := [
  ((Rg.CRC_CFG_PRESET 0).addr, fun s u _ x =>
    s.crcParamView u x (fun p =>
      putBits (putBits (putBits x 3 6 (p.width - 1)) 9 1 (b2n p.refin)) 10 1 (b2n p.refout))),
  ((Rg.CRC_POLY_LO 0).addr, fun s u _ x => s.crcParamView u x (fun p => p.poly)),
  ((Rg.CRC_POLY_HI 0).addr, fun s u _ x => s.crcParamView u x (fun p => p.poly / 2 ^ 32)),
  ((Rg.CRC_INIT_LO 0).addr, fun s u _ x => s.crcParamView u x (fun p => p.init)),
  ((Rg.CRC_INIT_HI 0).addr, fun s u _ x => s.crcParamView u x (fun p => p.init / 2 ^ 32)),
  ((Rg.CRC_XOROUT_LO 0).addr, fun s u _ x => s.crcParamView u x (fun p => p.xorout)),
  ((Rg.CRC_XOROUT_HI 0).addr, fun s u _ x => s.crcParamView u x (fun p => p.xorout / 2 ^ 32)),
  ((Rg.CRC_VALUE_LO 0).addr, fun s u _ _ => s.crcReg u % 2 ^ 32),
  ((Rg.CRC_VALUE_HI 0).addr, fun s u _ _ => s.crcReg u / 2 ^ 32),
  ((Rg.CRC_RESULT_LO 0).addr, fun s u _ _ => s.crcRes u % 2 ^ 32),
  ((Rg.CRC_RESULT_HI 0).addr, fun s u _ _ => s.crcRes u / 2 ^ 32)]

/-- Views of the timers: the wrap value in force, and the compare value in force, in preload mode the last one committed
(R364, R370, R374). -/
def timersV : List (Nat × View) := [
  ((Rg.TMR_CMP_LO 0).addr, fun s n _ x => if s.flag (Rg.TMR_CTRL_MODE n) then x else s.force (Rg.TMR_CMP_LO n)),
  ((Rg.TMR_CMP_HI 0).addr, fun s n _ x => if s.flag (Rg.TMR_CTRL_MODE n) then x else s.force (Rg.TMR_CMP_HI n)),
  ((Rg.TMR_TOP_LO 0).addr, fun s n _ _ => s.force (Rg.TMR_TOP_LO n)),
  ((Rg.TMR_TOP_HI 0).addr, fun s n _ _ => s.force (Rg.TMR_TOP_HI n))]

/-- The class-2 strikes of a lane in the current window (R397, R437). -/
def State.lnStrikes (s : State) (l : Nat) : Nat :=
  let k := Tab.get s.strikes (strikeKey 2 l) ⟨0, 0⟩
  if s.polFrames - k.start ≥ max (s.get (Rg.RL_CLASS_WINDOW 2)) 1 then 0 else min 7 k.cnt

/-- Views of the interrupt controller and of the lanes (R321, R437). -/
def otherV : List (Nat × View) := [
  ((Rg.IC_PEND 0).addr, fun s j _ _ => (List.range 32).foldl (fun x i => x + b2n (s.srcPend (32 * j + i)) * 2 ^ i) 0),
  ((Rg.IC_SRC_PRIO 0).addr, fun s n _ x => putBits x 16 1 (b2n (s.srcPend n))),
  ((Rg.LN_STATUS_STATE 0).addr, fun s l _ x => putBits x 6 3 (s.lnStrikes l))]

/-- Views of the readout channels (R260). -/
def readoutV : List (Nat × View) := [
  ((Rg.RD_STATUS_HALTED 0).addr, fun s r _ x => putBits x 2 1 (b2n (s.rdWaits r)))]

/-- Every register that shows a unit's state, by the address of its first instance. -/
def views : List (Nat × View) := frameV ++ enginesV ++ queuesV ++ crcV ++ timersV ++ otherV ++ readoutV

/-- The view of a row, where it has one. -/
def viewOf (base : Nat) : List (Nat × View) → Option View
  | [] => none
  | (b, w) :: r => if b = base then some w else viewOf base r

/-! ### Reading -/

/-- What the fields of a register show; WO fields and reserved bits read as 0 (R7, R8). -/
def State.fldsNat (s : State) (fs : List (Fld × Acc)) : Nat :=
  fs.foldl (fun x p => if p.2 = .wo then x else x + s.get p.1 * 2 ^ p.1.lo) 0

/-- The value a register shows. -/
def State.regShow (s : State) (r : RegRef) : Nat :=
  let x := s.fldsNat (r.row.flds r.n r.k)
  match viewOf r.row.base views with
  | some f => f s r.n r.k x
  | none => x

/-- What a read that is no peek read changes: RC fields take their reset value (R7), and a held read of a CRC unit's VALUE or
RESULT waits until absorption has ended (R382); a free value that was read is used up. [DEDUCED, safe: assumption 51] -/
def State.readEffect (s : State) (r : RegRef) : State :=
  let s := (r.row.flds r.n r.k).foldl (fun s p => if p.2 = .rc then s.resetFld p.1 else s) s
  if r.row.base = Rg.ST_ROT_STATUS_SRC_PHYS.addr ∧ s.rotCopying then (s.fresh 4096).2
  else if (Rg.CRC_VALUE_LO 0).addr ≤ r.row.base ∧ r.row.base ≤ (Rg.CRC_RESULT_HI 0).addr then s.crcWait r.n else s

/-- The half of a value that an access of `n` bytes at a place takes. -/
def cutHalf (off n v : Nat) : Nat := v / 2 ^ (8 * off) % 2 ^ (8 * n)

/-- The rows that show the pointers of a queue: a read of one is a use of them (R394). -/
def ptrRows : List Nat :=
  [(Rg.Q_HEAD 0).addr, (Rg.Q_TAIL 0).addr, (Rg.Q_STATUS_EMPTY 0).addr, (Rg.Q_ITEMS 0).addr]

/-- A read of `n` bytes of a register: its value, or the code of its error response, and what the read changes; a peek read
changes nothing (R4, R7, R479). -/
def State.regRead (s : State) (r : RegRef) (n : Nat) (peek : Bool) : Except Nat Nat × State :=
  if ¬ r.widthOk n then (.error 4, s)
  else if r.row.base ∈ ptrRows then
    let t := s.qUse r.n
    (.ok (cutHalf r.off n (t.regShow r)), if peek then s else t)
  else if r.row.base = (Rg.Q_POP_HDR 0).addr then
    match s.qPopHdr r.n with
    | (some v, t) => (.ok v, if peek then s else t)
    | (none, t) => (.error 5, if peek then s else t)
  else (.ok (cutHalf r.off n (s.regShow r)), if peek then s else s.readEffect r)

end Sys2Proof.Machine
end

