-- ==== Sys2Proof/WellFormed.lean ====
section
/-! DEFINITION. Which commands are well-formed: an upset strikes a half that exists, a request to a bank addresses a word of
the store, a matrix request and a TLP have a form that the spec gives them (R73, R347, R466). -/

namespace Sys2Proof

/-- The words of the Interleaved Store (R73). -/
def storeWords : Nat := 0x1FFF000

/-- The upset strikes a half of the store. -/
def Upset.wf (u : Upset) : Bool := decide (u.half < 2 * storeWords)

@[inherit_doc Upset.wf]
def Upset.optWf : Option Upset → Bool
  | none => true
  | some u => u.wf

/-- An upset of an engine's own state is well-formed by its type; one of the store strikes a half of it. -/
def EngUpset.optWf : Option EngUpset → Bool
  | some (.store u) => u.wf
  | _ => true

/-- An upset of another memory of the matrix is well-formed by its type. -/
def MemUpset.optWf : Option MemUpset → Bool
  | some (.store u) => u.wf
  | _ => true

/-- A sample below 0.670 V is FINAL_SAG's (R446). -/
def SampleRun.wf (r : SampleRun) : Bool := decide (670 ≤ r.mv.toNat)

/-- The request addresses a word of the store. -/
def StoreReq.wf (r : StoreReq) : Bool := decide (r.word < storeWords)

/-- The forms of a transaction of `n` bytes at `a`: a beat within a 16-byte line, one of 1, 2, 4, 8 or 16 bytes that crosses
one line, a burst of 2 to 16 lines (R347). -/
def transactionForm (a n : Nat) : Bool :=
  decide (a % 16 + n ≤ 16) || [1, 2, 4, 8, 16].contains n ||
    (a % 16 == 0 && n % 16 == 0 && decide (2 ≤ n / 16) && decide (n / 16 ≤ 16))

/-- The request has a form of R347. -/
def MxReq.wf (r : MxReq) : Bool := transactionForm r.addr.toNat (r.last.toNat + 1) && MemUpset.optWf r.up

/-- A write TLP carries at most 512 bytes (R466). -/
def BarReq.wf (r : BarReq) : Bool := (r.write.isNone || decide (r.last.toNat < 512)) && MemUpset.optWf r.up

/-- A DBGACC access is well-formed but for its upset. -/
def DbgReq.wf (r : DbgReq) : Bool := MemUpset.optWf r.up

/-- Whether a command is well-formed. -/
def Instr.wf : Instr → Bool
  | .lockReq _ _ => true
  | .refMeasureDone _ => true
  | .pllLockDone => true
  | .pllLockTimeout => true
  | .fsyncMarker => true
  | .crossingTick => true
  | .frameTick => true
  | .checkpointTrailerWrite _ => true
  | .frameProgramStart => true
  | .deadlineGuard => true
  | .verdictAssembly => true
  | .sillageWrite => true
  | .verdictFrameSend => true
  | .refLoss => true
  | .unlock _ _ => true
  | .evalEnWrite _ _ => true
  | .registerWrite _ _ _ _ => true
  | .rcRead _ _ _ => true
  | .peekRead _ a last up => MemUpset.optWf up && transactionForm a.toNat (last.toNat + 1)
  | .flitReceive _ _ fec => fec.all (fun w => w.length == 544)
  | .saonjoFrameAccept _ _ up => Upset.optWf up
  | .irEnableWrite _ _ => true
  | .storeRequest _ reqs up => reqs.all StoreReq.wf && Upset.optWf up
  | .eccWriteback => true
  | .scrubAccess _ _ _ up => Upset.optWf up
  | .scrubLate => true
  | .rotationStepStart => true
  | .rotStepCmd _ _ => true
  | .rotTargetedCmd _ _ => true
  | .rotationCopyDone => true
  | .rotationTestStart => true
  | .rotationTestDone _ => true
  | .accordBegin _ => true
  | .accordFinish _ => true
  | .midVectorFault _ up => EngUpset.optWf up
  | .queueStoreAllocate _ _ => true
  | .vAdd _ _ => true
  | .vSub _ _ => true
  | .vMin _ _ => true
  | .vMax _ _ => true
  | .abs _ _ => true
  | .neg _ _ => true
  | .absdiff _ _ => true
  | .avg _ _ => true
  | .clamp _ _ => true
  | .mov _ _ => true
  | .raw _ _ => true
  | .sel _ _ => true
  | .vAnd _ _ => true
  | .vOr _ _ => true
  | .vXor _ _ => true
  | .vAndn _ _ => true
  | .not _ _ => true
  | .vShl _ _ => true
  | .vShr _ _ => true
  | .bfx _ _ => true
  | .vMul _ _ => true
  | .vMulh _ _ => true
  | .mulw _ _ => true
  | .mac _ _ => true
  | .macw _ _ => true
  | .cmpeq _ _ => true
  | .cmpne _ _ => true
  | .cmplt _ _ => true
  | .cmple _ _ => true
  | .cmpgt _ _ => true
  | .cmpge _ _ => true
  | .fadd _ _ => true
  | .fsub _ _ => true
  | .fmul _ _ => true
  | .fma _ _ => true
  | .fmin _ _ => true
  | .fmax _ _ => true
  | .fabs _ _ => true
  | .fneg _ _ => true
  | .cvt _ _ => true
  | .tlu _ _ => true
  | .twr _ _ => true
  | .vDiv _ _ => true
  | .sqrt _ _ => true
  | .rsqrt _ _ => true
  | .rsum _ _ => true
  | .rmin _ _ => true
  | .rmax _ _ => true
  | .rand _ _ => true
  | .vRor _ _ => true
  | .mand _ _ => true
  | .mor _ _ => true
  | .mxor _ _ => true
  | .mandn _ _ => true
  | .mnot _ _ => true
  | .mfill _ _ => true
  | .mpop _ _ => true
  | .mfirst _ _ => true
  | .compress _ _ => true
  | .expand _ _ => true
  | .ld _ _ => true
  | .ldg _ _ => true
  | .st _ _ => true
  | .sts _ _ => true
  | .stc _ _ => true
  | .add _ _ => true
  | .addi _ _ => true
  | .sub _ _ => true
  | .and _ _ => true
  | .andi _ _ => true
  | .or _ _ => true
  | .ori _ _ => true
  | .xor _ _ => true
  | .xori _ _ => true
  | .andn _ _ => true
  | .shl _ _ => true
  | .shli _ _ => true
  | .shr _ _ => true
  | .shri _ _ => true
  | .sra _ _ => true
  | .srai _ _ => true
  | .slt _ _ => true
  | .slti _ _ => true
  | .sltu _ _ => true
  | .sltiu _ _ => true
  | .min _ _ => true
  | .max _ _ => true
  | .minu _ _ => true
  | .maxu _ _ => true
  | .ror _ _ => true
  | .adds _ _ => true
  | .subs _ _ => true
  | .clz _ _ => true
  | .popc _ _ => true
  | .bswap _ _ => true
  | .sextb _ _ => true
  | .sexth _ _ => true
  | .lui _ _ => true
  | .mul _ _ => true
  | .mulh _ _ => true
  | .mulhu _ _ => true
  | .div _ _ => true
  | .divu _ _ => true
  | .rem _ _ => true
  | .remu _ _ => true
  | .longOpComplete _ => true
  | .lb _ _ => true
  | .lbu _ _ => true
  | .lh _ _ => true
  | .lhu _ _ => true
  | .lw _ _ => true
  | .dld _ _ => true
  | .sb _ _ => true
  | .sh _ _ => true
  | .sw _ _ => true
  | .dst _ _ => true
  | .loadDataReturn _ => true
  | .ll _ _ => true
  | .sc _ _ => true
  | .llLockTimeout _ => true
  | .storeBufferIssue _ => true
  | .beq _ _ => true
  | .bne _ _ => true
  | .blt _ _ => true
  | .bge _ _ => true
  | .bltu _ _ => true
  | .bgeu _ _ => true
  | .j _ _ => true
  | .call _ _ => true
  | .jr _ _ => true
  | .callr _ _ => true
  | .ret _ _ => true
  | .nop _ _ => true
  | .fend _ _ _ => true
  | .ifence _ _ => true
  | .pflush _ _ => true
  | .pbar _ _ => true
  | .pallow _ _ => true
  | .sync _ _ => true
  | .mode _ _ => true
  | .rdst _ _ => true
  | .iprime _ _ => true
  | .rdrs _ _ => true
  | .erelease _ _ => true
  | .eret _ _ => true
  | .trap _ _ => true
  | .brk _ _ => true
  | .setvl _ _ => true
  | .getvl _ _ => true
  | .vget _ _ => true
  | .vput _ _ => true
  | .dsetw _ _ => true
  | .dgetw _ _ => true
  | .rep _ _ => true
  | .repi _ _ => true
  | .icacheFill _ _ => true
  | .ccopy _ _ => true
  | .cclip _ _ => true
  | .cdrop _ _ => true
  | .ctype _ _ => true
  | .cseal _ _ => true
  | .cunseal _ _ => true
  | .cget _ _ => true
  | .cclr _ _ => true
  | .dcall _ _ => true
  | .dret _ _ => true
  | .cld _ _ => true
  | .cst _ _ => true
  | .eget _ _ => true
  | .eput _ _ => true
  | .di _ _ => true
  | .ei _ _ => true
  | .csvget _ _ => true
  | .csvput _ _ => true
  | .exceptionEntry _ => true
  | .veIrqSet _ _ _ => true
  | .triadInterruptEntry _ => true
  | .triadFaultEntry => true
  | .nmiEntry _ => true
  | .swInterruptSet _ _ _ => true
  | .registerDissent _ _ => true
  | .signatureCompare _ => true
  | .resyncStart => true
  | .resyncQuiesceDone => true
  | .resyncQuiesceTimeout => true
  | .resyncCopyDone => true
  | .resyncCheck _ => true
  | .resyncDone => true
  | .voterInject _ _ => true
  | .matrixRequest _ r => r.wf
  | .vaultWipeCmd _ _ => true
  | .tamperEvent _ => true
  | .vaultWipeDone => true
  | .pairLoWrite _ _ _ => true
  | .pairHiCommit _ _ _ => true
  | .timerTick => true
  | .timerRestart _ _ _ => true
  | .capPop _ _ _ => true
  | .outSet _ _ _ => true
  | .outClr _ _ _ => true
  | .timerCapture _ _ => true
  | .calTick => true
  | .calTrim => true
  | .calSetDone => true
  | .oscFail => true
  | .crcData8 _ _ _ => true
  | .crcData16 _ _ _ => true
  | .crcData32 _ _ _ => true
  | .crcAbsorbDone _ => true
  | .crcStart _ _ _ => true
  | .crcCheck _ _ _ => true
  | .clearAll _ _ _ => true
  | .tagRecord _ _ => true
  | .loaderItem up => Upset.optWf up
  | .sweepPassStart => true
  | .sweepVisit _ up => Upset.optWf up
  | .tableRecordWrite _ up => Upset.optWf up
  | .orphanMarkingDone => true
  | .reinstated => true
  | .ctCmdGo _ _ => true
  | .cmdDone => true
  | .qPushLen _ _ _ _ => true
  | .qPushData _ _ _ up => Upset.optWf up
  | .queuePop _ _ _ _ => true
  | .queueFlush _ _ _ => true
  | .queueEnable _ _ _ => true
  | .queueDisable _ _ _ => true
  | .itemTorn _ => true
  | .freeze _ _ => true
  | .sillageUnfreeze _ _ => true
  | .readoutEnable _ _ _ => true
  | .readoutItemSend _ up => Upset.optWf up
  | .readoutResume _ _ _ => true
  | .migrate _ _ => true
  | .engineRetire _ _ => true
  | .engineReturn _ _ => true
  | .copyAbandon _ _ _ => true
  | .checkpointRestore _ => true
  | .sreset _ _ _ => true
  | .drydownTierEnter l => l.all SampleRun.wf
  | .drydownTierLeave l => l.all SampleRun.wf
  | .drydownForce _ _ _ => true
  | .enginePowerReady => true
  | .finalSag _ _ _ => true
  | .supplyLow i mv => decide (i ≠ 5 ∨ 670 ≤ mv.toNat)
  | .porst _ => true
  | .resetRelease _ => true
  | .laneBlockReset _ _ => true
  | .readoutBlockReset _ _ => true
  | .crcBlockReset _ _ => true
  | .flashBlockReset _ _ => true
  | .bootConfirm _ _ => true
  | .bootGo _ _ => true
  | .hostLoadGo _ _ up => Upset.optWf up
  | .advance _ _ => true
  | .lcRetire _ _ => true
  | .revoke _ _ => true
  | .program _ _ => true
  | .svnIncrement _ _ => true
  | .fuseChangeDone => true
  | .journalEnable _ _ _ => true
  | .journalScanDone => true
  | .jnlPushGo _ _ => true
  | .journalRecordWrite => true
  | .flashOperationDone _ => true
  | .sectorPrepare => true
  | .bucketLeak => true
  | .lbist _ _ => true
  | .mbistSpare _ _ => true
  | .mbistRotation _ _ => true
  | .loopback _ _ => true
  | .lbistDone _ => true
  | .mbistDone _ => true
  | .loopbackDone _ => true
  | .autoLbist => true
  | .testAbort => true
  | .laneEnable _ _ _ => true
  | .lossOfLink _ _ => true
  | .scriptResult _ _ _ _ _ _ => true
  | .scriptTimeout _ => true
  | .adaptTick _ => true
  | .laneRetire _ _ _ => true
  | .laneReturn _ _ _ => true
  | .autoReturn _ => true
  | .retrain _ _ _ => true
  | .laneTransmitFrame _ => true
  | .barAccess r => r.wf
  | .pciePerst => true
  | .hostExit _ => true
  | .wakeReq _ _ => true
  | .msiTrig _ _ => true
  | .smbusTransaction _ _ => true
  | .bypass _ => true
  | .idcode => true
  | .samplePreload _ => true
  | .extest _ => true
  | .extestPulse _ => true
  | .extestTrain _ => true
  | .highz => true
  | .dbgacc r => r.wf
  | .engineHalt _ _ _ => true
  | .engineStep _ _ _ => true
  | .engineResume _ _ _ => true
  | .triadHalt _ _ => true
  | .triadStep _ _ => true
  | .triadResume _ _ => true
  | .haltEffective _ => true
  | .lockBreak _ => true
  | .breakpoint _ => true
  | .clampInstruction => true
  | .tapReset => true
  | .dstateChange _ => true
  | .linkStateChange _ _ _ _ => true
  | .smbusTimeout => true
  | .thermalAlert _ => true
  | .crystalStop => true
  | .backupDomainPowerUp => true
  | .fullTrainingRepeat _ => true
  | .sscChangeDone => true

end Sys2Proof
end

