-- ==== Sys2Proof/Machine/Bus.lean ====
section
/-! DEFINITION. A transaction of the management matrix: its form, the checks in their order, and what each target does with
it (R345 to R361, R479). -/

namespace Sys2Proof.Machine

/-! ### Targets (R346) -/

/-- What an address selects. -/
inductive Target where
  | store
  | localMemory
  | vault
  | rom
  | register (r : RegRef)
  | none

/-- The target that an address selects (R1, R2, R346). [DEDUCED, unsafe: assumption 85] -/
def targetOf (a : Nat) : Target :=
  if a < storeTop then .store
  else if 0x100000000 ≤ a ∧ a < 0x100200000 then .localMemory
  else if 0x100200000 ≤ a ∧ a < 0x100210000 then .vault
  else if 0x101000000 ≤ a ∧ a < 0x101040000 then .rom
  else
    match regAt a with
    | some r => .register r
    | Option.none => .none

/-- Whether a target is a register. -/
def Target.isReg : Target → Bool
  | .register _ => true
  | _ => false

/-- Whether nothing answers at an address but the default target. -/
def Target.isNone : Target → Bool
  | .none => true
  | _ => false

/-- The beats of an access of `n` bytes at `a`: its pieces within 16-byte lines. -/
def beatsOf (a n : Nat) : List (Nat × Nat) :=
  if n = 0 then []
  else (List.range ((a + n - 1) / 16 - a / 16 + 1)).map (fun i =>
    let lo := max a ((a / 16 + i) * 16)
    (lo, min (a + n) ((a / 16 + i) * 16 + 16) - lo))

/-- Whether an access has a form that its target accepts: a beat within a line; one that crosses a line, in local memory
and the vault; a burst of 2 to 16 lines, but not to a register; naturally aligned in the store; bytes and half-words not in
the boot ROM (R4, R347, R356). [DEDUCED, unsafe: assumption 85] -/
def formOk (a n : Nat) : Bool :=
  let line := a % 16 + n ≤ 16
  let burst := a % 16 == 0 && n % 16 == 0 && decide (2 ≤ n / 16) && decide (n / 16 ≤ 16)
  let size := [1, 2, 4, 8, 16].contains n
  match targetOf a with
  | .store => (size && a % n == 0) || burst
  | .localMemory => line || size || burst
  | .vault => line || size || burst
  | .rom => (line && decide (4 ≤ n)) || burst
  | _ => line

/-! ### Checks (R351) -/

/-- The code of the first check that an access fails: windows, target selection, ownership, last resort (R351), JTAG in FIELD,
and the target's form. -/
def State.mxCheck (s : State) (m a n : Nat) (write peek : Bool) : Option Nat :=
  if ¬ s.windowOk m a n write peek then some 2
  else if (beatsOf a n).any (fun b => (targetOf b.1).isNone) then some 1
  else if write ∧ (targetOf a).isReg ∧ ¬ s.ownOk m a then some 3
  else if write ∧ s.lastResort ∧ m ≠ 8 then some 7
  else if s.fieldBars m (!write && peek) then some 4
  else if ¬ formOk a n then some 4
  else none

/-! ### Reads -/

/-- Bytes of the boot ROM (R360). [DESIGN CHOICE, safe: assumption 4] -/
def romBytes (off : Nat) : Nat → List Byte
  | 0 => []
  | n + 1 => BitVec.ofNat 8 (Config.bootRom off) :: romBytes (off + 1) n

/-- Reads one beat: its bytes, or the code of its error response. A peek read changes nothing (R479).
[DEDUCED, unsafe: assumption 85] -/
def State.beatRead (s : State) (a n : Nat) (peek : Bool) : Except Nat (List Byte) × State :=
  match targetOf a with
  | .store =>
    match s.stRead a n srcMatrix with
    | (.data bs, t) => (.ok bs, if peek then s else t)
    | (.bad _, t) => (.error 5, if peek then s else t)
  | .localMemory =>
    match s.lmRead (a - 0x100000000) n with
    | (some bs, t) => (.ok bs, if peek then s else t)
    | (none, t) => (.error 5, if peek then s else t)
  | .vault =>
    if s.flag Rg.VAULT_STATUS_WIPING then (.error 6, s)
    else
      match s.vtRead (a - 0x100200000) n with
      | (some bs, t) => (.ok bs, t)
      | (none, t) => (.error 5, t)
  | .rom => (.ok (romBytes (a - 0x101000000) n), s)
  | .register r =>
    match s.regRead r n peek with
    | (.ok v, t) => (.ok (leBytes n v), t)
    | (.error c, t) => (.error c, t)
  | .none => (.error 1, s)

/-- Reads beats in order; each gives its bytes or its error. -/
def State.beatsRead (s : State) (peek : Bool) : List (Nat × Nat) → List (Except Nat (List Byte)) × State
  | [] => ([], s)
  | (a, n) :: r =>
    match s.beatRead a n peek with
    | (x, s) =>
      match s.beatsRead peek r with
      | (xs, s) => (x :: xs, s)

/-- The code of the first beat that failed. -/
def firstErr : List (Except Nat (List Byte)) → Option Nat
  | [] => none
  | .error c :: _ => some c
  | .ok _ :: r => firstErr r

/-- The bytes of beats that all came. -/
def joinBeats : List (Except Nat (List Byte)) → List Byte
  | [] => []
  | .ok bs :: r => bs ++ joinBeats r
  | .error _ :: r => joinBeats r

/-- The data of each beat; none for a beat answered with an error. -/
def beatData : List (Except Nat (List Byte)) → List (Option Nat)
  | [] => []
  | .ok bs :: r => some (leNat bs) :: beatData r
  | .error _ :: r => none :: beatData r

/-- A read of master `m`: its beats, or the code of the check it failed. -/
def State.busRead (s : State) (m a n : Nat) (peek : Bool) : Except Nat (List (Except Nat (List Byte))) × State :=
  match s.mxCheck m a n false peek with
  | some c => (.error c, s.deny m a c)
  | none =>
    match s.beatsRead peek (beatsOf a n) with
    | (xs, s) => (.ok xs, s)

/-- A read of one value: its bytes, or its code. -/
def State.busGet (s : State) (m a n : Nat) (peek : Bool) : Except Nat (List Byte) × State :=
  match s.busRead m a n peek with
  | (.error c, s) => (.error c, s)
  | (.ok xs, s) =>
    match firstErr xs with
    | some c => (.error c, s)
    | none => (.ok (joinBeats xs), s)

/-! ### Writes -/

/-- Writes one beat; the answer is its code, 0 where it is performed. -/
def State.beatWrite (s : State) (m a : Nat) (bs : List Byte) : Nat × State :=
  match targetOf a with
  | .store =>
    match s.stWrite a bs srcMatrix none with
    | ([], s) => (0, s)
    | (_ :: _, s) => (5, s)
  | .localMemory =>
    match s.lmWrite (a - 0x100000000) bs with
    | (true, s) => (0, s)
    | (false, s) => (5, s)
  | .vault =>
    if s.flag Rg.VAULT_STATUS_WIPING then (6, s)
    else
      match s.vtWrite (a - 0x100200000) bs with
      | (true, s) => (0, s)
      | (false, s) => (5, s)
  | .rom => (2, s)
  | .register r =>
    match s.regWrite m r bs.length (leNat bs) with
    | .ok s => (0, s)
    | .refused s => (4, s)
  | .none => (1, s)

/-- Writes beats in order; a beat that fails leaves the others standing (R351). -/
def State.beatsWrite (s : State) (m : Nat) (bs : List Byte) : List (Nat × Nat) → Nat × State
  | [] => (0, s)
  | (a, n) :: r =>
    match s.beatWrite m a (bs.take n) with
    | (c, s) =>
      match s.beatsWrite m (bs.drop n) r with
      | (d, s) => (if c = 0 then d else c, s)

/-- Whether both ends of an access lie in one of the memories that are served byte by byte (R356). -/
def oneMemory (a n : Nat) : Bool :=
  match targetOf a, targetOf (a + n - 1) with
  | .localMemory, .localMemory => true
  | .vault, .vault => true
  | _, _ => false

/-- The pieces in which a write is performed: an access of up to 16 bytes in local memory or the vault is one, even where it
crosses a line, so that it writes nothing where a half it covers in part is uncorrectable (R356, R357). -/
def writePieces (a n : Nat) : List (Nat × Nat) := if n ≤ 16 ∧ oneMemory a n then [(a, n)] else beatsOf a n

/-- A write of master `m`: the code of its response. -/
def State.busPut (s : State) (m a : Nat) (bs : List Byte) : Nat × State :=
  match s.mxCheck m a bs.length true false with
  | some c => (c, s.deny m a c)
  | none => s.beatsWrite m bs (writePieces a bs.length)

/-! ### Requests -/

/-- A read request is answered: the data, and for each beat its own, none where it drew an error. -/
def State.readReq (s : State) (m a n : Nat) (peek : Bool) : State :=
  match s.busRead m a n peek with
  | (.error c, s) => s.respond m c 0
  | (.ok xs, s) =>
    { s with resp := some { master := m, code := (firstErr xs).getD 0, data := leNat (joinBeats xs), beats := beatData xs } }

/-- A write request is answered. -/
def State.writeReq (s : State) (m a : Nat) (bs : List Byte) : State :=
  match s.busPut m a bs with
  | (c, s) => s.respond m c 0

/-- An upset of a memory of the matrix, or of the pointers of a queue. [DESIGN CHOICE, unsafe: assumption 103] -/
def State.memUpset (s : State) (u : Option MemUpset) : State :=
  match u with
  | none => s
  | some (.store u) => s.upset u.half u.kind
  | some (.localMemory h k) => s.lmHit h k
  | some (.tag k) => { s with tagBad := Tab.set s.tagBad k false true }
  | some (.vault h k) => s.vtHit h k
  | some (.queue q both) => s.qPtrHurt q both

/-- The bytes that a request writes. -/
def mxData (r : MxReq) (d : BitVec 2048) : List Byte := leBytes (r.last.toNat + 1) d.toNat

/-- A master's request is checked, performed and answered (R351). A request of no form of R347 is none that a master can
make: nothing happens. [DEDUCED, unsafe: assumption 85] -/
def State.mxRequest (s : State) (m : Nat) (r : MxReq) : State :=
  let a := r.addr.toNat
  let n := r.last.toNat + 1
  let s := s.memUpset r.up
  if ¬ transactionForm a n then s
  else
    match r.write with
    | some d => s.writeReq m a (mxData r d)
    | none => s.readReq m a n r.peek

end Sys2Proof.Machine
end

