-- ==== Sys2Proof/Machine/Pipe.lean ====
section
/-! DEFINITION. How a scalar core executes one instruction, whichever it is: whether it may, its fetch, the waits, what it
sees of results on their way, its exceptions, and its retirement with delay slots and repetitions (R261 to R290, R480,
R482). -/

namespace Sys2Proof.Machine

/-- The record of a core: an engine's number, or that of the Triad (R323). -/
def coreNo (u : CoreId) : Nat :=
  match u with
  | .seq n => n.val
  | .triad => triadNo

/-- Events of a sequencer; the Triad has no event counters. [DESIGN CHOICE, unsafe: assumption 52] -/
def State.ec (s : State) (n code : Nat) : State := if n < triadNo then s.ecAdd n code 1 else s

/-! ### The store buffer of a core (R285, R349) -/

/-- The oldest entry of the Triad's store buffer is performed on the matrix; an error response raises a deferred store
error, with the matrix code in SUB (R349, R352). -/
def State.triIssue (s : State) : State :=
  match s.tri.sb with
  | [] => s
  | x :: _ =>
    match (s.modEng triadNo Engine.sbLess).busPut 0 x.addr x.bytes with
    | (0, s) => s
    | (c, s) => s.modEng triadNo (fun e => { e with sbErr := some { code := 8, sub := c, addr := x.addr } })

/-- The oldest entry of a core's store buffer is issued and accepted. -/
def State.sbOut (s : State) (n : Nat) : State := if n = triadNo then s.triIssue else s.sbIssue n

/-- So many of the oldest entries are accepted. -/
def State.sbOuts (s : State) (n : Nat) : Nat → State
  | 0 => s
  | k + 1 => (s.sbOut n).sbOuts n k

/-- A core's store buffer drains. -/
def State.sbEmpty (s : State) (n : Nat) : State := s.sbOuts n (s.eng n).sb.length

/-- An exception, a deferred store error or a vector fault is present at a core: its next boundary takes it (R308); or the
engine's frame work has ended, and nothing follows (R199). [DEDUCED, unsafe: assumption 68] -/
def State.excDue (s : State) (n : Nat) : Bool := (s.eng n).exc.isSome || (s.eng n).sbErr.isSome || (s.eng n).vfDue || (s.eng n).ended

/-! ### Accords that an instruction waits for (R110, R181) -/

/-- The waiting accord begins, once the stores before it have been accepted (R181); not while a vector fault is being
handled (R192). -/
def State.startWaiting (s : State) (n : Nat) : State :=
  let e := s.eng n
  if e.exe.isSome ∨ e.wait.isNone ∨ e.vfBusy ∨ e.helda.isSome then s else (s.sbOuts n e.waitSb).beginWaiting n

/-- Every accord that may run runs to its end. -/
def State.finishAccords (s : State) (n : Nat) : State :=
  let s := s.completeAccord n
  let s := if s.excDue n then s else s.startWaiting n
  if s.excDue n then s else s.completeAccord n

/-- The waiting accord has begun, or cannot. -/
def State.waitBegun (s : State) (n : Nat) : State :=
  let e := s.eng n
  if e.wait.isNone ∨ e.vfBusy then s
  else
    let s := s.completeAccord n
    if s.excDue n then s else s.startWaiting n

/-- A vector instruction without CHAIN, or a scalar one after CHAIN (R134), ends an accord: it waits for its turn. The
second such accord finds the first one waiting, and stalls until that has begun (R110). -/
def State.closeAccord (s : State) (n : Nat) (broken : Bool) : State :=
  s.modEng n (fun e => { e with coll := [], wait := some ⟨e.coll, broken⟩, collSb := 0, waitSb := e.collSb })

/-- The accords that have not finished: their instructions with what they latched or will latch. -/
def State.openAccords (s : State) (n : Nat) : List (List VInsn × (Nat → QWord) × Nat) :=
  let e := s.eng n
  (match e.exe with
    | some x => [(x.acc.insns, x.desc, x.vl)]
    | none => []) ++
  (if e.vfBusy then [] else
    (match e.wait with
      | some a => [(a.insns, e.desc, e.vl.toNat)]
      | none => []))

/-- Whether bytes `a` to `a + n - 1` lie within the range of a stream of an unfinished accord (R181). -/
def State.accordMeets (s : State) (u a n : Nat) : Bool :=
  (s.openAccords u).any (fun (is, ds, vl) => vl != 0 && is.any (fun v => (isLoad v.op || isStore v.op) &&
    intsMeet (s.streamRange ds vl v) ((a : Int), (a : Int) + n)))

/-- Whether an unfinished accord will write scalar register `r` (R110, R142). -/
def State.accordWrites (s : State) (u r : Nat) : Bool :=
  (s.openAccords u).any (fun (is, _, _) => is.any (fun v =>
    (v.op.isReduction && v.f.dreg.toNat == r) || (v.op == .compress && v.f.imm.toNat % 32 == r)))

/-- Whether an instruction that writes a descriptor waits for the waiting accord, which names it (R270); in the handler of a
vector fault none waits (R146). [DEDUCED, unsafe: assumption 77] -/
def State.waitNames (s : State) (u d : Nat) : Bool :=
  !(s.eng u).vfBusy && match (s.eng u).wait with
  | some a => a.insns.any (fun v => (isLoad v.op || isStore v.op) && v.f.dreg.toNat % 16 == d)
  | none => false

/-! ### Results on their way (R275 to R277) -/

/-- The long operation's result is written. -/
def Engine.longDone (e : Engine) : Engine :=
  match e.long with
  | some (rd, v) => { e.setS rd v with long := none }
  | none => e

/-- The results on their way to register `r` that the next instruction sees are written: in exposed mode those that are not
of the instruction just before, in compatibility mode all (R275). -/
def Engine.settle (e : Engine) (r : Nat) : Engine :=
  let ok (l : Land) : Bool := l.rd == r && (e.mode || !l.newest)
  let t := (e.lands.filter ok).foldl (fun (t : Engine) l => t.setS l.rd l.val) e
  { t with lands := e.lands.filter (fun l => !ok l) }

/-- An instruction reads register `r`: it waits for the accord, the long operation and the load that write it (R110, R276,
R277). -/
def State.readReg (s : State) (n r : Nat) : State :=
  if r = 0 then s
  else
    let s := if s.accordWrites n r then s.finishAccords n else s
    let s := if ((s.eng n).long.map (·.1)) = some r then s.modEng n Engine.longDone else s
    s.modEng n (·.settle r)

/-- An instruction writes register `r`: a long operation on its way to it ends first, and an earlier load's data is
discarded (R275, R277). -/
def State.writeReg (s : State) (n r : Nat) (v : Word) : State :=
  let s := if ((s.eng n).long.map (·.1)) = some r then s.modEng n Engine.longDone else s
  (s.modEng n (fun e => { e with lands := e.lands.filter (fun l => l.rd ≠ r) })).setS n r v

/-- A result sets out for register `r` (R275); `back` says that it waits for no data. -/
def State.sendReg (s : State) (n r : Nat) (v : Word) (back : Bool) : State :=
  let s := if ((s.eng n).long.map (·.1)) = some r then s.modEng n Engine.longDone else s
  s.modEng n (fun e => { e with lands := e.lands ++ [⟨r, v, true, back⟩] })

/-- A DLD's result sets out for descriptor `d`: in compatibility mode the next instruction sees it, in exposed mode the one
after (R275). -/
def Engine.sendDesc (e : Engine) (d : Nat) (v : QWord) : Engine :=
  let e := e.landDesc
  if e.mode then e.setD d v else { e with dland := some (d, v, true) }

/-- An instruction writes descriptor `d`: an earlier DLD's data for it is discarded (R275). -/
def Engine.writeDesc (e : Engine) (d : Nat) (v : QWord) : Engine :=
  { e.setD d v with dland := if (e.dland.map (·.1)) = some d then none else e.dland }

/-- No result on its way is the newest any more; a vector instruction, for which `vec` stands, executes with the descriptors
that stand before it in program order (R270). -/
def Engine.age (e : Engine) (vec : Bool) : Engine :=
  let e := { e with lands := e.lands.map (fun l => { l with newest := false }), dland := e.dland.map (fun x => (x.1, x.2.1, false)) }
  if vec then e.landDesc else e

/-- A load whose data has come: it is written, unless the next instruction must still see the old value (R275, R276). -/
def Engine.landAt (e : Engine) (before : List Land) (l : Land) (after : List Land) : Engine :=
  if l.newest ∧ ¬ e.mode then { e with lands := before ++ { l with back := true } :: after }
  else { e.setS l.rd l.val with lands := before ++ after }

/-- The data of the oldest load under way has come (R276). -/
def Engine.landOne (e : Engine) : Engine :=
  match e.lands.span (·.back) with
  | (_, []) => e
  | (b, l :: r) => e.landAt b l r

/-- What has come and no instruction must miss any more is written. -/
def Engine.landBack (e : Engine) : Engine :=
  let due (l : Land) : Bool := l.back && !l.newest
  let e := if (e.dland.map (·.2.2)) = some false then e.landDesc else e
  { (e.lands.filter due).foldl (fun (t : Engine) l => t.setS l.rd l.val) e with lands := e.lands.filter (fun l => !due l) }

/-- A scalar register's value, as a number. -/
def State.sNat (s : State) (n r : Nat) : Nat := ((s.eng n).sreg r).toNat

/-! ### Whether an instruction may execute -/

/-- The lock of a sequence holds: once the LL and 32 instructions after it have retired, it does not (R289). -/
def Engine.lockHolds (e : Engine) : Bool :=
  e.locked && !((match e.llAge with | some k => decide (33 ≤ k) | none => false) &&
    (match e.rep with | some r => r.inter | none => true))

/-- The boundary is one at which the core could take an interrupt (R278, R289, R308, R314). Between the instructions of one
accord there is none (assumption 30). [DESIGN CHOICE, unsafe: assumption 30] -/
def State.openBoundary (s : State) (n : Nat) : Bool :=
  let e := s.eng n
  !e.lockHolds && e.branch.isNone && e.coll.isEmpty && (if n = triadNo then e.level == 0 && e.ie && s.flag Rg.IC_CTRL_ENABLE else !e.hold)

/-- An interrupt is due at a sequencer (R308). -/
def State.seqIrq (s : State) (n : Nat) : Option Nat :=
  if s.openBoundary n then
    (List.range 32).find? (fun i => (s.get (Rg.VE_IRQ_PEND n)).testBit i && (s.get (Rg.VE_IRQ_EN n)).testBit i)
  else none

/-- An interrupt is due at the Triad: the source that would be accepted (R314). -/
def State.triIrq (s : State) : Option Nat :=
  if s.openBoundary triadNo then s.srcFirst else none

/-- An NMI is due at the Triad (R317). [DEDUCED, unsafe: assumption 75] -/
def State.nmiDue (s : State) : Bool := s.flag Rg.IC_NMI_CAUSE_PENDING && s.tri.level != 3 && s.tri.branch.isNone

/-- Something other than the next instruction comes next at this boundary: an exception, an interrupt or a halt.
[DEDUCED, unsafe: assumptions 69, 75] -/
def State.boundaryDue (s : State) (n : Nat) : Bool :=
  let e := s.eng n
  s.excDue n ||
    (!e.halted && ((e.haltReq.isSome && s.openBoundary n) ||
      (if n = triadNo then s.nmiDue || s.triIrq.isSome else (s.seqIrq n).isSome)))

/-- The core may execute an instruction: its program runs, nothing holds it, and nothing else comes first. -/
def State.mayIssue (s : State) (n : Nat) : Bool :=
  let e := s.eng n
  !s.held && e.run && !e.ended && (!e.halted || e.stepping) && !s.boundaryDue n &&
    (if n = triadNo then !s.lastResort && !s.triPaused else true)

/-! ### Halting (R480 to R482) -/

/-- The core is halted, unless what it waits for raises an exception: the store buffer drains and the accords finish
first. [DEDUCED, unsafe: assumption 83] -/
def State.haltNow (s : State) (n cause : Nat) : State :=
  let s := (s.sbEmpty n).modEng n (fun e => { e with stepping := false })
  let s := if n = triadNo then s else s.finishAccords n
  let s := s.modEng n Engine.landAll
  if s.excDue n then
    s.modEng n (fun e => { e with halted := false, haltReq := if cause = 3 then none else some cause })
  else
    let s := s.modEng n (fun e => { e with halted := true, haltReq := none })
    if n = triadNo then ((s.set Rg.TD_STATUS_HALTED 1).set Rg.TD_STATUS_CAUSE cause).set Rg.TD_PC s.tri.pc.toNat
    else ((s.set (Rg.DBG_STATUS_HALTED n) 1).set (Rg.DBG_STATUS_CAUSE n) cause).set (Rg.DBG_STATUS_TICK_PASSED n) 0

/-- The next instruction stands at an enabled breakpoint of an attached engine (R482).
[DEDUCED, unsafe: assumption 83] -/
def State.atBreakpoint (s : State) (n : Nat) : Bool :=
  let e := s.eng n
  decide (n < triadNo) && s.flag (Rg.DBG_CTRL_ATTACH n) && !e.skipBp &&
    (List.range 4).any (fun b => s.flag (Rg.DBG_BP_EN n b) && s.get (Rg.DBG_BP_ADDR n b) * 4 == e.pc.toNat)

/-! ### Fetch (R281, R295) -/

/-- The line of 64 bytes at a 48-bit address comes from the store, or for the Triad over the matrix; an uncorrectable one
does not. [DEDUCED, unsafe: assumption 80] -/
def State.readLine (s : State) (n line : Nat) : Bool × State :=
  if n = triadNo then
    match s.busGet 0 (line * 64) 64 false with
    | (.ok _, s) => (true, s)
    | (.error _, s) => (false, s)
  else
    match s.stRead (line * 64) 64 n with
    | (.data _, s) => (true, s)
    | (.bad _, s) => (false, s)

/-- A line is filled and kept (R281). -/
def State.fillLine (s : State) (n line : Nat) : Bool × State :=
  match (s.ec n 9).readLine n line with
  | (true, s) => (true, s.modEng n (fun e => { e with lines := Tab.put e.lines (line % 512) line, lineBuf := some line }))
  | (false, s) => (false, s)

/-- The instruction cache is in use: `SEQ_CTRL.IC_EN`; the Triad has no such register.
[DEDUCED, unsafe: assumption 76] -/
def State.icOn (s : State) (n : Nat) : Bool := n == triadNo || s.flag (Rg.SEQ_CTRL_IC_EN n)

/-- Fetch enters a line (R281). -/
def State.enterLine (s : State) (n line : Nat) : Bool × State :=
  let e := s.eng n
  if ¬ s.icOn n then s.fillLine n line
  else if e.lineBuf = some line then (true, s)
  else if (e.lines.find? (fun x => x.1 = line % 512)).map (·.2) = some line then
    (true, s.modEng n (fun e => { e with lineBuf := some line }))
  else s.fillLine n line

/-- The 48-bit address of the instruction at the program counter (R292, R295). -/
def State.pcAddr (s : State) (n : Nat) : Nat := ((s.eng n).cap 0).addr (s.eng n).pc.toNat

/-- Fetches an instruction of `size` bytes: its exception, where it raises one (R75, R281, R295).
[DESIGN CHOICE, unsafe: assumption 17; DEDUCED, unsafe: assumption 80] -/
def State.fetch (s : State) (n size : Nat) : Option Exc × State :=
  let a := s.pcAddr n
  match ((s.eng n).cap 0).unusable permExec a size with
  | some sub => (some { code := 4, sub := sub, reg := some 0, addr := a }, s)
  | none =>
    if n < triadNo ∧ storeTop < a + size then (some { code := 5, addr := a }, s)
    else
      match s.enterLine n (a / 64) with
      | (false, s) => (some { code := 6, addr := a }, s)
      | (true, s) =>
        if (a + size - 1) / 64 = a / 64 then (none, s)
        else
          match s.enterLine n ((a + size - 1) / 64) with
          | (true, s) => (none, s)
          | (false, s) => (some { code := 6, addr := a }, s)

/-! ### Executing and retiring -/

/-- What the body of an instruction comes to. -/
inductive SRes where
  /-- It raises an exception; it has no other effect than what `s` holds. -/
  | trap (s : State) (e : Exc)
  /-- It retires, and the next instruction follows. -/
  | done (s : State)
  /-- A transfer: it retires, and goes to the target, after a delay slot in exposed mode; `before` is the return stack as it
  stood before it. `slot` says whether the form has a delay slot. -/
  | go (s : State) (target : Word) (before : RetStack) (slot : Bool)
  /-- It does not retire: an exception comes first, or the wait has no end before the deadline. -/
  | wait (s : State)

/-- What holds of an instruction's form: its bytes, whether it may stand in a delay slot (R278) and be repeated (R273), and
whether it is a vector instruction (R131). -/
structure Form where
  size : Nat := 4
  slot : Bool := true
  rept : Bool := false
  vec  : Bool := false
deriving DecidableEq, Repr

/-- The instruction raises an exception (R302). -/
def State.throwAt (s : State) (n : Nat) (e : Exc) : State := s.modEng n (fun x => { x with exc := some e })

/-- After BRK with a debugger, and after an instruction of a stepped core, the core halts (R480, R482). -/
def State.stepped (s : State) (n : Nat) : State :=
  match (s.eng n).haltReq with
  | some 2 => s.haltNow n 2
  | some 1 => s.haltNow n 1
  | _ => if (s.eng n).stepping then s.haltNow n 1 else s

/-- The instruction at `pc` has retired: its address, whether it was a vector instruction or an iteration, the count since an
LL, its event, and on the Triad the vote over its address. -/
def State.retired (s : State) (n : Nat) (pc : Word) (vec iter : Bool) : State :=
  let s := s.modEng n (fun e =>
    { e.landBack with lastPc := pc, lastVec := vec, lastIter := iter, skipBp := false, llAge := e.llAge.map (· + 1) })
  let s := if n < triadNo then s.ecRetire n else s
  let s := if n = triadNo then s.voteInject pc else s
  s.stepped n

/-- An iteration has completed; the last one ends the repetition and its lock (R273, R289). -/
def Engine.iterate (e : Engine) (pc : Word) : Engine :=
  match e.rep with
  | none => { e with pc := pc + 4 }
  | some r =>
    if r.left ≤ 1 then { e with rep := none, pc := pc + 4, locked := if r.inter then e.locked else false }
    else { e with rep := some { r with left := r.left - 1 } }

/-- The program counter after an instruction of `size` bytes at `pc` that is no transfer. -/
def Engine.advance (e : Engine) (pc : Word) (size : Nat) : Engine :=
  match e.branch with
  | some b => { e with pc := b.target, branch := none }
  | none => if e.rep.isSome then e.iterate pc else { e with pc := pc + BitVec.ofNat 32 size }

/-- The program counter after a transfer at `pc`. -/
def Engine.transfer (e : Engine) (pc target : Word) (before : RetStack) (slot : Bool) : Engine :=
  if slot ∧ ¬ e.mode then { e with pc := pc + 4, branch := some ⟨pc, target, before⟩ } else { e with pc := target }

/-- What the body came to takes effect. -/
def conclude (n : Nat) (pc : Word) (f : Form) (r : SRes) : State :=
  match r with
  | .trap t e => t.throwAt n e
  | .done t => (t.modEng n (fun e => e.advance pc f.size)).retired n pc f.vec (t.eng n).rep.isSome
  | .go t target before slot => (t.modEng n (fun e => e.transfer pc target before slot)).retired n pc f.vec false
  | .wait t => t

/-- A broken accord waits, and can begin. -/
def Engine.brokenDue (e : Engine) : Bool :=
  !e.vfBusy && (match e.wait with | some a => a.broken | none => false)

/-- An accord that CHAIN left open is refused with the scalar instruction that follows it (R134): it takes its place as the
waiting accord once that is free, and begins in its turn, before the scalar instruction executes. -/
def State.breakAccord (s : State) (n : Nat) : State :=
  let s :=
    if (s.eng n).coll = [] then s
    else
      let s := s.waitBegun n
      if (s.eng n).wait.isSome ∨ s.excDue n then s else s.closeAccord n true
  if (s.eng n).brokenDue ∧ ¬ s.excDue n then s.waitBegun n else s

/-- The scalar instruction at `pc` cannot execute yet: an accord that CHAIN left open has still to be refused.
[DEDUCED, unsafe: assumption 69] -/
def State.stalled (s : State) (n : Nat) : Bool :=
  !(s.eng n).coll.isEmpty || (s.eng n).brokenDue

/-- Whether the next instruction may be of this form: a form that R273 does not allow cannot follow a prefix. -/
def State.formFits (s : State) (n : Nat) (f : Form) : Bool := f.rept || (s.eng n).rep.isNone

/-- One instruction of a core (R302, R308): it executes when it may; a breakpoint halts before it; its fetch is authorised;
`bad` says that its format is broken, and a form that may not stand in a delay slot is illegal there; it reads the registers
`rs`, waiting for their results, and then its body runs. [DESIGN CHOICE, unsafe: assumption 17] -/
def State.issue (s : State) (u : CoreId) (f : Form) (bad : Bool) (rs : List Nat) (body : State → Nat → SRes) : State :=
  let n := coreNo u
  if ¬ s.mayIssue n ∨ ¬ s.formFits n f then s
  else if s.atBreakpoint n then s.haltNow n 3
  else
    let pc := (s.eng n).pc
    let s := s.modEng n (fun e => { e with locked := e.lockHolds })
    let s := if f.vec then s else s.breakAccord n
    if s.excDue n ∨ (¬ f.vec ∧ s.stalled n) then s
    else
      match s.fetch n f.size with
      | (some e, s) => s.throwAt n e
      | (none, s) =>
        if bad ∨ ((s.eng n).branch.isSome ∧ ¬ f.slot) then s.throwAt n { code := 1 }
        else
          let s := rs.foldl (fun s r => s.readReg n r) s
          if s.excDue n then s
          else
            let s := s.modEng n (·.age f.vec)
            conclude n pc f (body s n)

end Sys2Proof.Machine
end

