-- ==== Sys2Proof/Machine/Scalar.lean ====
section
/-! DEFINITION. The scalar ALU, multiply and divide instructions, with the completion of a long operation (R264, R265, R275,
R277). -/

namespace Sys2Proof.Machine

/-! ### Forms (R262, R264) -/

/-- A register-form instruction that writes RD from RA and RB in X. -/
def State.aluR (s : State) (u : CoreId) (i : RInsn) (f : Word → Word → Word) : State :=
  s.issue u { rept := true } (i.z ≠ 0) [i.ra.toNat, i.rb.toNat] fun s n =>
    .done (s.writeReg n i.rd.toNat (f ((s.eng n).sreg i.ra.toNat) ((s.eng n).sreg i.rb.toNat)))

/-- A register-form instruction of one operand: RB must be 0. -/
def State.aluU (s : State) (u : CoreId) (i : RInsn) (f : Word → Word) : State :=
  s.issue u { rept := true } (i.z ≠ 0 ∨ i.rb ≠ 0) [i.ra.toNat] fun s n =>
    .done (s.writeReg n i.rd.toNat (f ((s.eng n).sreg i.ra.toNat)))

/-- An immediate-form instruction with its immediate. -/
def State.aluI (s : State) (u : CoreId) (i : IInsn) (bad : Bool) (imm : Word) (f : Word → Word → Word) : State :=
  s.issue u { rept := true } bad [i.ra.toNat] fun s n =>
    .done (s.writeReg n i.rd.toNat (f ((s.eng n).sreg i.ra.toNat) imm))

/-- IMM14, sign-extended. -/
def simm14 (i : IInsn) : Word := i.imm.signExtend 32
/-- IMM14, zero-extended. -/
def zimm14 (i : IInsn) : Word := i.imm.zeroExtend 32

/-- A shift by IMM14[4:0]: IMM14[13:5] must be 0. -/
def State.aluShift (s : State) (u : CoreId) (i : IInsn) (f : Word → Word → Word) : State :=
  s.aluI u i (i.imm.extractLsb' 5 9 ≠ 0) (zimm14 i) f

/-! ### Results (R264) -/

/-- A shift amount: b[4:0]. -/
def amount (b : Word) : Nat := b.toNat % 32
/-- Logical left shift. -/
def shl32 (a b : Word) : Word := a <<< amount b
/-- Logical right shift. -/
def shr32 (a b : Word) : Word := a >>> amount b
/-- Arithmetic right shift. -/
def sra32 (a b : Word) : Word := a.sshiftRight (amount b)
/-- Rotation to the right. -/
def ror32 (a b : Word) : Word := a.rotateRight (amount b)
/-- 1 or 0. -/
def one32 (b : Bool) : Word := if b then 1 else 0
/-- Signed less-than. -/
def slt32 (a b : Word) : Word := one32 (a.slt b)
/-- Unsigned less-than. -/
def sltu32 (a b : Word) : Word := one32 (a.ult b)
/-- A value cut to the range of 32-bit signed numbers. -/
def clamp32 (x : Int) : Word := BitVec.ofInt 32 (max (-(2 ^ 31)) (min x (2 ^ 31 - 1)))
/-- The number of leading zeros, 0 to 32. -/
def clz32 (a : Word) : Word :=
  BitVec.ofNat 32 (((List.range 32).takeWhile (fun k => !a.getLsbD (31 - k))).length)
/-- The number of ones. -/
def popc32 (a : Word) : Word := BitVec.ofNat 32 (((List.range 32).filter (fun k => a.getLsbD k)).length)
/-- The bytes reversed. -/
def bswap32 (a : Word) : Word :=
  a.extractLsb' 0 8 ++ a.extractLsb' 8 8 ++ a.extractLsb' 16 8 ++ a.extractLsb' 24 8

/-! ### The instructions of majors 1 to 3 -/

/-- ADD. -/
def execAdd (u : CoreId) (i : RInsn) (s : State) : Host.Outcome State Fault Refusal := act s fun s => s.aluR u i (· + ·)
/-- ADDI. -/
def execAddi (u : CoreId) (i : IInsn) (s : State) : Host.Outcome State Fault Refusal :=
  act s fun s => s.aluI u i false (simm14 i) (· + ·)
/-- SUB. -/
def execSub (u : CoreId) (i : RInsn) (s : State) : Host.Outcome State Fault Refusal := act s fun s => s.aluR u i (· - ·)
/-- AND. -/
def execAnd (u : CoreId) (i : RInsn) (s : State) : Host.Outcome State Fault Refusal := act s fun s => s.aluR u i (· &&& ·)
/-- ANDI: the immediate is zero-extended. -/
def execAndi (u : CoreId) (i : IInsn) (s : State) : Host.Outcome State Fault Refusal :=
  act s fun s => s.aluI u i false (zimm14 i) (· &&& ·)
/-- OR. -/
def execOr (u : CoreId) (i : RInsn) (s : State) : Host.Outcome State Fault Refusal := act s fun s => s.aluR u i (· ||| ·)
/-- ORI: the immediate is zero-extended. -/
def execOri (u : CoreId) (i : IInsn) (s : State) : Host.Outcome State Fault Refusal :=
  act s fun s => s.aluI u i false (zimm14 i) (· ||| ·)
/-- XOR. -/
def execXor (u : CoreId) (i : RInsn) (s : State) : Host.Outcome State Fault Refusal := act s fun s => s.aluR u i (· ^^^ ·)
/-- XORI: the immediate is zero-extended. -/
def execXori (u : CoreId) (i : IInsn) (s : State) : Host.Outcome State Fault Refusal :=
  act s fun s => s.aluI u i false (zimm14 i) (· ^^^ ·)
/-- ANDN. -/
def execAndn (u : CoreId) (i : RInsn) (s : State) : Host.Outcome State Fault Refusal :=
  act s fun s => s.aluR u i (fun a b => a &&& ~~~b)
/-- SHL. -/
def execShl (u : CoreId) (i : RInsn) (s : State) : Host.Outcome State Fault Refusal := act s fun s => s.aluR u i shl32
/-- SHLI. -/
def execShli (u : CoreId) (i : IInsn) (s : State) : Host.Outcome State Fault Refusal := act s fun s => s.aluShift u i shl32
/-- SHR. -/
def execShr (u : CoreId) (i : RInsn) (s : State) : Host.Outcome State Fault Refusal := act s fun s => s.aluR u i shr32
/-- SHRI. -/
def execShri (u : CoreId) (i : IInsn) (s : State) : Host.Outcome State Fault Refusal := act s fun s => s.aluShift u i shr32
/-- SRA. -/
def execSra (u : CoreId) (i : RInsn) (s : State) : Host.Outcome State Fault Refusal := act s fun s => s.aluR u i sra32
/-- SRAI. -/
def execSrai (u : CoreId) (i : IInsn) (s : State) : Host.Outcome State Fault Refusal := act s fun s => s.aluShift u i sra32
/-- SLT. -/
def execSlt (u : CoreId) (i : RInsn) (s : State) : Host.Outcome State Fault Refusal := act s fun s => s.aluR u i slt32
/-- SLTI. -/
def execSlti (u : CoreId) (i : IInsn) (s : State) : Host.Outcome State Fault Refusal :=
  act s fun s => s.aluI u i false (simm14 i) slt32
/-- SLTU. -/
def execSltu (u : CoreId) (i : RInsn) (s : State) : Host.Outcome State Fault Refusal := act s fun s => s.aluR u i sltu32
/-- SLTIU: the immediate is sign-extended, as the table excepts none but the logical forms. -/
def execSltiu (u : CoreId) (i : IInsn) (s : State) : Host.Outcome State Fault Refusal :=
  act s fun s => s.aluI u i false (simm14 i) sltu32
/-- MIN. -/
def execMin (u : CoreId) (i : RInsn) (s : State) : Host.Outcome State Fault Refusal :=
  act s fun s => s.aluR u i (fun a b => if a.slt b then a else b)
/-- MAX. -/
def execMax (u : CoreId) (i : RInsn) (s : State) : Host.Outcome State Fault Refusal :=
  act s fun s => s.aluR u i (fun a b => if a.slt b then b else a)
/-- MINU. -/
def execMinu (u : CoreId) (i : RInsn) (s : State) : Host.Outcome State Fault Refusal :=
  act s fun s => s.aluR u i (fun a b => if a.ult b then a else b)
/-- MAXU. -/
def execMaxu (u : CoreId) (i : RInsn) (s : State) : Host.Outcome State Fault Refusal :=
  act s fun s => s.aluR u i (fun a b => if a.ult b then b else a)
/-- ROR. -/
def execRor (u : CoreId) (i : RInsn) (s : State) : Host.Outcome State Fault Refusal := act s fun s => s.aluR u i ror32
/-- ADDS. -/
def execAdds (u : CoreId) (i : RInsn) (s : State) : Host.Outcome State Fault Refusal :=
  act s fun s => s.aluR u i (fun a b => clamp32 (a.toInt + b.toInt))
/-- SUBS. -/
def execSubs (u : CoreId) (i : RInsn) (s : State) : Host.Outcome State Fault Refusal :=
  act s fun s => s.aluR u i (fun a b => clamp32 (a.toInt - b.toInt))
/-- CLZ. -/
def execClz (u : CoreId) (i : RInsn) (s : State) : Host.Outcome State Fault Refusal := act s fun s => s.aluU u i clz32
/-- POPC. -/
def execPopc (u : CoreId) (i : RInsn) (s : State) : Host.Outcome State Fault Refusal := act s fun s => s.aluU u i popc32
/-- BSWAP. -/
def execBswap (u : CoreId) (i : RInsn) (s : State) : Host.Outcome State Fault Refusal := act s fun s => s.aluU u i bswap32
/-- SEXTB. -/
def execSextb (u : CoreId) (i : RInsn) (s : State) : Host.Outcome State Fault Refusal :=
  act s fun s => s.aluU u i (fun a => (a.truncate 8).signExtend 32)
/-- SEXTH. -/
def execSexth (u : CoreId) (i : RInsn) (s : State) : Host.Outcome State Fault Refusal :=
  act s fun s => s.aluU u i (fun a => (a.truncate 16).signExtend 32)
/-- LUI: RD = IMM23 × 2^9. -/
def execLui (u : CoreId) (i : UInsn) (s : State) : Host.Outcome State Fault Refusal :=
  act s fun s => s.issue u { rept := true } false [] fun s n =>
    .done (s.writeReg n i.rd.toNat (i.imm.zeroExtend 32 <<< 9))

/-! ### Multiply and divide (R265, R275, R277) -/

/-- A multiply: its result sets out for RD (R275). -/
def State.mulOp (s : State) (u : CoreId) (i : RInsn) (f : Word → Word → Word) : State :=
  s.issue u { rept := true } (i.z ≠ 0) [i.ra.toNat, i.rb.toNat] fun s n =>
    .done (s.sendReg n i.rd.toNat (f ((s.eng n).sreg i.ra.toNat) ((s.eng n).sreg i.rb.toNat)) true)

/-- A long operation begins: one under way ends first, and earlier loads of its destination are discarded (R275, R277). -/
def State.longOp (s : State) (u : CoreId) (i : RInsn) (f : Word → Word → Word) : State :=
  s.issue u { rept := true } (i.z ≠ 0) [i.ra.toNat, i.rb.toNat] fun s n =>
    let v := f ((s.eng n).sreg i.ra.toNat) ((s.eng n).sreg i.rb.toNat)
    .done ((s.modEng n Engine.longDone).modEng n (fun e =>
      { e with lands := e.lands.filter (fun l => l.rd ≠ i.rd.toNat), long := some (i.rd.toNat, v) }))

/-- The quotient of signed numbers, rounded toward zero; a divisor of 0 gives all ones (R265). -/
def div32 (a b : Word) : Word := if b = 0 then BitVec.allOnes 32 else BitVec.ofInt 32 (a.toInt.tdiv b.toInt)
/-- The remainder of signed numbers, with the sign of the dividend; a divisor of 0 gives the dividend. -/
def rem32 (a b : Word) : Word := if b = 0 then a else BitVec.ofInt 32 (a.toInt.tmod b.toInt)
/-- The quotient of unsigned numbers. -/
def divu32 (a b : Word) : Word := if b = 0 then BitVec.allOnes 32 else a / b
/-- The remainder of unsigned numbers. -/
def remu32 (a b : Word) : Word := if b = 0 then a else a % b
/-- Bits [63:32] of the signed product. -/
def mulh32 (a b : Word) : Word := BitVec.ofInt 32 (a.toInt * b.toInt / 2 ^ 32)
/-- Bits [63:32] of the unsigned product. -/
def mulhu32 (a b : Word) : Word := BitVec.ofNat 32 (a.toNat * b.toNat / 2 ^ 32)

/-- MUL. -/
def execMul (u : CoreId) (i : RInsn) (s : State) : Host.Outcome State Fault Refusal := act s fun s => s.mulOp u i (· * ·)
/-- MULH. -/
def execMulh (u : CoreId) (i : RInsn) (s : State) : Host.Outcome State Fault Refusal := act s fun s => s.mulOp u i mulh32
/-- MULHU. -/
def execMulhu (u : CoreId) (i : RInsn) (s : State) : Host.Outcome State Fault Refusal := act s fun s => s.mulOp u i mulhu32
/-- DIV. -/
def execDiv (u : CoreId) (i : RInsn) (s : State) : Host.Outcome State Fault Refusal := act s fun s => s.longOp u i div32
/-- DIVU. -/
def execDivu (u : CoreId) (i : RInsn) (s : State) : Host.Outcome State Fault Refusal := act s fun s => s.longOp u i divu32
/-- REM. -/
def execRem (u : CoreId) (i : RInsn) (s : State) : Host.Outcome State Fault Refusal := act s fun s => s.longOp u i rem32
/-- REMU. -/
def execRemu (u : CoreId) (i : RInsn) (s : State) : Host.Outcome State Fault Refusal := act s fun s => s.longOp u i remu32

/-- LONG_OP_COMPLETE: the result of the long operation under way is written (R277). -/
def execLongOpComplete (u : CoreId) (s : State) : Host.Outcome State Fault Refusal :=
  act s fun s => s.modEng (coreNo u) Engine.longDone

end Sys2Proof.Machine
end

