-- ==== Sys2Proof/Machine/ScalarMem.lean ====
section
/-! DEFINITION. Scalar loads and stores, LL and SC, the return of a load's data, and the issue of a store-buffer entry (R266,
R267, R275, R276, R285, R286, R289, R294). -/

namespace Sys2Proof.Machine

/-! ### Addresses (R266) -/

/-- The register that AM 3 scales. -/
def mRx (i : MInsn) : Nat := i.imm.toNat % 32
/-- Its scale, as a shift. -/
def mSc (i : MInsn) : Nat := i.imm.toNat / 32 % 4
/-- The registers that form the address. -/
def mRegs (i : MInsn) : List Nat := if i.am = 3 then [i.ra.toNat, mRx i] else [i.ra.toNat]
/-- The capability register: c6 where RA is s29 (R267). -/
def mCap (i : MInsn) : Nat := if i.ra = 29 then 6 else i.cap.toNat
/-- Bits that AM 3 requires to be 0. -/
def mBad (i : MInsn) : Bool := i.am == 3 && i.imm.extractLsb' 7 3 != 0
/-- A load of a scalar register whose base update meets its destination. -/
def mClash (i : MInsn) : Bool := (i.am == 1 || i.am == 2) && i.rd == i.ra

/-- The 32-bit address. -/
def mAddr (e : Engine) (i : MInsn) : Word :=
  let ra := e.sreg i.ra.toNat
  if i.am = 0 then ra + i.imm.signExtend 32
  else if i.am = 1 then ra
  else if i.am = 2 then ra - i.imm.zeroExtend 32
  else ra + e.sreg (mRx i) <<< mSc i

/-- The base register's new value, where the mode updates it. -/
def mBase (e : Engine) (i : MInsn) : Option Word :=
  let ra := e.sreg i.ra.toNat
  if i.am = 1 then some (ra + i.imm.zeroExtend 32)
  else if i.am = 2 then some (ra - i.imm.zeroExtend 32)
  else none

/-- The base update of a mode, written as an ALU result is. -/
def State.putBase (s : State) (n : Nat) (i : MInsn) (b : Option Word) : State :=
  match b with
  | some v => s.writeReg n i.ra.toNat v
  | none => s

/-! ### Checks (R267, R293, R294) -/

/-- The registers of four bytes each that bytes `a` to `a + n - 1` touch. -/
def regWords (a n : Nat) : List Nat := (List.range ((a + n + 3) / 4 - a / 4)).map (fun i => (a / 4 + i) * 4)

/-- Whether a register that holds a field of level E stands at an address (R293). [DEDUCED, unsafe: assumption 59] -/
def regHasE (a : Nat) : Bool :=
  match regAt a with
  | some r => r.row.eMask != 0
  | none => false

/-- The permissions of units that a store of the Triad needs for an address beside STORE (R293). -/
def unitPerms (a n : Nat) : List Nat :=
  let unit (lo hi : Nat) : Bool := decide (lo < a + n) && decide (a < hi)
  let window := unit 0x200000000 0x200440000
  (if unit 0x500040000 0x500050000 then [permIrq] else []) ++
  (if (regWords a n).any regHasE then [permCfg] else []) ++
  (if window || unit 0x500001000 0x500001800 then [permEng] else []) ++
  (if (window && (regWords a n).any (fun w => decide (0x100 ≤ w % 0x10000) && decide (w % 0x10000 < 0x300))) ||
      unit 0x5000B2000 0x5000B2200 then [permDbg] else []) ++
  (if unit 0x5000A0000 0x5000B0000 then [permNvm] else []) ++
  (if unit 0x500060000 0x500070000 then [permLife] else [])

/-- The checks of a load or a store of `size` bytes in X, in their order: alignment, the capability, the store range. The
answer is the 48-bit address (R267, R292, R294). [DEDUCED, unsafe: assumption 59] -/
def State.memCheck (s : State) (n c perm a size align : Nat) : Except Exc Nat :=
  let k := (s.eng n).cap c
  let full := k.addr a
  if a % align ≠ 0 then .error { code := 2, addr := full }
  else
    match k.unusable perm full size with
    | some sub => .error { code := 4, sub := sub, reg := c, addr := full }
    | none =>
      if n = triadNo ∧ perm = permStore ∧ ¬ (unitPerms full size).all k.holds then
        .error { code := 4, sub := some 7, reg := c, addr := full }
      else if n < triadNo ∧ storeTop < full + size then .error { code := 5, addr := full }
      else .ok full

/-! ### Reading and writing (R181, R285, R286) -/

/-- Whether a buffered store and an access of `n` bytes at `a` overlap. -/
def SbEntry.meets (x : SbEntry) (a n : Nat) : Bool := decide (x.addr < a + n) && decide (a < x.addr + x.bytes.length)

/-- An access waits until every unfinished accord whose streams it may meet has finished (R181). -/
def State.accordWait (s : State) (n a size : Nat) : State := if s.accordMeets n a size then s.finishAccords n else s

/-- A read of the memory behind a core: its bytes, or its data error (R267, R302, R352).
[DEDUCED, unsafe: assumption 66] -/
def State.coreRead (s : State) (n a size : Nat) : Except Exc (List Byte) × State :=
  if n = triadNo then
    match s.busGet 0 a size false with
    | (.ok bs, s) => (.ok bs, s)
    | (.error c, s) => (.error { code := 7, sub := c, addr := a }, s)
  else
    match s.stRead a size n with
    | (.data bs, s) => (.ok bs, s)
    | (.bad _, s) => (.error { code := 7, addr := a }, s)

/-- A load's data from the store buffer: the newest entry that overlaps it, where that holds all of it (R286).
[DEDUCED, unsafe: assumption 66] -/
def sbForward (sb : List SbEntry) (a n : Nat) : Option (List Byte) :=
  match (sb.filter (·.meets a n)).getLast? with
  | some x => if x.addr ≤ a ∧ a + n ≤ x.addr + x.bytes.length then some ((x.bytes.drop (a - x.addr)).take n) else none
  | none => none

/-- How many of the oldest entries must be accepted before none overlaps an access. -/
def sbDepth (sb : List SbEntry) (a n : Nat) : Nat :=
  sb.length - (sb.reverse.takeWhile (fun x => !x.meets a n)).length

/-- A store enters the buffer, once there is room for it (R285). -/
def State.sbPut (s : State) (n a : Nat) (bs : List Byte) : SRes :=
  let s := if 8 ≤ (s.eng n).sb.length then s.sbOut n else s
  if s.excDue n then .wait s else .done (s.modEng n (fun e => { e with sb := e.sb ++ [⟨a, bs⟩] }))

/-! ### Loads (R266) -/

/-- The rest of a load whose checks passed: a value the store buffer holds is written as an ALU result is, one from memory
sets out for RD (R275, R276, R286). [DEDUCED, unsafe: assumptions 66, 70] -/
def State.loadAt (s : State) (n : Nat) (i : MInsn) (b : Option Word) (a size : Nat) (f : List Byte → Word) : SRes :=
  let s := s.accordWait n a size
  if s.excDue n then .wait s
  else
    match sbForward (s.eng n).sb a size with
    | some bs => .done ((s.putBase n i b).writeReg n i.rd.toNat (f bs))
    | none =>
      let s := s.sbOuts n (sbDepth (s.eng n).sb a size)
      if s.excDue n then .wait s
      else
        match s.coreRead n a size with
        | (.error e, s) => .trap s e
        | (.ok bs, s) => .done ((s.putBase n i b).sendReg n i.rd.toNat (f bs) false)

/-- A scalar load. -/
def State.load (s : State) (u : CoreId) (i : MInsn) (size : Nat) (f : List Byte → Word) : State :=
  s.issue u { rept := true } (mBad i || mClash i) (mRegs i) fun s n =>
    match s.memCheck n (mCap i) permLoad (mAddr (s.eng n) i).toNat size size with
    | .error e => .trap s e
    | .ok a => s.loadAt n i (mBase (s.eng n) i) a size f

/-- Bytes sign-extended from `w` bits. -/
def signed (w : Nat) (bs : List Byte) : Word := BitVec.ofInt 32 (sext w (leNat bs))
/-- Bytes zero-extended. -/
def unsigned (bs : List Byte) : Word := BitVec.ofNat 32 (leNat bs)

/-- LB. -/
def execLb (u : CoreId) (i : MInsn) (s : State) : Host.Outcome State Fault Refusal := act s fun s => s.load u i 1 (signed 8)
/-- LBU. -/
def execLbu (u : CoreId) (i : MInsn) (s : State) : Host.Outcome State Fault Refusal := act s fun s => s.load u i 1 unsigned
/-- LH. -/
def execLh (u : CoreId) (i : MInsn) (s : State) : Host.Outcome State Fault Refusal := act s fun s => s.load u i 2 (signed 16)
/-- LHU. -/
def execLhu (u : CoreId) (i : MInsn) (s : State) : Host.Outcome State Fault Refusal := act s fun s => s.load u i 2 unsigned
/-- LW. -/
def execLw (u : CoreId) (i : MInsn) (s : State) : Host.Outcome State Fault Refusal := act s fun s => s.load u i 4 unsigned

/-- DLD: it waits for the store buffer to empty, and until a waiting accord that names the descriptor has begun; its result is
a load's (R266, R270, R275, R286). -/
def execDld (u : CoreId) (i : MInsn) (s : State) : Host.Outcome State Fault Refusal :=
  act s fun s => s.issue u { rept := true } (mBad i || i.rd.getLsbD 4) (mRegs i) fun s n =>
    match s.memCheck n (mCap i) permLoad (mAddr (s.eng n) i).toNat 16 16 with
    | .error e => .trap s e
    | .ok a =>
      let b := mBase (s.eng n) i
      let s := (s.accordWait n a 16).sbEmpty n
      let s := if s.excDue n ∨ ¬ s.waitNames n i.rd.toNat then s else s.waitBegun n
      if s.excDue n ∨ s.waitNames n i.rd.toNat then .wait s
      else
        match s.coreRead n a 16 with
        | (.error e, s) => .trap s e
        | (.ok bs, s) => .done ((s.putBase n i b).modEng n (fun e => e.sendDesc i.rd.toNat (BitVec.ofNat 128 (leNat bs))))

/-- LOAD_DATA_RETURN: the data of the oldest load under way comes (R276). -/
def execLoadDataReturn (u : CoreId) (s : State) : Host.Outcome State Fault Refusal :=
  act s fun s => s.modEng (coreNo u) Engine.landOne

/-! ### Stores (R266, R285) -/

/-- A store whose checks pass enters the buffer with `f` of RD's value. -/
def State.storeOp (s : State) (u : CoreId) (i : MInsn) (bad : Bool) (size : Nat) (f : Engine → List Byte) : State :=
  s.issue u { rept := true } (mBad i || bad) (mRegs i ++ (if size = 16 then [] else [i.rd.toNat])) fun s n =>
    match s.memCheck n (mCap i) permStore (mAddr (s.eng n) i).toNat size size with
    | .error e => .trap s e
    | .ok a =>
      let e := s.eng n
      let s := s.accordWait n a size
      if s.excDue n then .wait s
      else
        match s.sbPut n a (f e) with
        | .done t => .done (t.putBase n i (mBase e i))
        | r => r

/-- The low bytes of RD. -/
def rdBytes (i : MInsn) (n : Nat) (e : Engine) : List Byte := leBytes n (e.sreg i.rd.toNat).toNat

/-- SB. -/
def execSb (u : CoreId) (i : MInsn) (s : State) : Host.Outcome State Fault Refusal :=
  act s fun s => s.storeOp u i false 1 (rdBytes i 1)
/-- SH. -/
def execSh (u : CoreId) (i : MInsn) (s : State) : Host.Outcome State Fault Refusal :=
  act s fun s => s.storeOp u i false 2 (rdBytes i 2)
/-- SW. -/
def execSw (u : CoreId) (i : MInsn) (s : State) : Host.Outcome State Fault Refusal :=
  act s fun s => s.storeOp u i false 4 (rdBytes i 4)
/-- DST: RD names a descriptor register. -/
def execDst (u : CoreId) (i : MInsn) (s : State) : Host.Outcome State Fault Refusal :=
  act s fun s => s.storeOp u i (i.rd.getLsbD 4) 16 (fun e => leBytes 16 (e.desc i.rd.toNat).toNat)

/-- STORE_BUFFER_ISSUE: the oldest entry of a core's store buffer is issued, and accepted (R285). -/
def execStoreBufferIssue (u : CoreId) (s : State) : Host.Outcome State Fault Refusal := act s fun s => s.sbOut (coreNo u)

/-! ### LL and SC (R90 to R93, R267, R289) -/

/-- What a core's load-linked read finds. [DEDUCED, unsafe: assumption 71] -/
def State.coreLinked (s : State) (n a : Nat) : Except Exc (List Byte) × State :=
  match s.coreRead n a 4 with
  | (.error e, s) => (.error e, s)
  | (.ok bs, s) => (.ok bs, s.takeResv n (a / 16))

/-- A core's store-conditional of 4 bytes. -/
def State.coreCond (s : State) (n a : Nat) (bs : List Byte) : Except Exc Bool × State :=
  if n = triadNo then
    if s.holdsResv n (a / 16) then
      match (s.dropResv n (a / 16)).busPut 0 a bs with
      | (0, s) => (.ok true, s)
      | (c, s) => (.error { code := 7, sub := c, addr := a }, s)
    else (.ok false, (s.breakResv (a / 16) none).bump Rg.ST_RES_FAIL_CNT)
  else
    match s.storeCond n a bs with
    | (.succeeded, s) => (.ok true, s)
    | (.failed, s) => (.ok false, s.ec n 28)
    | (.bad _, s) => (.error { code := 7, addr := a }, s)

/-- LL. -/
def execLl (u : CoreId) (i : MInsn) (s : State) : Host.Outcome State Fault Refusal :=
  act s fun s => s.issue u { slot := false } (i.am ≠ 0) (mRegs i) fun s n =>
    match s.memCheck n (mCap i) permLoad (mAddr (s.eng n) i).toNat 4 4 with
    | .error e => .trap s e
    | .ok a =>
      let s := (s.accordWait n a 4).sbEmpty n
      if s.excDue n then .wait s
      else
        match s.coreLinked n a with
        | (.error e, s) => .trap s e
        | (.ok bs, s) =>
          .done ((s.sendReg n i.rd.toNat (unsigned bs) false).modEng n (fun e => { e with locked := true, llAge := some 0 }))

/-- SC: RD reads 1 where it succeeded and 0 where it failed; LOCKED is cleared either way. -/
def execSc (u : CoreId) (i : MInsn) (s : State) : Host.Outcome State Fault Refusal :=
  act s fun s => s.issue u { slot := false } (i.am ≠ 0) (mRegs i ++ [i.rd.toNat]) fun s n =>
    match s.memCheck n (mCap i) permStore (mAddr (s.eng n) i).toNat 4 4 with
    | .error e => .trap s e
    | .ok a =>
      let bs := rdBytes i 4 (s.eng n)
      let s := (s.accordWait n a 4).sbEmpty n
      if s.excDue n then .wait s
      else
        match s.coreCond n a bs with
        | (r, s) =>
          let ok := match r with | .ok b => b | .error _ => false
          let s := (s.sendReg n i.rd.toNat (one32 ok) false).modEng n (fun e => { e with locked := false, llAge := none })
          match r with
          | .ok _ => .done s
          | .error e => .trap s e

/-- LL_LOCK_TIMEOUT: 32 instructions after an LL with no SC, LOCKED is cleared (R289). -/
def execLlLockTimeout (u : CoreId) (s : State) : Host.Outcome State Fault Refusal :=
  act s fun s => s.modEng (coreNo u) (fun e => { e with locked := e.lockHolds })

end Sys2Proof.Machine
end

