-- ==== Sys2Proof/Machine/ScalarCtl.lean ====
section
/-! DEFINITION. Branches, jumps, calls and the return stack, repeat prefixes, the system and the vector-control instructions,
and fills of the instruction cache (R268 to R273, R278 to R283). -/

namespace Sys2Proof.Machine

/-! ### The return stack (R272) -/

/-- The entries of a spill area, oldest first, as words of its bytes. -/
def wordsLe : Nat → List Byte → List Word
  | 0, _ => []
  | k + 1, bs => BitVec.ofNat 32 (leNat (bs.take 4)) :: wordsLe k (bs.drop 4)

/-- The spill pointer of a core: it starts at the base of c7 (R120, R272); that of the Triad, which has no frame start, does
so whenever nothing is spilled. [DEDUCED, unsafe: assumption 67] -/
def spillPtr (n : Nat) (e : Engine) : Nat := if n = triadNo ∧ e.rstack.spilled = 0 then (e.cap 7).base else e.rstack.ptr

/-- The check of a spill or a fill of 128 bytes at `p` under c7: the exception it raises, or the address. -/
def State.spillCheck (s : State) (n perm p : Nat) : Except Exc Nat :=
  let c := (s.eng n).cap 7
  match c.unusable perm (c.addr p) 128 with
  | some sub => .error { code := 4, sub := sub, reg := some 7, addr := c.addr p }
  | none =>
    if n < triadNo ∧ storeTop < c.addr p + 128 then .error { code := 5, addr := c.addr p } else .ok (c.addr p)

/-- The 128 bytes of a spill are written; a half of them that could not be written raises a deferred store error.
[DEDUCED, unsafe: assumption 67] -/
def State.spillWrite (s : State) (n a : Nat) (bs : List Byte) : State :=
  let late (s : State) (sub : Nat) : State :=
    s.modEng n (fun e => { e with sbErr := some { code := 8, sub := sub, addr := a } })
  if n = triadNo then
    match s.busPut 0 a bs with
    | (0, s) => s
    | (c, s) => late s c
  else
    match s.stWrite a bs n (some n) with
    | ([], s) => s
    | (_ :: _, s) => late s 0

/-- A push of the return stack: with 64 entries held, the oldest 32 are spilled first (R272).
[DEDUCED, unsafe: assumption 67] -/
def State.pushRet (s : State) (n : Nat) (v : Word) : Except Exc State :=
  let e := s.eng n
  if e.rstack.held.length < 64 then .ok (s.modEng n (fun e => { e with rstack := { e.rstack with held := v :: e.rstack.held } }))
  else
    let p := spillPtr n e
    match s.spillCheck n permStore p with
    | .error x => .error x
    | .ok a =>
      let old := (e.rstack.held.drop 32).reverse
      let s := ((s.spillWrite n a (old.flatMap (fun w => leBytes 4 w.toNat))).ec n 12)
      .ok (s.modEng n (fun e =>
        { e with rstack := { held := v :: e.rstack.held.take 32, spilled := e.rstack.spilled + 32, ptr := p + 128 } }))

/-- The bytes of a fill, or its data error with the address of the word that could not be read. -/
def State.fillRead (s : State) (n a : Nat) : Except (State × Exc) (List Byte × State) :=
  if n = triadNo then
    match s.busGet 0 a 128 false with
    | (.ok bs, s) => .ok (bs, s)
    | (.error c, s) => .error (s, { code := 7, sub := c, addr := a })
  else
    match s.stRead a 128 n with
    | (.data bs, s) => .ok (bs, s)
    | (.bad h, s) => .error (s, { code := 7, addr := some (h / 16 * 16) })

/-- A fill: the 32 most recent spilled entries are read back (R272). -/
def State.fillRet (s : State) (n : Nat) : Except (State × Exc) State :=
  let p := spillPtr n (s.eng n) - 128
  match s.spillCheck n permLoad p with
  | .error x => .error (s, x)
  | .ok a =>
    match s.fillRead n a with
    | .error x => .error x
    | .ok (bs, s) =>
      .ok ((s.ec n 13).modEng n (fun e =>
        { e with rstack := { held := (wordsLe 32 bs).reverse, spilled := e.rstack.spilled - 32, ptr := p } }))

/-- The entry at the top of the stack is taken. -/
def State.popTop (s : State) (n : Nat) : Except (State × Exc) (Word × State) :=
  match (s.eng n).rstack.held with
  | [] => .error (s, { code := 9 })
  | v :: r => .ok (v, s.modEng n (fun e => { e with rstack := { e.rstack with held := r } }))

/-- A pop: the address popped, after a fill where no entry is held (R272). -/
def State.popRet (s : State) (n : Nat) : Except (State × Exc) (Word × State) :=
  let e := s.eng n
  if e.rstack.held = [] ∧ e.rstack.spilled ≠ 0 then
    match s.fillRet n with
    | .error x => .error x
    | .ok s => s.popTop n
  else s.popTop n

/-! ### Branches and jumps (R268, R274, R278 to R280) -/

/-- The target of a branch, J or CALL at `pc`: 4 × OFF from it. -/
def offTarget {w : Nat} (pc : Word) (off : BitVec w) : Word := pc + off.signExtend 32 <<< 2

/-- The address of the instruction after a transfer and its delay slot: the return address, and where a branch that is not
taken goes on (R268, R274). -/
def afterSlot (e : Engine) : Word := if e.mode then e.pc + 4 else e.pc + 8

/-- The prediction of a conditional branch is counted where it was wrong: a negative OFF is predicted taken; with
`SST.PBAR` nothing is predicted (R279, R280). -/
def State.predicted (s : State) (n : Nat) (off : BitVec 15) (taken : Bool) : State :=
  if (s.eng n).pbar ∨ taken ≠ off.msb then s.ec n 11 else s

/-- A conditional branch. -/
def State.branch (s : State) (u : CoreId) (i : BInsn) (c : Word → Word → Bool) : State :=
  s.issue u { slot := false } false [i.ra.toNat, i.rb.toNat] fun s n =>
    let e := s.eng n
    let taken := c (e.sreg i.ra.toNat) (e.sreg i.rb.toNat)
    .go (s.predicted n i.off taken) (if taken then offTarget e.pc i.off else afterSlot e) e.rstack true

/-- BEQ. -/
def execBeq (u : CoreId) (i : BInsn) (s : State) : Host.Outcome State Fault Refusal := act s fun s => s.branch u i (· == ·)
/-- BNE. -/
def execBne (u : CoreId) (i : BInsn) (s : State) : Host.Outcome State Fault Refusal := act s fun s => s.branch u i (· != ·)
/-- BLT. -/
def execBlt (u : CoreId) (i : BInsn) (s : State) : Host.Outcome State Fault Refusal :=
  act s fun s => s.branch u i (fun a b => a.slt b)
/-- BGE. -/
def execBge (u : CoreId) (i : BInsn) (s : State) : Host.Outcome State Fault Refusal :=
  act s fun s => s.branch u i (fun a b => !a.slt b)
/-- BLTU. -/
def execBltu (u : CoreId) (i : BInsn) (s : State) : Host.Outcome State Fault Refusal :=
  act s fun s => s.branch u i (fun a b => a.ult b)
/-- BGEU. -/
def execBgeu (u : CoreId) (i : BInsn) (s : State) : Host.Outcome State Fault Refusal :=
  act s fun s => s.branch u i (fun a b => !a.ult b)

/-- J. -/
def execJ (u : CoreId) (i : JInsn) (s : State) : Host.Outcome State Fault Refusal :=
  act s fun s => s.issue u { slot := false } (i.z ≠ 0) [] fun s n =>
    let e := s.eng n
    .go s (offTarget e.pc i.off) e.rstack true

/-- A call: the return address is pushed before it goes to its target. -/
def State.callTo (s : State) (n : Nat) (target : Word) : SRes :=
  let e := s.eng n
  match s.pushRet n (afterSlot e) with
  | .error x => .trap s x
  | .ok s => .go s target e.rstack true

/-- CALL. -/
def execCall (u : CoreId) (i : JInsn) (s : State) : Host.Outcome State Fault Refusal :=
  act s fun s => s.issue u { slot := false } (i.z ≠ 0) [] fun s n => s.callTo n (offTarget (s.eng n).pc i.off)

/-- The branch target cache of a core is in use (R280, R290). -/
def State.btcOn (s : State) (n : Nat) : Bool := !(s.eng n).pbar && (n == triadNo || s.flag (Rg.SEQ_CTRL_BTC_EN n))

/-- The branch target cache after a resolution at `pc`: its entry is the most recently filled of 16 (R280). -/
def btcFill (l : List (Word × Word)) (pc target : Word) : List (Word × Word) :=
  ((pc, target) :: l.filter (fun x => x.1 ≠ pc)).take 16

/-- A JR or CALLR at the program counter resolves to a target (R279, R280). -/
def State.resolve (s : State) (n : Nat) (target : Word) : State :=
  let e := s.eng n
  if s.btcOn n then
    (s.ec n (if e.btc.contains (e.pc, target) then 10 else 11)).modEng n (fun e => { e with btc := btcFill e.btc e.pc target })
  else s.ec n 11

/-- A target whose bits [1:0] are not 0 (R268). [DEDUCED, unsafe: assumption 70] -/
def badTarget (t : Word) : Bool := t.extractLsb' 0 2 != 0

/-- JR. -/
def execJr (u : CoreId) (i : RInsn) (s : State) : Host.Outcome State Fault Refusal :=
  act s fun s => s.issue u { slot := false } (i.z ≠ 0 ∨ i.rd ≠ 0 ∨ i.rb ≠ 0) [i.ra.toNat] fun s n =>
    let e := s.eng n
    let t := e.sreg i.ra.toNat
    if badTarget t then .trap s { code := 2 } else .go (s.resolve n t) t e.rstack true

/-- CALLR. -/
def execCallr (u : CoreId) (i : RInsn) (s : State) : Host.Outcome State Fault Refusal :=
  act s fun s => s.issue u { slot := false } (i.z ≠ 0 ∨ i.rd ≠ 0 ∨ i.rb ≠ 0) [i.ra.toNat] fun s n =>
    let t := (s.eng n).sreg i.ra.toNat
    if badTarget t then .trap s { code := 2 }
    else
      match s.callTo n t with
      | .go s t before slot => .go (s.resolve n t) t before slot
      | r => r

/-- RET. -/
def execRet (u : CoreId) (i : RInsn) (s : State) : Host.Outcome State Fault Refusal :=
  act s fun s => s.issue u { slot := false } (i.z ≠ 0 ∨ i.rd ≠ 0 ∨ i.rb ≠ 0) [] fun s n =>
    match s.popRet n with
    | .error (t, x) => .trap t x
    | .ok (v, t) => if badTarget v then .trap s { code := 2 } else .go t v (s.eng n).rstack true

/-! ### Repeat prefixes (R273) -/

/-- A prefix: COUNT or RS[15:0] iterations of the next instruction, or those that REP_COUNT holds after an exception; none of
them skips it. -/
def State.prefix (s : State) (u : CoreId) (i : PInsn) (inter : Bool) : State :=
  let rs := i.count.toNat % 32
  s.issue u { slot := false } (!i.next || i.z ≠ 0 || (i.reg && i.count.toNat / 32 ≠ 0)) (if i.reg then [rs] else [])
    fun s n =>
      let e := s.eng n
      let c := if e.repAct then e.repCnt else if i.reg then (e.sreg rs).toNat % 65536 else i.count.toNat
      let s := s.modEng n (fun e => { e with repAct := false, repCnt := 0 })
      if c = 0 then .go s (e.pc + 8) e.rstack false
      else
        .go (s.modEng n (fun x => { x with rep := some ⟨e.pc, c, inter⟩, locked := x.locked || !inter })) (e.pc + 4) e.rstack
          false

/-- REP: interrupts and halt requests wait for its last iteration. -/
def execRep (u : CoreId) (i : PInsn) (s : State) : Host.Outcome State Fault Refusal := act s fun s => s.prefix u i false
/-- REPI. -/
def execRepi (u : CoreId) (i : PInsn) (s : State) : Host.Outcome State Fault Refusal := act s fun s => s.prefix u i true

/-! ### System instructions (R269, R282, R283) -/

/-- NOP. -/
def execNop (u : CoreId) (_i : SInsn) (s : State) : Host.Outcome State Fault Refusal :=
  act s fun s => s.issue u { rept := true } false [] fun s _ => .done s

/-- Nothing of the engine's vector unit is unfinished. -/
def Engine.vuDone (e : Engine) : Bool := e.exe.isNone && e.wait.isNone && e.helda.isNone

/-- FEND has retired at a cc of the frame: the engine waits for cc 0, the results on their way are written, and its slack counts
(R22, R42, R130, R275). -/
def State.fended (s : State) (n cc : Nat) : State :=
  if n = triadNo then s
  else
    let s := (s.modEng n (fun e => { e.landAll with run := false })).modFt (fun f => { f with cc := max f.cc cc })
    let s := ((s.set (Rg.VE_STATUS_RUNNING n) 0).set (Rg.VE_STATUS_FENDED n) 1).set (Rg.VE_FEND_CC n) cc
    (s.set Rg.MIN_SLACK (min (s.get Rg.MIN_SLACK) (s.budgetW - (cc + 1)))).ec n 24

/-- FEND: it waits until every accord has finished and the store buffer is empty, and retires at `cc` (R23, R269). At cc W or
later a sequencer has been stopped before it (R24). [DEDUCED, unsafe: assumption 76] -/
def execFend (u : CoreId) (_i : SInsn) (cc : BitVec 16) (s : State) : Host.Outcome State Fault Refusal :=
  act s fun s =>
    if u ≠ .triad ∧ s.budgetW ≤ cc.toNat then s
    else s.issue u { slot := false } false [] fun s n =>
      let s := s.sbEmpty n
      let s := if s.excDue n ∨ n = triadNo then s else s.finishAccords n
      if s.excDue n ∨ ¬ (s.eng n).vuDone then .wait s else .done (s.fended n cc.toNat)

/-- IFENCE: it waits for the store buffer, and invalidates the instruction cache and the target cache, not the line buffer
(R281, R283). -/
def execIfence (u : CoreId) (_i : SInsn) (s : State) : Host.Outcome State Fault Refusal :=
  act s fun s => s.issue u {} false [] fun s n =>
    let s := s.sbEmpty n
    if s.excDue n then .wait s
    else .done (s.modEng n (fun e => { e with lines := [], btc := [], icold := true }))

/-- PFLUSH. -/
def execPflush (u : CoreId) (_i : SInsn) (s : State) : Host.Outcome State Fault Refusal :=
  act s fun s => s.issue u {} false [] fun s n => .done (s.modEng n (fun e => { e with btc := [] }))
/-- PBAR. -/
def execPbar (u : CoreId) (_i : SInsn) (s : State) : Host.Outcome State Fault Refusal :=
  act s fun s => s.issue u {} false [] fun s n => .done (s.modEng n (fun e => { e with pbar := true }))
/-- PALLOW. -/
def execPallow (u : CoreId) (_i : SInsn) (s : State) : Host.Outcome State Fault Refusal :=
  act s fun s => s.issue u {} false [] fun s n => .done (s.modEng n (fun e => { e with pbar := false }))
/-- SYNC. -/
def execSync (u : CoreId) (_i : SInsn) (s : State) : Host.Outcome State Fault Refusal :=
  act s fun s => s.issue u {} false [] fun s n =>
    let s := s.sbEmpty n
    if s.excDue n then .wait s else .done s
/-- MODE: IMM12[11:1] must be 0. -/
def execMode (u : CoreId) (i : SInsn) (s : State) : Host.Outcome State Fault Refusal :=
  act s fun s => s.issue u { slot := false } (i.imm.extractLsb' 1 11 ≠ 0) [] fun s n =>
    .done (s.modEng n (fun e => { e with mode := i.imm.getLsbD 0 }))
/-- RDST. -/
def execRdst (u : CoreId) (i : SInsn) (s : State) : Host.Outcome State Fault Refusal :=
  act s fun s => s.issue u {} false [] fun s n => .done (s.writeReg n i.rd.toNat (BitVec.ofNat 32 (s.eng n).sst))
/-- RDRS. -/
def execRdrs (u : CoreId) (i : SInsn) (s : State) : Host.Outcome State Fault Refusal :=
  act s fun s => s.issue u {} false [] fun s n => .done (s.writeReg n i.rd.toNat (BitVec.ofNat 32 (s.eng n).rsDepth))

/-- IPRIME fills one line, where it is absent and within the fetch authority; one that cannot be read stays absent (R282).
[DEDUCED, unsafe: assumption 79] -/
def State.primeLine (s : State) (n line : Nat) : State :=
  let e := s.eng n
  if (e.lines.find? (fun x => x.1 = line % 512)).map (·.2) = some line then s
  else if ((e.cap 0).unusable permExec (line * 64) 64).isSome ∨ (n < triadNo ∧ storeTop < line * 64 + 64) then s
  else
    match (s.ec n 9).readLine n line with
    | (true, s) => s.modEng n (fun e => { e with lines := Tab.put e.lines (line % 512) line })
    | (false, s) => s

/-- IPRIME (R282). [DEDUCED, unsafe: assumption 79] -/
def execIprime (u : CoreId) (i : SInsn) (s : State) : Host.Outcome State Fault Refusal :=
  act s fun s => s.issue u {} false [i.ra.toNat] fun s n =>
    let first := ((s.eng n).cap 0).addr ((s.eng n).sreg i.ra.toNat).toNat / 64
    let s := (List.range (i.imm.toNat % 512 + 1)).foldl (fun s k => s.primeLine n (first + k)) s
    .done (s.modEng n (fun e => { e with icold := false }))

/-- TRAP: a software exception of code IMM12[7:0]. -/
def execTrap (u : CoreId) (i : SInsn) (s : State) : Host.Outcome State Fault Refusal :=
  act s fun s => s.issue u { slot := false } false [] fun s _ => .trap s { code := 11, reg := some (i.imm.toNat % 256) }

/-- A debugger is attached to a core (R482). -/
def State.attached (s : State) (n : Nat) : Bool := if n = triadNo then s.triad.dbgSel else s.flag (Rg.DBG_CTRL_ATTACH n)

/-- BRK: it halts the core where a debugger is attached, and else raises a debug break (R482).
[DEDUCED, unsafe: assumption 76] -/
def execBrk (u : CoreId) (_i : SInsn) (s : State) : Host.Outcome State Fault Refusal :=
  act s fun s => s.issue u {} false [] fun s n =>
    if s.attached n then .done (s.modEng n (fun e => { e with haltReq := some 2 })) else .trap s { code := 12 }

/-! ### Vector control (R270) -/

/-- SETVL: it waits until a waiting accord has begun. [DEDUCED, unsafe: assumption 77] -/
def execSetvl (u : CoreId) (i : SInsn) (s : State) : Host.Outcome State Fault Refusal :=
  act s fun s => s.issue u {} (i.rd ≠ 0) [i.ra.toNat] fun s n =>
    let s := s.waitBegun n
    if s.excDue n ∨ ((s.eng n).wait.isSome ∧ ¬ (s.eng n).vfBusy) then .wait s
    else .done (s.modEng n (fun e => { e with vl := e.sreg i.ra.toNat }))
/-- GETVL. -/
def execGetvl (u : CoreId) (i : SInsn) (s : State) : Host.Outcome State Fault Refusal :=
  act s fun s => s.issue u {} false [] fun s n => .done (s.writeReg n i.rd.toNat (s.eng n).vl)

/-- What the own engine's window shows at an offset, 0 where it holds no register (R270). -/
def State.ownWindow (s : State) (n off : Nat) : Nat :=
  match regAt (0x200000000 + 0x10000 * n + off) with
  | some r => s.regShow r % 2 ^ 32
  | none => 0

/-- VGET: it waits until every accord has finished, but in the handler of a vector fault (R110, R146). The Triad has no engine
window. [DEDUCED, unsafe: assumption 76] -/
def execVget (u : CoreId) (i : SInsn) (s : State) : Host.Outcome State Fault Refusal :=
  act s fun s => s.issue u {} (u = .triad || i.imm.toNat % 4 ≠ 0 || 0x0FC < i.imm.toNat) [] fun s n =>
    let s := if (s.eng n).vfBusy then s else s.finishAccords n
    if s.excDue n then .wait s else .done (s.writeReg n i.rd.toNat (BitVec.ofNat 32 (s.ownWindow n i.imm.toNat)))

/-- c0 grants a permission (R304). -/
def Engine.grants (e : Engine) (p : Nat) : Bool := let c := e.cap 0; c.tag && !c.sealed && c.holds p

/-- VPUT: only `VE_VFCTL` is written, and it needs SYS (R270, R304). -/
def execVput (u : CoreId) (i : SInsn) (s : State) : Host.Outcome State Fault Refusal :=
  act s fun s => s.issue u {} (u = .triad || i.imm ≠ 0x04C) [i.ra.toNat] fun s n =>
    if ¬ (s.eng n).grants permSys then .trap s { code := 3 }
    else .done (s.set (Rg.VE_VFCTL_ACTION n) ((s.eng n).sreg i.ra.toNat).toNat)

/-- A descriptor with word `j` replaced. -/
def putWord (d : QWord) (j : Nat) (v : Word) : QWord := d &&& ~~~((0xFFFFFFFF : QWord) <<< (32 * j)) ||| v.zeroExtend 128 <<< (32 * j)

/-- The descriptor and the word that IMM12 names: bits [5:2] and [1:0]. -/
def dIndex (i : SInsn) : Nat × Nat := (i.imm.toNat / 4 % 16, i.imm.toNat % 4)

/-- DSETW: it waits until a waiting accord that names the descriptor has begun. [DEDUCED, unsafe: assumption 77] -/
def execDsetw (u : CoreId) (i : SInsn) (s : State) : Host.Outcome State Fault Refusal :=
  act s fun s => s.issue u {} false [i.ra.toNat] fun s n =>
    let d := (dIndex i).1
    let s := if s.waitNames n d then s.waitBegun n else s
    if s.excDue n ∨ s.waitNames n d then .wait s
    else .done (s.modEng n (fun e => e.writeDesc d (putWord (e.desc d) (dIndex i).2 (e.sreg i.ra.toNat))))
/-- DGETW. -/
def execDgetw (u : CoreId) (i : SInsn) (s : State) : Host.Outcome State Fault Refusal :=
  act s fun s => s.issue u {} false [] fun s n =>
    .done (s.writeReg n i.rd.toNat (((s.eng n).desc (dIndex i).1).extractLsb' (32 * (dIndex i).2) 32))

/-! ### Fills (R281) -/

/-- The line of the program counter has a parity error: it is counted as corrected, and drops out of the cache and of the line
buffer. [DESIGN CHOICE, unsafe: assumption 103] -/
def State.icParity (s : State) (n : Nat) : State :=
  let line := s.pcAddr n / 64
  let e := s.eng n
  if (e.lines.find? (fun x => x.1 = line % 512)).map (·.2) ≠ some line ∧ e.lineBuf ≠ some line then s
  else
    let s := s.modEng n (fun e =>
      { e with lines := e.lines.filter (fun x => x.2 ≠ line), lineBuf := if e.lineBuf = some line then none else e.lineBuf })
    if n < triadNo then (s.bump (Rg.SEQ_IC_PAR_CNT n)).ceEngine n else s

/-- ICACHE_FILL: fetch enters the line of the program counter, and fills it where it is missing; a line that cannot be read
raises a fetch trap. `par` says that a parity error strikes the line first (R281). -/
def execIcacheFill (u : CoreId) (par : Bool) (s : State) : Host.Outcome State Fault Refusal :=
  act s fun s =>
    let n := coreNo u
    if ¬ s.mayIssue n then s
    else
      match (if par then s.icParity n else s).fetch n 4 with
      | (none, s) => s
      | (some e, s) => s.throwAt n e

end Sys2Proof.Machine
end

