-- ==== Sys2Proof/Machine/Caps.lean ====
section
/-! DEFINITION. The capability instructions: copying, narrowing and sealing, domain calls, tagged slots, the exception
registers and the interrupt enable (R291 to R301, R304, R307, R312). -/

namespace Sys2Proof.Machine

/-- A field that names a capability register: its bits [4:3] must be 0 (R298). -/
def capBad (f : BitVec 5) : Bool := f.extractLsb' 3 2 != 0

/-- A capability fault of register `c` (R303). -/
def capFault (sub c : Nat) : Exc := { code := 4, sub := sub, reg := c }

/-- A capability with other fields, its tag as it was (R291). -/
def Cap.remake (c : Cap) (base len perms otype : Nat) (sealed : Bool) (pdom : Nat) : Cap :=
  { Cap.make base len perms otype sealed pdom with tag := c.tag }

/-- A capability with another seal, type and caller's domain. -/
def Cap.reseal (c : Cap) (sealed : Bool) (otype pdom : Nat) : Cap := c.remake c.base c.len c.perms.toNat otype sealed pdom

/-- A capability register's value. -/
def State.capOf (s : State) (n c : Nat) : Cap := (s.eng n).cap c

/-- A capability register written. -/
def State.putCap (s : State) (n c : Nat) (v : Cap) : State := s.modEng n (fun e => e.setC c v)

/-- A capability fault whose SUB the spec does not state. [DESIGN CHOICE, safe: assumption 73] -/
def State.trapOpen (s : State) (c : Nat) : SRes := .trap s { code := 4, reg := c }

/-- A capability holds SEAL or UNSEAL. -/
def Cap.seals (c : Cap) : Bool := c.holds permSeal || c.holds permUnseal

/-! ### Copying and narrowing (R298, R299) -/

/-- CCOPY: with its tag, sealed or not. -/
def execCcopy (u : CoreId) (i : RInsn) (s : State) : Host.Outcome State Fault Refusal :=
  act s fun s => s.issue u {} (i.z ≠ 0 || capBad i.rd || capBad i.ra) [] fun s n =>
    .done (s.putCap n i.rd.toNat (s.capOf n i.ra.toNat))

/-- Why a capability cannot be narrowed, as SUB of R303: tag, then seal (R299). -/
def Cap.fixed (c : Cap) : Option Nat := if ¬ c.tag then some 1 else if c.sealed then some 2 else none

/-- A narrowing instruction: `f` gives its result, or the SUB of its fault, from cA and the state. -/
def State.narrow (s : State) (u : CoreId) (i : RInsn) (bad : Bool) (rs : List Nat) (f : Cap → Engine → Except Nat Cap) :
    State :=
  s.issue u {} (i.z ≠ 0 || capBad i.rd || capBad i.ra || bad) rs fun s n =>
    let a := s.capOf n i.ra.toNat
    match a.fixed with
    | some sub => .trap s (capFault sub i.ra.toNat)
    | none =>
      match f a (s.eng n) with
      | .error sub => .trap s (capFault sub i.ra.toNat)
      | .ok c => .done (s.putCap n i.rd.toNat c)

/-- The range of CCLIP: bytes from `lo` to `hi` of the capability's segment; SUB 5 where it is not within (R299). -/
def Cap.clip (c : Cap) (lo hi : Word) : Except Nat Cap :=
  let base := c.addr lo.toNat
  let len := hi.toNat + 1 - lo.toNat
  if hi.toNat < lo.toNat ∨ base < c.base ∨ c.base + c.len < base + len then .error 5
  else .ok (c.remake base len c.perms.toNat c.otype c.sealed c.pdom)

/-- CCLIP: RB must be even. -/
def execCclip (u : CoreId) (i : RInsn) (s : State) : Host.Outcome State Fault Refusal :=
  act s fun s => s.narrow u i (i.rb.getLsbD 0) [i.rb.toNat, i.rb.toNat + 1] fun c e =>
    c.clip (e.sreg i.rb.toNat) (e.sreg (i.rb.toNat + 1))

/-- CDROP: permissions whose bit is 1 are removed. -/
def execCdrop (u : CoreId) (i : RInsn) (s : State) : Host.Outcome State Fault Refusal :=
  act s fun s => s.narrow u i false [i.rb.toNat] fun c e =>
    .ok (c.remake c.base c.len (c.perms &&& ~~~((e.sreg i.rb.toNat).truncate 16)).toNat c.otype c.sealed c.pdom)

/-- CTYPE: a sealer of OTYPE 0 is given the type it grants; SUB 6 for any other operand (R300). -/
def execCtype (u : CoreId) (i : RInsn) (s : State) : Host.Outcome State Fault Refusal :=
  act s fun s => s.narrow u i false [i.rb.toNat] fun c e =>
    let t := (e.sreg i.rb.toNat).toNat % 256
    if ¬ c.seals ∨ c.otype ≠ 0 ∨ t = 0 then .error 6 else .ok (c.remake c.base c.len c.perms.toNat t c.sealed c.pdom)

/-! ### Sealing (R300) -/

/-- Why a capability is no sealer that holds a permission, as SUB of R303. -/
def Cap.notSealer (c : Cap) (perm : Nat) : Option Nat :=
  if ¬ c.tag then some 1 else if c.sealed then some 2 else if ¬ c.holds perm then some 3 else none

/-- CSEAL. -/
def execCseal (u : CoreId) (i : RInsn) (s : State) : Host.Outcome State Fault Refusal :=
  act s fun s => s.issue u {} (i.z ≠ 0 || capBad i.rd || capBad i.ra || capBad i.rb) [] fun s n =>
    let a := s.capOf n i.ra.toNat
    let b := s.capOf n i.rb.toNat
    match a.fixed, b.notSealer permSeal with
    | some sub, _ => .trap s (capFault sub i.ra.toNat)
    | none, some sub => .trap s (capFault sub i.rb.toNat)
    | none, none =>
      if b.otype = 0 then .trap s (capFault 6 i.rb.toNat)
      else if a.seals then s.trapOpen i.ra.toNat
      else .done (s.putCap n i.rd.toNat (a.reseal true b.otype 0))

/-- CUNSEAL. -/
def execCunseal (u : CoreId) (i : RInsn) (s : State) : Host.Outcome State Fault Refusal :=
  act s fun s => s.issue u {} (i.z ≠ 0 || capBad i.rd || capBad i.ra || capBad i.rb) [] fun s n =>
    let a := s.capOf n i.ra.toNat
    let b := s.capOf n i.rb.toNat
    if ¬ a.tag then .trap s (capFault 1 i.ra.toNat)
    else if ¬ a.sealed then .trap s (capFault 2 i.ra.toNat)
    else
      match b.notSealer permUnseal with
      | some sub => .trap s (capFault sub i.rb.toNat)
      | none =>
        if b.otype ≠ a.otype then .trap s (capFault 6 i.rb.toNat)
        else .done (s.putCap n i.rd.toNat (a.reseal false a.otype 0))

/-! ### Reading and clearing (R298) -/

/-- Field `k` of a capability. -/
def Cap.field (c : Cap) (k : Nat) : Nat :=
  match k with
  | 0 => c.base % 2 ^ 32
  | 1 => c.base / 2 ^ 32
  | 2 => c.len % 2 ^ 32
  | 3 => c.len / 2 ^ 32
  | 4 => c.perms.toNat
  | 5 => c.otype
  | 6 => b2n c.sealed
  | 7 => b2n c.tag
  | _ => c.pdom

/-- CGET: RB names the field, 0 to 8. -/
def execCget (u : CoreId) (i : RInsn) (s : State) : Host.Outcome State Fault Refusal :=
  act s fun s => s.issue u {} (i.z ≠ 0 || capBad i.ra || 8 < i.rb.toNat) [] fun s n =>
    .done (s.writeReg n i.rd.toNat (BitVec.ofNat 32 ((s.capOf n i.ra.toNat).field i.rb.toNat)))

/-- CCLR. -/
def execCclr (u : CoreId) (i : RInsn) (s : State) : Host.Outcome State Fault Refusal :=
  act s fun s => s.issue u {} (i.z ≠ 0 || capBad i.rd) [] fun s n =>
    .done (s.putCap n i.rd.toNat { (s.capOf n i.rd.toNat) with tag := false })

/-! ### Domain calls (R301) -/

/-- c1 to c5, but one, changed by `f`. -/
def State.eachData (s : State) (n but : Nat) (f : Cap → Cap) : State :=
  (([1, 2, 3, 4, 5] : List Nat).filter (· ≠ but)).foldl (fun (s : State) c => s.putCap n c (f (s.capOf n c))) s

/-- Opens a capability sealed with type `t`. [DEDUCED, unsafe: assumption 72] -/
def Cap.opened (t : Nat) (c : Cap) : Cap := if c.tag ∧ c.sealed ∧ c.otype = t then c.reseal false t c.pdom else c

/-- Closes an unsealed capability of type `t` that is no sealer. -/
def Cap.closed (t : Nat) (c : Cap) : Cap :=
  if c.tag ∧ ¬ c.sealed ∧ c.otype = t ∧ ¬ c.seals then c.reseal true t c.pdom else c

/-- Why a capability is no portal: a SUB of R303, or 0 for a condition that R303 does not number. -/
def Cap.notPortal (p c0 : Cap) : Option Nat :=
  if ¬ p.tag then some 1
  else if ¬ p.sealed then some 2
  else if ¬ p.holds permExec then some 3
  else if ¬ p.covers p.base 4 then some 4
  else if p.otype = 0 then some 6
  else if p.base % 4 ≠ 0 ∨ c0.seals then some 0
  else none

/-- DCALL: the return address is pushed as by CALL; the portal's code is entered with no delay slot.
[DEDUCED, unsafe: assumption 72] -/
def execDcall (u : CoreId) (i : RInsn) (s : State) : Host.Outcome State Fault Refusal :=
  act s fun s => s.issue u { slot := false } (i.z ≠ 0 || i.rd ≠ 0 || i.rb ≠ 0 || capBad i.ra) [] fun s n =>
    let a := i.ra.toNat
    let e := s.eng n
    let p := e.cap a
    let c0 := e.cap 0
    match p.notPortal c0 with
    | some 0 => s.trapOpen a
    | some sub => .trap s (capFault sub a)
    | none =>
      match s.pushRet n (afterSlot e) with
      | .error x => .trap s x
      | .ok s =>
        let s := (s.putCap n a (c0.reseal true p.otype c0.otype)).putCap n 0 (p.reseal false p.otype 0)
        let s := (s.eachData n a (Cap.opened p.otype)).modEng n (fun e => { e with btc := [] })
        .go s (BitVec.ofNat 32 p.base) e.rstack false

/-- Why a capability is no return portal of the domain that runs. -/
def Cap.notReturn (p c0 : Cap) : Option Nat :=
  if ¬ p.tag then some 1
  else if ¬ p.sealed then some 2
  else if ¬ p.holds permExec then some 3
  else if p.otype ≠ c0.otype ∨ c0.otype = 0 then some 6
  else none

/-- DRET. [DEDUCED, unsafe: assumption 72] -/
def execDret (u : CoreId) (i : RInsn) (s : State) : Host.Outcome State Fault Refusal :=
  act s fun s => s.issue u { slot := false } (i.z ≠ 0 || i.rd ≠ 0 || i.rb ≠ 0 || capBad i.ra) [] fun s n =>
    let a := i.ra.toNat
    let e := s.eng n
    let p := e.cap a
    let c0 := e.cap 0
    match p.notReturn c0 with
    | some sub => .trap s (capFault sub a)
    | none =>
      match s.popRet n with
      | .error (t, x) => .trap t x
      | .ok (v, s) =>
        let s := (s.eachData n a (Cap.closed c0.otype)).putCap n 0 (p.reseal false p.pdom 0)
        let s := (s.putCap n a { p with tag := false }).modEng n (fun e => { e with btc := [] })
        .go s (v &&& 0xFFFFFFFC) e.rstack false

/-! ### Tagged slots (R296, R299): on the Triad only -/

/-- The checks of CLD and CST: alignment, the capability with both permissions, local memory. -/
def State.slotCheck (s : State) (n c p q : Nat) (a : Word) : Except Exc Nat :=
  let k := s.capOf n c
  let full := k.addr a.toNat
  if full % 16 ≠ 0 then .error { code := 2, addr := full }
  else
    match k.unusable p full 16, k.unusable q full 16 with
    | some sub, some sub' => .error { code := 4, sub := min sub sub', reg := c, addr := full }
    | some sub, none => .error { code := 4, sub := sub, reg := c, addr := full }
    | none, some sub => .error { code := 4, sub := sub, reg := c, addr := full }
    | none, none =>
      if 0x100000000 ≤ full ∧ full < 0x100200000 then .ok full else .error { code := 5, addr := full }

/-- The tag of a slot of local memory as it reads (R357). -/
def State.slotTag (s : State) (a : Nat) : Bool :=
  let k := (a - 0x100000000) / 16
  Tab.get s.tags k false && !Tab.get s.tagBad k false

/-- CLD: stores that touch the slot are performed first. [DEDUCED, unsafe: assumption 71] -/
def execCld (u : CoreId) (i : RInsn) (s : State) : Host.Outcome State Fault Refusal :=
  act s fun s => s.issue u {} (u ≠ .triad || i.z ≠ 0 || capBad i.rd || capBad i.ra) [i.rb.toNat] fun s n =>
    match s.slotCheck n i.ra.toNat permLoad permLoadCap ((s.eng n).sreg i.rb.toNat) with
    | .error e => .trap s e
    | .ok a =>
      let s := s.sbOuts n (sbDepth (s.eng n).sb a 16)
      if s.excDue n then .wait s
      else
        match s.coreRead n a 16 with
        | (.error e, s) => .trap s e
        | (.ok bs, s) => .done (s.putCap n i.rd.toNat ⟨s.slotTag a, BitVec.ofNat 128 (leNat bs)⟩)

/-- CST: it is performed after the stores before it; an error response is a deferred store error.
[DEDUCED, unsafe: assumption 71] -/
def execCst (u : CoreId) (i : RInsn) (s : State) : Host.Outcome State Fault Refusal :=
  act s fun s => s.issue u {} (u ≠ .triad || i.z ≠ 0 || capBad i.rd || capBad i.ra) [i.rb.toNat] fun s n =>
    match s.slotCheck n i.ra.toNat permStore permStoreCap ((s.eng n).sreg i.rb.toNat) with
    | .error e => .trap s e
    | .ok a =>
      let c := s.capOf n i.rd.toNat
      let s := s.sbEmpty n
      if s.excDue n then .wait s
      else
        match s.busPut 0 a (leBytes 16 c.bits.toNat) with
        | (0, s) => .done { s with tags := Tab.set s.tags ((a - 0x100000000) / 16) false c.tag }
        | (k, s) => .done (s.modEng n (fun e => { e with sbErr := some { code := 8, sub := k, addr := a } }))

/-! ### Exception registers (R307, R312) -/

/-- ECTX, and CAUSE of a save set, keep these bits (R307). -/
def ctxBits (v : Nat) : Nat := v % 2 ^ 15 + v / 2 ^ 16 % 256 * 2 ^ 16

/-- Whether a selector names an exception register of a core. -/
def exSel (u : CoreId) (r : BitVec 5) : Bool :=
  match u with
  | .seq _ => decide (r.toNat < 4)
  | .triad => decide (8 ≤ r.toNat) && decide (r.toNat % 8 < 6)

/-- Field `k` of a save set. -/
def SaveSet.field (x : SaveSet) (k : Nat) : Nat :=
  match k with
  | 0 => x.pc.toNat
  | 1 => x.sst
  | 2 => x.cause
  | 3 => x.addr % 2 ^ 32
  | 4 => x.addr / 2 ^ 32
  | _ => x.s29.toNat

/-- A save set with field `k` written; SST keeps its LEVEL. -/
def SaveSet.put (x : SaveSet) (k v : Nat) : SaveSet :=
  match k with
  | 0 => { x with pc := BitVec.ofNat 32 v }
  | 1 => { x with sst := putBits v 24 2 (x.sst / 2 ^ 24) }
  | 2 => { x with cause := ctxBits v }
  | 3 => { x with addr := x.addr / 2 ^ 32 * 2 ^ 32 + v % 2 ^ 32 }
  | 4 => { x with addr := v % 2 ^ 16 * 2 ^ 32 + x.addr % 2 ^ 32 }
  | _ => { x with s29 := BitVec.ofNat 32 v }

/-- The exception register that a selector names. -/
def State.exGet (s : State) (n r : Nat) : Nat :=
  if n = triadNo then (s.save (r / 8)).field (r % 8)
  else
    match r with
    | 0 => s.get (Rg.VE_ERA n)
    | 1 => s.get (Rg.VE_EST n)
    | 2 => s.get (Rg.VE_ECTX n)
    | _ => s.get (Rg.VE_EADDR n)

/-- The exception register that a selector names, written. [DEDUCED, unsafe: assumption 78] -/
def State.exPut (s : State) (n r v : Nat) : State :=
  if n = triadNo then s.setSave (r / 8) ((s.save (r / 8)).put (r % 8) v)
  else
    match r with
    | 0 => s.set (Rg.VE_ERA n) v
    | 1 => s.set (Rg.VE_EST n) v
    | 2 => s.set (Rg.VE_ECTX n) (ctxBits v)
    | _ => s.set (Rg.VE_EADDR n) v

/-- EGET. -/
def execEget (u : CoreId) (i : RInsn) (s : State) : Host.Outcome State Fault Refusal :=
  act s fun s => s.issue u {} (i.z ≠ 0 || !exSel u i.rb) [] fun s n =>
    .done (s.writeReg n i.rd.toNat (BitVec.ofNat 32 (s.exGet n i.rb.toNat)))

/-- EPUT: it sets HOLD, and needs SYS. -/
def execEput (u : CoreId) (i : RInsn) (s : State) : Host.Outcome State Fault Refusal :=
  act s fun s => s.issue u {} (i.z ≠ 0 || !exSel u i.rd) [i.ra.toNat] fun s n =>
    if ¬ (s.eng n).grants permSys then .trap s { code := 3 }
    else .done ((s.exPut n i.rd.toNat (s.sNat n i.ra.toNat)).modEng n (fun e => { e with hold := true }))

/-- DI and EI: the Triad's interrupt enable, for a c0 that holds IRQ. -/
def State.irqEnable (s : State) (u : CoreId) (i : RInsn) (b : Bool) : State :=
  s.issue u {} (u ≠ .triad || i.z ≠ 0) [] fun s n =>
    if ¬ (s.eng n).grants permIrq then .trap s { code := 3 } else .done (s.modEng n (fun e => { e with ie := b }))

/-- DI. -/
def execDi (u : CoreId) (i : RInsn) (s : State) : Host.Outcome State Fault Refusal := act s fun s => s.irqEnable u i false
/-- EI. -/
def execEi (u : CoreId) (i : RInsn) (s : State) : Host.Outcome State Fault Refusal := act s fun s => s.irqEnable u i true

/-- A selector of CSVGET or CSVPUT: [2:1] a level of 1 to 3, [4:3] 0. -/
def svSel (r : BitVec 5) : Bool := decide (2 ≤ r.toNat) && decide (r.toNat < 8)

/-- CSVGET. -/
def execCsvget (u : CoreId) (i : RInsn) (s : State) : Host.Outcome State Fault Refusal :=
  act s fun s => s.issue u {} (u ≠ .triad || i.z ≠ 0 || capBad i.rd || !svSel i.rb) [] fun s n =>
    if ¬ (s.eng n).grants permSys then .trap s { code := 3 }
    else
      let x := s.save (i.rb.toNat / 2)
      .done (s.putCap n i.rd.toNat (if i.rb.getLsbD 0 then x.c6 else x.c0))

/-- CSVPUT. -/
def execCsvput (u : CoreId) (i : RInsn) (s : State) : Host.Outcome State Fault Refusal :=
  act s fun s => s.issue u {} (u ≠ .triad || i.z ≠ 0 || capBad i.ra || !svSel i.rd) [] fun s n =>
    if ¬ (s.eng n).grants permSys then .trap s { code := 3 }
    else
      let c := s.capOf n i.ra.toNat
      let x := s.save (i.rd.toNat / 2)
      .done (s.setSave (i.rd.toNat / 2) (if i.rd.getLsbD 0 then { x with c6 := c } else { x with c0 := c }))

end Sys2Proof.Machine
end

