-- ==== Sys2Proof/Machine/Except.lean ====
section
/-! DEFINITION. Taking an exception or an interrupt, and the return from one, on a sequencer and on the Triad (R278, R302 to
R319). -/

namespace Sys2Proof.Machine

/-! ### What entry saves (R273, R278, R309) -/

/-- The core is where an entry may happen: its program executes, or a halted core is being stepped. -/
def State.mayEnter (s : State) (n : Nat) : Bool :=
  let e := s.eng n
  !s.held && e.run && !e.ended && (!e.halted || e.stepping) &&
    (if n = triadNo then !s.lastResort && !s.triPaused else true)

/-- The return address: the prefix of a repetition, the branch of a delay slot, the first instruction of an accord whose last
one has not come, else the program counter. [DESIGN CHOICE, unsafe: assumption 30; DEDUCED, unsafe: assumption 69] -/
def Engine.era (e : Engine) : Word :=
  match e.rep, e.branch, e.coll with
  | some r, _, _ => r.pc
  | none, some b, _ => b.pc
  | none, none, v :: _ => v.addr
  | none, none, [] => e.pc

/-- The status saved: SST as it stood, with the iterations left of a repetition. -/
def Engine.est (e : Engine) : Nat :=
  if e.rep.isSome then { e with repAct := true }.sst else e.sst

/-- What entry makes of the core: results are written, HOLD is set, LOCKED and the repetition are cleared, DSLOT says whether
the exception came from a delay slot, whose branch is cancelled, and the target cache is emptied. -/
def Engine.enterBase (e : Engine) (slot : Bool) : Engine :=
  let stack := match e.branch with
    | some b => b.before
    | none => e.rstack
  { e.landAll with hold := true, locked := false, llAge := none, repAct := false, repCnt := 0, dslot := slot, rep := none,
                   branch := none, coll := [], collSb := 0, btc := [], rstack := stack }

/-- ECTX, or CAUSE of a save set (R307). [DEDUCED, unsafe: assumption 78] -/
def ectx (v from_ sub code : Nat) : Nat := v % 64 + from_ % 64 * 2 ^ 6 + sub % 8 * 2 ^ 12 + code % 256 * 2 ^ 16

/-- A value that the spec gives, or a free one below `n` where it gives none. [DESIGN CHOICE, safe: assumption 73] -/
def State.orFree (s : State) (v : Option Nat) (n : Nat) : Nat × State :=
  match v with
  | some k => (k, s)
  | none => s.fresh n

/-- ECTX, or CAUSE of a save set, and the address that an entry records for an exception (R303, R307, R312).
[DESIGN CHOICE, safe: assumption 73] -/
def State.recorded (s : State) (v from_ : Nat) (x : Exc) : (Nat × Nat) × State :=
  match s.orFree x.sub 8 with
  | (sub, s) =>
    match s.orFree x.reg 256 with
    | (code, s) =>
      match s.orFree x.addr (2 ^ 48) with
      | (a, s) => ((ectx v from_ sub code, a), s)

/-- The stores before the entry are performed, and its results written; the core's reservations break (R93, R287, R309). -/
def State.entryDrain (s : State) (n : Nat) : State := (s.sbEmpty n).dropResvOf n

/-! ### The Triad's voted requests (R325, R332) -/

/-- The runs of enabled bytes of a request: where each begins in its 16 bytes, and its length. -/
def enRuns (en : BitVec 16) : List (Nat × Nat) :=
  (List.range 16).foldl (fun l k =>
    if en.getLsbD k then
      match l.getLast? with
      | some (a, n) => if a + n = k then l.dropLast ++ [(a, n + 1)] else l ++ [(k, 1)]
      | none => [(k, 1)]
    else l) []

/-- A request of the Triad reaches the matrix: its enabled bytes are written or read (R347). -/
def State.coreIssue (s : State) (r : CoreReq) : State :=
  let base := r.addr.toNat / 16 * 16
  (enRuns r.en).foldl (fun (s : State) p =>
    if r.write then (s.busPut 0 (base + p.1) (((leBytes 16 r.data.toNat).drop p.1).take p.2)).2
    else (s.busGet 0 (base + p.1) p.2 false).2) s

/-- REGISTER_DISSENT: in one mc the cores write voted registers, a window that ends in that mc compares its signatures, and
the requests that they present in it are voted or compared; none is issued from an mc in which control is handed over (R325,
R326, R328, R333). [DESIGN CHOICE, unsafe: assumption 102] -/
def execRegisterDissent (ws : List VoteWrite) (cmp : Compared) (s : State) : Host.Outcome State Fault Refusal :=
  act s fun s =>
    let t := s.voteMc ws cmp.sig
    match cmp.req with
    | none => t
    | some v =>
      match s.requestVote t v with
      | (some r, t) => t.coreIssue r
      | (none, t) => t

/-! ### Descriptors (R305, R306) -/

/-- What a descriptor holds. -/
structure Desc where
  c0    : Cap
  c6    : Cap
  entry : Nat
  valid : Bool
deriving DecidableEq, Repr

/-- Core `n` may read 16 bytes of its table: the Triad's reads pass a window of master 0, a sequencer's are none of the
management matrix (R353). [DEDUCED, unsafe: assumption 111] -/
def State.tableOpen (s : State) (n off : Nat) : Bool := n != triadNo || s.windowOk 0 (0x100000000 + off) 16 false false

/-- Core `n` reads a capability of its table; none where a word of it is uncorrectable, or the read is denied. -/
def State.descCap (s : State) (n off : Nat) : Option Cap × State :=
  if s.tableOpen n off then s.loadCap off else (none, s.deny 0 (0x100000000 + off) 2)

/-- Core `n` reads ENTRY and VALID of the descriptor at an offset. -/
def State.descEntry (s : State) (n off : Nat) : Option (Nat × Bool) × State :=
  match if s.tableOpen n (off + 0x20) then s.lmRead (off + 0x20) 8 else (none, s.deny 0 (0x100000000 + off + 0x20) 2) with
  | (none, s) => (none, s)
  | (some bs, s) => (some (leNat (bs.take 4), (leNat (bs.drop 4)).testBit 0), s)

/-- The stack capability that an entry uses: the one of the hardware or of entry 17 where it is given, else the descriptor's
own (R306, R313). -/
def State.descStack (s : State) (n off : Nat) (stack : Option Cap) : Option Cap × State :=
  match stack with
  | some c => (some c, s)
  | none => s.descCap n (off + 0x10)

/-- Core `n` reads the words of the descriptor at an offset that an entry uses: c0, ENTRY and VALID, and c6 where no other
stack is given; none where one of them is uncorrectable (R306). -/
def State.readDesc (s : State) (n off : Nat) (stack : Option Cap) : Option Desc × State :=
  match s.descCap n off with
  | (none, s) => (none, s)
  | (some c0, s) =>
    match s.descStack n off stack with
    | (none, s) => (none, s)
    | (some c6, s) =>
      match s.descEntry n off with
      | (none, s) => (none, s)
      | (some (entry, valid), s) => (some ⟨c0, c6, entry, valid⟩, s)

/-- A capability is fit for a handler's stack: valid, unsealed, with LOAD and STORE. -/
def Cap.stackOk (c : Cap) : Bool := c.tag && !c.sealed && c.holds permLoad && c.holds permStore

/-- c0 may execute the instruction at an address (R306, R311). -/
def Cap.codeOk (c : Cap) (a : Nat) : Bool := (c.unusable permExec (c.addr a) 4).isNone

/-- A descriptor is valid for entry with the stack capability it was read with (R306). -/
def Desc.ok (d : Desc) : Bool := d.valid && d.entry % 4 == 0 && d.c0.codeOk d.entry && d.c6.stackOk

/-! ### Sequencers (R308 to R311) -/

/-- A sequencer escalates: the event is recorded and the engine's frame work ends (R199, R311).
[DEDUCED, unsafe: assumption 68] -/
def State.escalate (s : State) (n vec reason : Nat) : State :=
  (((s.set (Rg.VE_ESC_VEC n) vec).set (Rg.VE_ESC_REASON n) reason).set (Rg.VE_ESC_VALID n) 1).endFrameWork n

/-- The offset of an entry of the table of an engine's slot. -/
def State.seqDesc (s : State) (n v : Nat) : Nat := s.get (Rg.EM_DTOFF ((s.slotOf n).getD 0)) + 64 * v

/-- A sequencer enters vector `v` for an exception or an interrupt; `slot` says that it came from a delay slot. -/
def State.seqEnter (s : State) (n v : Nat) (x : Exc) (slot : Bool) : State :=
  let e := s.eng n
  let r := s.recorded v e.fromV x
  let s := (((r.2.set (Rg.VE_ERA n) e.era.toNat).set (Rg.VE_EST n) e.est).set (Rg.VE_ECTX n) r.1.1).set
    (Rg.VE_EADDR n) r.1.2
  let s := s.modEng n (fun e => e.enterBase slot)
  match s.readDesc n (s.seqDesc n v) none with
  | (none, s) => s.escalate n v 1
  | (some d, s) =>
    if ¬ d.ok then s.escalate n v 1
    else
      ((s.modEng n (fun e =>
        { (e.setC 0 d.c0).setC 6 d.c6 with pc := BitVec.ofNat 32 d.entry, fromV := v })).bump (Rg.VE_EXC_CNT n)).ecAdd n 14 1

/-- An exception of code `x.code`: it escalates while HOLD is 1 (R311). [DEDUCED, unsafe: assumption 68] -/
def State.seqExc (s : State) (n : Nat) (x : Exc) (slot : Bool) : State :=
  if (s.eng n).hold then s.escalate n x.code 0 else s.seqEnter n x.code x slot

/-- The first thing that a sequencer takes at its boundary: the exception of its instruction, a deferred store error, a vector
fault, an enabled interrupt (R308). -/
def State.seqTake (s : State) (n : Nat) : State :=
  let e := s.eng n
  match e.exc, e.sbErr with
  | some x, _ => (s.modEng n (fun e => { e with exc := none })).seqExc n x e.branch.isSome
  | none, some x => (s.modEng n (fun e => { e with sbErr := none })).seqExc n x false
  | none, none =>
    if e.vfDue then (s.modEng n (fun e => { e with vfDue := false })).seqExc n { code := 10 } false
    else
      match s.seqIrq n with
      | none => s
      | some i =>
        (s.set (Rg.VE_IRQ_PEND n) (s.get (Rg.VE_IRQ_PEND n) - 2 ^ i)).seqEnter n (32 + i) { code := 0 } false

/-- EXCEPTION_ENTRY: at an instruction boundary of a sequencer with something to take, the store buffer drains and the first
that is then present is taken; a stepped core halts again after it (R308 to R311, R480). -/
def execExceptionEntry (n : VE) (s : State) : Host.Outcome State Fault Refusal :=
  act s fun s =>
    if ¬ s.mayEnter n ∨ (¬ s.excDue n ∧ ((s.seqIrq n).isNone ∨ (s.eng n).halted)) then s
    else ((s.entryDrain n).seqTake n).stepped n

/-- ERELEASE: it clears HOLD, and needs SYS (R310). -/
def execErelease (u : CoreId) (_i : SInsn) (s : State) : Host.Outcome State Fault Refusal :=
  act s fun s => s.issue u {} false [] fun s n =>
    if ¬ (s.eng n).grants permSys then .trap s { code := 3 } else .done (s.modEng n (fun e => { e with hold := false }))

/-- The handler of a vector fault returns: the held accord begins again, or is discarded, as ACTION and the cause say
(R196). -/
def State.vfReturn (s : State) (n : Nat) : State :=
  let s := s.modEng n (fun e => { e with vfBusy := false })
  if (s.eng n).helda.isNone then s
  else
    let a := s.get (Rg.VE_VFCTL_ACTION n)
    if a = 3 then
      ((s.modEng n (fun e => { e with helda := none })).set (Rg.VE_VFCTL_ACTION n) 0).set (Rg.VE_VFAULT_PENDING n) 0
    else s.restartHeld n (a == 2 || (a == 0 && s.get (Rg.VE_VFAULT_CAUSE n) == 6))

/-- The capabilities that ERET reloads: those of the slot's capability set, or of a descriptor (R310).
[DESIGN CHOICE, safe: assumption 73] -/
def State.eretCaps (s : State) (n frm : Nat) : Option (Cap × Cap) × State :=
  let set := s.get Rg.EM_CAPSET_OFF + (s.slotOf n).getD 0 * 128
  match s.descCap n (if frm = 0 then set else s.seqDesc n frm) with
  | (none, s) => (none, s)
  | (some c0, s) =>
    match s.descCap n (if frm = 0 then set + 0x60 else s.seqDesc n frm + 0x10) with
    | (none, s) => (none, s)
    | (some c6, s) => (some (c0, c6), s)

/-- ERET of a sequencer (R196, R289, R310, R311). [DEDUCED, unsafe: assumption 74] -/
def State.seqEret (s : State) (n : Nat) : SRes :=
  let era := s.get (Rg.VE_ERA n) / 4 * 4
  let frm := s.get (Rg.VE_ECTX n) / 64 % 64
  let vf := (s.eng n).fromV == 10
  match s.eretCaps n frm with
  | (none, s) => let (v, s) := s.fresh 64; .wait (s.escalate n v 1)
  | (some (c0, c6), s) =>
    if ¬ c0.codeOk era ∨ ¬ c6.stackOk then let (v, s) := s.fresh 64; .wait (s.escalate n v 1)
    else
      let est := s.get (Rg.VE_EST n) % 2 ^ 24
      let s := s.modEng n (fun e =>
        { ((e.setSst est).setC 0 c0).setC 6 c6 with locked := false, llAge := none, btc := [], fromV := frm })
      .go (if vf then s.vfReturn n else s) (BitVec.ofNat 32 era) (s.eng n).rstack false

/-! ### The Triad (R312 to R319) -/

/-- The level changes: `IC_ACTIVE.VALID` is 1 while it is 1 (R321). -/
def State.triSetLevel (s : State) (l : Nat) : State :=
  (s.modEng triadNo (fun e => { e with level := l })).setBit Rg.IC_ACTIVE_VALID (l == 1)

/-- The offset of an entry of the Triad's table. -/
def State.triDesc (s : State) (v : Nat) : Nat := s.get Rg.IC_DTOFF + 64 * v

/-- The fault stack: a capability built in hardware (R313). -/
def faultStack : Cap := Cap.make 0x10020F000 4096 3 0 false 0

/-- The context that an entry saves (R312). -/
def Engine.context (e : Engine) (cause addr : Nat) : SaveSet :=
  { pc := e.era, sst := e.est, cause := cause, addr := addr, s29 := e.sreg 29, c0 := e.cap 0, c6 := e.cap 6 }

/-- The Triad goes to a handler: level, capabilities, stack pointer and program counter. -/
def State.triGo (s : State) (level : Nat) (slot : Bool) (c0 c6 : Cap) (s29 : Word) (entry : Nat) : State :=
  (s.modEng triadNo (fun e =>
    { (((e.enterBase slot).setS 29 s29).setC 0 c0).setC 6 c6 with pc := BitVec.ofNat 32 entry })).triSetLevel level

/-- Level 3, for a context already taken: entry 16, on the fault stack; an invalid one hands the Triad to the last-resort
controller (R317). [DEDUCED, unsafe: assumption 75] -/
def State.nmiEnter (s : State) (x : SaveSet) (slot : Bool) : State :=
  match s.readDesc triadNo (s.triDesc 16) (some faultStack) with
  | (none, s) => s.lastResortEnter 5 s.triPcs
  | (some d, s) =>
    if ¬ d.ok then s.lastResortEnter 5 s.triPcs
    else (s.setSave 3 x).triGo 3 slot d.c0 faultStack 0x00210000 d.entry

/-- A fault entry of the Triad for a context already taken: level 2 from level 0 or 1; level 3 with DOUBLE from level 2, or
with an invalid descriptor; from level 3 the last-resort controller (R317). [DEDUCED, unsafe: assumption 75] -/
def State.triFault (s : State) (x : Exc) (c : SaveSet) (slot : Bool) : State :=
  let level := s.tri.level
  let double (s : State) : State :=
    let r := (s.raise Rg.IC_NMI_CAUSE_DOUBLE).recorded 16 0 x
    r.2.nmiEnter { c with cause := r.1.1, addr := r.1.2 } slot
  if level = 3 then s.lastResortEnter 4 s.triPcs
  else if level = 2 then double s
  else
    match s.readDesc triadNo (s.triDesc x.code) (some faultStack) with
    | (none, s) => double s
    | (some d, s) =>
      if ¬ d.ok then double s
      else
        let r := s.recorded x.code 0 x
        (r.2.setSave 2 { c with cause := r.1.1, addr := r.1.2 }).triGo 2 slot d.c0 faultStack 0x00210000 d.entry

/-- TRIAD_FAULT_ENTRY: the Triad takes the exception of its instruction, or a deferred store error (R308, R317). -/
def execTriadFaultEntry (s : State) : Host.Outcome State Fault Refusal :=
  act s fun s =>
    if ¬ s.mayEnter triadNo ∨ ¬ s.excDue triadNo then s
    else
      let s := s.entryDrain triadNo
      let e := s.tri
      let s := match e.exc, e.sbErr with
        | some x, _ => (s.modEng triadNo (fun e => { e with exc := none })).triFault x (e.landAll.context 0 0) e.branch.isSome
        | none, some x => (s.modEng triadNo (fun e => { e with sbErr := none })).triFault x (e.landAll.context 0 0) false
        | none, none => s
      s.stepped triadNo

/-- NMI_ENTRY: with `pin`, NMI_N is low for this many mc, and an NMI arrives where the glitch filter passes it; an NMI that
waits enters level 3 at the boundary, from any lower level (R317, R496). [DEDUCED, unsafe: assumption 106] -/
def execNmiEntry (pin : Option (BitVec 8)) (s : State) : Host.Outcome State Fault Refusal :=
  act s fun s =>
    let s := match pin with
      | some mc => s.whenPassed (s.get Rg.PAD_FILT_NMI_FILT) (s.sinceFilt mc.toNat)
          (fun s => (s.raise Rg.IC_NMI_CAUSE_PIN).set Rg.IC_NMI_CAUSE_PENDING 1)
      | none => s
    if ¬ s.mayEnter triadNo ∨ s.tri.halted ∨ s.excDue triadNo ∨ ¬ s.nmiDue then s
    else
      let s := s.entryDrain triadNo
      if s.excDue triadNo then s
      else
        let r := (s.set Rg.IC_NMI_CAUSE_PENDING 0).recorded 16 0 { code := 0 }
        r.2.nmiEnter (s.tri.landAll.context r.1.1 r.1.2) false

/-- The 32 bytes of the frame that an interrupt entry stacks: s1 to s7 and a zero word (R314). -/
def Engine.irqFrame (e : Engine) : List Byte := ([1, 2, 3, 4, 5, 6, 7].flatMap (fun r => leBytes 4 (e.sreg r).toNat)) ++ leBytes 4 0

/-- The stacking of an interrupt entry: the stack's capability is checked, and the frame is written as two accesses of 16
bytes. The answer is whether it succeeded (R314, R316). [DEDUCED, unsafe: assumption 74] -/
def State.irqPush (s : State) (c6 : Cap) (s29 : Word) : Bool × State :=
  let a := c6.addr s29.toNat
  let bs := s.tri.irqFrame
  if (c6.unusable permStore a 32).isSome then (false, s)
  else
    match s.busPut 0 a (bs.take 16) with
    | (x, s) =>
      match s.busPut 0 (a + 16) (bs.drop 16) with
      | (y, s) => (x == 0 && y == 0, s)

/-- A source presented while an entry for `v` runs takes it over where its PRIO is higher, and the takeover is counted
(R315). -/
def State.takeover (p : Nat × State) (m : Nat) : Nat × State :=
  if p.2.srcOpen m ∧ p.2.get (Rg.IC_SRC_PRIO p.1) < p.2.get (Rg.IC_SRC_PRIO m) then (m, p.2.bump Rg.IC_LATE_CNT) else p

/-- The handler of source `v` is entered on the stack of entry 17, or a fault entry with code 14 takes its place (R316). -/
def State.irqGo (s : State) (v : Nat) (c6 : Cap) (s29 : Word) (x : SaveSet) : State :=
  let vec := s.get (Rg.IC_SRC_VECTOR v)
  match s.readDesc triadNo (s.triDesc vec) (some c6) with
  | (none, s) => s.triFault { code := 14 } x false
  | (some d, s) =>
    if ¬ d.ok then s.triFault { code := 14 } x false
    else
      let s := ((s.set Rg.IC_ACTIVE_SOURCE v).set Rg.IC_ACTIVE_VECTOR vec).set Rg.IC_ACTIVE_PRIO (s.get (Rg.IC_SRC_PRIO v))
      let s := if 192 ≤ v then s.set (Rg.IC_SRC_SW v) 0 else s
      let r := s.recorded vec 0 { code := 0 }
      (r.2.setSave 1 { x with cause := r.1.1, addr := r.1.2 }).triGo 1 false d.c0 c6 s29 d.entry

/-- An interrupt of the Triad is accepted: source `first`, unless one of `late` takes it over (R314 to R316). -/
def State.triInterrupt (s : State) (first : Nat) (late : List Nat) : State :=
  let s := s.entryDrain triadNo
  if s.excDue triadNo then s
  else
    let x := s.tri.landAll.context 0 0
    let s := s.modEng triadNo Engine.landAll
    match late.foldl State.takeover (first, s) with
    | (v, s) =>
      match s.descCap triadNo (s.triDesc 17 + 0x10) with
      | (none, s) => (s.bump Rg.IC_PUSHF_CNT).triFault { code := 13 } x false
      | (some c6, s) =>
        let s29 : Word := BitVec.ofNat 32 (c6.base + c6.len) - 32
        match s.irqPush c6 s29 with
        | (false, s) => (s.bump Rg.IC_PUSHF_CNT).triFault { code := 13, addr := c6.addr s29.toNat } x false
        | (true, s) => s.irqGo v c6 s29 x

/-- TRIAD_INTERRUPT_ENTRY: the source that would be accepted is entered; `late` names those that were presented only while the
entry ran, at mc 1 to mc 7, in order (R314, R315). -/
def execTriadInterruptEntry (late : List (BitVec 8)) (s : State) : Host.Outcome State Fault Refusal :=
  act s fun s =>
    if ¬ s.mayEnter triadNo ∨ s.tri.halted ∨ s.excDue triadNo ∨ s.nmiDue then s
    else
      let early := late.foldl (fun (s : State) m => s.set (Rg.IC_SRC_PRIO m.toNat) 0) s
      match early.triIrq with
      | none => s
      | some v => s.triInterrupt v (late.map (·.toNat))

/-- The pop of an interrupt's frame: s1 to s7 from s29 on (R318). [DEDUCED, unsafe: assumption 74] -/
def State.irqPop (s : State) : Except (State × Exc) State :=
  let c6 := s.tri.cap 6
  let a := c6.addr (s.tri.sreg 29).toNat
  match c6.unusable permLoad a 32 with
  | some sub => .error (s, { code := 4, sub := sub, reg := some 6, addr := a })
  | none =>
    match s.busGet 0 a 16 false with
    | (.error c, s) => .error (s, { code := 7, sub := c, addr := a })
    | (.ok lo, s) =>
      match s.busGet 0 (a + 16) 16 false with
      | (.error c, s) => .error (s, { code := 7, sub := c, addr := some (a + 16) })
      | (.ok hi, s) =>
        let ws := wordsLe 7 (lo ++ hi)
        .ok ((List.range 7).foldl (fun (s : State) k => s.writeReg triadNo (k + 1) (ws.getD k 0)) s)

/-- The return from a level: everything its save set holds is restored (R318). -/
def State.triRestore (s : State) (l : Nat) : SRes :=
  let x := s.save l
  let s := s.modEng triadNo (fun e =>
    { ((((e.setSst x.sst).setS 29 x.s29).setC 0 x.c0).setC 6 x.c6) with locked := false, llAge := none, btc := [] })
  .go (s.triSetLevel s.tri.level) (x.pc &&& 0xFFFFFFFC) s.tri.rstack false

/-- ERET of the Triad; at level 0 there is nothing to return from. [DEDUCED, unsafe: assumption 74] -/
def State.triEret (s : State) : SRes :=
  let s := s.sbEmpty triadNo
  if s.excDue triadNo then .wait s
  else if s.tri.level = 0 then .done s
  else if s.tri.level = 1 then
    match s.irqPop with
    | .error (t, x) => .trap t x
    | .ok t => t.triRestore 1
  else s.triRestore s.tri.level

/-- ERET (R310, R318): it needs SYS. -/
def execEret (u : CoreId) (_i : SInsn) (s : State) : Host.Outcome State Fault Refusal :=
  act s fun s => s.issue u { slot := false } false [] fun s n =>
    if ¬ (s.eng n).grants permSys then .trap s { code := 3 }
    else if n = triadNo then s.triEret
    else s.seqEret n

end Sys2Proof.Machine
end

