-- ==== Sys2Proof/Machine/Vector.lean ====
section
/-! DEFINITION. The issue of vector instructions to the vector unit, and what accords do in time (R104, R108 to R110, R131 to
R136, R191, R230, R281). -/

namespace Sys2Proof.Machine

/-! ### Issue (R104, R109, R110, R136) -/

/-- The operand selectors that an instruction reads. -/
def selectors (o : VOp) (f : VFields) : List Nat :=
  let a := f.src1.toNat
  let b := f.src2.toNat
  match o with
  | .ld => []
  | .ldg | .st => [a]
  | .sts | .stc => [a, b]
  | _ => [a, b, src3 f].take (nSrc o)

/-- The scalar registers among them: selectors 32 to 63 (R135). -/
def scalarSrc (o : VOp) (f : VFields) : List Nat := ((selectors o f).filter (fun x => 32 ≤ x)).map (· - 32)

/-- The value that a selector takes where it names a scalar register (R136). -/
def Engine.selVal (e : Engine) (sel : Nat) : Word := if 32 ≤ sel then e.sreg (sel - 32) else 0

/-- The instruction joins the accord that is being collected; the first one notes the stores that stand before it. -/
def Engine.collect (e : Engine) (o : VOp) (f : VFields) : Engine :=
  let v : VInsn := { op := o, f := f, sc1 := e.selVal f.src1.toNat, sc2 := e.selVal f.src2.toNat,
                     sc3 := e.selVal (src3 f), addr := e.pc }
  { e with coll := e.coll ++ [v], collSb := if e.coll = [] then e.sb.length else e.collSb }

/-- A vector instruction of a sequencer: it stalls while an accord waits; its scalar operands are taken; with CHAIN 0 it ends
its accord, which then waits for its turn. -/
def State.vecIssue (s : State) (n : VE) (o : VOp) (f : VFields) : State :=
  s.issue (.seq n) { size := 8, slot := false, vec := true } false (scalarSrc o f) fun s n =>
    let s := s.waitBegun n
    if s.excDue n ∨ (s.eng n).wait.isSome then .wait s
    else
      let s := s.modEng n (fun e => e.collect o f)
      .done (if f.chain then s else s.closeAccord n false)

/-- Vector ADD: a + b per element (R148). -/
def execVAdd (n : VE) (f : VFields) (s : State) : Host.Outcome State Fault Refusal := act s fun s => s.vecIssue n .add f
/-- Vector SUB: a − b per element (R148). -/
def execVSub (n : VE) (f : VFields) (s : State) : Host.Outcome State Fault Refusal := act s fun s => s.vecIssue n .sub f
/-- Vector MIN: the lesser of a and b (R148). -/
def execVMin (n : VE) (f : VFields) (s : State) : Host.Outcome State Fault Refusal := act s fun s => s.vecIssue n .min f
/-- Vector MAX: the greater of a and b (R148). -/
def execVMax (n : VE) (f : VFields) (s : State) : Host.Outcome State Fault Refusal := act s fun s => s.vecIssue n .max f
/-- Vector ABS: |a| (R148). -/
def execAbs (n : VE) (f : VFields) (s : State) : Host.Outcome State Fault Refusal := act s fun s => s.vecIssue n .abs f
/-- Vector NEG: −a for signed types (R148). -/
def execNeg (n : VE) (f : VFields) (s : State) : Host.Outcome State Fault Refusal := act s fun s => s.vecIssue n .neg f
/-- Vector ABSDIFF: |a − b| (R148). -/
def execAbsdiff (n : VE) (f : VFields) (s : State) : Host.Outcome State Fault Refusal := act s fun s => s.vecIssue n .absdiff f
/-- Vector AVG: (a + b) / 2 rounded per RM (R148). -/
def execAvg (n : VE) (f : VFields) (s : State) : Host.Outcome State Fault Refusal := act s fun s => s.vecIssue n .avg f
/-- Vector CLAMP: min(max(a, b), c), counting changed elements (R148). -/
def execClamp (n : VE) (f : VFields) (s : State) : Host.Outcome State Fault Refusal := act s fun s => s.vecIssue n .clamp f
/-- Vector MOV: copies a (R148). -/
def execMov (n : VE) (f : VFields) (s : State) : Host.Outcome State Fault Refusal := act s fun s => s.vecIssue n .mov f
/-- Vector RAW: the bits of a retyped as TYPE2 (R148). -/
def execRaw (n : VE) (f : VFields) (s : State) : Host.Outcome State Fault Refusal := act s fun s => s.vecIssue n .raw f
/-- Vector SEL: a where the named mask bit is 1, else b (R148). -/
def execSel (n : VE) (f : VFields) (s : State) : Host.Outcome State Fault Refusal := act s fun s => s.vecIssue n .sel f
/-- Vector AND (R148). -/
def execVAnd (n : VE) (f : VFields) (s : State) : Host.Outcome State Fault Refusal := act s fun s => s.vecIssue n .and f
/-- Vector OR (R148). -/
def execVOr (n : VE) (f : VFields) (s : State) : Host.Outcome State Fault Refusal := act s fun s => s.vecIssue n .or f
/-- Vector XOR (R148). -/
def execVXor (n : VE) (f : VFields) (s : State) : Host.Outcome State Fault Refusal := act s fun s => s.vecIssue n .xor f
/-- Vector ANDN: a AND NOT b (R148). -/
def execVAndn (n : VE) (f : VFields) (s : State) : Host.Outcome State Fault Refusal := act s fun s => s.vecIssue n .andn f
/-- Vector NOT (R148). -/
def execNot (n : VE) (f : VFields) (s : State) : Host.Outcome State Fault Refusal := act s fun s => s.vecIssue n .not f
/-- Vector SHL: raw a × 2^b (R148). -/
def execVShl (n : VE) (f : VFields) (s : State) : Host.Outcome State Fault Refusal := act s fun s => s.vecIssue n .shl f
/-- Vector SHR: raw a / 2^b rounded per RM (R148). -/
def execVShr (n : VE) (f : VFields) (s : State) : Host.Outcome State Fault Refusal := act s fun s => s.vecIssue n .shr f
/-- Vector BFX: extracts and extends a bit field of a (R148). -/
def execBfx (n : VE) (f : VFields) (s : State) : Host.Outcome State Fault Refusal := act s fun s => s.vecIssue n .bfx f
/-- Vector MUL, integer or Q (R149). -/
def execVMul (n : VE) (f : VFields) (s : State) : Host.Outcome State Fault Refusal := act s fun s => s.vecIssue n .mul f
/-- Vector MULH: high half of the exact product (R149). -/
def execVMulh (n : VE) (f : VFields) (s : State) : Host.Outcome State Fault Refusal := act s fun s => s.vecIssue n .mulh f
/-- Vector MULW: exact widening product as TYPE2 (R149). -/
def execMulw (n : VE) (f : VFields) (s : State) : Host.Outcome State Fault Refusal := act s fun s => s.vecIssue n .mulw f
/-- Vector MAC: a × b + c rounded once (R149). -/
def execMac (n : VE) (f : VFields) (s : State) : Host.Outcome State Fault Refusal := act s fun s => s.vecIssue n .mac f
/-- Vector MACW: widening product plus c as TYPE2 (R149). -/
def execMacw (n : VE) (f : VFields) (s : State) : Host.Outcome State Fault Refusal := act s fun s => s.vecIssue n .macw f
/-- Vector compare a = b into a mask (R150). -/
def execCmpeq (n : VE) (f : VFields) (s : State) : Host.Outcome State Fault Refusal := act s fun s => s.vecIssue n .cmpeq f
/-- Vector compare a ≠ b into a mask (R150). -/
def execCmpne (n : VE) (f : VFields) (s : State) : Host.Outcome State Fault Refusal := act s fun s => s.vecIssue n .cmpne f
/-- Vector compare a < b into a mask (R150). -/
def execCmplt (n : VE) (f : VFields) (s : State) : Host.Outcome State Fault Refusal := act s fun s => s.vecIssue n .cmplt f
/-- Vector compare a ≤ b into a mask (R150). -/
def execCmple (n : VE) (f : VFields) (s : State) : Host.Outcome State Fault Refusal := act s fun s => s.vecIssue n .cmple f
/-- Vector compare a > b into a mask (R150). -/
def execCmpgt (n : VE) (f : VFields) (s : State) : Host.Outcome State Fault Refusal := act s fun s => s.vecIssue n .cmpgt f
/-- Vector compare a ≥ b into a mask (R150). -/
def execCmpge (n : VE) (f : VFields) (s : State) : Host.Outcome State Fault Refusal := act s fun s => s.vecIssue n .cmpge f
/-- Float add (R151). -/
def execFadd (n : VE) (f : VFields) (s : State) : Host.Outcome State Fault Refusal := act s fun s => s.vecIssue n .fadd f
/-- Float subtract (R151). -/
def execFsub (n : VE) (f : VFields) (s : State) : Host.Outcome State Fault Refusal := act s fun s => s.vecIssue n .fsub f
/-- Float multiply (R151). -/
def execFmul (n : VE) (f : VFields) (s : State) : Host.Outcome State Fault Refusal := act s fun s => s.vecIssue n .fmul f
/-- Float fused multiply-add (R151). -/
def execFma (n : VE) (f : VFields) (s : State) : Host.Outcome State Fault Refusal := act s fun s => s.vecIssue n .fma f
/-- Float minimum per R159 (R151). -/
def execFmin (n : VE) (f : VFields) (s : State) : Host.Outcome State Fault Refusal := act s fun s => s.vecIssue n .fmin f
/-- Float maximum per R159 (R151). -/
def execFmax (n : VE) (f : VFields) (s : State) : Host.Outcome State Fault Refusal := act s fun s => s.vecIssue n .fmax f
/-- Float absolute value by sign bit (R151). -/
def execFabs (n : VE) (f : VFields) (s : State) : Host.Outcome State Fault Refusal := act s fun s => s.vecIssue n .fabs f
/-- Float negate by sign bit (R151). -/
def execFneg (n : VE) (f : VFields) (s : State) : Host.Outcome State Fault Refusal := act s fun s => s.vecIssue n .fneg f
/-- Converts a to TYPE2 by value (R152). -/
def execCvt (n : VE) (f : VFields) (s : State) : Host.Outcome State Fault Refusal := act s fun s => s.vecIssue n .cvt f
/-- Table lookup in T with clamped index (R153). -/
def execTlu (n : VE) (f : VFields) (s : State) : Host.Outcome State Fault Refusal := act s fun s => s.vecIssue n .tlu f
/-- Writes active elements into table memory T (R153). -/
def execTwr (n : VE) (f : VFields) (s : State) : Host.Outcome State Fault Refusal := act s fun s => s.vecIssue n .twr f
/-- Divide-unit DIV with the special cases of R155 (R154). -/
def execVDiv (n : VE) (f : VFields) (s : State) : Host.Outcome State Fault Refusal := act s fun s => s.vecIssue n .div f
/-- Divide-unit square root (R154). -/
def execSqrt (n : VE) (f : VFields) (s : State) : Host.Outcome State Fault Refusal := act s fun s => s.vecIssue n .sqrt f
/-- Divide-unit reciprocal square root (R154). -/
def execRsqrt (n : VE) (f : VFields) (s : State) : Host.Outcome State Fault Refusal := act s fun s => s.vecIssue n .rsqrt f
/-- Sum reduction into a scalar register (R160). -/
def execRsum (n : VE) (f : VFields) (s : State) : Host.Outcome State Fault Refusal := act s fun s => s.vecIssue n .rsum f
/-- Minimum reduction into a scalar register (R160). -/
def execRmin (n : VE) (f : VFields) (s : State) : Host.Outcome State Fault Refusal := act s fun s => s.vecIssue n .rmin f
/-- Maximum reduction into a scalar register (R160). -/
def execRmax (n : VE) (f : VFields) (s : State) : Host.Outcome State Fault Refusal := act s fun s => s.vecIssue n .rmax f
/-- Bitwise AND reduction (R160). -/
def execRand (n : VE) (f : VFields) (s : State) : Host.Outcome State Fault Refusal := act s fun s => s.vecIssue n .rand f
/-- Bitwise OR reduction (vector ROR) (R160). -/
def execVRor (n : VE) (f : VFields) (s : State) : Host.Outcome State Fault Refusal := act s fun s => s.vecIssue n .ror f
/-- Mask AND (R161). -/
def execMand (n : VE) (f : VFields) (s : State) : Host.Outcome State Fault Refusal := act s fun s => s.vecIssue n .mand f
/-- Mask OR (R161). -/
def execMor (n : VE) (f : VFields) (s : State) : Host.Outcome State Fault Refusal := act s fun s => s.vecIssue n .mor f
/-- Mask XOR (R161). -/
def execMxor (n : VE) (f : VFields) (s : State) : Host.Outcome State Fault Refusal := act s fun s => s.vecIssue n .mxor f
/-- Mask AND NOT (R161). -/
def execMandn (n : VE) (f : VFields) (s : State) : Host.Outcome State Fault Refusal := act s fun s => s.vecIssue n .mandn f
/-- Mask NOT (R161). -/
def execMnot (n : VE) (f : VFields) (s : State) : Host.Outcome State Fault Refusal := act s fun s => s.vecIssue n .mnot f
/-- Fills active mask bits with IMM[0] (R161). -/
def execMfill (n : VE) (f : VFields) (s : State) : Host.Outcome State Fault Refusal := act s fun s => s.vecIssue n .mfill f
/-- Counts active set mask bits into a scalar (R161). -/
def execMpop (n : VE) (f : VFields) (s : State) : Host.Outcome State Fault Refusal := act s fun s => s.vecIssue n .mpop f
/-- Index of the first active set mask bit into a scalar (R161). -/
def execMfirst (n : VE) (f : VFields) (s : State) : Host.Outcome State Fault Refusal := act s fun s => s.vecIssue n .mfirst f
/-- Packs active elements to the front and writes their count (R162). -/
def execCompress (n : VE) (f : VFields) (s : State) : Host.Outcome State Fault Refusal := act s fun s => s.vecIssue n .compress f
/-- Spreads load elements to active positions (R163). -/
def execExpand (n : VE) (f : VFields) (s : State) : Host.Outcome State Fault Refusal := act s fun s => s.vecIssue n .expand f
/-- Strided or queue load stream (R165). -/
def execLd (n : VE) (f : VFields) (s : State) : Host.Outcome State Fault Refusal := act s fun s => s.vecIssue n .ld f
/-- Gather load stream (R172). -/
def execLdg (n : VE) (f : VFields) (s : State) : Host.Outcome State Fault Refusal := act s fun s => s.vecIssue n .ldg f
/-- Strided or queue store stream (R165). -/
def execSt (n : VE) (f : VFields) (s : State) : Host.Outcome State Fault Refusal := act s fun s => s.vecIssue n .st f
/-- Scatter store stream (R173). -/
def execSts (n : VE) (f : VFields) (s : State) : Host.Outcome State Fault Refusal := act s fun s => s.vecIssue n .sts f
/-- Scatter-combine stream (R174). -/
def execStc (n : VE) (f : VFields) (s : State) : Host.Outcome State Fault Refusal := act s fun s => s.vecIssue n .stc f

/-! ### Accords in time (R108, R109, R191, R230) -/

/-- ACCORD_BEGIN: the waiting accord begins, once the one before it has finished (R109). -/
def execAccordBegin (n : VE) (s : State) : Host.Outcome State Fault Refusal :=
  act s fun s => if s.excDue n then s else s.startWaiting n

/-- ACCORD_FINISH: the executing accord streams to its end (R108). [DESIGN CHOICE, unsafe: assumption 11] -/
def execAccordFinish (n : VE) (s : State) : Host.Outcome State Fault Refusal := act s fun s => s.completeAccord n

/-- Whether the executing accord meets a fault before its end. -/
def State.accordFaults (s : State) (n : Nat) : Bool :=
  match (s.eng n).exe with
  | none => false
  | some x =>
    let r := (s.run x).elems n x.vl
    r.faults != [] || (endTrap r.x).isSome

/-- MID_VECTOR_FAULT: the executing accord streams until a fault stops it; `up` is an upset that strikes first (R191).
[DESIGN CHOICE, safe: assumption 37] -/
def execMidVectorFault (n : VE) (up : Option EngUpset) (s : State) : Host.Outcome State Fault Refusal :=
  act s fun s =>
    let s := match up with
      | some u => s.engUpset n u
      | none => s
    if s.accordFaults n then s.completeAccord n else s

/-- The bytes of the item in the making. -/
def State.itemBytes (s : State) (n : Nat) : Nat :=
  match (s.eng n).exe with
  | some x => x.qbuf.length
  | none => 0

/-- The executing accord streams one element at a time, at most so many, until an item is complete. -/
def State.untilItem (s : State) (n : Nat) : Nat → State
  | 0 => s
  | k + 1 =>
    let t := s.advanceAccord n 1
    if t.itemBytes n < s.itemBytes n then t else t.untilItem n k

/-- QUEUE_STORE_ALLOCATE: the elements of the next item of a queue store are complete; `err` is an error of the queue's
pointers that its use meets (R230, R394). -/
def execQueueStoreAllocate (n : VE) (err : Option Bool) (s : State) : Host.Outcome State Fault Refusal :=
  act s fun s =>
    match (s.eng n).exe with
    | none => s
    | some x =>
      match storeQueue x with
      | none => s
      | some q => (s.qPtrErr q err).untilItem n (x.vl - x.pos)

end Sys2Proof.Machine
end

