-- ==== Sys2Proof/Machine/Halt.lean ====
section
/-! DEFINITION. Debug halts taking effect, and the end of a resync's quiesce (R329, R480 to R482). -/

namespace Sys2Proof.Machine

/-- A core executes, is not halted, and no exception comes first. -/
def State.runsOn (s : State) (n : Nat) : Bool := s.mayEnter n && !(s.eng n).halted && !s.excDue n

/-- HALT_EFFECTIVE: a halt asked for takes effect at a boundary at which interrupts could be taken; the store buffer
drains and
the accords finish first (R480). [DEDUCED, unsafe: assumption 83] -/
def execHaltEffective (u : CoreId) (s : State) : Host.Outcome State Fault Refusal :=
  act s fun s =>
    let n := coreNo u
    match (s.eng n).haltReq with
    | some cause => if s.runsOn n ∧ s.openBoundary n then s.haltNow n cause else s
    | none => s

/-- The lock of a core is broken: a repetition stops between iterations as one of REPI does, the PC at its prefix, REP_ACTIVE
and REP_COUNT saying how to continue it, and the reservations of an LL are released (R481). -/
def State.lockBreak (s : State) (n : Nat) : State :=
  let e := s.eng n
  let s := if e.llAge.isSome then s.dropResvOf n else s
  let s := s.modEng n (fun e =>
    let e := { e with locked := false, llAge := none }
    match e.rep with
    | none => e
    | some r => { e with pc := r.pc, repAct := true, repCnt := r.left, rep := none })
  if n = triadNo then s.set Rg.TD_STATUS_LOCK_BROKEN 1
  else (s.set (Rg.DBG_STATUS_LOCK_BROKEN n) 1).bump (Rg.DBG_LOCKBRK_CNT n)

/-- LOCK_BREAK: 256 cycles have passed with a halt blocked by LOCKED: the lock is broken, and the halt takes effect where
nothing else holds it back (R481). -/
def execLockBreak (u : CoreId) (s : State) : Host.Outcome State Fault Refusal :=
  act s fun s =>
    let n := coreNo u
    match (s.eng n).haltReq with
    | some cause =>
      if s.runsOn n ∧ (s.eng n).lockHolds then
        let s := s.lockBreak n
        if s.openBoundary n then s.haltNow n cause else s
      else s
    | none => s

/-- BREAKPOINT: the next instruction of an attached engine stands at an enabled breakpoint, and the engine halts before it
(R482). -/
def execBreakpoint (n : VE) (s : State) : Host.Outcome State Fault Refusal :=
  act s fun s => if s.mayIssue n ∧ s.atBreakpoint n then s.haltNow n 3 else s

/-- RESYNC_QUIESCE_DONE: the Triad's outstanding transactions have completed, and the copy into the fenced core begins
(R329). -/
def execResyncQuiesceDone (s : State) : Host.Outcome State Fault Refusal :=
  act s fun s =>
    if s.triad.resync = .quiesce then (s.sbEmpty triadNo).modTriad (fun t => { t with resync := .copy }) else s

end Sys2Proof.Machine
end

