-- ==== Sys2Proof/Machine/Boot.lean ====
section
/-! DEFINITION. Reset and the boot ROM: what starts a reset, what a reset keeps, and the steps of the start-up, from the
strap to the jump to the image's entry (R297, R439, R446 to R461, R474, R500). -/

namespace Sys2Proof.Machine

/-! ### Reset (R448 to R450) -/

/-- The fields that a reset leaves as they are: the backup domain's (R375, R465) and what the fuses show (R463).
[DEDUCED, unsafe: assumption 89] -/
def keptFlds : List Fld := [
  Rg.CAL_TIME_LO, Rg.CAL_TIME_HI, Rg.CAL_SET_LO, Rg.CAL_SET_HI, Rg.CAL_ALARM_LO, Rg.CAL_ALARM_HI, Rg.CAL_CTRL_ALARM_EN,
  Rg.CAL_CTRL_TRIM, Rg.CAL_STATUS_BUSY, Rg.CAL_STATUS_VALID, Rg.CAL_STATUS_OSC_FAIL, Rg.CAL_STATUS_ALARM,
  Rg.CAL_INT_EN_ALARM, Rg.CAL_INT_EN_OSC_FAIL, Rg.BK_BOOT_SLOT, Rg.BK_BOOT_CONFIRMED, Rg.BK_BOOT_TRIES,
  Rg.LC_STATE_STATE, Rg.LC_STATE_KEY_VALID, Rg.LC_STATE_KEY_REVOKED, Rg.LC_SVN]

/-- The device enters reset for a cause: every register takes its reset value; local memory is cleared and the vault wiped;
the store, the flash, the fuses and the backup domain keep what they hold (R449). What has left the device, the commands
that wait, the model's counter of free values, the test port and the last measurements are not the reset's.
[DEDUCED, unsafe: assumptions 12, 89, 90; DESIGN CHOICE, unsafe: assumption 16] -/
def State.hardReset (s : State) (cause : Fld) : State :=
  let s := s.flCut
  let r : State :=
    { State.reset with
      pending := s.pending, freeCtr := s.freeCtr, sent := s.sent, store := s.store, storeErr := s.storeErr,
      flash := s.flash, flashInfo := s.flashInfo, keyHash := s.keyHash, calCount := s.calCount, calSkip := s.calSkip,
      sensors := s.sensors, supplies := s.supplies, supplyLow := s.supplyLow, power := s.power, jtag := s.jtag, bscan := s.bscan,
      held := true }
  (keptFlds.foldl (fun r f => r.set f (s.get f)) r).set cause 1

/-- PORST: PORST_N is low for this many ns. Below 1 µs nothing happens, from 5 µs on the device is reset, between the two it
may be (R448). [DESIGN CHOICE, safe: assumption 88; DEDUCED, unsafe: assumption 106] -/
def execPorst (ns : Word) (s : State) : Host.Outcome State Fault Refusal :=
  always s fun s =>
    (if ns.toNat < 1000 then s
      else if 5000 ≤ ns.toNat then s.hardReset Rg.RST_CAUSE_PIN
      else
        match s.fresh 2 with
        | (0, s) => s
        | (_, s) => s.hardReset Rg.RST_CAUSE_PIN)

/-- The detector threshold of a supply, in mV: VDD_SRAM, VDD_LANE, VDDA_LANE, VDD_MGMT, VDD_IO, VDD_CORE (R438). -/
def supplyThr : Fin 6 → Nat
  | 0 => 720
  | 1 => 810
  | 2 => 1080
  | 3 => 680
  | 4 => 1620
  | 5 => 670

/-- A supply measures `mv`: it lies low from below its threshold until it has come 15 mV above it (R439). -/
def State.supplyAt (s : State) (supply : Fin 6) (mv : Nat) : State :=
  if mv < supplyThr supply then { s with supplyLow := (supply.val :: s.supplyLow).eraseDups }
  else if supplyThr supply + 15 ≤ mv then { s with supplyLow := s.supplyLow.filter (· ≠ supply.val) }
  else s

/-- SUPPLY_LOW: a supply other than VBAT measures `mv`; below its threshold the device is reset at once and held there, and no
journal record is written (R439). That VDD_CORE lies low the device shows by the final step, which is FINAL_SAG's.
[DEDUCED, unsafe: assumption 90] -/
def execSupplyLow (supply : Fin 6) (mv : BitVec 12) (s : State) : Host.Outcome State Fault Refusal :=
  always s fun s =>
    let s := s.supplyAt supply mv.toNat
    if mv.toNat < supplyThr supply ∧ supply ≠ 5 then s.hardReset Rg.RST_CAUSE_SUPPLY else s

/-- CRYSTAL_STOP: the 25 MHz crystal stops: the power-on detector holds the device in reset (R500).
[DEDUCED, unsafe: assumption 90] -/
def execCrystalStop (s : State) : Host.Outcome State Fault Refusal :=
  always s fun s => (s.hardReset Rg.RST_CAUSE_POR)

/-! ### Below the base note (R446, R447) -/

/-- The payload of a FINAL record. Where no top note was entered, the frame of its entry is a free value.
[DEDUCED, safe: assumption 97] -/
def State.finalPayload (s : State) (mv us : Nat) : List Byte × State :=
  let top := s.get Rg.DD_STATUS_TIER ≠ 0
  let (f, s) := if top then (s.dd.topFrame, s) else s.fresh (2 ^ 64)
  let st := s.get Rg.DD_STATUS_TIER + s.get Rg.DD_STATUS_POWERING * 4 + s.get Rg.DD_STATUS_GOOD * 256
  (leBytes 2 (if top then s.dd.minMv else mv) ++ leBytes 1 (if top then s.dd.path else 0) ++ leBytes 1 0xFF ++ leBytes 4 us ++
    leBytes 8 f ++ leBytes 4 st ++ leBytes 4 0xFFFFFFFF, s)

/-- The journal engine starts the urgent record that waits as soon as it may. -/
def State.jPress (s : State) : State :=
  if s.flag Rg.JNL_CTRL_ENABLE ∧ s.flag Rg.JNL_STATUS_READY ∧ ¬ s.flag Rg.JNL_STATUS_FAILED ∧ s.jnl.hand = none then
    s.jWriteUrgent
  else s

/-- The journal engine completes `n` flash operations, and has the next one under way. [DEDUCED, safe: assumption 97] -/
def State.jRun (s : State) : Nat → State
  | 0 => s.jPress
  | n + 1 =>
    let s := s.jPress
    match s.jnl.op with
    | none => s.jRun n
    | some o => (s.jOpDone o).jRun n

/-- FINAL_SAG: VDD_CORE falls below the final threshold, `us` after the entry to the top note. Engines and lanes stop, the
journal engine writes an urgent FINAL record where the journal is READY, and the device is reset: `ops` flash operations
complete before, which are all that the record needs or all that 2 ms allow, and reset is held until VDD_CORE has come back
(R439, R446). [DEDUCED, safe: assumption 97] -/
def execFinalSag (mv : BitVec 10) (us : Word) (ops : BitVec 4) (s : State) : Host.Outcome State Fault Refusal :=
  always s fun s =>
    (
      if s.held ∨ s.get Rg.DD_THR1_FINAL_MV ≤ mv.toNat then s
      else
        let s := (s.supplyAt 5 mv.toNat).ddSample mv.toNat
        let s := if s.flag Rg.JNL_STATUS_READY then
            match s.finalPayload mv.toNat us.toNat with
            | (p, s) => { s with jnl := { s.jnl with urgent := s.jnl.urgent ++ [s.jBody 11 0 p] } }.jRun ops.toNat
          else s
        s.hardReset Rg.RST_CAUSE_FINAL)

/-! ### The image (R455 to R458) -/

/-- The staging range of the store (R453). -/
def stageLo : Nat := 0x18000000
@[inherit_doc stageLo] def stageHi : Nat := 0x1E000000
/-- The longest image: 96 MiB (R456). -/
def imageMax : Nat := 0x6000000

/-- An image, or as much of one as was read: its bytes in order. -/
abbrev Image := List Byte

/-- A little-endian field of an image. -/
def imgNat (i : Image) (o n : Nat) : Nat := leNat ((i.drop o).take n)

/-- Bytes of an image as SHA-384 and the signature check take them. -/
def imgList (i : Image) (o n : Nat) : List Nat := ((i.drop o).take n).map BitVec.toNat

/-- A number whose bytes stand most significant first. -/
def beNat (bs : List Nat) : Nat := bs.foldl (fun v b => v * 256 + b) 0

/-- Whether the bytes from `o` on are 0. -/
def imgZero (i : Image) (o n : Nat) : Bool := (imgList i o n).all (· == 0)

/-- Whether the header is well formed, for a place of `room` bytes (R456). [DEDUCED, unsafe: assumption 95] -/
def headerOk (i : Image) (room : Nat) : Bool :=
  let len := imgNat i 0x10 4
  imgNat i 0 4 == 0x4D494458 && imgNat i 4 2 == 1 && decide (1 ≤ imgNat i 6 2) && decide (imgNat i 6 2 ≤ 255) &&
    decide (imgNat i 0xC 1 < 64) && decide (imgNat i 0xD 1 < 4) && decide (imgNat i 0xE 1 < 8) && imgZero i 0xF 1 &&
    decide (0xA0 + 16 * imgNat i 6 2 + 96 ≤ len) && decide (len ≤ room) && decide (len ≤ imageMax) &&
    decide (imgNat i 0x14 4 < 0x200000) && imgNat i 0x14 4 % 4 == 0 && imgZero i 0x1A 6 && imgNat i 0x20 1 == 4 &&
    imgZero i 0x81 31

/-- A section descriptor: TYPE, OFFSET, SIZE and DEST (R457). -/
structure Section where
  type   : Nat
  offset : Nat
  size   : Nat
  dest   : Nat

/-- The section descriptors of an image. -/
def imgSections (i : Image) : List Section :=
  (List.range (imgNat i 6 2)).map (fun k =>
    let o := 0xA0 + 16 * k
    ⟨imgNat i o 1, imgNat i (o + 4) 4, imgNat i (o + 8) 4, imgNat i (o + 12) 4⟩)

/-- The entries of a profile: address and value (R457). -/
def profileEntries (i : Image) (c : Section) : List (Nat × Nat) :=
  (List.range (c.size / 16)).map (fun k => (imgNat i (c.offset + 16 * k) 6, imgNat i (c.offset + 16 * k + 8) 4))

/-- Whether a profile is a list of whole entries with their zero bytes. -/
def profileOk (i : Image) (c : Section) : Bool :=
  c.size % 16 == 0 && c.dest == 0 &&
    (List.range (c.size / 16)).all (fun k => imgZero i (c.offset + 16 * k + 6) 2 && imgZero i (c.offset + 16 * k + 12) 4)

/-- The rules of a section: within the image and its destination, and clear of the staging range (R457). -/
def sectionOk (i : Image) (c : Section) : Bool :=
  decide (c.offset + c.size ≤ imgNat i 0x10 4) &&
    match c.type with
    | 1 => decide (c.dest + c.size ≤ 0x200000)
    | 2 => decide (c.dest + c.size ≤ storeTop) && (decide (c.dest + c.size ≤ stageLo) || decide (stageHi ≤ c.dest) || c.size == 0)
    | 3 => profileOk i c
    | 4 => profileOk i c
    | 5 => decide (c.dest < 32) || c.dest == 0xFFFFFFFF
    | 6 => c.dest == 0
    | _ => false

/-- The section rules of R457 hold, the zero bytes of the descriptors among them. -/
def sectionsOk (i : Image) : Bool :=
  (List.range (imgNat i 6 2)).all (fun k => imgZero i (0xA0 + 16 * k + 1) 3) && (imgSections i).all (sectionOk i)

/-- The signature verifies over the SHA-384 of the image but its signature (R458).
[DESIGN CHOICE, safe: assumption 2] -/
def signatureOk (i : Image) : Bool :=
  let len := imgNat i 0x10 4
  Config.ecdsaVerifies (beNat (imgList i 0x20 97)) (beNat (imgList i (len - 96) 96)) (Config.sha384 (imgList i 0 (len - 96)))

/-- The key is that of a fuse, valid and not revoked; in BLANK none is needed (R458).
[DESIGN CHOICE, safe: assumption 2] -/
def State.keyOk (s : State) (i : Image) : Bool :=
  let k := imgNat i 0xD 1
  s.lcForce == 0 || (s.liveKeys.contains k && Config.sha384 (imgList i 0x20 97) == Tab.get s.keyHash k 0)

/-- What `BOOT_STATUS.RESULT` says of an image for a place of `room` bytes: 0 where it is accepted, else the first check of
R458 that it fails. [DEDUCED, unsafe: assumption 92] -/
def State.imageResult (s : State) (i : Image) (room : Nat) : Nat :=
  if ¬ headerOk i room then 3
  else if ¬ sectionsOk i then 7
  else if ¬ signatureOk i then 4
  else if ¬ s.keyOk i then 5
  else if s.lcForce = 2 ∧ imgNat i 0xC 1 < s.get Rg.LC_SVN then 6
  else 0

/-! ### Choosing a slot (R455, R459) -/

/-- Whether the flash holds a directory at an offset. [DEDUCED, unsafe: assumption 92] -/
def State.dirOk (s : State) (a : Nat) : Bool :=
  s.flNat a 4 == 0x58444952 && s.flNat (a + 0x3C) 4 == crc32c (s.flBytes a 0x3C)

/-- The directory that the ROM uses: the copy whose CRC matches and whose DSEQ is higher.
[DEDUCED, unsafe: assumption 56] -/
def State.flashDir (s : State) : Option Nat :=
  match s.dirOk 0, s.dirOk 0x1000 with
  | true, true => if s.flNat 4 4 < s.flNat 0x1004 4 then some 0x1000 else some 0
  | true, false => some 0
  | false, true => some 0x1000
  | false, false => none

/-- Slot 0 (A) or 1 (B) as the flash holds it. -/
def State.flashSlot (s : State) (dir slot : Nat) : Image :=
  let a := s.flNat (dir + 8 + 4 * slot) 4
  s.flBytes a (min imageMax (min (max 0x1100 (s.flNat (a + 0x10) 4)) (s.flNat (dir + 0x10) 4)))

/-- The slots with well-formed headers, the newer image first, A before B of equal ones (R459).
[DEDUCED, unsafe: assumption 92] -/
def State.slotsByAge (s : State) (dir : Nat) : List Nat :=
  let room := s.flNat (dir + 0x10) 4
  let a := s.flashSlot dir 0
  let b := s.flashSlot dir 1
  match headerOk a room, headerOk b room with
  | true, true => if imgNat a 8 4 < imgNat b 8 4 then [1, 0] else [0, 1]
  | true, false => [0]
  | false, true => [1]
  | false, false => []

/-- The order in which the slots are tried: an unconfirmed image that has had its three boots gives way (R459). -/
def State.slotOrder (s : State) (dir choice : Nat) : List Nat :=
  let o := if choice = 1 then [0] else if choice = 2 then [1] else s.slotsByAge dir
  if o.head? = some (s.get Rg.BK_BOOT_SLOT) ∧ s.get Rg.BK_BOOT_CONFIRMED = 0 ∧ 3 ≤ s.get Rg.BK_BOOT_TRIES then o.reverse
  else o

/-- An accepted slot is recorded in the backup domain (R459). -/
def State.bkBoot (s : State) (slot : Nat) : State :=
  let again := s.get Rg.BK_BOOT_SLOT = slot ∧ s.get Rg.BK_BOOT_CONFIRMED = 0
  let tries := if again then min (s.get Rg.BK_BOOT_TRIES + 1) 3 else 1
  ((s.set Rg.BK_BOOT_TRIES tries).set Rg.BK_BOOT_SLOT slot).set Rg.BK_BOOT_CONFIRMED 0

/-! ### Steps 4 and 5: zero-fill and unpacking (R453, R457) -/

/-- Whether a store address lies in the staging range. -/
def inStage (a : Nat) : Bool := decide (stageLo ≤ a) && decide (a < stageHi)

/-- Whole words of the store take a value and good check bits. -/
def State.storeFill (s : State) (a : Nat) (bs : Image) : State :=
  { (s.stPuts a bs) with
    storeErr := s.storeErr.filter (fun e => !(decide (a ≤ e.1 * 8) && decide (e.1 * 8 < a + bs.length))) }

/-- Every word of every bank is zeroed but those of the staging range. -/
def State.zeroFill (s : State) : State :=
  { s with store := s.store.filter (fun e => inStage e.1), storeErr := s.storeErr.filter (fun e => inStage (e.1 * 8)) }

/-- The staging range is cleared. -/
def State.stageClear (s : State) : State :=
  { s with store := s.store.filter (fun e => !inStage e.1), storeErr := s.storeErr.filter (fun e => !inStage (e.1 * 8)) }

/-- The value that an entry of the basic profile writes: the B fields of the register from the entry, the E fields as they
stand (R457). [DEDUCED, unsafe: assumption 59] -/
def State.basicValue (s : State) (r : RegRef) (v : Nat) : Nat :=
  let cur := (r.row.flds r.n r.k).foldl (fun x p => if p.2 = .rw then x + s.get p.1 * 2 ^ p.1.lo else x) 0
  v - Nat.land v r.row.eMask + Nat.land cur r.row.eMask

/-- A register with no writable B field: a basic entry for it writes nothing (R12, R457). -/
def RegRef.noBasic (r : RegRef) : Bool := (r.row.flds r.n r.k).all (fun p => p.2 == .ro || r.row.eMask.testBit p.1.lo)

/-- An entry of a profile is written by the Triad; one that its register refuses changes nothing.
[DEDUCED, unsafe: assumption 93] -/
def State.profileWrite (s : State) (basic : Bool) (e : Nat × Nat) : State :=
  match basic, regAt e.1 with
  | true, some r =>
    if r.noBasic then s else (s.busPut 0 e.1 (leBytes 4 (s.basicValue r e.2))).2
  | _, _ => (s.busPut 0 e.1 (leBytes 4 e.2)).2

/-- Bytes from an address on, cut where the halves that they cover whole begin and end. -/
def halfParts (a : Nat) (bs : Image) : List (Nat × Image) :=
  let h := min bs.length ((8 - a % 8) % 8)
  let m := (bs.length - h) / 8 * 8
  [(a, bs.take h), (a + h, (bs.drop h).take m), (a + h + m, bs.drop (h + m))].filter (fun p => !p.2.isEmpty)

/-- Local memory takes bytes; those of a half covered in part are merged into it as any write is (R357, R453). -/
def State.lmFill (s : State) (a : Nat) (bs : Image) : State :=
  (halfParts a bs).foldl (fun s p => (s.lmWrite p.1 p.2).2) s

/-- The store takes a section; the bytes of a half covered in part are merged into it as any narrow write is (R87, R457). -/
def State.storeSection (s : State) (a : Nat) (bs : Image) : State :=
  (halfParts a bs).foldl (fun s p =>
    if p.1 % 8 = 0 ∧ p.2.length % 8 = 0 then s.storeFill p.1 p.2 else s.devWrite p.1 p.2 srcMatrix) s

/-- A section is copied to its destination. -/
def State.unpack (s : State) (i : Image) (c : Section) : State :=
  let bs := (i.drop c.offset).take c.size
  match c.type with
  | 1 => s.lmFill c.dest bs
  | 2 => s.storeSection c.dest bs
  | 5 =>
    let quads := if c.dest = 0xFFFFFFFF then List.range 32 else [c.dest]
    { s with laneScripts := quads.foldl (fun t q => Tab.put t q (bs.map BitVec.toNat)) s.laneScripts }
  | 6 => { s with bankProgs := bs.map BitVec.toNat }
  | _ => s

/-- The entries of every profile of a type are applied in order. [DEDUCED, unsafe: assumption 93] -/
def State.profiles (s : State) (i : Image) (type : Nat) : State :=
  ((imgSections i).filter (fun c => c.type == type)).foldl (fun s c =>
    (profileEntries i c).foldl (fun s e => s.profileWrite (type == 3) e) s) s

/-! ### Step 6: boot tests (R453) -/

/-- The spare that the ROM gives the slot of an engine that failed: a passing one of its quadrant, else the lowest passing
one. -/
def State.bootSpare (s : State) (bad : BitVec 68) (n : Nat) : Option Nat :=
  let free (k : Nat) : Bool := s.veState k == 1 && !bad.getLsbD k
  match (List.range 68).find? (fun k => k / 17 == n / 17 && free k) with
  | some k => some k
  | none => (List.range 68).find? free

/-- An engine that failed enters RETIRED, and its slot gets a spare or is left with none. -/
def State.bootRetire (s : State) (bad : BitVec 68) (n : Nat) : State :=
  let slot := s.slotOf n
  let s := s.setVeState n 4
  match slot with
  | none => s
  | some k =>
    match s.bootSpare bad n with
    | some m => s.serveSlot k m
    | none => s.set (Rg.EM_MAP_VALID k) 0

/-- The boot LBIST of every engine. -/
def State.bootLbist (s : State) (bad : BitVec 68) : State :=
  let s := (List.range 68).foldl (fun s n => s.set (Rg.BL_VE_RESULT n) (if bad.getLsbD n then 2 else 1)) s
  let fails := (List.range 68).filter (fun n => bad.getLsbD n)
  (fails.foldl (fun s n => s.bootRetire bad n) s).set Rg.BOOT_STATUS_LBIST_FAILS fails.length

/-- The boot loopback of every enabled lane. With several lanes at once the spec does not say what the lane and the bit
errors of the result are. [DEDUCED, unsafe: assumption 93] -/
def State.bootLoop (s : State) (bad : BitVec 128) : State :=
  let ls := (List.range 128).filter (fun l => s.flag (Rg.LN_CTRL_ENABLE l))
  if ls = [] then s
  else
    let s := if ls.any (fun l => bad.getLsbD l) then (s.set Rg.BL_STATUS_LOOP 3).raise Rg.BL_INT_STATUS_FAIL
      else (s.set Rg.BL_STATUS_LOOP 2).raise Rg.BL_INT_STATUS_DONE
    let (l, s) := s.fresh 128
    let (e, s) := s.fresh (2 ^ 32)
    (s.set Rg.BL_LOOP_LANE l).set Rg.BL_LOOP_ERR e

/-! ### Step 8: the jump to ENTRY (R297, R453) -/

/-- The scalar registers that the ROM leaves: any value. [DESIGN CHOICE, safe: assumption 94] -/
def State.freeRegs (s : State) (n : Nat) : Nat → State
  | 0 => s
  | k + 1 => let (v, s) := s.fresh (2 ^ 32); (s.setS n (k + 1) (BitVec.ofNat 32 v)).freeRegs n k

/-- The ROM's use of the reset capabilities: c3 to c6 go to four tagged slots of local memory, and c6 becomes a stack
derived from c0; where they are, the spec does not say (R297). [DESIGN CHOICE, safe: assumption 94] -/
def State.romCaps (s : State) : State :=
  let (k, s) := s.fresh (131072 - 4)
  let s := (List.range 4).foldl (fun s j => s.storeCap (16 * (k + j)) ((s.eng triadNo).cap (3 + j))) s
  let (b, s) := s.fresh 0x200000
  let (n, s) := s.fresh (0x200000 - b)
  s.modEng triadNo (fun e => e.setC 6 (Cap.make (0x100000000 + b) n 3 0 false 0))

/-- The last boot step: the time, the lock where it is asked for, and the jump.
[DEDUCED, unsafe: assumption 7; DESIGN CHOICE, safe: assumption 94] -/
def State.romJump (s : State) (entry : Nat) (autoLock : Bool) (b : BootIn) : State :=
  let s := s.set Rg.BOOT_TIME_US b.timeUs.toNat
  let s := if autoLock then s.ftReq true false else s
  let s := (s.romCaps).freeRegs triadNo 31
  let s := s.modEng triadNo (fun e => { e with pc := BitVec.ofNat 32 entry, run := true, level := 0 })
  { s with rom := .none, romGo := none, booted := true }

/-- From step 4 on with an accepted image (R453). SOURCE: 0 slot A, 1 slot B, 2 the host, 3 JTAG.
[DEDUCED, unsafe: assumption 7] -/
def State.romInstall (s : State) (i : Image) (source : Nat) (b : BootIn) : State :=
  let choice := s.get Rg.STRAP_CHOICE
  let s := (s.set Rg.BOOT_STATUS_SOURCE source).set Rg.BOOT_STATUS_RESULT 0
  let s := s.set Rg.BOOT_IMG_SEQ (imgNat i 8 4)
  let s := (imgSections i).foldl (fun s c => s.unpack i c) s.zeroFill
  let s := (s.profiles i 3).profiles i 4
  let s := (s.set Rg.FT_BUDGET_PROVED_W (imgNat i 0x18 2)).stageClear
  let flags := imgNat i 0xE 1
  let s := if choice ≠ 3 ∧ flags.testBit 1 then s.bootLbist b.lbist else s
  let s := if choice ≠ 3 ∧ flags.testBit 2 then s.bootLoop b.loop else s
  let s := ((List.range 128).filter (fun l => s.flag (Rg.LN_CTRL_ENABLE l) && s.lnState l == 0)).foldl
    (fun s l => s.lnFull l 1) s
  let s := if choice = 5 then (s.set Rg.FT_CTRL_EVAL_EN 0).stage Rg.FT_CTRL_EVAL_EN 0 else s
  let auto := flags.testBit 0 && choice != 5
  let entry := imgNat i 0x14 4
  if choice = 6 then { s with rom := .go entry auto, romGo := none } else s.romJump entry auto b

/-! ### Waiting for an image (R460, R474) -/

/-- The ROM opens host window 2 over the staging range and shows READY. -/
def State.romWait (s : State) : State :=
  let s := ((s.set (Rg.MX_WIN_BASE_LO 1 2) (stageLo / 4096)).set (Rg.MX_WIN_BASE_HI 1 2) 0).set (Rg.MX_WIN_VALID 1 2) 1
  let s := (s.set (Rg.MX_WIN_LIMIT_LO 1 2) (stageHi / 4096 - 1)).set (Rg.MX_WIN_LIMIT_HI 1 2) 0
  let s := (s.set (Rg.MX_WIN_R 1 2) 1).set (Rg.MX_WIN_W 1 2) 1
  { s.set Rg.HB_LOAD_READY 1 with rom := .load, romGo := none }

/-- No slot is accepted, or discovery failed: FAULT_N is driven low, and the ROM waits (R460).
[DEDUCED, unsafe: assumption 91] -/
def State.bootFail (s : State) (result : Nat) : State :=
  { s.set Rg.BOOT_STATUS_RESULT result with faultLow := true }.romWait

/-- The slots of an order are tried; each is streamed to the staging range before it is checked (R453, R459).
[DEDUCED, unsafe: assumption 92] -/
def State.trySlots (s : State) (dir : Nat) (b : BootIn) (last : Nat) : List Nat → State
  | [] => s.bootFail last
  | k :: r =>
    if (k = 0 ∧ b.errA) ∨ (k = 1 ∧ b.errB) then s.trySlots dir b 8 r
    else
      let i := s.flashSlot dir k
      let s := s.storeFill stageLo i
      match s.imageResult i (s.flNat (dir + 0x10) 4) with
      | 0 =>
        let s := s.setBit Rg.BOOT_STATUS_FALLBACK ((s.slotsByAge dir).head? != some k)
        (s.bkBoot k).romInstall i k b
      | e => s.trySlots dir b e r

/-- Steps 2 and 3 with a flash (R453 to R459). -/
def State.romFlash (s : State) (choice : Nat) (b : BootIn) : State :=
  match b.sfdp with
  | none => s.bootFail 1
  | some info =>
    if ¬ info.usable then s.bootFail 1
    else
    let s := { (s.set Rg.PAD_CTRL_FL_SLEW 3).set Rg.PAD_CTRL_FL_DRIVE 1 with flashInfo := info }
    match s.flashDir with
    | none => s.bootFail 2
    | some dir => s.trySlots dir b 3 (s.slotOrder dir choice)

/-- A release without a reset before it is that of the power-up: its cause is the power-on detector (R465).
[DEDUCED, unsafe: assumption 90] -/
def State.powerUp (s : State) : State :=
  if [Rg.RST_CAUSE_PIN, Rg.RST_CAUSE_FINAL, Rg.RST_CAUSE_SUPPLY].all (fun f => s.get f == 0) then s.set Rg.RST_CAUSE_POR 1 else s

/-- RESET_RELEASE: reset is released, and the boot ROM runs. A RETIRED device loads no image (R453, R462).
[DESIGN CHOICE, safe: assumption 4; DEDUCED, unsafe: assumptions 7, 7] -/
def State.release (s : State) (b : BootIn) : State :=
  let choice := if 8 ≤ b.code.toNat / 4 then 15 else b.code.toNat / 4
  let s : State := { s.powerUp with held := false, boot := some b, lcForce := s.get Rg.LC_STATE_STATE }
  let s := (s.set Rg.STRAP_CODE b.code.toNat).set Rg.STRAP_CHOICE (b.code.toNat / 4)
  let s := s.setBit Rg.STRAP_RSVD (decide (8 ≤ b.code.toNat / 4) && b.code.toNat / 4 != 15)
  if s.lcForce = 3 then { s with faultLow := true }
  else if choice = 0 ∨ choice = 7 then s.romWait
  else s.romFlash choice b

@[inherit_doc State.release]
def execResetRelease (b : BootIn) (s : State) : Host.Outcome State Fault Refusal :=
  always s fun s => (if s.boot.isSome ∨ s.supplyLow ≠ [] then s else s.release b)

/-! ### Going on (R452, R474) -/

/-- READY and window 2 as they are when the ROM does not wait. -/
def State.romClose (s : State) : State :=
  [Rg.MX_WIN_BASE_LO 1 2, Rg.MX_WIN_BASE_HI 1 2, Rg.MX_WIN_LIMIT_LO 1 2, Rg.MX_WIN_LIMIT_HI 1 2, Rg.MX_WIN_R 1 2,
    Rg.MX_WIN_W 1 2, Rg.MX_WIN_VALID 1 2, Rg.HB_LOAD_READY].foldl State.resetFld s

/-- A loaded image is checked: the boot goes on from step 4, or the ROM waits again (R474).
[DEDUCED, unsafe: assumption 96] -/
def State.romLoaded (s : State) (m : Nat) (b : BootIn) : State :=
  let s := { s.romClose with romGo := none }
  let len := s.get Rg.HB_LOAD_LEN
  if imageMax < len then (s.set Rg.BOOT_STATUS_RESULT 9).romWait
  else
    match s.stRead stageLo len srcMatrix with
    | (.bad _, s) => (s.set Rg.BOOT_STATUS_RESULT 4).romWait
    | (.data i, s) =>
      match s.imageResult i len with
      | 0 => s.romInstall i (if m = 2 then 3 else 2) b
      | e => (s.set Rg.BOOT_STATUS_RESULT e).romWait

/-- The ROM goes on where the write it waits for has come. -/
def State.romRun (s : State) : State :=
  match s.romGo, s.boot with
  | some m, some b =>
    match s.rom with
    | .load => s.romLoaded m b
    | .go entry autoLock => s.romJump entry autoLock b
    | .none => s
  | _, _ => s

/-- BOOT_GO: `BOOT_GO` written with 1 (R452). [DEDUCED, unsafe: assumption 96] -/
def execBootGo (m : Master) (v : Word) (s : State) : Host.Outcome State Fault Refusal :=
  act s fun s => (s.regCommand m Rg.BOOT_GO.addr 4 (fun s => s.bootGoReg m (Nat.lor v.toNat 1))).romRun

/-- HOST_LOAD_GO: `HB_LOAD` written with GO (R474). `up` is an upset that strikes the image before.
[DEDUCED, unsafe: assumption 96] -/
def execHostLoadGo (m : Master) (v : Word) (up : Option Upset) (s : State) : Host.Outcome State Fault Refusal :=
  act s fun s => ((s.upsetOpt up).regCommand m Rg.HB_LOAD_GO.addr 4 (fun s => s.hbLoad m (Nat.lor v.toNat 2))).romRun

end Sys2Proof.Machine
end

