-- ==== Sys2Proof/Machine/Host.lean ====
section
/-! DEFINITION. The ports of the device's operators: matrix requests and register accesses as rows of their own, the PCIe
endpoint, the SMBus target and the JTAG port (R7, R351, R466 to R479, R496). -/

namespace Sys2Proof.Machine

/-! ### Requests and register accesses (R7, R347, R351, R479) -/

/-- MATRIX_REQUEST: master `m` makes a request (R351). -/
def execMatrixRequest (m : Master) (r : MxReq) (s : State) : Host.Outcome State Fault Refusal :=
  act s fun s => (s.mxRequest m r).romRun

/-- REGISTER_WRITE: master `m` writes a register of 4 bytes, or of 8 with `wide` (R4, R7). -/
def execRegisterWrite (m : Master) (a : Addr) (wide : Bool) (v : DWord) (s : State) : Host.Outcome State Fault Refusal :=
  act s fun s => (s.writeReq m a.toNat (leBytes (if wide then 8 else 4) v.toNat)).romRun

/-- RC_READ: master `m` reads a register; its RC fields take their reset value (R7). -/
def execRcRead (m : Master) (a : Addr) (wide : Bool) (s : State) : Host.Outcome State Fault Refusal :=
  act s fun s => s.readReq m a.toNat (if wide then 8 else 4) false

/-- PEEK_READ: a read that changes nothing (R479). `up` is an upset that strikes before it. -/
def execPeekRead (m : Master) (a : Addr) (last : BitVec 4) (up : Option MemUpset) (s : State) :
    Host.Outcome State Fault Refusal :=
  act s fun s =>
    let s := s.memUpset up
    if transactionForm a.toNat (last.toNat + 1) then s.readReq m a.toNat (last.toNat + 1) true else s

/-! ### BAR accesses (R467 to R469) -/

/-- What an offset in a BAR reaches. -/
inductive BarTarget where
  /-- A management address; `peek` says that reads of it are peek reads. -/
  | mgmt (a : Nat) (peek : Bool)
  /-- A byte of the MSI-X table. -/
  | msix (off : Nat)
  /-- A byte of the pending-bit array. -/
  | pba (off : Nat)
  | nothing

/-- The target of an offset in BAR0 or BAR2 (R467). [DEDUCED, unsafe: assumption 98] -/
def State.barTarget (s : State) (bar2 : Bool) (x : Nat) : BarTarget :=
  if bar2 then
    let a := x / 2 ^ 28
    if s.flag (Rg.HB_AP_VALID a) then
      .mgmt (s.get (Rg.HB_AP_BASE_HI a) * 2 ^ 32 + s.get (Rg.HB_AP_BASE_LO a) * 2 ^ 28 + x % 2 ^ 28) (s.flag (Rg.HB_AP_PEEK a))
    else .nothing
  else if x < 0x10000 then .mgmt (0x5000B0000 + x) false
  else if x < 0x10400 then .msix (x - 0x10000)
  else if 0x11000 ≤ x ∧ x < 0x11008 then .pba (x - 0x11000)
  else .nothing

/-- The largest naturally aligned piece of at most `k` bytes, a power of two, that starts at `a` and fits in `n` bytes. -/
def alignedPiece (a n : Nat) : Nat :=
  if a % 16 = 0 ∧ 16 ≤ n then 16 else if a % 8 = 0 ∧ 8 ≤ n then 8 else if a % 4 = 0 ∧ 4 ≤ n then 4
  else if a % 2 = 0 ∧ 2 ≤ n then 2 else 1

/-- A TLP to a memory, split into naturally aligned transactions (R468). [DEDUCED, unsafe: assumption 98] -/
def tlpPieces (a n : Nat) : Nat → List (Nat × Nat)
  | 0 => []
  | k + 1 => if n = 0 then [] else (a, alignedPiece a n) :: tlpPieces (a + alignedPiece a n) (n - alignedPiece a n) k

/-- The transactions of a TLP: pieces for targets 0 to 6; for any other target one of 4 or 8 bytes, naturally aligned, and
none where the TLP is not such (R468). -/
def tlpSplit (a n : Nat) : Option (List (Nat × Nat)) :=
  match targetOf a with
  | .register _ => if (n = 4 ∨ n = 8) ∧ a % n = 0 then some [(a, n)] else none
  | .none => if (n = 4 ∨ n = 8) ∧ a % n = 0 then some [(a, n)] else none
  | _ => some (tlpPieces a n n)

/-- The reads of a TLP: its bytes, or the first error. -/
def State.barReads (s : State) (peek : Bool) : List (Nat × Nat) → Except Nat (List Byte) × State
  | [] => (.ok [], s)
  | (a, n) :: r =>
    match s.busGet 1 a n peek with
    | (.error c, s) => (.error c, (s.barReads peek r).2)
    | (.ok bs, s) =>
      match s.barReads peek r with
      | (.ok cs, s) => (.ok (bs ++ cs), s)
      | (.error c, s) => (.error c, s)

/-- The writes of a TLP: the code and the address of the first that drew an error. -/
def State.barWrites (s : State) (bs : List Byte) : List (Nat × Nat) → Option (Nat × Nat) × State
  | [] => (none, s)
  | (a, n) :: r =>
    match s.busPut 1 a (bs.take n) with
    | (0, s) => s.barWrites (bs.drop n) r
    | (c, s) => (some (c, a), (s.barWrites (bs.drop n) r).2)

/-- A BAR access that drew an error is counted (R469, R484). -/
def State.barErr (s : State) : State := (s.bump Rg.HB_ERR_CNT).raise Rg.HB_INT_STATUS_HOST_ERR

/-- A write that drew an error is recorded as well, and AER logs it (R469). -/
def State.barLastErr (s : State) (a code : Nat) : State :=
  (({ s with aerAdvisory := true }.set Rg.HB_LAST_ERR_LO a).set Rg.HB_LAST_ERR_HI_ADDR (a / 2 ^ 32)).set Rg.HB_LAST_ERR_HI_CODE code

/-- The completion status of a matrix code (R469): Unsupported Request for 1 and 2, Completer Abort for 3 to 7. -/
def completionOf (code : Nat) : Nat := if code = 0 then 0 else if code ≤ 2 then 1 else 2

/-- A read TLP that completes. [DEDUCED, unsafe: assumption 98] -/
def State.barRead (s : State) (t : BarTarget) (n : Nat) : State :=
  match t with
  | .mgmt a peek =>
    match tlpSplit a n with
    | none => s.barErr.emit (.completion 2 0)
    | some ps =>
      match s.barReads peek ps with
      | (.ok bs, s) => s.emit (.completion 0 (leNat bs))
      | (.error c, s) => s.barErr.emit (.completion (completionOf c) 0)
  | .msix o => s.emit (.completion 0 (s.msixNat o n))
  | .pba o => s.emit (.completion 0 (s.msixPend.foldl (fun x v => x + 2 ^ v) 0 / 2 ^ (8 * o) % 2 ^ (8 * n)))
  | .nothing => s.emit (.completion 1 0)

/-- Bytes of the MSI-X table written in order. -/
def State.msixPuts (s : State) (o : Nat) : List Byte → State
  | [] => s
  | b :: r => (s.setMsixByte o b.toNat).msixPuts (o + 1) r

/-- A write TLP. [DEDUCED, unsafe: assumptions 98, 99] -/
def State.barWrite (s : State) (t : BarTarget) (bs : List Byte) : State :=
  match t with
  | .mgmt a _ =>
    match tlpSplit a bs.length with
    | none => s.barErr.barLastErr a 4
    | some ps =>
      match s.barWrites bs ps with
      | (none, s) => s
      | (some (c, x), s) => s.barErr.barLastErr x c
  | .msix o => (s.msixPuts o bs).msiFlush
  | .pba _ => s
  | .nothing => s

/-- A configuration request completes in D0 and D3hot (R466). [PRESUMED, unsafe: assumption 134] -/
def State.cfgAccess (s : State) (r : CfgReg) (write : Option Nat) : State :=
  match write with
  | none => s.emit (.completion 0 (s.cfgRead r))
  | some v => (s.cfgWrite r v).emit (.completion 0 0)

/-- BAR_ACCESS: a TLP reaches a BAR, or the configuration space. In D3hot the one to a BAR completes with Unsupported Request;
with the link down or in L2, with PCIE_PERST_N low, and in D3cold there is none (R466 to R471). -/
def State.barAccess (s : State) (r : BarReq) : State :=
  let n := r.last.toNat + 1
  let s := s.memUpset r.up
  if s.flag Rg.HB_STATUS_PERST ∨ 4 ≤ s.get Rg.HB_STATUS_LSTATE ∨ s.get Rg.HB_STATUS_DSTATE = 2 then s
  else
    match r.cfg, r.write with
    | some c, w => s.cfgAccess c (w.map BitVec.toNat)
    | none, none =>
      if s.get Rg.HB_STATUS_DSTATE = 0 then s.barRead (s.barTarget r.bar2 r.addr.toNat) n else s.emit (.completion 1 0)
    | none, some d =>
      if s.get Rg.HB_STATUS_DSTATE = 0 ∧ n ≤ 512 then s.barWrite (s.barTarget r.bar2 r.addr.toNat) (leBytes n d.toNat) else s

@[inherit_doc State.barAccess]
def execBarAccess (r : BarReq) (s : State) : Host.Outcome State Fault Refusal := act s fun s => (s.barAccess r).romRun

/-! ### The link and the power states (R471 to R473, R484) -/

/-- PCIE_PERST: PCIE_PERST_N is low for `State.perstMc` mc; where the glitch filter passes it, the host bridge and the link are
reset, with the host's ASPM setting, and the registers keep their values (R471, R496). The length of the next pulse is a free
value. [DEDUCED, unsafe: assumption 99; DESIGN CHOICE, unsafe: assumption 130] -/
def execPciePerst (s : State) : Host.Outcome State Fault Refusal :=
  act s fun s =>
    let (next, t) := s.fresh 256
    { t with perstMc := next }.whenPassed (s.get Rg.PAD_FILT_PERST_FILT) (s.sinceFilt s.perstMc) fun s =>
      let s := ((s.set Rg.HB_STATUS_PERST 1).set Rg.HB_STATUS_LSTATE 5).set Rg.HB_STATUS_WIDTH 0
      { s.raise Rg.HB_INT_STATUS_PERST with hostExit := false, aspm := false }

/-- An exit that the host begins satisfies a wake that is pending (R473). -/
def State.exitBegins (s : State) : State :=
  let s := { s with hostExit := true }
  if s.flag Rg.HB_STATUS_WAKE_PENDING then s.wakeMerge else s

/-- HOST_EXIT: the host begins an exit from reset, where the glitch filter passes the rise of PCIE_PERST_N, or from L1 or L2
(R473, R496). With PCIE_PERST_N high, or the link in L0 or down, there is none to begin. -/
def execHostExit (e : HostExit) (s : State) : Host.Outcome State Fault Refusal :=
  act s fun s =>
    match e with
    | .perst mc =>
      if ¬ s.flag Rg.HB_STATUS_PERST then s
      else s.whenPassed (s.get Rg.PAD_FILT_PERST_FILT) (s.sinceFilt mc.toNat) (fun s => (s.set Rg.HB_STATUS_PERST 0).exitBegins)
    | .link => if 1 ≤ s.get Rg.HB_STATUS_LSTATE ∧ s.get Rg.HB_STATUS_LSTATE ≤ 4 then s.exitBegins else s

/-- DSTATE_CHANGE: the endpoint moves to D0, D3hot or D3cold (R471, R472). -/
def execDstateChange (d : Fin 3) (s : State) : Host.Outcome State Fault Refusal :=
  act s fun s =>
    if s.get Rg.HB_STATUS_DSTATE = d then s
    else
      let s := (s.set Rg.HB_STATUS_DSTATE d).raise Rg.HB_INT_STATUS_DSTATE
      if d = 0 then { s with woken := [] }.msiFlush else s.wakeWaiting

/-- The latency that the endpoint reports (R471). -/
def ltrUs : Nat := 10

/-- LINK_STATE_CHANGE: the link enters a state, at a speed and width; `host` says that the host asked for it. In D0 ASPM takes it
to L1 only as the host's setting allows. WAKE_N is released when the link reaches L0, where the endpoint reports its latency in
D0 (R471, R472, R484). [DEDUCED, unsafe: assumption 99] -/
def execLinkStateChange (lstate : Fin 6) (speed : Fin 3) (width : Fin 4) (host : Bool) (s : State) :
    Host.Outcome State Fault Refusal :=
  act s fun s =>
    if 1 ≤ lstate.val ∧ lstate.val ≤ 3 ∧ s.get Rg.HB_STATUS_DSTATE = 0 ∧ ¬ host ∧ ¬ s.aspm then s
    else
    let down := s.get Rg.HB_STATUS_LSTATE = 0 ∧ lstate.val ≠ 0 ∧ ¬ host
    let s := s.set Rg.HB_STATUS_LSTATE lstate
    let s := if lstate.val < 4 then
        (s.set Rg.HB_STATUS_SPEED (min speed (s.get Rg.HB_CTRL_MAX_SPEED))).set Rg.HB_STATUS_WIDTH (2 ^ width.val)
      else s.set Rg.HB_STATUS_WIDTH 0
    let s := if down then s.raise Rg.HB_INT_STATUS_LINK_DOWN else s
    if lstate ≠ 0 then s
    else
      let s := { s.set Rg.HB_STATUS_WAKE_PENDING 0 with hostExit := false }.msiFlush
      if s.get Rg.HB_STATUS_DSTATE = 0 then s.emit (.ltr ltrUs) else s

/-! ### SMBus (R475, R476) -/

/-- A supply voltage as last measured. -/
def State.supply (s : State) (k : Nat) : Nat := s.supplies.getD k 0

/-- Lanes in a state. -/
def State.lanesIn (s : State) (st : Nat) : Nat := ((List.range 128).filter (fun l => s.lnState l == st)).length

/-- Word 0x00 of the telemetry. -/
def State.tmStatus (s : State) : Nat :=
  b2n s.faultLow + b2n s.lastResort * 2 + s.get Rg.DD_STATUS_TIER * 4 + b2n s.locked * 16 + b2n s.booted * 32 +
    s.get Rg.LC_STATE_STATE * 64 + s.get Rg.VT_STATUS_STATE * 256

/-- The word of a code, 16 bits; any code without a word reads 0xFFFF. [DEDUCED, unsafe: assumption 100] -/
def State.tmWord (s : State) (c : Nat) : Nat :=
  if c = 0 then s.tmStatus
  else if c = 1 then toBits 16 s.hottest
  else if c ≤ 9 then toBits 16 (s.sensors.getD (c - 2) 0)
  else if c ≤ 0x10 then s.supply (c - 0xA) % 2 ^ 16
  else if c = 0x11 then s.power % 2 ^ 16
  else if c = 0x12 then s.lanesIn 2
  else if c = 0x13 then s.vesIn 1 + s.vesIn 4 * 256
  else if c = 0x14 then
    s.get Rg.BOOT_STATUS_SOURCE + s.get Rg.BOOT_STATUS_RESULT * 4 + s.get Rg.BOOT_STATUS_FALLBACK * 64 +
      s.get Rg.BOOT_STATUS_LBIST_FAILS * 128
  else if c ≤ 0x18 then s.get2 Rg.FT_FRAME_LO Rg.FT_FRAME_HI / 2 ^ (16 * (c - 0x15)) % 2 ^ 16
  else 0xFFFF

/-- A word, low byte first. -/
def word2 (v : Nat) : List Nat := [v % 256, v / 256 % 256]

/-- The data bytes that a transaction returns from its snapshot. -/
def State.tmData (s : State) (r : SmbReq) : List Nat :=
  match r.kind with
  | .write => []
  | .readWord => word2 (s.tmWord r.code.toNat)
  | .blockRead =>
    if r.code = 0x80 then 50 :: ((List.range 25).map (fun c => word2 (s.tmWord c))).flatten else word2 0xFFFF

/-- One byte into the CRC-8 of SMBus, x⁸ + x² + x + 1, bit 7 first. -/
def smbCrc (c b : Nat) : Nat :=
  (List.range 8).foldl (fun c _ => Nat.xor (c * 2 % 256) (if 128 ≤ c then 7 else 0)) (Nat.xor c b)

/-- The PEC of a read: the CRC-8 over the address with its write bit, the command byte, the address with its read bit and the
data (R475). [DEDUCED, unsafe: assumption 100] -/
def smbPec (addr code : Nat) (data : List Nat) : Nat := ([addr * 2, code, addr * 2 + 1] ++ data).foldl smbCrc 0

/-- The bytes that a transaction returns: its data and, where the host reads it, the PEC (R475).
[DEDUCED, unsafe: assumption 100] -/
def State.tmBytes (s : State) (r : SmbReq) : List Nat :=
  let d := s.tmData r
  if r.kind = .write ∨ r.pec = .absent then d else d ++ [smbPec r.addr.toNat r.code.toNat d]

/-- Whether the PEC of a transaction counts as an error: it is bad, or it is asked for and absent (R475, R486). -/
def State.tmBad (s : State) (r : SmbReq) : Bool :=
  r.pec == .bad || (r.pec == .absent && s.flag Rg.TM_SMB_PEC_REQ && r.kind != .write)

/-- SMBUS_TRANSACTION: the target takes a snapshot at the command byte and answers from it (R475, R476, R501).
[DEDUCED, unsafe: assumption 100] -/
def execSmbusTransaction (r : SmbReq) (t : Telemetry) (s : State) : Host.Outcome State Fault Refusal :=
  act s fun s =>
    if ¬ s.flag Rg.TM_SMB_EN ∨ r.addr.toNat ≠ s.get Rg.TM_SMB_ADDR then s.emit (.smbus false [])
    else
      let s := { s.sense t.temps with supplies := t.supplies.toList.map BitVec.toNat, power := t.power.toNat }
      let s := if s.tmBad r then s.bump Rg.TM_SMB_ERR_CNT else s
      s.emit (.smbus true (s.tmBytes r))

/-- SMBUS_TIMEOUT: the clock has been low for 25 ms: the bus is released (R475, R486). -/
def execSmbusTimeout (s : State) : Host.Outcome State Fault Refusal := act s fun s => s.bump Rg.TM_SMB_ERR_CNT

/-! ### JTAG (R477, R478, R496) -/

/-- The instruction of a code of the 8-bit instruction register; every code without one selects BYPASS. -/
def jtagOf (c : BitVec 8) : JtagInsn :=
  match c.toNat with
  | 0x01 => .idcode
  | 0x02 => .samplePreload
  | 0x03 => .extest
  | 0x04 => .extestPulse
  | 0x05 => .extestTrain
  | 0x06 => .clamp
  | 0x07 => .highz
  | 0x20 => .dbgacc
  | _ => .bypass

/-- The life-cycle state in force is RETIRED (R462). -/
def State.inRetired (s : State) : Bool := s.lcForce == 3

/-- An instruction code is loaded. In RETIRED DBGACC does not work, and the code selects BYPASS.
[DEDUCED, unsafe: assumption 101] -/
def State.irLoad (s : State) (c : BitVec 8) : State :=
  match jtagOf c with
  | .dbgacc =>
    if s.inRetired then { s with jtag := .bypass }
    else { s with jtag := .dbgacc }.modTriad (fun t => { t with dbgSel := true })
  | i => { s with jtag := i }

/-- BYPASS: a code that stands for no other instruction selects the 1-bit register. -/
def execBypass (c : BitVec 8) (s : State) : Host.Outcome State Fault Refusal :=
  always s fun s => (if jtagOf c = .bypass then s.irLoad c else s)

/-- IDCODE: the 32-bit register is selected and captured: version 1, part 0x8191, manufacturer 0x0D1. -/
def execIdcode (s : State) : Host.Outcome State Fault Refusal :=
  always s fun s => ((s.irLoad 0x01).emit (.idcode 0x181911A3))

/-- A boundary instruction is selected, and an Update-DR leaves `cells` in the boundary register.
[DEDUCED, unsafe: assumption 101] -/
def State.boundaryLoad (s : State) (c : BitVec 8) (cells : List Bool) : State := { s.irLoad c with bscan := cells }

/-- The levels that the device gives its output pins, in one half of a crossing. -/
def State.devicePins (s : State) (refHigh : Bool) : Config.PinLevels :=
  { verdict := s.verdictPins refHigh, timers := (List.range 8).map s.tmrOut, faultLow := s.faultLow, wakeLow := s.wakeLow,
    alarmLow := s.calAlarmLow }

/-- The levels of the output pins at the balls: the device's, the boundary register's under EXTEST and CLAMP, and none under
HIGHZ (R477). [DESIGN CHOICE, safe: assumption 135] -/
def State.balls (s : State) (refHigh : Bool) : Option Config.PinLevels :=
  if s.jtag.ownPins then some (s.devicePins refHigh)
  else if s.jtag = .highz then none
  else Config.boundaryPins s.bscan

/-- SAMPLE_PRELOAD: the boundary register is selected, and Capture-DR takes the levels of the pins, which stay with the device.
[DESIGN CHOICE, safe: assumption 135] -/
def execSamplePreload (cells : List Bool) (s : State) : Host.Outcome State Fault Refusal :=
  always s fun s =>
    let (h, t) := s.fresh 2
    (t.boundaryLoad 0x02 cells).emit (.sampled (s.devicePins (h == 1)))

/-- EXTEST: the pins are driven from the boundary register. -/
def execExtest (cells : List Bool) (s : State) : Host.Outcome State Fault Refusal :=
  always s fun s => (s.boundaryLoad 0x03 cells)

/-- EXTEST_PULSE: the pulse test of IEEE 1149.6 on lane and PCIe pins. -/
def execExtestPulse (cells : List Bool) (s : State) : Host.Outcome State Fault Refusal :=
  always s fun s => (s.boundaryLoad 0x04 cells)

/-- EXTEST_TRAIN: the train test of IEEE 1149.6 on lane and PCIe pins. -/
def execExtestTrain (cells : List Bool) (s : State) : Host.Outcome State Fault Refusal :=
  always s fun s => (s.boundaryLoad 0x05 cells)

/-- CLAMP_INSTRUCTION: the 1-bit register is selected while the pins hold the boundary values. -/
def execClampInstruction (s : State) : Host.Outcome State Fault Refusal :=
  always s fun s => (s.irLoad 0x06)

/-- HIGHZ: outputs are in high impedance. -/
def execHighz (s : State) : Host.Outcome State Fault Refusal :=
  always s fun s => (s.irLoad 0x07)

/-- TAP_RESET: TRST_N is low for `State.trstMc` mc; where its filter passes it, it resets the TAP and its instruction register,
which IEEE 1149.1 leaves at IDCODE (R496). The length of the next pulse is a free value.
[DEDUCED, unsafe: assumption 101; DESIGN CHOICE, unsafe: assumption 130] -/
def execTapReset (s : State) : Host.Outcome State Fault Refusal :=
  always s fun s =>
    let (next, t) := s.fresh 256
    { t with trstMc := next }.whenPassed 4 s.trstMc fun s => { s with jtag := .idcode }

/-- The access of an Update-DR: its matrix code and the data read. In FIELD, writes and reads with effect complete with
code 4 (R478). -/
def State.dbgAccess (s : State) (r : DbgReq) : (Nat × Nat) × State :=
  let n := if r.size8 then 8 else 4
  if s.inField ∧ (r.write ∨ r.effect) then ((4, 0), s)
  else if r.write then
    match s.busPut 2 r.addr.toNat (leBytes n r.data.toNat) with
    | (c, s) => ((c, 0), s)
  else
    match s.busGet 2 r.addr.toNat n (!r.effect) with
    | (.ok bs, s) => ((0, leNat bs), s)
    | (.error c, s) => ((c, 0), s)

/-- DBGACC: the register is selected; Capture-DR returns the previous result, and Update-DR makes one access of master 2
(R478). In RETIRED it does not work, and while the device is in reset no access is made.
[DEDUCED, unsafe: assumption 101] -/
def State.dbgAcc (s : State) (r : DbgReq) : State :=
  let s := s.irLoad 0x20
  if s.inRetired ∨ s.held then s
  else
    let s := s.emit (.dbgacc s.dbgRes.err s.dbgRes.done s.dbgRes.data)
    match (s.memUpset r.up).dbgAccess r with
    | ((c, v), s) => { s with dbgRes := { err := c, done := true, data := v } }.respond 2 c v

@[inherit_doc State.dbgAcc]
def execDbgacc (r : DbgReq) (s : State) : Host.Outcome State Fault Refusal :=
  always s fun s => (s.dbgAcc r).romRun

end Sys2Proof.Machine
end

