-- ==== Sys2Proof/Machine/Dispatch.lean ====
section
/-! DEFINITION. The dispatch: one arm per command, each one direct call of its meaning. -/

namespace Sys2Proof.Machine

/-- The effect of a command on everything but the queue. -/
def exec (i : Instr) (s : State) : Host.Outcome State Fault Refusal :=
  match i with
  | .lockReq m v => Sys2Proof.Machine.execLockReq m v s
  | .refMeasureDone khz => Sys2Proof.Machine.execRefMeasureDone khz s
  | .pllLockDone => Sys2Proof.Machine.execPllLockDone s
  | .pllLockTimeout => Sys2Proof.Machine.execPllLockTimeout s
  | .fsyncMarker => Sys2Proof.Machine.execFsyncMarker s
  | .crossingTick => Sys2Proof.Machine.execCrossingTick s
  | .frameTick => Sys2Proof.Machine.execFrameTick s
  | .checkpointTrailerWrite n => Sys2Proof.Machine.execCheckpointTrailerWrite n s
  | .frameProgramStart => Sys2Proof.Machine.execFrameProgramStart s
  | .deadlineGuard => Sys2Proof.Machine.execDeadlineGuard s
  | .verdictAssembly => Sys2Proof.Machine.execVerdictAssembly s
  | .sillageWrite => Sys2Proof.Machine.execSillageWrite s
  | .verdictFrameSend => Sys2Proof.Machine.execVerdictFrameSend s
  | .refLoss => Sys2Proof.Machine.execRefLoss s
  | .unlock m v => Sys2Proof.Machine.execUnlock m v s
  | .evalEnWrite m v => Sys2Proof.Machine.execEvalEnWrite m v s
  | .registerWrite m a wide v => Sys2Proof.Machine.execRegisterWrite m a wide v s
  | .rcRead m a wide => Sys2Proof.Machine.execRcRead m a wide s
  | .peekRead m a last up => Sys2Proof.Machine.execPeekRead m a last up s
  | .flitReceive l f fec => Sys2Proof.Machine.execFlitReceive l f fec s
  | .saonjoFrameAccept l vc up => Sys2Proof.Machine.execSaonjoFrameAccept l vc up s
  | .irEnableWrite m v => Sys2Proof.Machine.execIrEnableWrite m v s
  | .storeRequest bc reqs up => Sys2Proof.Machine.execStoreRequest bc reqs up s
  | .eccWriteback => Sys2Proof.Machine.execEccWriteback s
  | .scrubAccess g bank row up => Sys2Proof.Machine.execScrubAccess g bank row up s
  | .scrubLate => Sys2Proof.Machine.execScrubLate s
  | .rotationStepStart => Sys2Proof.Machine.execRotationStepStart s
  | .rotStepCmd m v => Sys2Proof.Machine.execRotStepCmd m v s
  | .rotTargetedCmd m log => Sys2Proof.Machine.execRotTargetedCmd m log s
  | .rotationCopyDone => Sys2Proof.Machine.execRotationCopyDone s
  | .rotationTestStart => Sys2Proof.Machine.execRotationTestStart s
  | .rotationTestDone pass => Sys2Proof.Machine.execRotationTestDone pass s
  | .accordBegin n => Sys2Proof.Machine.execAccordBegin n s
  | .accordFinish n => Sys2Proof.Machine.execAccordFinish n s
  | .midVectorFault n up => Sys2Proof.Machine.execMidVectorFault n up s
  | .queueStoreAllocate n err => Sys2Proof.Machine.execQueueStoreAllocate n err s
  | .vAdd n f => Sys2Proof.Machine.execVAdd n f s
  | .vSub n f => Sys2Proof.Machine.execVSub n f s
  | .vMin n f => Sys2Proof.Machine.execVMin n f s
  | .vMax n f => Sys2Proof.Machine.execVMax n f s
  | .abs n f => Sys2Proof.Machine.execAbs n f s
  | .neg n f => Sys2Proof.Machine.execNeg n f s
  | .absdiff n f => Sys2Proof.Machine.execAbsdiff n f s
  | .avg n f => Sys2Proof.Machine.execAvg n f s
  | .clamp n f => Sys2Proof.Machine.execClamp n f s
  | .mov n f => Sys2Proof.Machine.execMov n f s
  | .raw n f => Sys2Proof.Machine.execRaw n f s
  | .sel n f => Sys2Proof.Machine.execSel n f s
  | .vAnd n f => Sys2Proof.Machine.execVAnd n f s
  | .vOr n f => Sys2Proof.Machine.execVOr n f s
  | .vXor n f => Sys2Proof.Machine.execVXor n f s
  | .vAndn n f => Sys2Proof.Machine.execVAndn n f s
  | .not n f => Sys2Proof.Machine.execNot n f s
  | .vShl n f => Sys2Proof.Machine.execVShl n f s
  | .vShr n f => Sys2Proof.Machine.execVShr n f s
  | .bfx n f => Sys2Proof.Machine.execBfx n f s
  | .vMul n f => Sys2Proof.Machine.execVMul n f s
  | .vMulh n f => Sys2Proof.Machine.execVMulh n f s
  | .mulw n f => Sys2Proof.Machine.execMulw n f s
  | .mac n f => Sys2Proof.Machine.execMac n f s
  | .macw n f => Sys2Proof.Machine.execMacw n f s
  | .cmpeq n f => Sys2Proof.Machine.execCmpeq n f s
  | .cmpne n f => Sys2Proof.Machine.execCmpne n f s
  | .cmplt n f => Sys2Proof.Machine.execCmplt n f s
  | .cmple n f => Sys2Proof.Machine.execCmple n f s
  | .cmpgt n f => Sys2Proof.Machine.execCmpgt n f s
  | .cmpge n f => Sys2Proof.Machine.execCmpge n f s
  | .fadd n f => Sys2Proof.Machine.execFadd n f s
  | .fsub n f => Sys2Proof.Machine.execFsub n f s
  | .fmul n f => Sys2Proof.Machine.execFmul n f s
  | .fma n f => Sys2Proof.Machine.execFma n f s
  | .fmin n f => Sys2Proof.Machine.execFmin n f s
  | .fmax n f => Sys2Proof.Machine.execFmax n f s
  | .fabs n f => Sys2Proof.Machine.execFabs n f s
  | .fneg n f => Sys2Proof.Machine.execFneg n f s
  | .cvt n f => Sys2Proof.Machine.execCvt n f s
  | .tlu n f => Sys2Proof.Machine.execTlu n f s
  | .twr n f => Sys2Proof.Machine.execTwr n f s
  | .vDiv n f => Sys2Proof.Machine.execVDiv n f s
  | .sqrt n f => Sys2Proof.Machine.execSqrt n f s
  | .rsqrt n f => Sys2Proof.Machine.execRsqrt n f s
  | .rsum n f => Sys2Proof.Machine.execRsum n f s
  | .rmin n f => Sys2Proof.Machine.execRmin n f s
  | .rmax n f => Sys2Proof.Machine.execRmax n f s
  | .rand n f => Sys2Proof.Machine.execRand n f s
  | .vRor n f => Sys2Proof.Machine.execVRor n f s
  | .mand n f => Sys2Proof.Machine.execMand n f s
  | .mor n f => Sys2Proof.Machine.execMor n f s
  | .mxor n f => Sys2Proof.Machine.execMxor n f s
  | .mandn n f => Sys2Proof.Machine.execMandn n f s
  | .mnot n f => Sys2Proof.Machine.execMnot n f s
  | .mfill n f => Sys2Proof.Machine.execMfill n f s
  | .mpop n f => Sys2Proof.Machine.execMpop n f s
  | .mfirst n f => Sys2Proof.Machine.execMfirst n f s
  | .compress n f => Sys2Proof.Machine.execCompress n f s
  | .expand n f => Sys2Proof.Machine.execExpand n f s
  | .ld n f => Sys2Proof.Machine.execLd n f s
  | .ldg n f => Sys2Proof.Machine.execLdg n f s
  | .st n f => Sys2Proof.Machine.execSt n f s
  | .sts n f => Sys2Proof.Machine.execSts n f s
  | .stc n f => Sys2Proof.Machine.execStc n f s
  | .add u insn => Sys2Proof.Machine.execAdd u insn s
  | .addi u insn => Sys2Proof.Machine.execAddi u insn s
  | .sub u insn => Sys2Proof.Machine.execSub u insn s
  | .and u insn => Sys2Proof.Machine.execAnd u insn s
  | .andi u insn => Sys2Proof.Machine.execAndi u insn s
  | .or u insn => Sys2Proof.Machine.execOr u insn s
  | .ori u insn => Sys2Proof.Machine.execOri u insn s
  | .xor u insn => Sys2Proof.Machine.execXor u insn s
  | .xori u insn => Sys2Proof.Machine.execXori u insn s
  | .andn u insn => Sys2Proof.Machine.execAndn u insn s
  | .shl u insn => Sys2Proof.Machine.execShl u insn s
  | .shli u insn => Sys2Proof.Machine.execShli u insn s
  | .shr u insn => Sys2Proof.Machine.execShr u insn s
  | .shri u insn => Sys2Proof.Machine.execShri u insn s
  | .sra u insn => Sys2Proof.Machine.execSra u insn s
  | .srai u insn => Sys2Proof.Machine.execSrai u insn s
  | .slt u insn => Sys2Proof.Machine.execSlt u insn s
  | .slti u insn => Sys2Proof.Machine.execSlti u insn s
  | .sltu u insn => Sys2Proof.Machine.execSltu u insn s
  | .sltiu u insn => Sys2Proof.Machine.execSltiu u insn s
  | .min u insn => Sys2Proof.Machine.execMin u insn s
  | .max u insn => Sys2Proof.Machine.execMax u insn s
  | .minu u insn => Sys2Proof.Machine.execMinu u insn s
  | .maxu u insn => Sys2Proof.Machine.execMaxu u insn s
  | .ror u insn => Sys2Proof.Machine.execRor u insn s
  | .adds u insn => Sys2Proof.Machine.execAdds u insn s
  | .subs u insn => Sys2Proof.Machine.execSubs u insn s
  | .clz u insn => Sys2Proof.Machine.execClz u insn s
  | .popc u insn => Sys2Proof.Machine.execPopc u insn s
  | .bswap u insn => Sys2Proof.Machine.execBswap u insn s
  | .sextb u insn => Sys2Proof.Machine.execSextb u insn s
  | .sexth u insn => Sys2Proof.Machine.execSexth u insn s
  | .lui u insn => Sys2Proof.Machine.execLui u insn s
  | .mul u insn => Sys2Proof.Machine.execMul u insn s
  | .mulh u insn => Sys2Proof.Machine.execMulh u insn s
  | .mulhu u insn => Sys2Proof.Machine.execMulhu u insn s
  | .div u insn => Sys2Proof.Machine.execDiv u insn s
  | .divu u insn => Sys2Proof.Machine.execDivu u insn s
  | .rem u insn => Sys2Proof.Machine.execRem u insn s
  | .remu u insn => Sys2Proof.Machine.execRemu u insn s
  | .longOpComplete u => Sys2Proof.Machine.execLongOpComplete u s
  | .lb u insn => Sys2Proof.Machine.execLb u insn s
  | .lbu u insn => Sys2Proof.Machine.execLbu u insn s
  | .lh u insn => Sys2Proof.Machine.execLh u insn s
  | .lhu u insn => Sys2Proof.Machine.execLhu u insn s
  | .lw u insn => Sys2Proof.Machine.execLw u insn s
  | .dld u insn => Sys2Proof.Machine.execDld u insn s
  | .sb u insn => Sys2Proof.Machine.execSb u insn s
  | .sh u insn => Sys2Proof.Machine.execSh u insn s
  | .sw u insn => Sys2Proof.Machine.execSw u insn s
  | .dst u insn => Sys2Proof.Machine.execDst u insn s
  | .loadDataReturn u => Sys2Proof.Machine.execLoadDataReturn u s
  | .ll u insn => Sys2Proof.Machine.execLl u insn s
  | .sc u insn => Sys2Proof.Machine.execSc u insn s
  | .llLockTimeout u => Sys2Proof.Machine.execLlLockTimeout u s
  | .storeBufferIssue u => Sys2Proof.Machine.execStoreBufferIssue u s
  | .beq u insn => Sys2Proof.Machine.execBeq u insn s
  | .bne u insn => Sys2Proof.Machine.execBne u insn s
  | .blt u insn => Sys2Proof.Machine.execBlt u insn s
  | .bge u insn => Sys2Proof.Machine.execBge u insn s
  | .bltu u insn => Sys2Proof.Machine.execBltu u insn s
  | .bgeu u insn => Sys2Proof.Machine.execBgeu u insn s
  | .j u insn => Sys2Proof.Machine.execJ u insn s
  | .call u insn => Sys2Proof.Machine.execCall u insn s
  | .jr u insn => Sys2Proof.Machine.execJr u insn s
  | .callr u insn => Sys2Proof.Machine.execCallr u insn s
  | .ret u insn => Sys2Proof.Machine.execRet u insn s
  | .nop u _i => Sys2Proof.Machine.execNop u _i s
  | .fend u _i cc => Sys2Proof.Machine.execFend u _i cc s
  | .ifence u _i => Sys2Proof.Machine.execIfence u _i s
  | .pflush u _i => Sys2Proof.Machine.execPflush u _i s
  | .pbar u _i => Sys2Proof.Machine.execPbar u _i s
  | .pallow u _i => Sys2Proof.Machine.execPallow u _i s
  | .sync u _i => Sys2Proof.Machine.execSync u _i s
  | .mode u insn => Sys2Proof.Machine.execMode u insn s
  | .rdst u insn => Sys2Proof.Machine.execRdst u insn s
  | .iprime u insn => Sys2Proof.Machine.execIprime u insn s
  | .rdrs u insn => Sys2Proof.Machine.execRdrs u insn s
  | .erelease u _i => Sys2Proof.Machine.execErelease u _i s
  | .eret u _i => Sys2Proof.Machine.execEret u _i s
  | .trap u insn => Sys2Proof.Machine.execTrap u insn s
  | .brk u _i => Sys2Proof.Machine.execBrk u _i s
  | .setvl u insn => Sys2Proof.Machine.execSetvl u insn s
  | .getvl u insn => Sys2Proof.Machine.execGetvl u insn s
  | .vget u insn => Sys2Proof.Machine.execVget u insn s
  | .vput u insn => Sys2Proof.Machine.execVput u insn s
  | .dsetw u insn => Sys2Proof.Machine.execDsetw u insn s
  | .dgetw u insn => Sys2Proof.Machine.execDgetw u insn s
  | .rep u insn => Sys2Proof.Machine.execRep u insn s
  | .repi u insn => Sys2Proof.Machine.execRepi u insn s
  | .icacheFill u par => Sys2Proof.Machine.execIcacheFill u par s
  | .ccopy u insn => Sys2Proof.Machine.execCcopy u insn s
  | .cclip u insn => Sys2Proof.Machine.execCclip u insn s
  | .cdrop u insn => Sys2Proof.Machine.execCdrop u insn s
  | .ctype u insn => Sys2Proof.Machine.execCtype u insn s
  | .cseal u insn => Sys2Proof.Machine.execCseal u insn s
  | .cunseal u insn => Sys2Proof.Machine.execCunseal u insn s
  | .cget u insn => Sys2Proof.Machine.execCget u insn s
  | .cclr u insn => Sys2Proof.Machine.execCclr u insn s
  | .dcall u insn => Sys2Proof.Machine.execDcall u insn s
  | .dret u insn => Sys2Proof.Machine.execDret u insn s
  | .cld u insn => Sys2Proof.Machine.execCld u insn s
  | .cst u insn => Sys2Proof.Machine.execCst u insn s
  | .eget u insn => Sys2Proof.Machine.execEget u insn s
  | .eput u insn => Sys2Proof.Machine.execEput u insn s
  | .di u insn => Sys2Proof.Machine.execDi u insn s
  | .ei u insn => Sys2Proof.Machine.execEi u insn s
  | .csvget u insn => Sys2Proof.Machine.execCsvget u insn s
  | .csvput u insn => Sys2Proof.Machine.execCsvput u insn s
  | .exceptionEntry n => Sys2Proof.Machine.execExceptionEntry n s
  | .veIrqSet m n v => Sys2Proof.Machine.execVeIrqSet m n v s
  | .triadInterruptEntry late => Sys2Proof.Machine.execTriadInterruptEntry late s
  | .triadFaultEntry => Sys2Proof.Machine.execTriadFaultEntry s
  | .nmiEntry pin => Sys2Proof.Machine.execNmiEntry pin s
  | .swInterruptSet m n v => Sys2Proof.Machine.execSwInterruptSet m n v s
  | .registerDissent ws cmp => Sys2Proof.Machine.execRegisterDissent ws cmp s
  | .signatureCompare sig => Sys2Proof.Machine.execSignatureCompare sig s
  | .resyncStart => Sys2Proof.Machine.execResyncStart s
  | .resyncQuiesceDone => Sys2Proof.Machine.execResyncQuiesceDone s
  | .resyncQuiesceTimeout => Sys2Proof.Machine.execResyncQuiesceTimeout s
  | .resyncCopyDone => Sys2Proof.Machine.execResyncCopyDone s
  | .resyncCheck crc => Sys2Proof.Machine.execResyncCheck crc s
  | .resyncDone => Sys2Proof.Machine.execResyncDone s
  | .voterInject m v => Sys2Proof.Machine.execVoterInject m v s
  | .matrixRequest m r => Sys2Proof.Machine.execMatrixRequest m r s
  | .vaultWipeCmd m v => Sys2Proof.Machine.execVaultWipeCmd m v s
  | .tamperEvent cause => Sys2Proof.Machine.execTamperEvent cause s
  | .vaultWipeDone => Sys2Proof.Machine.execVaultWipeDone s
  | .pairLoWrite m p v => Sys2Proof.Machine.execPairLoWrite m p v s
  | .pairHiCommit m p v => Sys2Proof.Machine.execPairHiCommit m p v s
  | .timerTick => Sys2Proof.Machine.execTimerTick s
  | .timerRestart m n v => Sys2Proof.Machine.execTimerRestart m n v s
  | .capPop m n v => Sys2Proof.Machine.execCapPop m n v s
  | .outSet m n v => Sys2Proof.Machine.execOutSet m n v s
  | .outClr m n v => Sys2Proof.Machine.execOutClr m n v s
  | .timerCapture pin edge => Sys2Proof.Machine.execTimerCapture pin edge s
  | .calTick => Sys2Proof.Machine.execCalTick s
  | .calTrim => Sys2Proof.Machine.execCalTrim s
  | .calSetDone => Sys2Proof.Machine.execCalSetDone s
  | .oscFail => Sys2Proof.Machine.execOscFail s
  | .crcData8 m u v => Sys2Proof.Machine.execCrcData8 m u v s
  | .crcData16 m u v => Sys2Proof.Machine.execCrcData16 m u v s
  | .crcData32 m u v => Sys2Proof.Machine.execCrcData32 m u v s
  | .crcAbsorbDone u => Sys2Proof.Machine.execCrcAbsorbDone u s
  | .crcStart m u v => Sys2Proof.Machine.execCrcStart m u v s
  | .crcCheck m u v => Sys2Proof.Machine.execCrcCheck m u v s
  | .clearAll m n v => Sys2Proof.Machine.execClearAll m n v s
  | .tagRecord n t => Sys2Proof.Machine.execTagRecord n t s
  | .loaderItem up => Sys2Proof.Machine.execLoaderItem up s
  | .sweepPassStart => Sys2Proof.Machine.execSweepPassStart s
  | .sweepVisit ch up => Sys2Proof.Machine.execSweepVisit ch up s
  | .tableRecordWrite ch up => Sys2Proof.Machine.execTableRecordWrite ch up s
  | .orphanMarkingDone => Sys2Proof.Machine.execOrphanMarkingDone s
  | .reinstated => Sys2Proof.Machine.execReinstated s
  | .ctCmdGo m v => Sys2Proof.Machine.execCtCmdGo m v s
  | .cmdDone => Sys2Proof.Machine.execCmdDone s
  | .qPushLen m n v err => Sys2Proof.Machine.execQPushLen m n v err s
  | .qPushData m n v up => Sys2Proof.Machine.execQPushData m n v up s
  | .queuePop m n v err => Sys2Proof.Machine.execQueuePop m n v err s
  | .queueFlush m n v => Sys2Proof.Machine.execQueueFlush m n v s
  | .queueEnable m n v => Sys2Proof.Machine.execQueueEnable m n v s
  | .queueDisable m n v => Sys2Proof.Machine.execQueueDisable m n v s
  | .itemTorn n => Sys2Proof.Machine.execItemTorn n s
  | .freeze m v => Sys2Proof.Machine.execFreeze m v s
  | .sillageUnfreeze m v => Sys2Proof.Machine.execSillageUnfreeze m v s
  | .readoutEnable m r v => Sys2Proof.Machine.execReadoutEnable m r v s
  | .readoutItemSend r up => Sys2Proof.Machine.execReadoutItemSend r up s
  | .readoutResume m r v => Sys2Proof.Machine.execReadoutResume m r v s
  | .migrate m v => Sys2Proof.Machine.execMigrate m v s
  | .engineRetire m v => Sys2Proof.Machine.execEngineRetire m v s
  | .engineReturn m v => Sys2Proof.Machine.execEngineReturn m v s
  | .copyAbandon slot byTarget sent => Sys2Proof.Machine.execCopyAbandon slot byTarget sent s
  | .checkpointRestore slot => Sys2Proof.Machine.execCheckpointRestore slot s
  | .sreset m n v => Sys2Proof.Machine.execSreset m n v s
  | .drydownTierEnter mv => Sys2Proof.Machine.execDrydownTierEnter mv s
  | .drydownTierLeave mv => Sys2Proof.Machine.execDrydownTierLeave mv s
  | .drydownForce m tier v => Sys2Proof.Machine.execDrydownForce m tier v s
  | .enginePowerReady => Sys2Proof.Machine.execEnginePowerReady s
  | .finalSag mv us ops => Sys2Proof.Machine.execFinalSag mv us ops s
  | .supplyLow supply mv => Sys2Proof.Machine.execSupplyLow supply mv s
  | .porst ns => Sys2Proof.Machine.execPorst ns s
  | .resetRelease b => Sys2Proof.Machine.execResetRelease b s
  | .laneBlockReset m index => Sys2Proof.Machine.execLaneBlockReset m index s
  | .readoutBlockReset m index => Sys2Proof.Machine.execReadoutBlockReset m index s
  | .crcBlockReset m index => Sys2Proof.Machine.execCrcBlockReset m index s
  | .flashBlockReset m index => Sys2Proof.Machine.execFlashBlockReset m index s
  | .bootConfirm m v => Sys2Proof.Machine.execBootConfirm m v s
  | .bootGo m v => Sys2Proof.Machine.execBootGo m v s
  | .hostLoadGo m v up => Sys2Proof.Machine.execHostLoadGo m v up s
  | .advance m v => Sys2Proof.Machine.execAdvance m v s
  | .lcRetire m v => Sys2Proof.Machine.execLcRetire m v s
  | .revoke m v => Sys2Proof.Machine.execRevoke m v s
  | .program m v => Sys2Proof.Machine.execProgram m v s
  | .svnIncrement m v => Sys2Proof.Machine.execSvnIncrement m v s
  | .fuseChangeDone => Sys2Proof.Machine.execFuseChangeDone s
  | .journalEnable m v info => Sys2Proof.Machine.execJournalEnable m v info s
  | .journalScanDone => Sys2Proof.Machine.execJournalScanDone s
  | .jnlPushGo m v => Sys2Proof.Machine.execJnlPushGo m v s
  | .journalRecordWrite => Sys2Proof.Machine.execJournalRecordWrite s
  | .flashOperationDone ok => Sys2Proof.Machine.execFlashOperationDone ok s
  | .sectorPrepare => Sys2Proof.Machine.execSectorPrepare s
  | .bucketLeak => Sys2Proof.Machine.execBucketLeak s
  | .lbist m t => Sys2Proof.Machine.execLbist m t s
  | .mbistSpare m t => Sys2Proof.Machine.execMbistSpare m t s
  | .mbistRotation m t => Sys2Proof.Machine.execMbistRotation m t s
  | .loopback m t => Sys2Proof.Machine.execLoopback m t s
  | .lbistDone sig => Sys2Proof.Machine.execLbistDone sig s
  | .mbistDone pass => Sys2Proof.Machine.execMbistDone pass s
  | .loopbackDone errors => Sys2Proof.Machine.execLoopbackDone errors s
  | .autoLbist => Sys2Proof.Machine.execAutoLbist s
  | .testAbort => Sys2Proof.Machine.execTestAbort s
  | .laneEnable m l v => Sys2Proof.Machine.execLaneEnable m l v s
  | .lossOfLink l cause => Sys2Proof.Machine.execLossOfLink l cause s
  | .scriptResult l pass aligned tx rx snr => Sys2Proof.Machine.execScriptResult l pass aligned tx rx snr s
  | .scriptTimeout l => Sys2Proof.Machine.execScriptTimeout l s
  | .adaptTick l => Sys2Proof.Machine.execAdaptTick l s
  | .laneRetire m l v => Sys2Proof.Machine.execLaneRetire m l v s
  | .laneReturn m l v => Sys2Proof.Machine.execLaneReturn m l v s
  | .autoReturn l => Sys2Proof.Machine.execAutoReturn l s
  | .retrain m l v => Sys2Proof.Machine.execRetrain m l v s
  | .laneTransmitFrame l => Sys2Proof.Machine.execLaneTransmitFrame l s
  | .barAccess r => Sys2Proof.Machine.execBarAccess r s
  | .pciePerst => Sys2Proof.Machine.execPciePerst s
  | .hostExit perst => Sys2Proof.Machine.execHostExit perst s
  | .wakeReq m v => Sys2Proof.Machine.execWakeReq m v s
  | .msiTrig m v => Sys2Proof.Machine.execMsiTrig m v s
  | .smbusTransaction r t => Sys2Proof.Machine.execSmbusTransaction r t s
  | .bypass c => Sys2Proof.Machine.execBypass c s
  | .idcode => Sys2Proof.Machine.execIdcode s
  | .samplePreload cells => Sys2Proof.Machine.execSamplePreload cells s
  | .extest cells => Sys2Proof.Machine.execExtest cells s
  | .extestPulse cells => Sys2Proof.Machine.execExtestPulse cells s
  | .extestTrain cells => Sys2Proof.Machine.execExtestTrain cells s
  | .highz => Sys2Proof.Machine.execHighz s
  | .dbgacc r => Sys2Proof.Machine.execDbgacc r s
  | .engineHalt m n v => Sys2Proof.Machine.execEngineHalt m n v s
  | .engineStep m n v => Sys2Proof.Machine.execEngineStep m n v s
  | .engineResume m n v => Sys2Proof.Machine.execEngineResume m n v s
  | .triadHalt m v => Sys2Proof.Machine.execTriadHalt m v s
  | .triadStep m v => Sys2Proof.Machine.execTriadStep m v s
  | .triadResume m v => Sys2Proof.Machine.execTriadResume m v s
  | .haltEffective u => Sys2Proof.Machine.execHaltEffective u s
  | .lockBreak u => Sys2Proof.Machine.execLockBreak u s
  | .breakpoint n => Sys2Proof.Machine.execBreakpoint n s
  | .clampInstruction => Sys2Proof.Machine.execClampInstruction s
  | .tapReset => Sys2Proof.Machine.execTapReset s
  | .dstateChange d => Sys2Proof.Machine.execDstateChange d s
  | .linkStateChange lstate speed width host => Sys2Proof.Machine.execLinkStateChange lstate speed width host s
  | .smbusTimeout => Sys2Proof.Machine.execSmbusTimeout s
  | .thermalAlert temps => Sys2Proof.Machine.execThermalAlert temps s
  | .crystalStop => Sys2Proof.Machine.execCrystalStop s
  | .backupDomainPowerUp => Sys2Proof.Machine.execBackupDomainPowerUp s
  | .fullTrainingRepeat l => Sys2Proof.Machine.execFullTrainingRepeat l s
  | .sscChangeDone => Sys2Proof.Machine.execSscChangeDone s

end Sys2Proof.Machine
end

