-- ==== Sys2Proof/Machine/Step.lean ====
section
/-! DEFINITION. One step: the command at the front of the queue takes its effect; with no command waiting the block idles
(assumption 5). -/

namespace Sys2Proof.Machine

/-- One step of the block: the front command leaves the queue and has its effect.
[DESIGN CHOICE, unsafe: assumptions 5, 19] -/
def step (s : State) : Host.Outcome State Fault Refusal :=
  match s.pending with
  | [] => .next s
  | c :: rest => exec c { s with pending := rest }

/-- The state with the command that a word spells put at the front of the queue; the state itself where the word spells
none. [DESIGN CHOICE, safe: assumption 6] -/
def State.withFetchWord (s : State) (nbits w : Nat) : State :=
  match decodeTableWord nbits w with
  | some c => { s with pending := c :: s.pending }
  | none => s

end Sys2Proof.Machine
end

