-- ==== Sys2Proof/Safety.lean ====
section
/-! DEFINITION. What claims say of runs: a step completes or stops; the memories keep their canonical form; the commands that
wait are well-formed. -/

namespace Sys2Proof.Machine

/-- The step of a state completes. -/
def Completes (s : State) : Prop := ∃ t, step s = .next t

/-- The step of a state stops the machine. -/
def Stops (s : State) : Prop := (∃ f, step s = .fault f) ∨ ∃ r, step s = .refused r

/-- A table in its one canonical form: keys rising strictly, no entry equal to what an unlisted key reads as. -/
def Tab.canonical {α : Type} [DecidableEq α] (t : Tab α) (d : α) : Bool := Tab.rising t && t.all (fun e => e.2 != d)

/-- The memories of the device are in canonical form: the Interleaved Store, local memory, the vault and the serial flash. -/
def Memory.wf (s : State) : Bool :=
  Tab.canonical s.store 0 && Tab.canonical s.localMem 0 && Tab.canonical s.vault 0 && Tab.canonical s.flash 0xFF

/-- Every command that waits is well-formed. -/
def State.queueWf (s : State) : Bool := s.pending.all Instr.wf

/-- A run of steps, up to the first stop. -/
def runs (s : State) (n : Nat) : Host.Outcome State Fault Refusal :=
  match n with
  | 0 => .next s
  | k + 1 =>
    match step s with
    | .next t => runs t k
    | .fault f => .fault f
    | .refused r => .refused r

/-- A state that no step of a run takes to a stop. -/
def Safe (s : State) : Prop := ∀ n, ∃ t, runs s n = .next t

end Sys2Proof.Machine
end

