-- ==== Sys2Proof/Certificates/Slice0/Obligations.lean ====
section
/-! DEFINITION. The statements about the model, one `Obligations.<Name>` each, with the terms they are said in. The provers
prove or refute them; nothing is proved here. -/

namespace Sys2Proof.Machine

/-- Command `c` completes at `s`, and the next state has a property. -/
def Answers (c : Instr) (s : State) (P : State → Prop) : Prop := ∃ t, exec c s = .next t ∧ P t

/-- Two states differ at most in the register fields listed. -/
def OnlyFields (fs : List Fld) (s t : State) : Prop :=
  t = { s with regs := t.regs } ∧ ∀ g : Fld, g.key ∉ fs.map Fld.key → t.get g = s.get g

/-- A command leaves the state as it is. -/
def Ignored (c : Instr) (s : State) : Prop := exec c s = .next s

/-- Master `m` may write the `n` bytes of the register at `a`: the device is not held in reset, and the windows, the owner
and the last-resort check let the write pass (R351). -/
abbrev MayWrite (s : State) (m a n : Nat) : Prop := s.held = false ∧ s.writeCheck m a n = none

/-- Command `c`, a register write of master `m`, is accepted, and has made `t` of the state. -/
def Accepted (c : Instr) (s : State) (m : Nat) (t : State) : Prop := exec c s = .next (t.respond m 0 0)

/-- Command `c`, a write of the register at `a` by master `m`, is answered with code 4 and changes nothing else (R351). -/
def Refused (c : Instr) (s : State) (m : Nat) : Prop := exec c s = .next (s.respond m 4 0)

/-- The commands that act whether or not the device is held in reset: those that end or start a reset, those of the backup
domain, and those of the test port (R375, R448, R450, R477). -/
def actsWhenHeld : Instr → Bool
  | .calTick | .calTrim | .calSetDone | .oscFail | .backupDomainPowerUp => true
  | .porst _ | .supplyLow _ _ | .crystalStop | .finalSag _ _ _ | .resetRelease _ => true
  | .bypass _ | .idcode | .samplePreload _ | .extest _ | .extestPulse _ | .extestTrain _ | .clampInstruction | .highz => true
  | .tapReset | .dbgacc _ => true
  | _ => false

/-- The register that a command writes: the master, its address and the bytes of the access (R4). Not here are REGISTER_WRITE
and MATRIX_REQUEST, which name an address of their own, and the three commands with more to do than the write: Q_PUSH_DATA,
BOOT_GO and HOST_LOAD_GO. -/
def regTarget : Instr → Option (Nat × Nat × Nat)
  | .lockReq m _ | .unlock m _ | .evalEnWrite m _ => some (m, Rg.FT_CTRL_LOCK_REQ.addr, 4)
  | .irEnableWrite m _ => some (m, Rg.IR_CTRL_ENABLE.addr, 4)
  | .rotStepCmd m _ | .rotTargetedCmd m _ => some (m, Rg.ST_ROT_CMD_GO.addr, 4)
  | .qPushLen m n _ _ => some (m, (Rg.Q_PUSH_LEN n).addr, 4)
  | .queuePop m n _ _ | .queueFlush m n _ => some (m, (Rg.Q_CMD_POP n).addr, 4)
  | .queueEnable m n _ | .queueDisable m n _ => some (m, (Rg.Q_CFG_ENABLE n).addr, 4)
  | .vaultWipeCmd m _ => some (m, Rg.VAULT_CMD_WIPE.addr, 4)
  | .laneBlockReset m _ | .readoutBlockReset m _ | .crcBlockReset m _ | .flashBlockReset m _ => some (m, Rg.RST_BLK_KIND.addr, 4)
  | .advance m _ | .lcRetire m _ | .revoke m _ | .program m _ | .svnIncrement m _ => some (m, Rg.LC_CMD_OP.addr, 4)
  | .bootConfirm m _ => some (m, Rg.BOOT_CONFIRM.addr, 4)
  | .wakeReq m _ => some (m, Rg.HB_WAKE_REQ.addr, 4)
  | .msiTrig m _ => some (m, Rg.HB_MSI_TRIG_GO.addr, 4)
  | .migrate m _ | .engineRetire m _ | .engineReturn m _ => some (m, Rg.EM_CMD_OP.addr, 4)
  | .sreset m n _ => some (m, (Rg.VE_CTRL_SRESET n).addr, 4)
  | .drydownForce m _ _ => some (m, Rg.DD_CTRL_EN.addr, 4)
  | .timerRestart m n _ | .capPop m n _ | .outSet m n _ | .outClr m n _ => some (m, (Rg.TMR_CMD_RESTART n).addr, 4)
  | .pairLoWrite m p _ => some (m, (pairFlds p).1.addr, 4)
  | .pairHiCommit m p _ => some (m, (pairFlds p).2.addr, 4)
  | .crcData8 m u _ => some (m, (Rg.CRC_DATA8 u).addr, 4)
  | .crcData16 m u _ => some (m, (Rg.CRC_DATA16 u).addr, 4)
  | .crcData32 m u _ => some (m, (Rg.CRC_DATA32 u).addr, 4)
  | .crcStart m u _ | .crcCheck m u _ => some (m, (Rg.CRC_CMD_START u).addr, 4)
  | .clearAll m n _ => some (m, (Rg.EC_CTRL_CLEAR_ALL n).addr, 4)
  | .freeze m _ => some (m, Rg.VU_SIL_CFG_FREEZE_ON.addr, 4)
  | .sillageUnfreeze m _ => some (m, Rg.VU_STATUS_FROZEN.addr, 4)
  | .readoutEnable m r _ => some (m, (Rg.RD_CFG_ENABLE r).addr, 4)
  | .readoutResume m r _ => some (m, (Rg.RD_CMD_RESUME r).addr, 4)
  | .voterInject m _ => some (m, Rg.VT_CMD_INJECT.addr, 4)
  | .laneEnable m l _ => some (m, (Rg.LN_CTRL_ENABLE l).addr, 4)
  | .laneRetire m l _ | .laneReturn m l _ | .retrain m l _ => some (m, (Rg.LN_CMD_RETIRE l).addr, 4)
  | .ctCmdGo m _ => some (m, Rg.CT_CMD_LAST.addr, 4)
  | .journalEnable m _ _ => some (m, Rg.JNL_CTRL_ENABLE.addr, 4)
  | .jnlPushGo m _ => some (m, Rg.JNL_PUSH_GO.addr, 4)
  | .lbist m _ | .mbistSpare m _ | .mbistRotation m _ | .loopback m _ => some (m, Rg.BL_CMD_OP.addr, 4)
  | .engineHalt m n _ | .engineStep m n _ | .engineResume m n _ => some (m, (Rg.DBG_CTRL_HALT n).addr, 4)
  | .triadHalt m _ | .triadStep m _ | .triadResume m _ => some (m, Rg.TD_CTRL_HALT.addr, 4)
  | .veIrqSet m n _ => some (m, (Rg.VE_IRQ_PEND n).addr, 4)
  | .swInterruptSet m n _ => some (m, (Rg.IC_SRC_SW n.toNat).addr, 4)
  | _ => none

/-- The last phase and the last crossing of the present frame are over, and its cc 0 is all that is left. -/
abbrev FrameOver (s : State) : Prop := s.ft.phase = 5 ∧ s.ft.inFrame = s.frameF ∧ s.ft.crossOpen = false

/-- The F words of a frame in which every bit holds its default (R28, R246). -/
def defaultWords (s : State) : List Nat :=
  (List.range s.frameF).map fun c => verdictWord (s.get Rg.VU_DEFAULT) s.quality c (s.frameAgo 1)

/-- What slot `k` contributes to trigger bit `b` of crossing `c`: the bit of its partial verdict, or the default where it has
no valid one (R245, R246). -/
def contributes (s : State) (c b k : Nat) : Bool :=
  if s.vu.late.testBit k || s.vu.fault.testBit k then (s.get Rg.VU_DEFAULT).testBit b
  else (s.stNat (s.get Rg.VU_PV_BASE + 128 * k + 2 * c) 2).testBit b

/-- Trigger bit `b` of crossing `c`: the OR, or where `VU_COMBINE` says so the AND, of what the slots of `VU_SLOTSb`
contribute; the default where it names none (R246). -/
def triggerOf (s : State) (c b : Nat) : Bool :=
  let slots := (List.range 64).filter fun k => (s.get (Rg.VU_SLOTS b)).testBit k
  if slots = [] then (s.get Rg.VU_DEFAULT).testBit b
  else if (s.get Rg.VU_COMBINE).testBit b then slots.all (contributes s c b) else slots.any (contributes s c b)

/-- Slot `k`, served by engine `n`, is late at cc W: its program started and has executed no FEND, or its engine is halted
(R22, R24, R442, R483). -/
def lateAt (s : State) (k n : Nat) : Bool :=
  s.veState n != 0 && !(s.dd.lean && !s.leanSlot k) && !s.dd.back.contains k && !s.ft.back.contains k &&
    if (s.eng n).ended then (s.eng n).halted
    else !(s.flag (Rg.VE_STATUS_FENDED n) && s.ft.starts.contains k) && ((s.eng n).halted || s.ft.starts.contains k)

/-- The last of the changes to a field among those staged, which is the one that stands once all have been applied (R26). -/
def LastChange (es : List Staged) (e : Staged) : Prop := ∃ a b, es = a ++ e :: b ∧ ∀ x ∈ b, x.key ≠ e.key

/-- The fields that the timers themselves put into force, by their preload (R370); no change to one of them is staged. -/
def tmrKeys : List Nat :=
  ((List.range 8).map fun n => [Rg.TMR_CMP_LO n, Rg.TMR_CMP_HI n, Rg.TMR_TOP_LO n, Rg.TMR_TOP_HI n].map Fld.key).flatten

/-- Nothing but the router writes the store at the next cc 0, and the headers of the frame buffers lie apart in it (R57, R58):
no verdict item, migration, restore, rotation switch or drydown tier is due. -/
structure QuietStore (s : State) : Prop where
  items : s.vu.cur = none
  migs : s.migReqs = [] ∧ s.copies = [] ∧ s.restores = []
  rot : s.rot = .idle
  tier : s.get Rg.DD_STATUS_TIER = 0 ∧ s.dd.heartDue = false ∧ s.dd.ready = false
  placed : ∀ i : Fin 4, s.bufBase i % 8 = 0 ∧ s.bufBase i + 0x800 ≤ storeTop
  apart : ∀ i j : Fin 4, i ≠ j → s.bufBase i + 0x800 ≤ s.bufBase j ∨ s.bufBase j + 0x800 ≤ s.bufBase i

/-- The cc at which the last phase of a frame comes (R21, R26). -/
def State.lastCc (s : State) : Nat :=
  max s.ft.cc (if s.force Rg.FT_CTRL_EVAL_EN = 0 then s.stagingPoint else s.budgetW + 224)

/-- Header fields of a flit (R423). -/
def flitHdr (f : BitVec 256) : Nat := f.toNat % 2 ^ 16

/-- The first `n` payload bytes of a flit, in order (R423). -/
def flitData (f : BitVec 256) (n : Nat) : List Byte :=
  (List.range n).map fun i => BitVec.ofNat 8 (f.toNat / 2 ^ (16 + 8 * i))

/-- A flit that is in error beyond its FSEQ: NB is 31, or 0 in a flit that is no idle one, or below 30 in one that does not
end its frame; or its frame has not begun (R424). -/
def flitBad (f : BitVec 256) (begun : Bool) : Bool :=
  let h := flitHdr f
  let nb := h / 32 % 32
  (nb == 31) || (nb == 0 && h % 32 != 0) || (nb != 0 && decide (nb < 30) && h / 16 % 2 == 0) ||
    (nb != 0 && h / 8 % 2 == 0 && !begun)

/-- No lane waits for a loopback. -/
abbrev NoLoopWait (s : State) : Prop := ∀ k : Lane, (s.lane k).ret ≠ some .waitLoopback

/-- The flits `fs` carry the words `ws` on virtual channel `vc`, the first of them numbered `q`: 30 bytes each but in the last,
SOF in the first and EOF in the last alone, bytes beyond the last of the frame 0 (R423). -/
def Carries (fs : List (BitVec 256)) (vc q : Nat) (ws : List Nat) : Prop :=
  fs.length = (8 * ws.length + 29) / 30 ∧
  ∀ i, i < fs.length →
    flitHdr (fs.getD i 0) = vc % 8 + (if i = 0 then 8 else 0) + (if i + 1 = fs.length then 16 else 0) +
      min 30 (8 * ws.length - 30 * i) * 32 + (q + i) % 64 * 1024 ∧
    ∀ j, j < 30 → (flitData (fs.getD i 0) 30).getD j 0 = ((ws.map (leBytes 8)).flatten).getD (30 * i + j) 0

/-- The words of a frame that is sent: the trailer that ends them holds the virtual channel's next SEQ and the CRC-32C of what
stands before and of the SEQ (R49). -/
def sentWords (s : State) (l : Nat) (x : TxFrame) : List Nat :=
  let q := Tab.get (s.lane l).txSeq x.vc 0
  x.words ++ [crc32c ((x.words.map (leBytes 8)).flatten ++ leBytes 4 q) + q * 2 ^ 32]

/-- A stream of flits as a number, its first bit at place `n` (R422, R423). -/
def flitsFrom (n : Nat) : List (BitVec 256) → Nat
  | [] => 0
  | f :: r => f.toNat * 2 ^ n + flitsFrom (n + 256) r

/-- The codewords `cs` leave with the flits `fs`: none while FEC_EN is 0; else those that the bits of the flits fill after the bits
that wait, 5,140 to a codeword, and the bits left wait (R422). -/
def CodedAs (s t : State) (l : Lane) (fs : List (BitVec 256)) (cs : List (List Nat)) : Prop :=
  (s.flag (Rg.LN_CTRL_FEC_EN l) = false → cs = [] ∧ (t.lane l).txBits = (s.lane l).txBits) ∧
  (s.flag (Rg.LN_CTRL_FEC_EN l) = true → ∃ n v, n = (s.lane l).txBits.1 + 256 * fs.length ∧
    v = (s.lane l).txBits.2 + flitsFrom (s.lane l).txBits.1 fs ∧ cs.length = n / 5140 ∧
    (∀ i, i < cs.length → cs.getD i [] = rsEncode (symbols 514 (v / 2 ^ (5140 * i)))) ∧
    (t.lane l).txBits = (n % 5140, v / 2 ^ (5140 * (n / 5140))))

/-- The router takes a frame of a lane and virtual channel that is whole, well formed and of good CRC (R69). -/
structure TakesFrame (s : State) (l : Lane) (vc : Fin 8) (f : SFrame) : Prop where
  held : s.held = false
  found : s.rxDone.find? (fun f => f.lane == l.val && f.vc == vc.val) = some f
  enabled : s.flag Rg.IR_CTRL_ENABLE = true
  whole : f.whole = true ∧ 2 ≤ f.words.length
  crc : f.crcOk = true
  form : f.formOk = true
  seq : s.flag Rg.IR_CTRL_SEQ_CHECK = false

/-- The frame is a HIT frame without LAST and SRC_TRUNC, of the frame in collection or of the next one where EARLY_EN is 1, and
buffer `b` of that frame is well placed in a store without error (R48, R53, R58). -/
structure FilesInto (s : State) (f : SFrame) (b : Nat) : Prop where
  hits : f.type = 1 ∧ f.header % 4 = 0
  locked : s.locked = true
  buffer : s.frameDiff f = 0 ∧ b = s.collBuf ∨ s.frameDiff f = 1 ∧ s.flag Rg.IR_CTRL_EARLY_EN = true ∧ b = s.spareBuf
  placed : s.bufBase b % 4096 = 0 ∧ s.bufBase b + 0x800 + 8 * s.bufSlots ≤ storeTop
  good : s.storeErr = []

/-- A well-formed hit of the frame, and the entry of the partition map for its channel (R46, R55). -/
abbrev HitFor (s : State) (hit entry : Nat) : Prop :=
  hit < 2 ^ 64 ∧ hit / 2 ^ 35 % 64 < s.frameF ∧ s.force (pmapFld (hit / 2 ^ 51 % 2 ^ 13)) = entry

/-- Adding 1 to a counter field that holds at its top value. -/
def counted (s : State) (f : Fld) : Nat := min (s.get f + 1) (2 ^ f.w - 1)

/-- The byte enables of a half name some of its 8 bytes and not all. -/
abbrev partHalf (e : Nat) : Prop := 0 < e ∧ e < 255

/-- A request to a word of the store, all bytes enabled, alone at its bank. -/
def wholeReq (a : StoreAgent) (w : Nat) (o : StoreOp) : StoreReq := ⟨a, w, 0xFFFF, o, 0⟩

/-- No parity error of the pointers of a queue waits for a use (R394). -/
abbrev PtrsGood (s : State) (n : Nat) : Prop := Tab.get s.qPtrBad n none = none

/-- The ring word of a queue that counter `c` names holds `v`. -/
abbrev RingHolds (t : State) (n c v : Nat) : Prop := t.stNat (t.qAddr n c) 8 = v

/-- The ring of a queue is well placed and its counters lie below 2N (R223, R226). -/
abbrev RingGood (s : State) (n : Nat) : Prop :=
  s.qOn n = true ∧ s.get (Rg.Q_BASE n) % 256 = 0 ∧ 8 ≤ s.get (Rg.Q_CFG_SIZE_LOG2 n) ∧ s.get (Rg.Q_CFG_SIZE_LOG2 n) ≤ 24 ∧
  (s.q n).head < 2 * s.qN n ∧ (s.q n).alloc < 2 * s.qN n

/-- The event counters of a core: the fields that events change. -/
def EventFld (u : CoreId) (f : Fld) : Prop :=
  match u with
  | .seq n => ∃ k, k < 128 ∧ (f.key = (Rg.EC_LO n k).key ∨ f.key = (Rg.EC_HI_COUNT n k).key ∨ f.key = (Rg.EC_HI_OVF n k).key)
  | .triad => False

/-- Core `u` executes the instruction at its program counter: nothing holds it, nothing comes before it, its line stands in
the line buffer and c0 authorises it, no accord, long operation or other result is under way, and no step or injection waits.
A delay slot or an iteration may be next. -/
abbrev Ready (s : State) (u : CoreId) : Prop :=
  s.mayIssue (coreNo u) = true ∧ s.atBreakpoint (coreNo u) = false ∧
  (s.eng (coreNo u)).coll = [] ∧ (s.eng (coreNo u)).wait = none ∧ (s.eng (coreNo u)).exe = none ∧
  (s.eng (coreNo u)).lands = [] ∧ (s.eng (coreNo u)).dland = none ∧ (s.eng (coreNo u)).long = none ∧ (s.eng (coreNo u)).haltReq = none ∧
  (s.eng (coreNo u)).stepping = false ∧ s.pcAddr (coreNo u) % 4 = 0 ∧
  ((s.eng (coreNo u)).cap 0).unusable permExec (s.pcAddr (coreNo u)) 4 = none ∧
  (u ≠ .triad → s.pcAddr (coreNo u) + 4 ≤ storeTop) ∧ s.icOn (coreNo u) = true ∧
  (s.eng (coreNo u)).lineBuf = some (s.pcAddr (coreNo u) / 64) ∧ (u = .triad → s.triad.inject = [])

/-- The instruction stands in no repetition. -/
abbrev ReadyOnce (s : State) (u : CoreId) : Prop := Ready s u ∧ (s.eng (coreNo u)).rep = none

/-- The instruction stands in no repetition and no delay slot. -/
abbrev ReadyPlain (s : State) (u : CoreId) : Prop := ReadyOnce s u ∧ (s.eng (coreNo u)).branch = none

/-- The engine as an instruction finds it: a lock that has run out is gone (R289). -/
def State.found (s : State) (u : CoreId) : Engine :=
  { s.eng (coreNo u) with locked := (s.eng (coreNo u)).lockHolds }

/-- What retirement at `pc` leaves of an engine beside the instruction's own effect: the address of the last instruction
retired, whether it was a vector instruction or an iteration, and the count since an LL. -/
def Engine.after (e : Engine) (pc : Word) (vec iter : Bool) : Engine :=
  { e with lastPc := pc, lastVec := vec, lastIter := iter, skipBp := false, llAge := e.llAge.map (· + 1) }

/-- Nothing but core `u`, its event counters and the interval of its tagging differs. -/
def OnlyCore (s : State) (u : CoreId) (t : State) : Prop :=
  t = { s with engines := t.engines, regs := t.regs, tagWait := t.tagWait } ∧ (∀ j, j ≠ coreNo u → t.eng j = s.eng j) ∧
  (∀ j, j ≠ coreNo u → Tab.get t.tagWait j 0 = Tab.get s.tagWait j 0) ∧
  ∀ f : Fld, ¬ EventFld u f → t.get f = s.get f

/-- An instruction that is no transfer retires with effect `g` on its engine, and nothing else differs. -/
def Retires (s : State) (u : CoreId) (g : Engine → Engine) (t : State) : Prop :=
  OnlyCore s u t ∧ t.eng (coreNo u) =
    ((g (s.found u)).advance (s.eng (coreNo u)).pc 4).after (s.eng (coreNo u)).pc false (s.eng (coreNo u)).rep.isSome

/-- A transfer retires with effect `g`, and goes to a target; `slot` says that a delay slot comes first in exposed mode. -/
def Goes (s : State) (u : CoreId) (g : Engine → Engine) (target : Word) (slot : Bool) (t : State) : Prop :=
  OnlyCore s u t ∧ t.eng (coreNo u) =
    ((g (s.found u)).transfer (s.eng (coreNo u)).pc target (s.eng (coreNo u)).rstack slot).after (s.eng (coreNo u)).pc
      false false

/-- The instruction raises an exception, and has no other effect. -/
def Raises (s : State) (u : CoreId) (x : Exc) (t : State) : Prop :=
  t = { s with engines := t.engines } ∧ (∀ j, j ≠ coreNo u → t.eng j = s.eng j) ∧
  t.eng (coreNo u) = { s.found u with exc := some x }

/-- A register of the core of an instruction. -/
def State.coreReg (s : State) (u : CoreId) (r : BitVec 5) : Word := (s.eng (coreNo u)).sreg r.toNat

/-- The ALU rows of two registers, with what R264 says of RA's and RB's values. -/
def aluRow : Instr → Option (CoreId × RInsn × (Word → Word → Word))
  | .add u i => some (u, i, fun a b => BitVec.ofNat 32 (a.toNat + b.toNat))
  | .sub u i => some (u, i, fun a b => BitVec.ofInt 32 (a.toInt - b.toInt))
  | .and u i => some (u, i, (· &&& ·))
  | .or u i => some (u, i, (· ||| ·))
  | .xor u i => some (u, i, (· ^^^ ·))
  | .andn u i => some (u, i, fun a b => a &&& ~~~b)
  | .shl u i => some (u, i, fun a b => BitVec.ofNat 32 (a.toNat * 2 ^ (b.toNat % 32)))
  | .shr u i => some (u, i, fun a b => BitVec.ofNat 32 (a.toNat / 2 ^ (b.toNat % 32)))
  | .sra u i => some (u, i, fun a b => BitVec.ofInt 32 (a.toInt / 2 ^ (b.toNat % 32)))
  | .slt u i => some (u, i, fun a b => if a.toInt < b.toInt then 1 else 0)
  | .sltu u i => some (u, i, fun a b => if a.toNat < b.toNat then 1 else 0)
  | .min u i => some (u, i, fun a b => if a.toInt < b.toInt then a else b)
  | .max u i => some (u, i, fun a b => if a.toInt < b.toInt then b else a)
  | .minu u i => some (u, i, fun a b => if a.toNat < b.toNat then a else b)
  | .maxu u i => some (u, i, fun a b => if a.toNat < b.toNat then b else a)
  | .ror u i => some (u, i, fun a b => a.rotateRight (b.toNat % 32))
  | .adds u i => some (u, i, fun a b => BitVec.ofInt 32 (max (-2147483648) (min (a.toInt + b.toInt) 2147483647)))
  | .subs u i => some (u, i, fun a b => BitVec.ofInt 32 (max (-2147483648) (min (a.toInt - b.toInt) 2147483647)))
  | _ => none

/-- The ALU rows of one register, with what R264 says of RA's value. -/
def unaryRow : Instr → Option (CoreId × RInsn × (Word → Word))
  | .clz u i => some (u, i, clz32)
  | .popc u i => some (u, i, popc32)
  | .bswap u i => some (u, i, fun a => a.extractLsb' 0 8 ++ a.extractLsb' 8 8 ++ a.extractLsb' 16 8 ++ a.extractLsb' 24 8)
  | .sextb u i => some (u, i, fun a => BitVec.ofInt 32 (sext 8 a.toNat))
  | .sexth u i => some (u, i, fun a => BitVec.ofInt 32 (sext 16 a.toNat))
  | _ => none

/-- The ALU rows with an immediate: what they do to RA's value; the shift forms need IMM14[13:5] to be 0. -/
def immRow : Instr → Option (CoreId × IInsn × Bool × (Word → Word))
  | .addi u i => some (u, i, false, fun a => a + i.imm.signExtend 32)
  | .andi u i => some (u, i, false, fun a => a &&& i.imm.zeroExtend 32)
  | .ori u i => some (u, i, false, fun a => a ||| i.imm.zeroExtend 32)
  | .xori u i => some (u, i, false, fun a => a ^^^ i.imm.zeroExtend 32)
  | .slti u i => some (u, i, false, fun a => if a.toInt < i.imm.toInt then 1 else 0)
  | .sltiu u i => some (u, i, false, fun a => if a.toNat < (i.imm.signExtend 32).toNat then 1 else 0)
  | .shli u i => some (u, i, true, fun a => BitVec.ofNat 32 (a.toNat * 2 ^ (i.imm.toNat % 32)))
  | .shri u i => some (u, i, true, fun a => BitVec.ofNat 32 (a.toNat / 2 ^ (i.imm.toNat % 32)))
  | .srai u i => some (u, i, true, fun a => BitVec.ofInt 32 (a.toInt / 2 ^ (i.imm.toNat % 32)))
  | _ => none

/-- The multiply rows, with what R265 says of RA's and RB's values. -/
def mulRow : Instr → Option (CoreId × RInsn × (Word → Word → Word))
  | .mul u i => some (u, i, fun a b => BitVec.ofNat 32 (a.toNat * b.toNat))
  | .mulh u i => some (u, i, fun a b => BitVec.ofInt 32 (a.toInt * b.toInt / 2 ^ 32))
  | .mulhu u i => some (u, i, fun a b => BitVec.ofNat 32 (a.toNat * b.toNat / 2 ^ 32))
  | _ => none

/-- The divide rows. -/
def divRow : Instr → Option (CoreId × RInsn × (Word → Word → Word))
  | .div u i => some (u, i, fun a b => if b = 0 then 0xFFFFFFFF else BitVec.ofInt 32 (a.toInt.tdiv b.toInt))
  | .divu u i => some (u, i, fun a b => if b = 0 then 0xFFFFFFFF else BitVec.ofNat 32 (a.toNat / b.toNat))
  | .rem u i => some (u, i, fun a b => if b = 0 then a else BitVec.ofInt 32 (a.toInt.tmod b.toInt))
  | .remu u i => some (u, i, fun a b => if b = 0 then a else BitVec.ofNat 32 (a.toNat % b.toNat))
  | _ => none

/-- The bytes that a core's read of `n` bytes at `a` gives, from a memory without errors: a sequencer's from the store, the
Triad's from the store or local memory through the matrix. -/
abbrev DataAt (s : State) (u : CoreId) (a n : Nat) (bs : List Byte) : Prop :=
  match u with
  | .seq _ => s.storeErr = [] ∧ bs = s.stBytes a n
  | .triad => s.mxCheck 0 a n false false = none ∧
    ((a + n ≤ storeTop ∧ s.storeErr = [] ∧ bs = s.stBytes a n) ∨
      (0x100000000 ≤ a ∧ a + n ≤ 0x100200000 ∧ s.lmErr = [] ∧ bs = s.lmBytes (a - 0x100000000) n))

/-- The scalar loads: width in bytes, and the value made of the bytes (R266). -/
def loadRow : Instr → Option (CoreId × MInsn × Nat × (List Byte → Word))
  | .lb u i => some (u, i, 1, fun bs => BitVec.ofInt 32 (sext 8 (leNat bs)))
  | .lbu u i => some (u, i, 1, fun bs => BitVec.ofNat 32 (leNat bs))
  | .lh u i => some (u, i, 2, fun bs => BitVec.ofInt 32 (sext 16 (leNat bs)))
  | .lhu u i => some (u, i, 2, fun bs => BitVec.ofNat 32 (leNat bs))
  | .lw u i => some (u, i, 4, fun bs => BitVec.ofNat 32 (leNat bs))
  | _ => none

/-- The scalar stores: width in bytes, and the value stored, as a number (R266). DST's RD names a descriptor. -/
def storeRow : Instr → Option (CoreId × MInsn × Nat × (Engine → Nat))
  | .sb u i => some (u, i, 1, fun e => (e.sreg i.rd.toNat).toNat)
  | .sh u i => some (u, i, 2, fun e => (e.sreg i.rd.toNat).toNat)
  | .sw u i => some (u, i, 4, fun e => (e.sreg i.rd.toNat).toNat)
  | .dst u i => if i.rd.toNat < 16 then some (u, i, 16, fun e => (e.desc i.rd.toNat).toNat) else none
  | _ => none

/-- The base update of AM 1 and 2 (R266): RA gains the immediate after the access, or loses it before. -/
def Engine.rebase (e : Engine) (i : MInsn) : Engine :=
  match mBase e i with
  | some v => e.setS i.ra.toNat v
  | none => e

/-- A store entry is performed: its bytes stand in a store without errors, and nothing else of the memory differs. -/
def Performed (s : State) (a : Nat) (bs : List Byte) (t : State) : Prop :=
  ∀ k, t.stByte k = if a ≤ k ∧ k < a + bs.length then bs.getD (k - a) 0 else s.stByte k

/-- The conditional branches: whether one is taken (R268). -/
def branchRow : Instr → Option (CoreId × BInsn × (Word → Word → Bool))
  | .beq u i => some (u, i, fun a b => a == b)
  | .bne u i => some (u, i, fun a b => a != b)
  | .blt u i => some (u, i, fun a b => decide (a.toInt < b.toInt))
  | .bge u i => some (u, i, fun a b => decide (b.toInt ≤ a.toInt))
  | .bltu u i => some (u, i, fun a b => decide (a.toNat < b.toNat))
  | .bgeu u i => some (u, i, fun a b => decide (b.toNat ≤ a.toNat))
  | _ => none

/-- An entry pushed on a return stack that holds fewer than 64. -/
def Engine.pushed (e : Engine) (v : Word) : Engine := { e with rstack := { e.rstack with held := v :: e.rstack.held } }

/-- The target cache after a JR or CALLR resolves to a target (R280). -/
def Engine.cached (e : Engine) (on : Bool) (target : Word) : Engine :=
  if on then { e with btc := btcFill e.btc e.pc target } else e

/-- An entry pushed on a return stack that holds 64, whose oldest 32 have been spilled at `p` (R272). -/
def Engine.spilled (e : Engine) (v : Word) (p : Nat) : Engine :=
  { e with rstack := { held := v :: e.rstack.held.take 32, spilled := e.rstack.spilled + 32, ptr := p + 128 } }

/-- What a spill writes: the oldest 32 entries, the oldest first, as 32-bit words (R272). -/
def spillBytes (e : Engine) : List Byte := (e.rstack.held.drop 32).reverse.flatMap fun w => leBytes 4 w.toNat

/-- The forms of one size that R278 bars from a delay slot, with their core. -/
def slotless : Instr → Option CoreId
  | .beq u _ | .bne u _ | .blt u _ | .bge u _ | .bltu u _ | .bgeu u _ => some u
  | .j u _ | .call u _ => some u
  | .jr u _ | .callr u _ | .ret u _ => some u
  | .rep u _ | .repi u _ => some u
  | .mode u _ | .trap u _ => some u
  | .ll u _ | .sc u _ => some u
  | _ => none

/-- The system instructions that change nothing of the machine but the engine's own record, with their effect on it, once the
store buffer is empty (R269, R279, R281, R283). -/
def plainSys : Instr → Option (CoreId × (Engine → Engine))
  | .ifence u _ => some (u, fun e => { e with lines := [], btc := [], icold := true })
  | .pflush u _ => some (u, fun e => { e with btc := [] })
  | .pbar u _ => some (u, fun e => { e with pbar := true })
  | .pallow u _ => some (u, fun e => { e with pbar := false })
  | .sync u _ => some (u, id)
  | .rdst u i => some (u, fun e => e.setS i.rd.toNat (BitVec.ofNat 32 e.sst))
  | .rdrs u i => some (u, fun e => e.setS i.rd.toNat (BitVec.ofNat 32 (e.rstack.held.length + e.rstack.spilled)))
  | .getvl u i => some (u, fun e => e.setS i.rd.toNat e.vl)
  | .dgetw u i => some (u, fun e => e.setS i.rd.toNat (BitVec.ofNat 32
      ((e.desc (i.imm.toNat / 4 % 16)).toNat / 2 ^ (32 * (i.imm.toNat % 4)))))
  | _ => none

/-- The capability instructions whose form is good, with their effect on the engine where it is stated for all operands
(R298). -/
def capRow : Instr → Option (CoreId × RInsn × Bool × (Engine → Engine))
  | .ccopy u i => some (u, i, decide (i.rd.toNat < 8 ∧ i.ra.toNat < 8), fun e => e.setC i.rd.toNat (e.cap i.ra.toNat))
  | .cclr u i => some (u, i, decide (i.rd.toNat < 8), fun e => e.setC i.rd.toNat { e.cap i.rd.toNat with tag := false })
  | .cget u i => some (u, i, decide (i.ra.toNat < 8 ∧ i.rb.toNat ≤ 8), fun e =>
      e.setS i.rd.toNat (BitVec.ofNat 32 ((e.cap i.ra.toNat).field i.rb.toNat)))
  | _ => none

/-- Two capabilities with equal tags and fields but base, length, permissions and type. -/
abbrev SameSeal (c d : Cap) : Prop := c.tag = d.tag ∧ c.sealed = d.sealed ∧ c.pdom = d.pdom

/-- The vector rows of the table, with their opcodes (R148 to R174). -/
def vecRow : Instr → Option (VE × VOp × VFields)
  | .vAdd n f => some (n, .add, f)
  | .vSub n f => some (n, .sub, f)
  | .vMin n f => some (n, .min, f)
  | .vMax n f => some (n, .max, f)
  | .abs n f => some (n, .abs, f)
  | .neg n f => some (n, .neg, f)
  | .absdiff n f => some (n, .absdiff, f)
  | .avg n f => some (n, .avg, f)
  | .clamp n f => some (n, .clamp, f)
  | .mov n f => some (n, .mov, f)
  | .raw n f => some (n, .raw, f)
  | .sel n f => some (n, .sel, f)
  | .vAnd n f => some (n, .and, f)
  | .vOr n f => some (n, .or, f)
  | .vXor n f => some (n, .xor, f)
  | .vAndn n f => some (n, .andn, f)
  | .not n f => some (n, .not, f)
  | .vShl n f => some (n, .shl, f)
  | .vShr n f => some (n, .shr, f)
  | .bfx n f => some (n, .bfx, f)
  | .vMul n f => some (n, .mul, f)
  | .vMulh n f => some (n, .mulh, f)
  | .mulw n f => some (n, .mulw, f)
  | .mac n f => some (n, .mac, f)
  | .macw n f => some (n, .macw, f)
  | .cmpeq n f => some (n, .cmpeq, f)
  | .cmpne n f => some (n, .cmpne, f)
  | .cmplt n f => some (n, .cmplt, f)
  | .cmple n f => some (n, .cmple, f)
  | .cmpgt n f => some (n, .cmpgt, f)
  | .cmpge n f => some (n, .cmpge, f)
  | .fadd n f => some (n, .fadd, f)
  | .fsub n f => some (n, .fsub, f)
  | .fmul n f => some (n, .fmul, f)
  | .fma n f => some (n, .fma, f)
  | .fmin n f => some (n, .fmin, f)
  | .fmax n f => some (n, .fmax, f)
  | .fabs n f => some (n, .fabs, f)
  | .fneg n f => some (n, .fneg, f)
  | .cvt n f => some (n, .cvt, f)
  | .tlu n f => some (n, .tlu, f)
  | .twr n f => some (n, .twr, f)
  | .vDiv n f => some (n, .div, f)
  | .sqrt n f => some (n, .sqrt, f)
  | .rsqrt n f => some (n, .rsqrt, f)
  | .rsum n f => some (n, .rsum, f)
  | .rmin n f => some (n, .rmin, f)
  | .rmax n f => some (n, .rmax, f)
  | .rand n f => some (n, .rand, f)
  | .vRor n f => some (n, .ror, f)
  | .mand n f => some (n, .mand, f)
  | .mor n f => some (n, .mor, f)
  | .mxor n f => some (n, .mxor, f)
  | .mandn n f => some (n, .mandn, f)
  | .mnot n f => some (n, .mnot, f)
  | .mfill n f => some (n, .mfill, f)
  | .mpop n f => some (n, .mpop, f)
  | .mfirst n f => some (n, .mfirst, f)
  | .compress n f => some (n, .compress, f)
  | .expand n f => some (n, .expand, f)
  | .ld n f => some (n, .ld, f)
  | .ldg n f => some (n, .ldg, f)
  | .st n f => some (n, .st, f)
  | .sts n f => some (n, .sts, f)
  | .stc n f => some (n, .stc, f)
  | _ => none

/-- A sequencer takes the vector instruction at its program counter: as `Ready` for an instruction of 8 bytes in no repetition
and no delay slot, whatever accord is being collected. -/
abbrev VReady (s : State) (n : VE) : Prop :=
  s.mayIssue n = true ∧ s.atBreakpoint n = false ∧ (s.eng n).wait = none ∧ (s.eng n).exe = none ∧ (s.eng n).lands = [] ∧
  (s.eng n).long = none ∧ (s.eng n).dland = none ∧ (s.eng n).haltReq = none ∧ (s.eng n).stepping = false ∧ (s.eng n).branch = none ∧
  (s.eng n).rep = none ∧ s.pcAddr n % 64 ≤ 56 ∧ ((s.eng n).cap 0).unusable permExec (s.pcAddr n) 8 = none ∧
  s.pcAddr n + 8 ≤ storeTop ∧ s.icOn n = true ∧ (s.eng n).lineBuf = some (s.pcAddr n / 64)

/-- What a vector instruction latches at issue: its fields, its scalar operands and its address (R136). -/
def State.latched (s : State) (n : VE) (o : VOp) (f : VFields) : VInsn :=
  { op := o, f := f, sc1 := (s.eng n).selVal f.src1.toNat, sc2 := (s.eng n).selVal f.src2.toNat,
    sc3 := (s.eng n).selVal (src3 f), addr := (s.eng n).pc }

/-- The waiting accord of a sequencer may begin: none executes, none is held, and no stores stand before it. -/
abbrev MayBegin (s : State) (n : VE) (a : Accord) : Prop :=
  s.held = false ∧ s.excDue n = false ∧ (s.eng n).wait = some a ∧ (s.eng n).exe = none ∧ (s.eng n).vfBusy = false ∧
  (s.eng n).helda = none ∧ (s.eng n).waitSb = 0

/-- An accord that has begun and streamed nothing yet. -/
def begunExec (a : Accord) (vl : Nat) (descs : Tab QWord) : Exec :=
  { acc := a, vl := vl, descs := descs, attempt := 1, off := false, overlap := false }

/-- The waiting accord of a sequencer as it begins, nothing of it streamed and no item taken. -/
def State.firstRun (s : State) (n : VE) (a : Accord) : Exec :=
  { begunExec a (s.eng n).vl.toNat (s.eng n).descs with
    overlap := s.overlapping (fun d => Tab.get (s.eng n).descs d 0) (s.eng n).vl.toNat a }

/-- The bytes of `k` ring words of a queue from a counter on, in order. -/
def State.ringBytes (s : State) (q c k : Nat) : List (Option Byte) :=
  (List.range (8 * k)).map (fun j => some (s.stByte (s.qAddr q (c + j / 8) + j % 8)))

/-- The addresses of `k` ring words of a queue from a counter on. -/
def State.ringAddrs (s : State) (q c k : Nat) : List Nat := (List.range k).map (fun j => s.qAddr q (c + j))

/-- The waiting accord as it begins with one item of `k` words taken for its queue load in a pipe. -/
def State.queueRun (s : State) (n : VE) (a : Accord) (q k : Nat) (pipe : BitVec 2) : Exec :=
  let bs := s.ringBytes q ((s.q q).head + 1) k
  let ws := s.ringAddrs q ((s.q q).head + 1) k
  if pipe = 0 then { s.firstRun n a with q0 := bs, qa0 := ws } else { s.firstRun n a with q1 := bs, qa1 := ws }

/-- The first value of an operand that needs no stream: the immediate, the element index or a scalar register (R107, R135). -/
def firstVal (y : ElemTy) (v : VInsn) (sel : Nat) (sc : Word) : Nat :=
  if sel = 6 then immEl y v.f.imm else if sel = 7 then 0 else sc.toNat % 2 ^ y.width

/-- The first instruction of an accord that begins is stopped at element 0 by a cause of R191: its mask group is uncorrectable
(9); it loads an uncorrectable half, or an item word that could not be read (7); with TRAP in force its index misses the
bounds, or its operation gives an event that R147 traps (6). -/
def FirstStops (s : State) (n : VE) (x : Exec) (v : VInsn) (cause : Nat) : Prop :=
  let y := (vty v).getD .u32
  let y2 := (vty2 v).getD y
  let d := vdesc x.desc v
  let a := v.f.src1.toNat
  let b := v.f.src2.toNat
  let c := src3 v.f
  let good := (s.maskDecode n v.f.mask.toNat 0).1 = true
  let on := good ∧ (s.eng n).mbit v.f.mask.toNat 0 = true
  let q := if v.f.pipe = 0 then x.q0 else x.q1
  let o := opEl v.op y y2 v.f.rm.toNat (x.satOn v.f) v.f.imm.toNat (firstVal y v a v.sc1) (firstVal y v b v.sc2)
    (firstVal (if v.op = .macw then y2 else y) v c v.sc3)
  isStore v.op = false ∧
  ((cause = 9 ∧ ¬good) ∨
   (cause = 7 ∧ on ∧ v.op = .ld ∧ dQueue d = false ∧ (s.decodeHalf (dBase d / 8) n).1 = false) ∨
   (cause = 7 ∧ good ∧ v.op = .ld ∧ dQueue d = true ∧ y.size ≤ q.length ∧ none ∈ q.take y.size) ∨
   (cause = 6 ∧ on ∧ x.trap v.f = true ∧ v.op = .ldg ∧ 6 ≤ a ∧ indexAddr d y2 y.size (firstVal .u32 v a v.sc1) = none) ∨
   (cause = 6 ∧ on ∧ x.trap v.f = true ∧ 6 ≤ a ∧ (nSrc v.op < 2 ∨ 6 ≤ b) ∧ (nSrc v.op < 3 ∨ 6 ≤ c) ∧
     v.op ∈ [.add, .sub, .abs, .neg, .absdiff, .clamp, .shl, .shr, .mul, .mulw, .mac, .macw, .fadd, .fsub, .fmul, .fma, .fmin,
       .fmax, .cvt, .div, .sqrt, .rsqrt] ∧ (o.counted || o.wrapped || o.sub) = true))

/-- How a fault `f` met by the executing accord `x` leaves the engine, whatever else stopped the accord with it: no scalar
destination and no saturation count is written; of the causes found the first in the order of R193 is reported, with its lowest
element; and the engine's frame work ends, or the exception is raised and the accord held for a restart, as R192, R196 and R199
say. -/
def MidStop (s t : State) (n : VE) (x : Exec) (f : Found) : Prop :=
  let cause := t.get (Rg.VE_VFAULT_CAUSE n)
  (t.eng n).exe = none ∧ (t.eng n).sregs = (s.eng n).sregs ∧ t.get (Rg.VE_SAT n) = s.get (Rg.VE_SAT n) ∧
  t.get (Rg.VE_VFAULT_OVERLAP n) = (if x.overlap then 1 else 0) ∧ t.get (Rg.VE_VFAULT_ATTEMPT n) = x.attempt ∧
  t.get (Rg.VE_FAULT_CNT n) = counted s (Rg.VE_FAULT_CNT n) ∧
  causeRank cause ≤ causeRank f.cause ∧ (cause = f.cause → t.get (Rg.VE_VFELEM n) ≤ f.elem) ∧
  (if cause = 9 ∨ (x.overlap = true ∧ cause ≠ 6) ∨ 3 ≤ x.attempt then
    (t.eng n).ended = true ∧ (t.eng n).wait = none ∧ (t.eng n).helda = none ∧ (t.eng n).vfDue = false ∧
    t.get (Rg.VE_STATUS_FAULTED n) = 1 ∧ t.get (Rg.VE_STATUS_RUNNING n) = 0 ∧ t.get (Rg.VE_VFAULT_PENDING n) = 0
  else
    (t.eng n).vfDue = true ∧ (t.eng n).vfBusy = true ∧ t.get (Rg.VE_VFAULT_PENDING n) = (if cause = 8 then 0 else 1) ∧
    (cause ≠ 8 → ∃ h, (t.eng n).helda = some h ∧ h.acc = x.acc ∧ h.vl = x.vl ∧ h.descs = x.descs ∧ h.attempt = x.attempt ∧
      h.pos = 0))

/-- The active elements of a stream from a position on, of those below VL. -/
def State.activeFrom (s : State) (n : VE) (m : BitVec 3) (p vl : Nat) : List Nat :=
  (List.range vl).filter (fun i => decide (p ≤ i) && (s.eng n).mbit m.toNat i)

/-- Word `j` of the elements `es`, each of `size` bytes, packed in order. -/
def packedWord (size : Nat) (es : List Nat) (j : Nat) : Nat :=
  leNat (((es.flatMap (leBytes size)).drop (8 * j)).take 8)

/-- The capabilities after DCALL through register `a`: the portal becomes c0, the caller's authority stands sealed where the
portal stood, and what is sealed with the portal's type opens in c1 to c5 (R301). -/
def afterCall (e : Engine) (a k : Nat) : Cap :=
  if k = 0 then (e.cap a).reseal false (e.cap a).otype 0
  else if k = a then (e.cap 0).reseal true (e.cap a).otype (e.cap 0).otype
  else if 1 ≤ k ∧ k ≤ 5 then (e.cap k).opened (e.cap a).otype
  else e.cap k

/-- The capabilities after DRET through register `a` (R301). -/
def afterReturn (e : Engine) (a k : Nat) : Cap :=
  if k = a then { e.cap a with tag := false }
  else if k = 0 then (e.cap a).reseal false (e.cap a).pdom 0
  else if 1 ≤ k ∧ k ≤ 5 then (e.cap k).closed (e.cap 0).otype
  else e.cap k

/-- The engine's record but its capabilities, return stack, program counter and caches of targets. -/
abbrev SameWork (x y : Engine) : Prop :=
  x.sregs = y.sregs ∧ x.descs = y.descs ∧ x.vl = y.vl ∧ x.masks = y.masks ∧ x.table = y.table ∧ x.sb = y.sb ∧
  x.hold = y.hold ∧ x.mode = y.mode

/-- The field of a sequencer's exception register `r` of R307. -/
def exFld (n r : Nat) : Fld :=
  match r with
  | 0 => Rg.VE_ERA n
  | 1 => Rg.VE_EST n
  | 2 => Rg.VE_ECTX n
  | _ => Rg.VE_EADDR n

/-- What the next boundary of a core takes first of its exception, its deferred store error and its vector fault (R308): the
exception, whether it came from a delay slot, and the engine without it. -/
def Engine.due (e : Engine) : Option (Exc × Bool × Engine) :=
  match e.exc, e.sbErr with
  | some x, _ => some (x, e.branch.isSome, { e with exc := none })
  | none, some x => some (x, false, { e with sbErr := none })
  | none, none => if e.vfDue then some ({ code := 10 }, false, { e with vfDue := false }) else none

/-- The engine of a handler that an entry with a descriptor begins: base, capabilities, program counter and vector. -/
def Engine.handler (e : Engine) (slot : Bool) (d : Desc) (v : Nat) : Engine :=
  { ((e.enterBase slot).setC 0 d.c0).setC 6 d.c6 with pc := BitVec.ofNat 32 d.entry, fromV := v }

/-- The Triad's engine at a handler's start: base, s29, capabilities, program counter and level (R314, R317). -/
def Engine.triHandler (e : Engine) (slot : Bool) (d : Desc) (c6 : Cap) (s29 : Word) (level : Nat) : Engine :=
  { (((e.enterBase slot).setS 29 s29).setC 0 d.c0).setC 6 c6 with
    pc := BitVec.ofNat 32 d.entry, level := level }

/-- What an entry into vector `v` from the handler of `frm` records of an exception: ECTX or CAUSE `k`, and the address `a`; SUB,
CODE and the address are as the exception gives them, and open where it gives none (R303, R307, assumption 73). -/
def Recorded (v frm : Nat) (x : Exc) (k a : Nat) : Prop :=
  k % 2 ^ 12 = v % 64 + frm % 64 * 64 ∧ k / 2 ^ 15 % 2 = 0 ∧ k / 2 ^ 24 = 0 ∧ (∀ n, x.sub = some n → k / 2 ^ 12 % 8 = n % 8) ∧
  (∀ n, x.reg = some n → k / 2 ^ 16 % 256 = n % 256) ∧ ∀ n, x.addr = some n → a = n

/-- What a sequencer holds once ERET has restored the status and the capabilities (R310). -/
def State.restored (s : State) (n : VE) (frm : Nat) (c0 c6 : Cap) : State :=
  s.modEng n fun e => { ((e.setSst (s.get (Rg.VE_EST n) % 2 ^ 24)).setC 0 c0).setC 6 c6 with
    locked := false, llAge := none, btc := [], fromV := frm }

/-- The source that an interrupt entry for `v` ends with, once those presented late have taken it over in turn, and how many
did (R315). -/
def State.takenOver (s : State) (v : Nat) : List (BitVec 8) → Nat × Nat
  | [] => (v, 0)
  | m :: r =>
    if s.srcOpen m.toNat = true ∧ s.get (Rg.IC_SRC_PRIO v) < s.get (Rg.IC_SRC_PRIO m.toNat) then
      ((s.takenOver m.toNat r).1, (s.takenOver m.toNat r).2 + 1)
    else s.takenOver v r

/-- The sources as they stood before those presented late. -/
def State.before (s : State) (late : List (BitVec 8)) : State :=
  late.foldl (fun s m => s.set (Rg.IC_SRC_PRIO m.toNat) 0) s

/-- What the Triad's entry saves, with its cause and address (R312). -/
def State.triSaved (s : State) (cause addr : Nat) : SaveSet := { s.tri.landAll.context 0 0 with cause := cause, addr := addr }

/-- The voted Triad votes among three cores: in service, in control, no resync, no injection. -/
abbrev Voting (s : State) : Prop :=
  s.held = false ∧ s.get Rg.VT_STATUS_STATE = 0 ∧ s.triad.resync = .idle ∧ s.triad.inject = []

/-- What a core's dissent leaves (R326, R327, R331): it is out of service and fenced, the pair goes on, and what dissented is
recorded. -/
def FencedBy (s : State) (c kind reg : Nat) (t : State) : Prop :=
  t.get Rg.VT_STATUS_FENCED_CORE = c ∧ t.get Rg.VT_STATUS_IN = 7 - 2 ^ c ∧ t.get Rg.VT_LAST_CORE = c ∧
  t.get Rg.VT_LAST_KIND = kind ∧ t.get Rg.VT_LAST_REG = reg ∧ (t.get Rg.VT_EVENT).testBit 0 = true ∧
  t.get Rg.VT_STATUS_STATE = (if s.get (failsFld c) < 3 ∧ s.get Rg.VT_CFG_RESYNC_EN = 1 then 1 else 3) ∧ t.faultLow = s.faultLow

/-- The registers that only timers 0 to 7 other than `n` leave alone: timer `n` alone has the source given. -/
abbrev OnlyTimer (s : State) (n : Fin 8) (src : Nat) : Prop :=
  s.get (Rg.TMR_CTRL_SRC n) = src ∧ ∀ k : Fin 8, k ≠ n → s.get (Rg.TMR_CTRL_SRC k) ≠ src

/-- A timer watches an edge of an input-capture pin (R372). -/
abbrev Watches (s : State) (n : Fin 8) (pin : Fin 4) (rising : Bool) : Prop :=
  s.get (Rg.TMR_CTRL_CAP_PIN n) = pin.val ∧
  (s.get (Rg.TMR_CTRL_CAP_EDGE n) = 3 ∨ s.get (Rg.TMR_CTRL_CAP_EDGE n) = if rising then 1 else 2)

/-- The vault holds nothing, is being wiped, and the wipe is counted (R359). -/
abbrev Wiped (s t : State) : Prop :=
  t.vault = [] ∧ t.vtErr = [] ∧ t.get Rg.VAULT_STATUS_WIPING = 1 ∧ t.get Rg.VAULT_WIPE_CNT = counted s Rg.VAULT_WIPE_CNT

/-- `LC_CMD` written with an operation: the key word is right, no change runs, and the operation is allowed (R463). -/
abbrev LcAccepts (s : State) (op : Nat) (v : Word) : Prop :=
  v.toNat / 2 ^ 16 = 0x4C43 ∧ s.get Rg.LC_STATUS_BUSY = 0 ∧ s.lcAllowed op (v.toNat / 16 % 4) = true

/-- The rows that write `LC_CMD`, with their operations. -/
def lcRow : Instr → Option (Master × Word × Nat)
  | .advance m v => some (m, v, 1)
  | .lcRetire m v => some (m, v, 2)
  | .revoke m v => some (m, v, 3)
  | .program m v => some (m, v, 4)
  | .svnIncrement m v => some (m, v, 5)
  | _ => none

/-- The rows that feed a CRC unit, with the number of bytes. -/
def crcRow : Instr → Option (Master × Fin 16 × Word × Nat)
  | .crcData8 m u v => some (m, u, v, 1)
  | .crcData16 m u v => some (m, u, v, 2)
  | .crcData32 m u v => some (m, u, v, 4)
  | _ => none

/-- The bit that two of three hold. -/
abbrev TwoOf (a b c : Bool) : Bool := a && b || a && c || b && c

/-- Word 0 of the record of channel `ch` holds `bs`, and no other byte of the store differs. -/
def RecordIs (s t : State) (ch : Nat) (bs : List Byte) : Prop :=
  t.stBytes (s.ctAddr ch) 16 = bs ∧
  ∀ a, (a < s.ctAddr ch ∨ s.ctAddr ch + 16 ≤ a) → t.stByte a = s.stByte a

/-- What a task makes of a record, and the counter of the records it changes (R217 to R219). -/
def taskForm : CtKind → (List Byte → List Byte) × Fld
  | .orphan _ => (markOrphan, Rg.CT_ORPHAN_CNT)
  | .reinstate _ => (clearOrphan, Rg.CT_REINST_CNT)
  | .command _ _ => (clearAllHw, Rg.CT_REINST_CNT)

/-- A fenced access to the record of a channel has taken one of its bank's 40, and no other bank's (R211). -/
def BankCounted (s t : State) (ch : Nat) : Prop :=
  ∀ b, Tab.get t.ctUsed b 0 = Tab.get s.ctUsed b 0 + (if s.ctFenced = true ∧ b = s.ctBank ch then 1 else 0)

/-- Nothing keeps the device from a record: the table is on, the fence open, the store without errors. -/
abbrev RecordsOpen (s : State) : Prop := s.held = false ∧ s.storeErr = [] ∧ s.ctOn = true ∧ s.ctOpen = true

/-- The head item of a queue is a committed one of two words, which the ring holds, and no torn item follows it. -/
abbrev HeadPair (s : State) (q w0 w1 : Nat) (r : List QItem) : Prop :=
  (s.q q).items = ⟨2, true, false⟩ :: r ∧ r.all (fun j => !j.torn) = true ∧
  s.stNat (s.qAddr q ((s.q q).head + 1)) 8 = w0 ∧ s.stNat (s.qAddr q ((s.q q).head + 2)) 8 = w1

/-- The queue after its head item of two words has been released. -/
def pairReleased (s : State) (q : Nat) (r : List QItem) : QState :=
  { s.q q with head := ((s.q q).head + 3) % (2 * s.qN q), items := r }

/-- The records below COUNT that a pass has visited. -/
def visitedOf (s : State) (p : Sweep) : Nat := (p.visited.filter (fun ch => decide (ch < s.ctCount))).length

/-- The payload words of the head item of a queue, of `n` words, as the ring holds them. -/
def headWords (s : State) (q n : Nat) : List Nat :=
  (List.range n).map (fun j => s.stNat (s.qAddr q ((s.q q).head + (1 + j))) 8)

/-- Channel `r` may take the head item of its queue `q`, which has `n` words, but that it may be halted (R256 to R258). -/
abbrev ChannelAt (s : State) (r q n : Nat) (rest : List QItem) (halted : Bool) : Prop :=
  s.held = false ∧ s.storeErr = [] ∧ s.flag (Rg.RD_CFG_ENABLE r) = true ∧ s.flag (Rg.RD_STATUS_HALTED r) = halted ∧
  s.get Rg.DD_STATUS_TIER = 0 ∧ s.lastResort = false ∧ Tab.get s.rdHold r none = none ∧ s.get (Rg.RD_CFG_QUEUE r) = q ∧
  PtrsGood s q ∧ (s.q q).items = ⟨n, true, false⟩ :: rest ∧ rest.all (fun j => !j.torn) = true

/-- The item of a lane channel is read whole and stands before its lane. -/
def BeforeLane (s t : State) (r q n : Nat) : Prop :=
  Tab.get t.rdHold r none = some ⟨⟨s.get (Rg.RD_CFG_LANE r), s.get (Rg.RD_CFG_VC r),
    saonjoHeader (s.get (Rg.RD_TYPE_TYPE r)) (s.get Rg.VU_LANE_CFG_SOURCE)
      (s.stNat (s.qAddr q (s.q q).head) 8 / 2 ^ 32) n :: headWords s q n⟩, (s.q q).head⟩ ∧
  (s.flag (Rg.RD_STATUS_WAITING r) = false → t.rdWaits r = !s.inService (s.get (Rg.RD_CFG_LANE r))) ∧ t.q q = s.q q

/-- The queue after its head item of `n` words has been released. -/
def headReleased (s : State) (q n : Nat) (rest : List QItem) : QState :=
  { s.q q with head := ((s.q q).head + n + 1) % (2 * s.qN q), items := rest }

/-- The item of a host channel has gone to its ring and is released and counted. -/
def SentToHost (s t : State) (r q n : Nat) (rest : List QItem) : Prop :=
  t.q q = headReleased s q n rest ∧ t.get (Rg.RD_ITEM_CNT r) = counted s (Rg.RD_ITEM_CNT r) ∧
  t.flag (Rg.RD_STATUS_WAITING r) = false ∧
  Output.pcieWrite (s.get2 (Rg.RD_HOST_BASE_LO r) (Rg.RD_HOST_BASE_HI r) +
    s.get (Rg.RD_HWPTR r) % 2 ^ s.get (Rg.RD_HOST_SIZE_LOG2 r)) [s.stNat (s.qAddr q (s.q q).head) 8] ∈ t.sent

/-- A flash operation of a record in hand is under way. -/
abbrev RecordUnderWay (s : State) (n : Nat) (r : JRec) : Prop :=
  s.held = false ∧ s.jnl.op = some (.record n) ∧ s.jnl.hand = some r

/-- No migration waits or is under way, and no checkpoint is. -/
abbrev NoMigration (s : State) : Prop := s.migReqs = [] ∧ s.copies = [] ∧ s.restores = [] ∧ s.chks = []

/-- A class-0 strike on engine `n` would be transient (R397). -/
abbrev StrikeIsTransient (s : State) (n : Nat) : Prop :=
  (Tab.get s.strikes (strikeKey 0 n) ⟨0, 0⟩).cnt = 0 ∧ 1 ≤ s.get (Rg.RL_CLASS_RETRY 0)

/-- No migration waits, or the unit is LOCKED, and only a frame boundary serves one (R26). -/
abbrev NoneServed (s : State) : Prop := s.migReqs = [] ∨ s.locked = true

/-- Engine `b` holds the context of a half, as the image lays it out (R122). -/
def HasContext (s t : State) (b : VE) (half : Nat) : Prop :=
  (∀ r, 1 ≤ r → r ≤ 31 → (t.eng b).sreg r = BitVec.ofNat 32 (s.stNat (half + 4 * r) 4)) ∧
  (∀ d, d < 16 → (t.eng b).desc d = BitVec.ofNat 128 (s.stNat (half + 0x80 + 16 * d) 16)) ∧
  (t.eng b).vl = BitVec.ofNat 32 (s.stNat (half + 0x180) 4)

/-- What a reset for a cause leaves (R448 to R450): the device is held in reset with that cause shown, the store, the fuses
and the backup domain keep what they hold, local memory and the vault are cleared, every other register field has its reset
value, and the Triad does not run. -/
abbrev AfterReset (s t : State) (cause : Fld) : Prop :=
  t.held = true ∧ t.get cause = 1 ∧ t.store = s.store ∧ t.storeErr = s.storeErr ∧ t.keyHash = s.keyHash ∧
  t.localMem = [] ∧ t.tags = [] ∧ t.vault = [] ∧ t.boot = none ∧ t.tri.run = false ∧ t.pending = s.pending ∧
  (∀ f ∈ keptFlds, t.get f = s.get f % 2 ^ f.w) ∧
  ∀ f : Fld, f.key ∉ (cause :: keptFlds).map Fld.key → t.get f = f.rst

/-- No test of Blotter runs. -/
abbrev NoTest (s : State) : Prop := s.blLbist = none ∧ s.get Rg.BL_STATUS_MBIST ≠ 1 ∧ s.get Rg.BL_STATUS_LOOP ≠ 1

/-- The device is at the top note, entered from tier 0: readout channels that have no item in hand pause, and a sweep pass
is marked as interrupted (R220, R258, R441). -/
abbrev AtTopNote (s t : State) : Prop :=
  t.get Rg.DD_STATUS_TIER = 1 ∧ t.get Rg.DD_STATUS_GOOD = 0 ∧ t.get Rg.DD_INT_STATUS_DEEPER = 1 ∧
  t.get Rg.DD_TOP_CNT = counted s Rg.DD_TOP_CNT ∧ t.dd.path = 1 ∧ t.dd.topFrame = s.frameNo ∧
  t.ctSweep = s.ctSweep.map (fun p => { p with cut := true }) ∧
  ∀ r : Fin 16, Tab.get s.rdHold r.val none = none → t.flag (Rg.RD_STATUS_PAUSED r) = true

/-- A field lies in the registers of CRC unit `u`. -/
def InCrcUnit (u : Nat) (f : Fld) : Prop := f.lo < 64 ∧ 0x500030000 + 128 * u ≤ f.addr ∧ f.addr < 0x500030000 + 128 * u + 128

/-- How many samples in a row lie below the threshold of tier `k` after a run of samples (R440). -/
def samplesBelow (s : State) (r : SampleRun) (k : Nat) : Nat :=
  if r.mv.toNat < s.ddThreshold k then Tab.get s.dd.runs k 0 + r.n.toNat else 0

/-- A run of samples crosses the threshold of tier `k`: one sample each 10 ns, every one for `SUSTAIN_US` below it (R440). -/
def crosses (s : State) (r : SampleRun) (k : Nat) : Bool :=
  decide (100 * max 1 (s.get Rg.DD_CFG_SUSTAIN_US) ≤ samplesBelow s r k)

/-- The frame that ends was a whole one of the present tier, with no sample below its limit, the latest one included, and FORCE
does not hold the tier (R443, R444). -/
def goodFrame (s : State) : Bool :=
  s.dd.since != 0 && !s.dd.badFrame && decide (s.get Rg.DD_CTRL_FORCE < s.get Rg.DD_STATUS_TIER) &&
    decide (s.ddThreshold (s.get Rg.DD_STATUS_TIER) + s.get Rg.DD_CFG_HYST_MV ≤ s.get Rg.DD_VCORE_MV)

/-- The ROM waits for an image: host window 2 is open and READY is shown (R474). -/
abbrev AwaitsImage (t : State) : Prop :=
  t.rom = .load ∧ t.romGo = none ∧ t.flag Rg.HB_LOAD_READY = true ∧ t.flag (Rg.MX_WIN_VALID 1 2) = true

/-- The Triad runs from an entry, and the ROM is done (R453). -/
abbrev RunsFrom (t : State) (entry : Nat) : Prop :=
  t.tri.run = true ∧ t.tri.pc = BitVec.ofNat 32 entry ∧ t.tri.level = 0 ∧ t.rom = .none ∧ t.romGo = none

/-- A BAR access reaches the device: PCIE_PERST_N is high and the link can carry it (R467 to R471). -/
abbrev BarOpen (s : State) (d : Nat) : Prop :=
  s.held = false ∧ s.romGo = none ∧ s.flag Rg.HB_STATUS_PERST = false ∧ s.get Rg.HB_STATUS_LSTATE < 4 ∧
  s.get Rg.HB_STATUS_DSTATE = d

/-- Nothing of core `n` is under way that a halt would wait for. -/
abbrev NothingUnderWay (s : State) (n : Nat) : Prop :=
  (s.eng n).exe = none ∧ (s.eng n).wait = none ∧ (s.eng n).sb = [] ∧ (s.eng n).lands = [] ∧ (s.eng n).dland = none ∧
  (s.eng n).long = none

/-- The core has halted with a cause, its state otherwise as `e` (R480). -/
def HaltedWith (u : CoreId) (cause : Nat) (e : Engine) (t : State) : Prop :=
  t.eng (coreNo u) = { e with halted := true, haltReq := none, stepping := false } ∧
  match u with
  | .seq n => t.flag (Rg.DBG_STATUS_HALTED n) = true ∧ t.get (Rg.DBG_STATUS_CAUSE n) = cause % 4 ∧
      t.flag (Rg.DBG_STATUS_TICK_PASSED n) = false
  | .triad => t.flag Rg.TD_STATUS_HALTED = true ∧ t.get Rg.TD_STATUS_CAUSE = cause % 4 ∧ t.get Rg.TD_PC = e.pc.toNat

/-- A core whose lock has been broken (R481). -/
def Engine.unlockedByBreak (e : Engine) : Engine :=
  match e.rep with
  | none => { e with locked := false, llAge := none }
  | some r => { e with locked := false, llAge := none, pc := r.pc, repAct := true, repCnt := r.left, rep := none }

/-- The state as DBGACC's Update-DR finds it: the register selected, the previous result returned. -/
def State.dbgStart (s : State) : State :=
  (s.irLoad 0x20).emit (.dbgacc s.dbgRes.err s.dbgRes.done s.dbgRes.data)

end Sys2Proof.Machine

section
open Sys2Proof Sys2Proof.Machine

/-- The block takes its commands in the order of the queue: a step with command `c` in front is `c`'s effect on the state
whose queue is the rest, and a step on an empty queue leaves the state as it is (assumption 5: the model's choice). -/
def Obligations.StepRunsFrontCommand : Prop :=
  (∀ (s : State) (c : Instr) (rest : List Instr), s.pending = c :: rest → step s = exec c { s with pending := rest }) ∧
  ∀ s : State, s.pending = [] → step s = .next s

/-- Right after reset: no command waits, every register field reads as the reset value of its table (R11), the unit is
UNLOCKED, memories list nothing and read as 0, as do the engines' registers (assumptions 15 and 105: the model's choice), the Triad holds the seven roots of R297 and an invalid c7. -/
def Obligations.ResetHoldsResetValues : Prop :=
  State.reset.pending = [] ∧ (∀ f : Fld, State.reset.get f = f.rst) ∧ State.reset.unlocked = true ∧
  Memory.wf State.reset = true ∧ (∀ a, State.reset.stByte a = 0) ∧ (∀ a, State.reset.lmByte a = 0) ∧
  (∀ a, State.reset.vtByte a = 0) ∧
  (∀ k : Fin 7, (Tab.get State.reset.tri.caps k ⟨false, 0⟩).tag = true) ∧
  (Tab.get State.reset.tri.caps 7 ⟨false, 0⟩).tag = false ∧
  (∀ n : VE, ∀ r : Nat, (State.reset.eng n).sreg r = 0)

/-- No command touches the queue of the commands that wait; so every step keeps the queue well-formed, and shortens a queue
that is not empty by exactly its front command. -/
def Obligations.StepKeepsQueueWellFormed : Prop :=
  (∀ (c : Instr) (s t : State), exec c s = .next t → t.pending = s.pending) ∧
  ∀ s t : State, s.queueWf = true → step s = .next t → t.queueWf = true ∧ t.pending = s.pending.tail

/-- Every step keeps the four memories in canonical form. -/
def Obligations.StepKeepsMemoriesCanonical : Prop :=
  ∀ s t : State, Memory.wf s = true → step s = .next t → Memory.wf t = true

/-- Every well-formed command completes, and in a device held in reset every one but the few that act on the reset itself,
the backup domain or the test port leaves the state as it is; the one stop is a request to a word above the store
(assumption 20: the model's choice). -/
def Obligations.WellFormedCommandsComplete : Prop :=
  (∀ (c : Instr) (s : State), c.wf = true → ∃ t, exec c s = .next t) ∧
  (∀ (c : Instr) (s : State), s.held = true → c.wf = true → actsWhenHeld c = false → Ignored c s) ∧
  (∀ (c : Instr) (s : State) (f : Fault), exec c s = .fault f →
    ∃ bc reqs up, c = .storeRequest bc reqs up ∧ reqs.any (fun r => decide (storeTop ≤ r.word * 16)) = true) ∧
  ∀ (bc : Nat) (reqs : List StoreReq) (up : Option Upset) (s : State),
    reqs.any (fun r => decide (storeTop ≤ r.word * 16)) = true → exec (.storeRequest bc reqs up) s = .fault .noSuchWord

/-- R351, for every register write that is a command of its own: windows come first (code 2), then ownership (code 3), then
the refusal of writes under the last-resort controller (code 7), then that of JTAG's in FIELD (code 4, R462, R478); a write
that fails one of them has no effect but its answer and what the matrix records of the denial. -/
def Obligations.RegisterCommandsPassTheMatrixInOrder : Prop :=
  ∀ (c : Instr) (s : State) (m a n : Nat), regTarget c = some (m, a, n) → s.held = false →
    (s.windowOk m a n true false = false → exec c s = .next (s.fail m a 2)) ∧
    (s.windowOk m a n true false = true → s.ownOk m a = false → exec c s = .next (s.fail m a 3)) ∧
    (s.windowOk m a n true false = true → s.ownOk m a = true → s.lastResort = true → m ≠ 8 →
      exec c s = .next (s.fail m a 7)) ∧
    (s.windowOk m a n true false = true → s.ownOk m a = true → s.lastResort = false → m = 2 → s.lcForce = 2 →
      exec c s = .next (s.fail m a 4))

/-- R352 and R341: what a denial records. Codes 1 and 2 count in `MX_ERR_CNT` or `MX_WIN_DENY_CNT`, up to the counter's top,
set their bit of `MX_INT_STATUS` and record the address, the master and the code; code 3 counts in `OWN_DENY_CNT` and
records the address and the master; no other register changes. -/
def Obligations.DenialsAreRecorded : Prop :=
  (∀ (s : State) (m a : Nat),
    (s.deny m a 1).get Rg.MX_ERR_CNT = min (s.get Rg.MX_ERR_CNT + 1) (2 ^ Rg.MX_ERR_CNT.w - 1) % 2 ^ Rg.MX_ERR_CNT.w ∧
    (s.deny m a 1).get Rg.MX_INT_STATUS_UNMAPPED = 1 ∧
    (s.deny m a 2).get Rg.MX_WIN_DENY_CNT =
      min (s.get Rg.MX_WIN_DENY_CNT + 1) (2 ^ Rg.MX_WIN_DENY_CNT.w - 1) % 2 ^ Rg.MX_WIN_DENY_CNT.w ∧
    (s.deny m a 2).get Rg.MX_INT_STATUS_WIN_DENY = 1 ∧
    ∀ c, c = 1 ∨ c = 2 →
      (s.deny m a c).get Rg.MX_LAST_ERR_LO = a % 2 ^ 32 ∧ (s.deny m a c).get Rg.MX_LAST_ERR_HI_ADDR = a / 2 ^ 32 % 2 ^ 16 ∧
      (s.deny m a c).get Rg.MX_LAST_ERR_HI_MASTER = m % 2 ^ Rg.MX_LAST_ERR_HI_MASTER.w ∧
      (s.deny m a c).get Rg.MX_LAST_ERR_HI_CODE = c) ∧
  (∀ (s : State) (m a : Nat),
    (s.deny m a 3).get Rg.OWN_DENY_CNT = min (s.get Rg.OWN_DENY_CNT + 1) (2 ^ Rg.OWN_DENY_CNT.w - 1) % 2 ^ Rg.OWN_DENY_CNT.w ∧
    (s.deny m a 3).get Rg.OWN_LAST_DENY_LO = a % 2 ^ 32 ∧ (s.deny m a 3).get Rg.OWN_LAST_DENY_HI_ADDR = a / 2 ^ 32 % 2 ^ 16 ∧
    (s.deny m a 3).get Rg.OWN_LAST_DENY_HI_MASTER = m % 2 ^ Rg.OWN_LAST_DENY_HI_MASTER.w) ∧
  (∀ (s : State) (m a c : Nat), c ≠ 1 → c ≠ 2 → c ≠ 3 → s.deny m a c = s) ∧
  ∀ (s : State) (m a c : Nat), OnlyFields [Rg.MX_ERR_CNT, Rg.MX_WIN_DENY_CNT, Rg.MX_INT_STATUS_UNMAPPED,
    Rg.MX_INT_STATUS_WIN_DENY, Rg.MX_LAST_ERR_LO, Rg.MX_LAST_ERR_HI_ADDR, Rg.MX_LAST_ERR_HI_MASTER, Rg.MX_LAST_ERR_HI_CODE,
    Rg.OWN_DENY_CNT, Rg.OWN_LAST_DENY_LO, Rg.OWN_LAST_DENY_HI_ADDR, Rg.OWN_LAST_DENY_HI_MASTER] s (s.deny m a c)

/-- R7, both columns. A write: an RW or WO field takes the value written; a W1C bit is cleared where 1 is written and keeps its
value where 0 is; a W1S bit is set where 1 is written; RO and RC fields are not changed; every field of another place keeps
its value. A read: a WO field shows 0 and any other what it holds; each RC field of the register read then takes its reset
value, and no other field changes; a read through the peek alias changes nothing. -/
def Obligations.AccessCodesFollowR7 : Prop :=
  (∀ (s : State) (f : Fld) (v : Nat), s.get f < 2 ^ f.w →
    (s.writeFld v (f, .rw)).get f = v / 2 ^ f.lo % 2 ^ f.w ∧
    (s.writeFld v (f, .wo)).get f = v / 2 ^ f.lo % 2 ^ f.w ∧
    (∀ i, i < f.w → ((s.writeFld v (f, .w1c)).get f).testBit i = ((s.get f).testBit i && !v.testBit (f.lo + i))) ∧
    (∀ i, i < f.w → ((s.writeFld v (f, .w1s)).get f).testBit i = ((s.get f).testBit i || v.testBit (f.lo + i))) ∧
    s.writeFld v (f, .ro) = s ∧ s.writeFld v (f, .rc) = s ∧
    ∀ a : Acc, OnlyFields [f] s (s.writeFld v (f, a))) ∧
  (∀ (s : State) (f : Fld) (a : Acc) (fs : List (Fld × Acc)),
    s.fldsNat ((f, a) :: fs) = (if a = .wo then 0 else s.get f * 2 ^ f.lo) + s.fldsNat fs) ∧
  ∀ (s : State) (r : RegRef), r.row.base < (Rg.CRC_VALUE_LO 0).addr ∨ (Rg.CRC_RESULT_HI 0).addr < r.row.base →
    ((r.row.flds r.n r.k).map (fun p => p.1.key)).Nodup → (∀ p ∈ r.row.flds r.n r.k, p.1.rst < 2 ^ p.1.w) →
    (∀ f, (f, Acc.rc) ∈ r.row.flds r.n r.k → (s.readEffect r).get f = f.rst) ∧
    (r.row.base ≠ Rg.ST_ROT_STATUS_SRC_PHYS.addr → s.readEffect r = { s with regs := (s.readEffect r).regs }) ∧
    (∀ g : Fld, g.key ∉ ((r.row.flds r.n r.k).filter (fun p => p.2 = .rc)).map (·.1.key) →
      (s.readEffect r).get g = s.get g) ∧
    ∀ n, (s.regRead r n true).2 = s

/-- R4, R7, R351: a register access that passes the checks of the matrix completes. A write of a register at its own width
does what the register makes of the value (code 0), or is refused with code 4 and changes nothing else; an access of
another width is refused with code 4. A read answers the value that the register shows, and RC fields take their reset
value; a read of a register that shows pointers of a queue is a use of them (R394), and one of `Q_POP_HDR` takes the header
word of the oldest item, or fails, as R243 says. Completes: REGISTER_WRITE, RC_READ. -/
def Obligations.RegisterAccessesComplete : Prop :=
  (∀ (s : State) (m : Master) (a : Addr) (wide : Bool) (v : DWord) (r : RegRef) (t : State),
    s.held = false → s.rom = .none → regAt a.toNat = some r → targetOf a.toNat = .register r →
    s.mxCheck m a.toNat (if wide then 8 else 4) true false = none → r.widthOk (if wide then 8 else 4) = true →
    (s.regWrite m r (if wide then 8 else 4) (v.toNat % 2 ^ (if wide then 64 else 32)) = .ok t → t.rom = .none →
      exec (.registerWrite m a wide v) s = .next (t.respond m 0 0)) ∧
    (s.regWrite m r (if wide then 8 else 4) (v.toNat % 2 ^ (if wide then 64 else 32)) = .refused s →
      exec (.registerWrite m a wide v) s = .next (s.respond m 4 0))) ∧
  (∀ (s : State) (m : Master) (a : Addr) (wide : Bool) (v : DWord) (r : RegRef),
    s.held = false → s.rom = .none → targetOf a.toNat = .register r →
    s.mxCheck m a.toNat (if wide then 8 else 4) true false = none → r.widthOk (if wide then 8 else 4) = false →
    exec (.registerWrite m a wide v) s = .next (s.respond m 4 0) ∧
    (s.mxCheck m a.toNat (if wide then 8 else 4) false false = none →
      Answers (.rcRead m a wide) s fun t =>
        t = { s with resp := some { master := m, code := 4, data := 0, beats := [none] } })) ∧
  (∀ (s : State) (m : Master) (a : Addr) (wide : Bool) (r : RegRef),
    s.held = false → targetOf a.toNat = .register r → s.mxCheck m a.toNat (if wide then 8 else 4) false false = none →
    r.widthOk (if wide then 8 else 4) = true → r.row.base ≠ (Rg.Q_POP_HDR 0).addr → r.row.base ∉ ptrRows →
    Answers (.rcRead m a wide) s fun t =>
      t = { s.readEffect r with resp := t.resp } ∧
      t.resp = some { master := m, code := 0, data := cutHalf r.off (if wide then 8 else 4) (s.regShow r),
                      beats := [some (cutHalf r.off (if wide then 8 else 4) (s.regShow r))] }) ∧
  (∀ (s : State) (m : Master) (a : Addr) (r : RegRef),
    s.held = false → targetOf a.toNat = .register r → s.mxCheck m a.toNat 4 false false = none → r.row.base ∈ ptrRows →
    r.widthOk 4 = true →
    Answers (.rcRead m a false) s fun t =>
      t = { s.qUse r.n with resp := t.resp } ∧
      t.resp = some { master := m, code := 0, data := cutHalf r.off 4 ((s.qUse r.n).regShow r),
                      beats := [some (cutHalf r.off 4 ((s.qUse r.n).regShow r))] }) ∧
  ∀ (s : State) (m : Master) (a : Addr) (r : RegRef),
    s.held = false → targetOf a.toNat = .register r → s.mxCheck m a.toNat 8 false false = none →
    r.row.base = (Rg.Q_POP_HDR 0).addr → r.widthOk 8 = true →
    Answers (.rcRead m a true) s fun t =>
      t = { (s.qPopHdr r.n).2 with resp := t.resp } ∧
      t.resp =
        match (s.qPopHdr r.n).1 with
        | some v => some { master := m, code := 0, data := v % 2 ^ 64, beats := [some (v % 2 ^ 64)] }
        | none => some { master := m, code := 5, data := 0, beats := [none] }

/-- R479: a peek read changes nothing but the answer, and what the matrix counts of a request that it denies; of a register
it answers the value that the register shows, and of local memory without error the bytes that stand there. A MATRIX_REQUEST
on local memory without error: a write within one line that passes the checks stores exactly its bytes, byte 0 at the lowest
address (R3), every other byte of local memory, the store and the vault as before; a read answers the bytes that stand there.
A request that fails a check has no effect but the denial (R351). Completes: PEEK_READ, MATRIX_REQUEST. -/
def Obligations.MatrixReadsAndWritesFollowR351 : Prop :=
  (∀ (s : State) (m : Master) (a : Addr) (last : BitVec 4), s.held = false → transactionForm a.toNat (last.toNat + 1) = true →
    Answers (.peekRead m a last none) s fun t =>
      (s.mxCheck m a.toNat (last.toNat + 1) false true = none → t = { s with resp := t.resp }) ∧
      ∀ c, s.mxCheck m a.toNat (last.toNat + 1) false true = some c → t = s.fail m a.toNat c) ∧
  (∀ (s : State) (m : Master) (a : Addr) (r : RegRef), s.held = false → targetOf a.toNat = .register r →
    s.mxCheck m a.toNat 4 false true = none → r.widthOk 4 = true → r.row.base ≠ (Rg.Q_POP_HDR 0).addr →
    r.row.base ∉ ptrRows →
    Answers (.peekRead m a 3 none) s fun t =>
      t.resp = some { master := m, code := 0, data := cutHalf r.off 4 (s.regShow r),
                      beats := [some (cutHalf r.off 4 (s.regShow r))] }) ∧
  (∀ (s : State) (m : Master) (a : Addr) (last : BitVec 4), s.held = false → s.lmErr = [] →
    0x100000000 ≤ a.toNat → a.toNat + last.toNat + 1 ≤ 0x100200000 → a.toNat % 16 + last.toNat + 1 ≤ 16 →
    s.mxCheck m a.toNat (last.toNat + 1) false true = none →
    Answers (.peekRead m a last none) s fun t =>
      t.resp = some { master := m, code := 0, data := leNat (s.lmBytes (a.toNat - 0x100000000) (last.toNat + 1)),
                      beats := [some (leNat (s.lmBytes (a.toNat - 0x100000000) (last.toNat + 1)))] }) ∧
  (∀ (s : State) (m : Master) (a : Addr) (last : BitVec 8) (d : BitVec 2048), s.held = false → s.lmErr = [] → s.romGo = none →
    0x100000000 ≤ a.toNat → a.toNat + last.toNat + 1 ≤ 0x100200000 → a.toNat % 16 + last.toNat + 1 ≤ 16 →
    s.mxCheck m a.toNat (last.toNat + 1) true false = none →
    Answers (.matrixRequest m ⟨a, last, some d, false, none⟩) s fun t =>
      t.resp = some { master := m, code := 0, data := 0 } ∧
      (∀ k, t.lmByte k =
        if a.toNat - 0x100000000 ≤ k ∧ k < a.toNat - 0x100000000 + last.toNat + 1
        then BitVec.ofNat 8 (d.toNat / 2 ^ (8 * (k - (a.toNat - 0x100000000)))) else s.lmByte k) ∧
      t = { s with localMem := t.localMem, tags := t.tags, tagBad := t.tagBad, resp := t.resp }) ∧
  (∀ (s : State) (m : Master) (a : Addr) (last : BitVec 8), s.held = false → s.lmErr = [] → s.romGo = none →
    0x100000000 ≤ a.toNat → a.toNat + last.toNat + 1 ≤ 0x100200000 → a.toNat % 16 + last.toNat + 1 ≤ 16 →
    s.mxCheck m a.toNat (last.toNat + 1) false false = none →
    Answers (.matrixRequest m ⟨a, last, none, false, none⟩) s fun t =>
      t = { s with resp := t.resp } ∧
      t.resp = some { master := m, code := 0, data := leNat (s.lmBytes (a.toNat - 0x100000000) (last.toNat + 1)),
                      beats := [some (leNat (s.lmBytes (a.toNat - 0x100000000) (last.toNat + 1)))] }) ∧
  ∀ (s : State) (m : Master) (r : MxReq) (c : Nat), s.held = false → r.up = none → s.romGo = none →
    transactionForm r.addr.toNat (r.last.toNat + 1) = true →
    s.mxCheck m r.addr.toNat (r.last.toNat + 1) r.write.isSome (r.write.isNone && r.peek) = some c →
    exec (.matrixRequest m r) s = .next (s.fail m r.addr.toNat c)

/-- `FT_CTRL` and the lock sequence (R16, R38, R40, R41, R493). LOCK_REQ in UNLOCKED or REFUSED enters MEASURING; in every other
state it only writes EVAL_EN and RELOCK_EN. UNLOCK ends a lock sequence at once, waits for cc 0 in LOCKED, and in UNLOCKED and
REFUSED only writes the two fields; REFUSE_CODE stays. EVAL_EN is staged in LOCKED and in force at once elsewhere; outside
UNLOCKED and REFUSED a write of 1 to it is refused when F × M < 512 or W < PROVED_W. A measurement records the frequency and
enters PLL_LOCKING, or REFUSED with the first of codes 1 to 4 that applies; the PLL's lock enters SEEKING; 200 µs without one
refuse with code 5; in other states these do nothing. REFCLK lost in a watched state raises REF_LOSS, lets no word leave any
more, and enters UNLOCKED; in LOCKED what was staged takes effect (R26), and the programs of the frame stop (assumption 119: the
model's choice). Completes: LOCK_REQ, UNLOCK, EVAL_EN_WRITE, REF_MEASURE_DONE, PLL_LOCK_DONE, PLL_LOCK_TIMEOUT, REF_LOSS. -/
def Obligations.LockSequenceFollowsR16 : Prop :=
  (∀ (s : State) (m : Master) (v : Word), MayWrite s m Rg.FT_CTRL_LOCK_REQ.addr 4 → s.unlocked = true →
    Answers (.lockReq m v) s fun t => t.get Rg.FT_STATUS_STATE = 1 ∧ t.get Rg.FT_CTRL_EVAL_EN = v.toNat / 4 % 2 ∧
      t.get Rg.FT_CTRL_RELOCK_EN = v.toNat / 8 % 2 ∧ t.force Rg.FT_CTRL_EVAL_EN = v.toNat / 4 % 2 ∧
      t.get Rg.CT_STATUS_CFG_ERR = (if s.ctPlaced then 0 else 1) ∧
      t.resp = some { master := m, code := 0, data := 0 } ∧
      OnlyFields [Rg.FT_STATUS_STATE, Rg.FT_CTRL_EVAL_EN, Rg.FT_CTRL_RELOCK_EN, Rg.CT_STATUS_CFG_ERR]
        { s with ft := { s.ft with relock := none, seekCount := 0, seekGap := 0 }, inForce := t.inForce, resp := t.resp } t) ∧
  (∀ (s : State) (m : Master) (v : Word), MayWrite s m Rg.FT_CTRL_LOCK_REQ.addr 4 → s.unlocked = false →
    s.evalRefused = false ∨ v.toNat / 4 % 2 = 0 → v.toNat / 2 % 2 = 0 →
    Answers (.lockReq m v) s fun t => t.get Rg.FT_CTRL_EVAL_EN = v.toNat / 4 % 2 ∧
      t.get Rg.FT_CTRL_RELOCK_EN = v.toNat / 8 % 2 ∧
      OnlyFields [Rg.FT_CTRL_EVAL_EN, Rg.FT_CTRL_RELOCK_EN]
        { s with staged := t.staged, inForce := t.inForce, resp := some { master := m, code := 0, data := 0 } } t) ∧
  (∀ (s : State) (m : Master) (v : Word), MayWrite s m Rg.FT_CTRL_LOCK_REQ.addr 4 →
    s.get Rg.FT_STATUS_STATE ∈ [1, 2, 3, 5] → s.evalRefused = false ∨ v.toNat / 4 % 2 = 0 →
    Answers (.unlock m v) s fun t => t.get Rg.FT_STATUS_STATE = 0 ∧ t.get Rg.FT_CTRL_EVAL_EN = v.toNat / 4 % 2 ∧
      t.get Rg.FT_CTRL_RELOCK_EN = v.toNat / 8 % 2 ∧ t.force Rg.FT_CTRL_EVAL_EN = v.toNat / 4 % 2 ∧
      t.get Rg.FT_STATUS_REFUSE_CODE = s.get Rg.FT_STATUS_REFUSE_CODE ∧
      OnlyFields [Rg.FT_STATUS_STATE, Rg.FT_CTRL_EVAL_EN, Rg.FT_CTRL_RELOCK_EN]
        { s with inForce := t.inForce, resp := some { master := m, code := 0, data := 0 } } t) ∧
  (∀ (s : State) (m : Master) (v : Word), MayWrite s m Rg.FT_CTRL_LOCK_REQ.addr 4 → s.locked = true →
    s.evalRefused = false ∨ v.toNat / 4 % 2 = 0 →
    Answers (.unlock m v) s fun t => t.get Rg.FT_STATUS_STATE = 4 ∧ t.get Rg.FT_CTRL_EVAL_EN = v.toNat / 4 % 2 ∧
      t.get Rg.FT_CTRL_RELOCK_EN = v.toNat / 8 % 2 ∧ t.inForce = s.inForce ∧
      OnlyFields [Rg.FT_CTRL_EVAL_EN, Rg.FT_CTRL_RELOCK_EN]
        { s with ft := { s.ft with unlockReq := true }, staged := t.staged,
                 resp := some { master := m, code := 0, data := 0 } } t) ∧
  (∀ (s : State) (m : Master) (v : Word), MayWrite s m Rg.FT_CTRL_LOCK_REQ.addr 4 → s.unlocked = true → v.toNat % 2 = 0 →
    Answers (.unlock m v) s fun t => t.get Rg.FT_CTRL_EVAL_EN = v.toNat / 4 % 2 ∧
      t.get Rg.FT_CTRL_RELOCK_EN = v.toNat / 8 % 2 ∧
      OnlyFields [Rg.FT_CTRL_EVAL_EN, Rg.FT_CTRL_RELOCK_EN]
        { s with inForce := t.inForce, resp := some { master := m, code := 0, data := 0 } } t) ∧
  (∀ (s : State) (m : Master) (v : Word), MayWrite s m Rg.FT_CTRL_LOCK_REQ.addr 4 → s.unlocked = false →
    v.toNat / 4 % 2 = 1 → s.frameCc < 512 ∨ s.budgetW < s.get Rg.FT_BUDGET_PROVED_W →
    Refused (.evalEnWrite m v) s m ∧ Refused (.lockReq m v) s m ∧ Refused (.unlock m v) s m) ∧
  (∀ (s : State) (m : Master) (v : Word), MayWrite s m Rg.FT_CTRL_LOCK_REQ.addr 4 →
    s.evalRefused = false ∨ v.toNat / 4 % 2 = 0 →
    Answers (.evalEnWrite m v) s fun t => t.get Rg.FT_CTRL_EVAL_EN = v.toNat / 4 % 2 ∧
      t.get Rg.FT_CTRL_RELOCK_EN = v.toNat / 8 % 2 ∧
      OnlyFields [Rg.FT_CTRL_EVAL_EN, Rg.FT_CTRL_RELOCK_EN]
        { s with staged := t.staged, inForce := t.inForce, resp := some { master := m, code := 0, data := 0 } } t ∧
      (s.locked = false → t.staged = s.staged ∧ t.force Rg.FT_CTRL_EVAL_EN = v.toNat / 4 % 2) ∧
      (s.locked = true → t.inForce = s.inForce ∧
        t.staged = s.staged ++ [⟨Rg.FT_CTRL_EVAL_EN.key, Rg.FT_CTRL_EVAL_EN.rst, v.toNat / 4 % 2, s.dueNow⟩])) ∧
  (∀ (s : State) (khz : BitVec 17), s.held = false → s.get Rg.FT_STATUS_STATE = 1 →
    Answers (.refMeasureDone khz) s fun t => t.get Rg.FT_REFMEAS_REF_KHZ = khz.toNat ∧
      t.get Rg.VU_STATUS_CFG_ERR = (if s.vuPlaced then 0 else 1) ∧
      (∀ c, s.refuseCode khz.toNat = some c → t.get Rg.FT_STATUS_STATE = 6 ∧ t.get Rg.FT_STATUS_REFUSE_CODE = c % 16 ∧
        t.get Rg.FT_INT_STATUS_REFUSED = 1) ∧
      (s.refuseCode khz.toNat = none → t.get Rg.FT_STATUS_STATE = 2 ∧
        t.get Rg.FT_STATUS_REFUSE_CODE = s.get Rg.FT_STATUS_REFUSE_CODE ∧
        t.get Rg.FT_INT_STATUS_REFUSED = s.get Rg.FT_INT_STATUS_REFUSED) ∧
      OnlyFields [Rg.FT_REFMEAS_REF_KHZ, Rg.VU_STATUS_CFG_ERR, Rg.VU_INT_STATUS_CFG_ERR, Rg.FT_STATUS_STATE,
        Rg.FT_STATUS_REFUSE_CODE, Rg.FT_INT_STATUS_REFUSED] s t) ∧
  (∀ (s : State) (khz : Nat),
    (khz < 10000 ∨ 80000 < khz → s.refuseCode khz = some 1) ∧
    (10000 ≤ khz → khz ≤ 80000 → s.frameM * khz < 1200000 ∨ 2200000 < s.frameM * khz → s.refuseCode khz = some 2) ∧
    (10000 ≤ khz → khz ≤ 80000 → 1200000 ≤ s.frameM * khz → s.frameM * khz ≤ 2200000 →
      (s.force Rg.FT_CTRL_EVAL_EN = 1 → s.frameCc < 512 → s.refuseCode khz = some 3) ∧
      (s.force Rg.FT_CTRL_EVAL_EN = 1 → 512 ≤ s.frameCc → s.budgetW < s.get Rg.FT_BUDGET_PROVED_W → s.refuseCode khz = some 4) ∧
      (s.force Rg.FT_CTRL_EVAL_EN ≠ 1 ∨ 512 ≤ s.frameCc ∧ s.get Rg.FT_BUDGET_PROVED_W ≤ s.budgetW →
        s.refuseCode khz = none))) ∧
  (∀ s : State, s.held = false → s.get Rg.FT_STATUS_STATE = 2 →
    (Answers .pllLockDone s fun t => t.get Rg.FT_STATUS_STATE = 3 ∧
      OnlyFields [Rg.FT_STATUS_STATE] { s with ft := { s.ft with seekCount := 0, seekGap := 0 } } t) ∧
    Answers .pllLockTimeout s fun t => t.get Rg.FT_STATUS_STATE = 6 ∧ t.get Rg.FT_STATUS_REFUSE_CODE = 5 ∧
      t.get Rg.FT_INT_STATUS_REFUSED = 1 ∧
      OnlyFields [Rg.FT_STATUS_STATE, Rg.FT_STATUS_REFUSE_CODE, Rg.FT_INT_STATUS_REFUSED] s t) ∧
  (∀ (s : State) (khz : BitVec 17),
    (s.get Rg.FT_STATUS_STATE ≠ 1 → Ignored (.refMeasureDone khz) s) ∧
    (s.get Rg.FT_STATUS_STATE ≠ 2 → Ignored .pllLockDone s ∧ Ignored .pllLockTimeout s)) ∧
  (∀ s : State, s.held = false → s.unlocked = false → s.locked = false →
    Answers .refLoss s fun t => t.get Rg.FT_STATUS_STATE = 0 ∧ t.get Rg.FT_INT_STATUS_REF_LOSS = 1 ∧
      OnlyFields [Rg.FT_STATUS_STATE, Rg.FT_INT_STATUS_REF_LOSS, Rg.VU_STATUS_FROZEN, Rg.VU_INT_STATUS_FROZEN]
        { s with vu := { s.vu with fifo := [], out := none, cur := none } } t) ∧
  (∀ s : State, s.held = false → s.locked = true →
    Answers .refLoss s fun t => t.get Rg.FT_STATUS_STATE = 0 ∧ t.get Rg.FT_INT_STATUS_REF_LOSS = 1 ∧ t.vu.fifo = [] ∧
      t.vu.out = none ∧ t.staged = [] ∧ t.ft.evalRun = false ∧ (∀ n : VE, (t.eng n).run = false) ∧
      (∀ e, LastChange s.staged e → Tab.get t.inForce e.key e.rst = e.val) ∧
      ∀ k d, (∀ e ∈ s.staged, e.key ≠ k) → Tab.get t.inForce k d = Tab.get s.inForce k d) ∧
  ∀ s : State, s.unlocked = true → Ignored .refLoss s

/-- FSYNC_MARKER and CROSSING_TICK (R16, R35, R39, R41, R43, R93, R248, R505, R508). While SEEKING, a marker at the right distance
counts on and any other restarts the count at 1; the one that makes LOCK_COUNT, at least two, locks: the first frame takes its
number from `FT_PRESET`, or after SYNC_LOST the next one, its crossing 0 is open, no reservation is left, and the tick reaches
timers and IDR. While LOCKED a marker at an expected position is noted; any other adds 1 to `FT_SYNC_ERR_CNT`, sets SYNC_MISS
and the frame's SYNC; positions count from the lock (assumption 24: the model's choice). A crossing of LOCKED ends the open one:
an expected position without its marker is an error, and a run that reaches MISS_LIMIT of them raises SYNC_LOST, once, which with
RELOCK_EN drops the words that wait and seeks again, an UNLOCK that waits forgotten (assumption 131: the model's choice). Then the
next crossing of the frame opens, timers on crossings advance, and from crossing 2F + E on one word leaves. Outside LOCKED the
words that an unlock left still leave, one to a crossing, not before their position (assumption 21: the model's choice); while
SEEKING a crossing adds 1 to the marker's distance. A word shows on the pins where PIN_EN and VERDICT_EN let it and no test
instruction drives them (R477). Completes: FSYNC_MARKER, CROSSING_TICK. -/
def Obligations.MarkersAndCrossingsFollowR39 : Prop :=
  (∀ (s : State) (n : Nat), s.held = false → s.get Rg.FT_STATUS_STATE = 3 →
    n = (if s.ft.seekCount ≠ 0 ∧ s.ft.seekGap = s.markerGap then s.ft.seekCount + 1 else 1) →
    (n < max 2 (s.get Rg.FT_SYNC_LOCK_COUNT) →
      exec .fsyncMarker s = .next { s with ft := { s.ft with seekCount := n, seekGap := 0 } }) ∧
    (max 2 (s.get Rg.FT_SYNC_LOCK_COUNT) ≤ n →
      Answers .fsyncMarker s fun t => t.get Rg.FT_STATUS_STATE = 4 ∧ t.get Rg.FT_INT_STATUS_LOCKED = 1 ∧
        t.frameNo = (match s.ft.relock with
          | some p => p
          | none => s.get2 Rg.FT_PRESET_LO Rg.FT_PRESET_HI) % 2 ^ 64 ∧
        t.ft.cross = 1 ∧ t.ft.inFrame = 1 ∧ t.ft.crossOpen = true ∧ t.ft.marker = true ∧ t.ft.frames = 0 ∧ t.ft.cc = 0 ∧
        t.resv = [] ∧ t.vu.fifo = [] ∧ t.vu.out = none ∧ t.triad.tick = 3)) ∧
  (∀ (s : State) (x : Nat), s.held = false → s.locked = true → x = (if s.ft.crossOpen then s.ft.cross - 1 else s.ft.cross) →
    (s.markerDue x = true → s.ft.marker = false →
      exec .fsyncMarker s = .next { s with ft := { s.ft with marker := true } }) ∧
    (s.markerDue x = false ∨ s.ft.marker = true →
      Answers .fsyncMarker s fun t =>
        t.get Rg.FT_SYNC_ERR_CNT = min (s.get Rg.FT_SYNC_ERR_CNT + 1) (2 ^ 32 - 1) % 2 ^ 32 ∧
        t.get Rg.FT_INT_STATUS_SYNC_MISS = 1 ∧
        OnlyFields [Rg.FT_SYNC_ERR_CNT, Rg.FT_INT_STATUS_SYNC_MISS] { s with ft := { s.ft with sync := true } } t)) ∧
  (∀ s : State, s.locked = false → s.get Rg.FT_STATUS_STATE ≠ 3 → Ignored .fsyncMarker s) ∧
  (∀ s : State, s.held = false → s.locked = true → s.ft.inFrame < s.frameF →
    s.ft.crossOpen = false ∨ s.markerDue (s.ft.cross - 1) = false ∨ s.ft.marker = true →
    Answers .crossingTick s fun t =>
      t.ft = { s.ft with cross := s.ft.cross + 1, inFrame := s.ft.inFrame + 1, crossOpen := true,
                         marker := (if s.ft.crossOpen then false else s.ft.marker),
                         badRun := (if s.ft.crossOpen && s.markerDue (s.ft.cross - 1) then 0 else s.ft.badRun),
                         lostRun := (if s.ft.crossOpen && s.markerDue (s.ft.cross - 1) then false else s.ft.lostRun),
                         cc := max s.ft.cc (s.ft.inFrame * s.frameM) } ∧
      t.force Rg.PAD_CTRL_VERDICT_EN = s.get Rg.PAD_CTRL_VERDICT_EN % 2 ^ Rg.PAD_CTRL_VERDICT_EN.w ∧
      (s.ft.cross < 2 * s.frameF + s.get Rg.FT_CFG_E → t.vu = s.vu ∧ t.sent = s.sent) ∧
      (2 * s.frameF + s.get Rg.FT_CFG_E ≤ s.ft.cross →
        t.vu = { s.vu with fifo := s.vu.fifo.tail, out := s.vu.fifo.head? } ∧
        t.sent = (match s.vu.fifo with
          | w :: _ =>
            if s.flag Rg.VU_CTRL_PIN_EN ∧ t.force Rg.PAD_CTRL_VERDICT_EN ≠ 0 ∧ s.jtag.ownPins then .verdict w :: s.sent else s.sent
          | [] => s.sent)) ∧
      ((∀ n : Fin 8, s.get (Rg.TMR_CTRL_SRC n) ≠ 1) →
        t = { s with ft := t.ft, vu := t.vu, sent := t.sent, inForce := t.inForce })) ∧
  (∀ s : State, s.held = false → s.locked = true → s.frameF ≤ s.ft.inFrame →
    s.ft.crossOpen = false ∨ s.markerDue (s.ft.cross - 1) = false ∨ s.ft.marker = true →
    Answers .crossingTick s fun t => t = { s with ft := t.ft } ∧ t.ft.crossOpen = false ∧ t.ft.cross = s.ft.cross ∧
      t.ft.sync = s.ft.sync) ∧
  (∀ s : State, s.held = false → s.locked = true → s.ft.crossOpen = true → s.markerDue (s.ft.cross - 1) = true →
    s.ft.marker = false →
    (s.ft.lostRun = true ∨ s.ft.badRun + 1 < max 1 (s.get Rg.FT_SYNC_MISS_LIMIT) →
      Answers .crossingTick s fun t => t.get Rg.FT_SYNC_ERR_CNT = min (s.get Rg.FT_SYNC_ERR_CNT + 1) (2 ^ 32 - 1) % 2 ^ 32 ∧
        t.get Rg.FT_INT_STATUS_SYNC_MISS = 1 ∧ t.get Rg.FT_INT_STATUS_SYNC_LOST = s.get Rg.FT_INT_STATUS_SYNC_LOST ∧
        t.ft.sync = true ∧ t.ft.badRun = s.ft.badRun + 1 ∧ t.ft.lostRun = s.ft.lostRun ∧ t.locked = true ∧
        t.ft.cross = s.ft.cross + (if s.ft.inFrame < s.frameF then 1 else 0)) ∧
    (s.ft.lostRun = false → max 1 (s.get Rg.FT_SYNC_MISS_LIMIT) ≤ s.ft.badRun + 1 → s.flag Rg.FT_CTRL_RELOCK_EN = false →
      Answers .crossingTick s fun t => t.get Rg.FT_INT_STATUS_SYNC_LOST = 1 ∧ t.get Rg.FT_INT_STATUS_SYNC_MISS = 1 ∧
        t.ft.sync = true ∧ t.ft.lostRun = true ∧ t.locked = true ∧
        t.ft.cross = s.ft.cross + (if s.ft.inFrame < s.frameF then 1 else 0)) ∧
    (s.ft.lostRun = false → max 1 (s.get Rg.FT_SYNC_MISS_LIMIT) ≤ s.ft.badRun + 1 → s.flag Rg.FT_CTRL_RELOCK_EN = true →
      Answers .crossingTick s fun t => t.get Rg.FT_INT_STATUS_SYNC_LOST = 1 ∧ t.get Rg.FT_INT_STATUS_SYNC_MISS = 1 ∧
        t.get Rg.FT_STATUS_STATE = 3 ∧ t.ft.relock = some ((s.frameNo + 1) % 2 ^ 64) ∧ t.ft.seekCount = 0 ∧
        t.ft.unlockReq = false ∧ t.vu.fifo = [] ∧ t.vu.out = none ∧ t.staged = [])) ∧
  ∀ s : State, s.held = false → s.locked = false →
    Answers .crossingTick s fun t =>
      t.ft = { s.ft with hold := s.ft.hold - 1,
                         seekGap := if s.get Rg.FT_STATUS_STATE = 3 then s.ft.seekGap + 1 else s.ft.seekGap } ∧
      (s.ft.hold ≠ 0 → t.vu = { s.vu with out := none } ∧ t.sent = s.sent) ∧
      (s.ft.hold = 0 → t.vu = { s.vu with fifo := s.vu.fifo.tail, out := s.vu.fifo.head? } ∧
        t.sent = (match s.vu.fifo with
          | w :: _ =>
            if s.flag Rg.VU_CTRL_PIN_EN ∧ t.force Rg.PAD_CTRL_VERDICT_EN ≠ 0 ∧ s.jtag.ownPins then .verdict w :: s.sent else s.sent
          | [] => s.sent)) ∧
      t = { s with ft := t.ft, vu := t.vu, sent := t.sent, inForce := t.inForce }

/-- The frame boundary (R18, R26, R41, R43, R61, R93, R130, R508). With the frame over, FRAME_TICK advances the frame number by
1, moves every buffer to its next role, starts the frame at cc 0, clears every reservation and FENDED, and gives the tick to
the timers and the IDR. Each change staged for it stands in force, the last one of a field, and the others come one boundary
nearer; the frame is evaluated where EVAL_EN in force, tier and controller let it. The buffer that becomes spare takes the
number of the frame it will collect and the START and CAP of the split in force, and every other header word is 0. Where an
unlock waits, FRAME_TICK enters UNLOCKED instead, all that was staged stands in force, and only the words of the frame in
emission are left; the roles of the buffers and the number of the frame stay (assumption 132: the model's choice). Outside
LOCKED there is no cc 0. Completes: FRAME_TICK. -/
def Obligations.FrameTickRotatesTheBuffers : Prop :=
  (∀ s : State, s.held = false → s.locked = true → FrameOver s → s.ft.unlockReq = false →
    Answers .frameTick s fun t => t.frameNo = (s.frameNo + 1) % 2 ^ 64 ∧ t.collBuf = (s.collBuf + 1) % 4 ∧
      t.ft.cc = 0 ∧ t.ft.phase = 0 ∧ t.ft.inFrame = 0 ∧ t.ft.frames = s.ft.frames + 1 ∧ t.ft.sync = false ∧
      t.ft.cross = s.ft.cross ∧ t.resv = [] ∧ t.locked = true ∧ t.vu.cur = none ∧ t.triad.tick = 3 ∧
      (∀ n : VE, t.get (Rg.VE_STATUS_FENDED n) = 0) ∧ t.ft.evalRun = t.evalOn ∧
      t.staged = (s.staged.filter (fun x => 1 < x.due)).map (fun x => { x with due := x.due - 1 }) ∧
      ∀ e, LastChange (s.staged.filter (fun x => x.due ≤ 1)) e → e.key ∉ tmrKeys → Tab.get t.inForce e.key e.rst = e.val) ∧
  (∀ s : State, s.held = false → s.locked = true → FrameOver s → s.ft.unlockReq = false → QuietStore s →
    Answers .frameTick s fun t => t.hdr t.spareBuf 0 = (s.frameNo + 2) % 2 ^ 64 ∧
      (∀ o ∈ [8, 0x10, 0x18, 0x20, 0x28, 0x30, 0x38], t.hdr t.spareBuf o = 0) ∧
      (∀ p : Fin 64, t.hdr t.spareBuf (0x40 + 16 * p) =
          ((t.split.getD p (0, 0)).1 + (t.split.getD p (0, 0)).2 * 2 ^ 32) % 2 ^ 64 ∧
        t.hdr t.spareBuf (0x48 + 16 * p) = 0) ∧
      ∀ j : Fin 120, t.hdr t.spareBuf (0x440 + 8 * j) = 0) ∧
  (∀ s : State, s.held = false → s.locked = true → FrameOver s → s.ft.unlockReq = true →
    Answers .frameTick s fun t => t.get Rg.FT_STATUS_STATE = 0 ∧ t.frameNo = s.frameNo ∧ t.collBuf = s.collBuf ∧
      t.ft.unlockReq = false ∧ t.staged = [] ∧
      (∀ e, LastChange s.staged e → Tab.get t.inForce e.key e.rst = e.val) ∧ (s.vu.cur = none → t.vu.fifo = s.vu.fifo) ∧
      (∀ f, s.vu.cur = some f → t.vu.fifo = s.vu.fifo.take (s.vu.fifo.length - f.words.length)) ∧
      t.ft.hold = 2 * s.frameF + s.get Rg.FT_CFG_E - s.ft.cross) ∧
  ∀ s : State, s.locked = false → Ignored .frameTick s

/-- The phases of an evaluation frame (R20 to R24, R26, R28, R32, R120, R130, R244 to R246, R253, R443, R508). For the frame before
the first one nothing is done, and while EVAL_EN in force is 0 a phase has no cc of its own but the last, which comes at the staging
point (assumption 120: the model's choice). At cc 96 the programs of the slots that start begin at their entries with the six
frame-start registers; at cc W the guard marks late the slots whose program has executed no FEND, stops their engines and records
them, and each engine shows what it did in the frame; a frame that a base note stopped has no late slot, and the bits change at cc
W (assumption 22: the model's choice). VERDICT_ASSEMBLY
makes F words: each holds the crossing's number, the two low bits of the frame's and the quality flags; a trigger bit combines
what the slots contribute, and where ALLDEF holds it is the default. SILLAGE_WRITE, where it is on, writes the words from entry X
of its ring on and the header entry; it counts a frame with default bits and one with late slots. VERDICT_FRAME_SEND puts a frame of each chunk before every
lane that is enabled and in service. Completes: FRAME_PROGRAM_START, DEADLINE_GUARD, VERDICT_ASSEMBLY, SILLAGE_WRITE,
VERDICT_FRAME_SEND. -/
def Obligations.FramePhasesFollowR21 : Prop :=
  (∀ (s : State) (cc : Nat → Nat), s.held = false → s.locked = true → s.ft.frames = 0 →
    (∀ x, cc x = max s.ft.cc (if s.force Rg.FT_CTRL_EVAL_EN = 0 then 0 else x)) →
    (s.ft.phase = 0 → exec .frameProgramStart s = .next { s with ft := { s.ft with phase := 1, cc := cc 96 } }) ∧
    (s.ft.phase = 1 → exec .deadlineGuard s = .next { s with ft := { s.ft with phase := 2, cc := cc s.budgetW } }) ∧
    (s.ft.phase = 2 → exec .verdictAssembly s = .next { s with ft := { s.ft with phase := 3, cc := cc (s.budgetW + 32) } }) ∧
    (s.ft.phase = 3 → exec .sillageWrite s = .next { s with ft := { s.ft with phase := 4, cc := cc (s.budgetW + 160) } }) ∧
    (s.ft.phase = 4 → exec .verdictFrameSend s = .next { s with ft := { s.ft with phase := 5, cc := s.lastCc } })) ∧
  (∀ (s : State), s.held = false → s.locked = true → s.ft.frames ≠ 0 → s.ft.phase = 0 →
    Answers .frameProgramStart s fun t => t.ft.phase = 1 ∧
      (s.ft.evalRun = false ∨ s.ft.baseStop = true → s.copies = [] → s.chks = [] → t = { s with ft := t.ft })) ∧
  (∀ (s : State) (k : Slot) (n : VE), s.held = false → s.locked = true → s.ft.frames ≠ 0 → s.ft.phase = 0 →
    s.ft.evalRun = true → s.ft.baseStop = false → s.copies = [] → k.val ∈ s.ft.starts → s.ft.starts.Nodup → s.veOf k = some n.val →
    (∀ j ∈ s.ft.starts, s.veOf j = some n.val → j = k.val) →
    Answers .frameProgramStart s fun t => (t.eng n).run = true ∧ t.get (Rg.VE_STATUS_RUNNING n) = 1 ∧
      (t.eng n).pc = BitVec.ofNat 32 (s.get (if s.dd.lean then Rg.EM_LEAN_ENTRY k else Rg.EM_ENTRY k) / 4 * 4) ∧
      (t.eng n).sreg 1 = BitVec.ofNat 32 (s.bufBase s.evalBuf) ∧
      (t.eng n).sreg 2 = BitVec.ofNat 32 ((s.frameNo + 2 ^ 64 - 1) % 2 ^ 32) ∧
      (t.eng n).sreg 3 = BitVec.ofNat 32 k.val ∧ (t.eng n).sreg 4 = BitVec.ofNat 32 s.frameF ∧
      (t.eng n).sreg 5 = BitVec.ofNat 32 s.budgetW ∧ (t.eng n).sreg 6 = BitVec.ofNat 32 (Tab.get s.reason k.val 0) ∧
      Tab.get t.reason k.val 0 = 0 ∧ (∀ r, 6 < r → (t.eng n).sreg r = (s.eng n).sreg r) ∧
      ∀ j : VE, (∀ i ∈ s.ft.starts, s.veOf i ≠ some j.val) → t.eng j = s.eng j) ∧
  (∀ s : State, s.held = false → s.locked = true → s.ft.frames ≠ 0 → s.ft.phase = 1 →
    Answers .deadlineGuard s fun t => t.ft.phase = 2 ∧
      (s.ft.evalRun = false ∨ s.ft.baseStop = true → t.vu = { s.vu with fault := 2 ^ 64 - 1 }) ∧
      (s.ft.evalRun = true → s.ft.baseStop = false →
        t.get Rg.FT_LATE_LO = t.vu.late % 2 ^ 32 ∧ t.get Rg.FT_LATE_HI = t.vu.late / 2 ^ 32 % 2 ^ 32 ∧
        (t.vu.late ≠ 0 → t.get Rg.FT_INT_STATUS_OVERRUN = 1)) ∧
      (s.ft.evalRun = true → s.ft.baseStop = true → t.get Rg.FT_LATE_LO = s.vu.late % 2 ^ 32 ∧
        ∀ n : VE, t.get (Rg.VE_STATUS_LATE n) = 0) ∧
      (s.ft.evalRun = true → ∀ n : VE,
        t.get (Rg.VE_STATUS_FAULTED n) = (if (s.eng n).ended && (s.slotOf n).isSome then 1 else 0) ∧
        (s.flag (Rg.VE_STATUS_FENDED n) = false → t.get (Rg.VE_FEND_CC n) = 0xFFFF) ∧
        (s.slotOf n = none → t.get (Rg.VE_STATUS_LATE n) = 0))) ∧
  (∀ (s : State) (k : Slot) (n : VE), s.held = false → s.locked = true → s.ft.frames ≠ 0 → s.ft.phase = 1 →
    s.ft.evalRun = true → s.ft.baseStop = false → s.veOf k = some n.val → (∀ j : Slot, s.veOf j = some n.val → j = k) →
    Answers .deadlineGuard s fun t =>
      t.vu.late.testBit k.val = (s.vu.late.testBit k.val || lateAt s k n) ∧
      t.get (Rg.VE_STATUS_LATE n) = (if lateAt s k n then 1 else 0) ∧ (lateAt s k n = true → (t.eng n).run = false)) ∧
  (∀ s : State, s.held = false → s.locked = true → s.ft.frames ≠ 0 → s.ft.phase = 2 → s.allDef = true →
    Answers .verdictAssembly s fun t => t.vu.fifo = s.vu.fifo ++ defaultWords s ∧ s.quality / 64 % 2 = 1 ∧
      t.vu.cur = some ⟨s.frameAgo 1, defaultWords s, s.quality, s.vu.late, s.vu.fault⟩ ∧
      t = { s with ft := t.ft, vu := t.vu } ∧ t.ft.phase = 3) ∧
  (∀ s : State, s.held = false → s.locked = true → s.ft.frames ≠ 0 → s.ft.phase = 2 → s.allDef = false → s.storeErr = [] →
    Answers .verdictAssembly s fun t => ∃ ws : List Nat, ws.length = s.frameF ∧ t.vu.fifo = s.vu.fifo ++ ws ∧
      t.vu.cur = some ⟨s.frameAgo 1, ws, s.quality, s.vu.late, s.vu.fault⟩ ∧
      ∀ c, c < s.frameF → ws.getD c 0 / 2 ^ 16 = verdictWord 0 s.quality c (s.frameAgo 1) / 2 ^ 16 ∧
        ∀ b, b < 16 → (ws.getD c 0).testBit b = triggerOf s c b) ∧
  (∀ s : State, s.held = false → s.locked = true → s.ft.frames ≠ 0 → s.ft.phase = 2 → s.allDef = false →
    Answers .verdictAssembly s fun t => t.ft.phase = 3 ∧ t.vu.fifo.length = s.vu.fifo.length + s.frameF) ∧
  (∀ s : State, (s.quality.testBit 0 = (s.vu.late != 0)) ∧ (s.quality.testBit 1 = s.vu.qFault) ∧
    (s.quality.testBit 5 = s.ft.leanRun) ∧ (s.quality.testBit 6 = s.allDef) ∧
    (s.allDef = true ↔ s.ft.evalRun = false ∨ s.ft.anyRun = false ∨ s.ft.baseStop = true ∨ s.flag Rg.VU_STATUS_CFG_ERR = true)) ∧
  (∀ (s : State) (f : VFrame), s.held = false → s.locked = true → s.ft.frames ≠ 0 → s.ft.phase = 3 → s.vu.cur = some f →
    Answers .sillageWrite s fun t => t.ft.phase = 4 ∧
      t.get Rg.FT_DEFAULT_CNT = (if f.quality.testBit 0 ∨ f.quality.testBit 1 ∨ f.quality.testBit 6
        then min (s.get Rg.FT_DEFAULT_CNT + 1) (2 ^ Rg.FT_DEFAULT_CNT.w - 1) % 2 ^ Rg.FT_DEFAULT_CNT.w
        else s.get Rg.FT_DEFAULT_CNT) ∧
      t.get Rg.FT_OVERRUN_CNT = (if f.late = 0 then s.get Rg.FT_OVERRUN_CNT
        else min (s.get Rg.FT_OVERRUN_CNT + 1) (2 ^ Rg.FT_OVERRUN_CNT.w - 1) % 2 ^ Rg.FT_OVERRUN_CNT.w) ∧
      (s.flag Rg.VU_CTRL_SIL_EN = false ∨ s.flag Rg.VU_STATUS_FROZEN = true ∨ s.vu.silWait = true ∨
        s.flag Rg.VU_STATUS_CFG_ERR = true → t.vu = s.vu ∧ t.store = s.store ∧ t.storeErr = s.storeErr)) ∧
  (∀ (s : State) (f : VFrame), s.held = false → s.locked = true → s.ft.frames ≠ 0 → s.ft.phase = 3 → s.vu.cur = some f →
    s.storeErr = [] → s.flag Rg.VU_CTRL_SIL_EN = true → s.flag Rg.VU_STATUS_FROZEN = false → s.vu.silWait = false →
    s.flag Rg.VU_STATUS_CFG_ERR = false → f.words.length ≤ 64 → s.get Rg.VU_SIL_BASE % 4096 = 0 →
    s.get Rg.VU_SIL_BASE + 0x48000 ≤ storeTop →
    Answers .sillageWrite s fun t =>
      t.stNat (s.get Rg.VU_SIL_BASE + 0x40000 + 32 * (f.frame % 1024)) 8 = f.frame % 2 ^ 64 ∧
      t.stNat (s.get Rg.VU_SIL_BASE + 0x40000 + 32 * (f.frame % 1024) + 8) 8 = silHeader s f % 2 ^ 64 ∧
      t.stNat (s.get Rg.VU_SIL_BASE + 0x40000 + 32 * (f.frame % 1024) + 16) 8 = f.late % 2 ^ 64 ∧
      t.stNat (s.get Rg.VU_SIL_BASE + 0x40000 + 32 * (f.frame % 1024) + 24) 8 = f.fault % 2 ^ 64 ∧
      (∀ i, i < f.words.length →
        t.stNat (s.get Rg.VU_SIL_BASE + 4 * ((s.vu.silX + i) % 65536)) 4 = f.words.getD i 0 % 2 ^ 32) ∧
      t.vu = { s.vu with silX := s.vu.silX + f.words.length }) ∧
  (∀ (s : State), s.held = false → s.locked = true → s.ft.frames ≠ 0 → s.vu.cur = none →
    (s.ft.phase = 3 → Answers .sillageWrite s fun t => t = { s with ft := t.ft } ∧ t.ft.phase = 4) ∧
    (s.ft.phase = 4 → Answers .verdictFrameSend s fun t => t = { s with ft := t.ft } ∧ t.ft.phase = 5)) ∧
  (∀ (s : State) (f : VFrame) (l : Lane), s.held = false → s.locked = true → s.ft.frames ≠ 0 → s.ft.phase = 4 →
    s.vu.cur = some f →
    Answers .verdictFrameSend s fun t => t.ft.phase = 5 ∧ OnlyFields [Rg.VU_LANE_DROP_CNT] { s with ft := t.ft, lanes := t.lanes } t ∧
      (t.lane l).txq = (s.lane l).txq ++
        (if l.val ∈ s.verdictLanes ∧ s.inService l = true then (chunks f).map (fun p => (⟨l.val, s.get Rg.VU_LANE_CFG_VC,
          saonjoHeader 3 (s.get Rg.VU_LANE_CFG_SOURCE) f.frame p.length :: p⟩ : TxFrame)) else []) ∧
      ((∀ j ∈ s.verdictLanes, s.inService j = true) → t.get Rg.VU_LANE_DROP_CNT = s.get Rg.VU_LANE_DROP_CNT)) ∧
  ∀ f : VFrame, 0 < f.words.length → f.words.length ≤ 28 →
    chunks f = [(f.words.length * 2 ^ 6 + f.frame % 2 ^ 48 * 2 ^ 16) :: pairWords f.words]

/-- Flits (R422, R424, R429, R430, R51). A lane that is not in service receives nothing. An idle flit in sequence is no error; one
whose FSEQ is not the next is counted. The flits of a frame, from SOF to EOF, collect its bytes, and the last delivers its whole
words, in order, and counts the frame; a flit of another form is an error and is counted. Four flits in error in a row lose the link
with cause 3. Where FEC_EN is 1, a codeword adds the symbols that decoding corrects, or 1 to the uncorrectable ones, and the sixteenth
uncorrectable one of a frame loses the link with cause 4; that the flit comes corrected with its codeword, and the code itself, are
those of assumptions 60 and 137: the model's choice. Completes: FLIT_RECEIVE. -/
def Obligations.FlitsDeliverFrames : Prop :=
  (∀ (s : State) (l : Lane) (f : BitVec 256) (fec : Option (List (BitVec 10))), s.held = false → s.lnState l ≠ 2 →
    Ignored (.flitReceive l f fec) s) ∧
  (∀ (s : State) (l : Lane) (f : BitVec 256), s.held = false → s.lnState l = 2 → flitHdr f % 2 ^ 10 = 0 →
    (s.lane l).badRun < 3 →
    Answers (.flitReceive l f none) s fun t =>
      (t.lane l).fseq = some (flitHdr f / 2 ^ 10) ∧ (t.lane l).prog = (s.lane l).prog ∧ t.rxDone = s.rxDone ∧
      ((s.lane l).fseq = none ∨ (s.lane l).fseq.map (fun p => (p + 1) % 64) = some (flitHdr f / 2 ^ 10) →
        t = { s with lanes := t.lanes } ∧ (t.lane l).badRun = 0) ∧
      (∀ p, (s.lane l).fseq = some p → flitHdr f / 2 ^ 10 ≠ (p + 1) % 64 →
        t.get (Rg.LN_FSEQ_ERR_CNT l) = min (s.get (Rg.LN_FSEQ_ERR_CNT l) + 1) (2 ^ (Rg.LN_FSEQ_ERR_CNT l).w - 1) ∧
        (t.lane l).badRun = (s.lane l).badRun + 1)) ∧
  (∀ (s : State) (l : Lane) (f : BitVec 256), s.held = false → s.lnState l = 2 → (s.lane l).fseq = none →
    flitHdr f / 8 % 4 = 3 → 0 < flitHdr f / 32 % 32 → flitHdr f / 32 % 32 ≤ 30 →
    Tab.get (s.lane l).prog (flitHdr f % 8) [] = [] →
    Answers (.flitReceive l f none) s fun t =>
      t.rxDone = s.rxDone ++ [⟨l.val, flitHdr f % 8,
        (List.range (flitHdr f / 32 % 32 / 8)).map (fun i => f.toNat / 2 ^ (16 + 64 * i) % 2 ^ 64),
        flitHdr f / 32 % 32 % 8 == 0⟩] ∧
      t.get (Rg.LN_RX_FRAME_CNT l) = min (s.get (Rg.LN_RX_FRAME_CNT l) + 1) (2 ^ (Rg.LN_RX_FRAME_CNT l).w - 1) ∧
      OnlyFields [Rg.LN_RX_FRAME_CNT l] { s with lanes := t.lanes, rxDone := t.rxDone } t) ∧
  (∀ (s : State) (l : Lane) (f : BitVec 256) (bs : List Byte) (nb : Nat), s.held = false → s.lnState l = 2 →
    (s.lane l).badRun < 3 → bs = Tab.get (s.lane l).prog (flitHdr f % 8) [] → nb = flitHdr f / 32 % 32 → 0 < nb →
    flitBad f (!bs.isEmpty) = false → (flitHdr f / 8 % 2 = 1 → bs = []) →
    Answers (.flitReceive l f none) s fun t => (t.lane l).fseq = some (flitHdr f / 2 ^ 10) ∧ t.lnState l = 2 ∧
      (flitHdr f / 16 % 2 = 0 → t.rxDone = s.rxDone ∧ Tab.get (t.lane l).prog (flitHdr f % 8) [] = bs ++ flitData f nb) ∧
      (flitHdr f / 16 % 2 = 1 → Tab.get (t.lane l).prog (flitHdr f % 8) [] = [] ∧ ∃ ws : List Nat,
        t.rxDone = s.rxDone ++ [⟨l.val, flitHdr f % 8, ws, (bs.length + nb) % 8 == 0⟩] ∧ ws.length = (bs.length + nb) / 8 ∧
        (ws.map (leBytes 8)).flatten = (bs ++ flitData f nb).take (8 * ws.length))) ∧
  (∀ (s : State) (l : Lane) (f : BitVec 256), s.held = false → s.lnState l = 2 → (s.lane l).prog = [] → flitBad f false = true →
    ((s.lane l).badRun < 3 →
      Answers (.flitReceive l f none) s fun t => t.lnState l = 2 ∧ (t.lane l).badRun = (s.lane l).badRun + 1 ∧
        (t.lane l).prog = [] ∧ t.rxDone = s.rxDone ∧
        t.get (Rg.LN_FLIT_ERR_CNT l) = min (s.get (Rg.LN_FLIT_ERR_CNT l) + 1) (2 ^ (Rg.LN_FLIT_ERR_CNT l).w - 1)) ∧
    (3 ≤ (s.lane l).badRun →
      Answers (.flitReceive l f none) s fun t => (t.lnState l = 3 ∨ t.lnState l = 4) ∧ t.get (Rg.LN_LAST_LOSS l) = 3 ∧
        t.get (Rg.LN_LOSS_CNT l) = min (s.get (Rg.LN_LOSS_CNT l) + 1) (2 ^ (Rg.LN_LOSS_CNT l).w - 1) ∧
        t.get (Rg.LN_INT_STATUS_LOSS l) = 1)) ∧
  ∀ (s : State) (l : Lane) (f : BitVec 256) (w : List (BitVec 10)), s.held = false → s.lnState l = 2 → flitHdr f % 2 ^ 10 = 0 →
    (s.lane l).fseq = none → (s.lane l).prog = [] →
    (s.flag (Rg.LN_CTRL_FEC_EN l) = false → Answers (.flitReceive l f (some w)) s fun t => t = { s with lanes := t.lanes }) ∧
    (s.flag (Rg.LN_CTRL_FEC_EN l) = true → rsOutcome w < 16 → (s.lane l).corr + rsOutcome w < 2 ^ s.get (Rg.LN_CFG_CE_LOG2 l) →
      Answers (.flitReceive l f (some w)) s fun t => (t.lane l).corr = (s.lane l).corr + rsOutcome w ∧
        t.get (Rg.LN_FEC_CORR_CNT l) = min (s.get (Rg.LN_FEC_CORR_CNT l) + rsOutcome w) (2 ^ (Rg.LN_FEC_CORR_CNT l).w - 1) ∧
        OnlyFields [Rg.LN_FEC_CORR_CNT l] { s with lanes := t.lanes } t) ∧
    (s.flag (Rg.LN_CTRL_FEC_EN l) = true → rsOutcome w = 16 → s.locked = true →
      Answers (.flitReceive l f (some w)) s fun t =>
        t.get (Rg.LN_FEC_UNCORR_CNT l) = min (s.get (Rg.LN_FEC_UNCORR_CNT l) + 1) (2 ^ (Rg.LN_FEC_UNCORR_CNT l).w - 1) ∧
        ((s.lane l).uncorr < 15 → t.lnState l = 2 ∧ (t.lane l).uncorr = (s.lane l).uncorr + 1) ∧
        (15 ≤ (s.lane l).uncorr → (t.lnState l = 3 ∨ t.lnState l = 4) ∧ t.get (Rg.LN_LAST_LOSS l) = 4))

/-- The ingress router takes the oldest complete frame of a lane and virtual channel (R45, R46, R53, R54, R58, R60, R68 to R70). It
discards every frame uncounted while ENABLE is 0, its SEQ unseen (assumption 124: the model's choice); a frame whose CRC is wrong
is counted, with its lane. The hits of a good HIT frame are counted while the unit is not LOCKED, and as late or misnumbered where
their frame is over or has no buffer; those of the frame in collection, and with EARLY_EN of the next one, are filed in their order
in the next slots of their partition, whose FILL goes up with each; one of a DROP entry is only counted, and one for a full
partition counts as overflow and marks it. A good frame of another type becomes an item of its lane queue, without its trailer, or
is counted where that is full. `IR_CTRL` written with ENABLE is refused, its fields as they were (assumption 121: the model's choice),
and CFG_ERR set, where the four buffers are badly placed. Completes: SAONJO_FRAME_ACCEPT, IR_ENABLE_WRITE. -/
def Obligations.RouterFilesHits : Prop :=
  (∀ (s : State) (l : Lane) (vc : Fin 8), s.held = false →
    s.rxDone.find? (fun f => f.lane == l.val && f.vc == vc.val) = none → Ignored (.saonjoFrameAccept l vc none) s) ∧
  (∀ (s : State) (l : Lane) (vc : Fin 8) (f : SFrame), s.held = false →
    s.rxDone.find? (fun f => f.lane == l.val && f.vc == vc.val) = some f →
    (s.flag Rg.IR_CTRL_ENABLE = false →
      exec (.saonjoFrameAccept l vc none) s = .next { s with rxDone := s.rxDone.erase f }) ∧
    (s.flag Rg.IR_CTRL_ENABLE = true → f.whole = true → 2 ≤ f.words.length → f.crcOk = false → s.locked = false →
      Answers (.saonjoFrameAccept l vc none) s fun t =>
        t.get Rg.IR_CRC_ERR_CNT = min (s.get Rg.IR_CRC_ERR_CNT + 1) (2 ^ Rg.IR_CRC_ERR_CNT.w - 1) ∧
        t.get Rg.IR_INT_STATUS_CRC_ERR = 1 ∧ t.get Rg.IR_LAST_ERR = l.val ∧ t.rxDone = s.rxDone.erase f ∧
        OnlyFields [Rg.IR_CRC_ERR_CNT, Rg.IR_INT_STATUS_CRC_ERR, Rg.IR_LAST_ERR] { s with rxDone := t.rxDone } t) ∧
    (s.flag Rg.IR_CTRL_ENABLE = true → f.whole = true → 2 ≤ f.words.length → f.crcOk = true → f.formOk = true → f.type = 1 →
      s.flag Rg.IR_CTRL_SEQ_CHECK = false → s.locked = false →
      Answers (.saonjoFrameAccept l vc none) s fun t =>
        t.get Rg.IR_NOLOCK_CNT = min (s.get Rg.IR_NOLOCK_CNT + f.payload.length) (2 ^ Rg.IR_NOLOCK_CNT.w - 1) ∧
        Tab.get t.expSeq f.key (2 ^ 32) = (f.seq + 1) % 2 ^ 32 ∧
        OnlyFields [Rg.IR_NOLOCK_CNT] { s with rxDone := t.rxDone, expSeq := t.expSeq } t)) ∧
  (∀ (s : State) (l : Lane) (vc : Fin 8) (f : SFrame) (b n : Nat), TakesFrame s l vc f → FilesInto s f b → n < 64 →
    (∀ hit ∈ f.payload, HitFor s hit n) →
    s.hdr b (0x48 + 16 * n) % 2 ^ 32 + f.payload.length ≤ s.hdr b (0x40 + 16 * n) / 2 ^ 32 →
    s.hdr b (0x40 + 16 * n) % 2 ^ 32 + s.hdr b (0x40 + 16 * n) / 2 ^ 32 ≤ s.bufSlots →
    Answers (.saonjoFrameAccept l vc none) s fun t =>
      (∀ i, i < f.payload.length → t.stNat (s.bufBase b + 0x800 +
        8 * (s.hdr b (0x40 + 16 * n) % 2 ^ 32 + s.hdr b (0x48 + 16 * n) % 2 ^ 32 + i)) 8 = f.payload.getD i 0) ∧
      t.hdr b (0x48 + 16 * n) = s.hdr b (0x48 + 16 * n) + f.payload.length ∧
      (s.hdr b 8 % 2 ^ 32 + f.payload.length < 2 ^ 32 → t.hdr b 8 = s.hdr b 8 + f.payload.length) ∧ t.regs = s.regs) ∧
  (∀ (s : State) (l : Lane) (vc : Fin 8) (f : SFrame) (b hit entry : Nat), TakesFrame s l vc f → FilesInto s f b →
    f.payload = [hit] → HitFor s hit entry →
    (entry / 128 % 2 = 1 → Answers (.saonjoFrameAccept l vc none) s fun t =>
      t.get Rg.IR_UNMAP_CNT = min (s.get Rg.IR_UNMAP_CNT + 1) (2 ^ Rg.IR_UNMAP_CNT.w - 1) ∧
      (s.hdr b 0x18 % 2 ^ 32 < 2 ^ 32 - 1 → t.hdr b 0x18 = s.hdr b 0x18 + 1) ∧
      ∀ a, a < s.bufBase b + 0x18 ∨ s.bufBase b + 0x20 ≤ a → t.stByte a = s.stByte a) ∧
    (entry < 64 → s.hdr b (0x40 + 16 * entry) / 2 ^ 32 ≤ s.hdr b (0x48 + 16 * entry) % 2 ^ 32 →
      Answers (.saonjoFrameAccept l vc none) s fun t =>
        t.get Rg.IR_OVF_CNT = min (s.get Rg.IR_OVF_CNT + 1) (2 ^ Rg.IR_OVF_CNT.w - 1) ∧ t.get Rg.IR_INT_STATUS_OVERFLOW = 1 ∧
        (s.hdr b (0x48 + 16 * entry) / 2 ^ 32 < 2 ^ 32 - 1 →
          t.hdr b (0x48 + 16 * entry) = s.hdr b (0x48 + 16 * entry) + 2 ^ 32) ∧
        (s.hdr b 0x10 % 2 ^ 32 < 2 ^ 32 - 1 → t.hdr b 0x10 = s.hdr b 0x10 + 1) ∧
        (t.hdr b 0x20).testBit entry = true ∧ (t.hdr b 0x18).testBit 34 = true ∧
        ∀ a, s.bufBase b + 0x800 ≤ a → t.stByte a = s.stByte a)) ∧
  (∀ (s : State) (l : Lane) (vc : Fin 8) (f : SFrame), TakesFrame s l vc f → f.type ≠ 1 → PtrsGood s f.key →
    (RingGood s f.key → s.storeErr = [] → s.qFits f.key (f.payload.length + 1) = true →
      Answers (.saonjoFrameAccept l vc none) s fun t =>
        t.q f.key = { s.q f.key with alloc := ((s.q f.key).alloc + f.payload.length + 2) % (2 * s.qN f.key),
                                     items := (s.q f.key).items ++ [⟨f.payload.length + 1, true, false⟩] } ∧
        RingHolds t f.key (s.q f.key).alloc
          (f.payload.length + 1 + f.key * 2 ^ 16 + s.get Rg.FT_FRAME_LO % 2 ^ 32 * 2 ^ 32) ∧
        ∀ i, i ≤ f.payload.length →
          RingHolds t f.key ((s.q f.key).alloc + 1 + i) ((f.header :: f.payload).getD i 0 % 2 ^ 64)) ∧
    (s.qOn f.key = false ∨ s.qFits f.key (f.payload.length + 1) = false →
      Answers (.saonjoFrameAccept l vc none) s fun t => t.q f.key = s.q f.key ∧ t.store = s.store ∧
        t.get Rg.IR_QFULL_CNT = min (s.get Rg.IR_QFULL_CNT + 1) (2 ^ Rg.IR_QFULL_CNT.w - 1) ∧
        t.get Rg.IR_INT_STATUS_QFULL = 1)) ∧
  (∀ (s : State) (m : Master) (v : Word), MayWrite s m Rg.IR_CTRL_ENABLE.addr 4 →
    (s.bufsPlaced = true → Accepted (.irEnableWrite m v) s m
      (((s.set Rg.IR_CTRL_ENABLE 1).set Rg.IR_CTRL_EARLY_EN (v.toNat / 2 % 2)).set Rg.IR_CTRL_SEQ_CHECK (v.toNat / 4 % 2))) ∧
    (s.bufsPlaced = false → exec (.irEnableWrite m v) s = .next ((s.set Rg.IR_STATUS_CFG_ERR 1).respond m 4 0))) ∧
  (∀ (s : State) (l : Lane) (vc : Fin 8) (f : SFrame), s.held = false →
    s.rxDone.find? (fun f => f.lane == l.val && f.vc == vc.val) = some f →
    Answers (.saonjoFrameAccept l vc none) s fun t => t.rxDone = s.rxDone.erase f) ∧
  ∀ (s : State) (l : Lane) (vc : Fin 8) (f : SFrame), s.held = false →
    s.rxDone.find? (fun f => f.lane == l.val && f.vc == vc.val) = some f →
    s.flag Rg.IR_CTRL_ENABLE = true → f.whole = true → 2 ≤ f.words.length → f.crcOk = true → f.formOk = true → f.type = 1 →
    s.locked = true →
    (s.frameDiff f = 0xFFFF → Answers (.saonjoFrameAccept l vc none) s fun t =>
      t.get Rg.IR_LATE_CNT = min (s.get Rg.IR_LATE_CNT + f.payload.length) (2 ^ Rg.IR_LATE_CNT.w - 1) ∧
      t.get Rg.IR_INT_STATUS_LATE_HIT = 1 ∧ t.store = s.store) ∧
    (s.frameDiff f ≠ 0xFFFF → s.frameDiff f ≠ 0 → s.frameDiff f ≠ 1 ∨ s.flag Rg.IR_CTRL_EARLY_EN = false →
      Answers (.saonjoFrameAccept l vc none) s fun t =>
        t.get Rg.IR_MISNUM_CNT = min (s.get Rg.IR_MISNUM_CNT + f.payload.length) (2 ^ Rg.IR_MISNUM_CNT.w - 1) ∧
        t.store = s.store)

/-- Training, retraining and adaptation of a lane (R420, R428, R429, R431, R432, R435, R437). Enabling a lane that is OFF starts
FULL training, unless the heart note has powered it off; a PASS with alignment puts the lane in service, a FAIL or a timeout has
the training repeated; a loss of link in service is counted with its cause and leads to RETRAIN or RETIRED; RETRAIN commands a
FAST attempt; ADAPT runs only in service and where it is enabled. LN_SCRIPT shows the event and result of the script that ended
last. Completes: LANE_ENABLE, LOSS_OF_LINK, SCRIPT_RESULT, SCRIPT_TIMEOUT, ADAPT_TICK, FULL_TRAINING_REPEAT, RETRAIN. -/
def Obligations.LanesTrainAndRetrain : Prop :=
  (∀ (s : State) (m : Master) (l : Lane) (v : Word), MayWrite s m (Rg.LN_CTRL_ENABLE l).addr 4 → s.lnState l = 0 →
    v.toNat / 4 % 8 < 5 → s.thirdRate l (v.toNat / 4 % 8) = false →
    Answers (.laneEnable m l v) s fun t =>
      (v.toNat / 32 % 2 = 0 ∨ s.get Rg.DD_STATUS_TIER < 2 → t.lnState l = 1 ∧ t.lnEvent l = some 0) ∧
      (v.toNat / 32 % 2 = 1 → 2 ≤ s.get Rg.DD_STATUS_TIER → t.lnState l = 0) ∧
      t.get (Rg.LN_CTRL_ENABLE l) = 1 ∧ t.get (Rg.LN_CTRL_FEC_EN l) = v.toNat / 2 % 2 ∧
      t.get (Rg.LN_CTRL_RATE l) = v.toNat / 4 % 8 ∧ t.get (Rg.LN_CTRL_ROLE l) = v.toNat / 32 % 2 ∧
      t.get (Rg.LN_CTRL_AUTO_RETURN l) = v.toNat / 512 % 2 ∧
      OnlyFields [Rg.LN_CTRL_ENABLE l, Rg.LN_CTRL_FEC_EN l, Rg.LN_CTRL_RATE l, Rg.LN_CTRL_ROLE l, Rg.LN_CTRL_PRECODE l,
        Rg.LN_CTRL_TX_INV l, Rg.LN_CTRL_RX_INV l, Rg.LN_CTRL_AUTO_RETURN l, Rg.LN_STATUS_STATE l]
        { s with lanes := t.lanes, resp := t.resp } t) ∧
  (∀ (s : State) (m : Master) (l : Lane) (v : Word), MayWrite s m (Rg.LN_CTRL_ENABLE l).addr 4 →
    5 ≤ v.toNat / 4 % 8 ∨ s.thirdRate l (v.toNat / 4 % 8) = true → Refused (.laneEnable m l v) s m) ∧
  (∀ (s : State) (l : Lane) (cause : Fin 4), s.held = false →
    (s.lnState l ≠ 2 → s.lnState l ≠ 5 → Ignored (.lossOfLink l cause) s) ∧
    (s.lnState l = 2 →
      Answers (.lossOfLink l cause) s fun t =>
        t.get (Rg.LN_LOSS_CNT l) = min (s.get (Rg.LN_LOSS_CNT l) + 1) (2 ^ (Rg.LN_LOSS_CNT l).w - 1) ∧
        t.get (Rg.LN_LAST_LOSS l) = (cause.val + 1) % 2 ^ (Rg.LN_LAST_LOSS l).w ∧
        t.get (Rg.LN_STATUS_ALIGNED l) = 0 ∧ t.get (Rg.LN_INT_STATUS_LOSS l) = 1 ∧
        (t.lnState l = 3 ∨ t.lnState l = 4) ∧ (t.lane l).txq = []) ∧
    (s.lnState l = 5 → Answers (.lossOfLink l cause) s fun t => t.lnState l = 4 ∧ (t.lane l).ret = none ∧
      t.get (Rg.LN_LAST_LOSS l) = (cause.val + 1) % 2 ^ (Rg.LN_LAST_LOSS l).w ∧ t.get (Rg.LN_INT_STATUS_RETURN_FAIL l) = 1)) ∧
  (∀ (s : State) (l : Lane) (tx : BitVec 24) (rx : BitVec 10) (snr : BitVec 16), s.held = false →
    (s.lnEvent l = none → ∀ pass aligned, Ignored (.scriptResult l pass aligned tx rx snr) s) ∧
    (s.lnState l = 1 → (s.lane l).repeatWait = false →
      (Answers (.scriptResult l true true tx rx snr) s fun t => t.lnState l = 2 ∧ t.get (Rg.LN_STATUS_ALIGNED l) = 1 ∧
        t.get (Rg.LN_SCRIPT_RESULT l) = 1 ∧ t.get (Rg.LN_SCRIPT_EVENT l) = 0 ∧ t.get (Rg.LN_SNR l) = snr.toNat ∧
        t.get (Rg.LN_PHY_TX_PRE2 l) = tx.toNat % 64 ∧ t.get (Rg.LN_PHY_RX_CTLE l) = rx.toNat % 16) ∧
      (Answers (.scriptResult l false true tx rx snr) s fun t => t.lnState l = 1 ∧ (t.lane l).repeatWait = true ∧
        t.get (Rg.LN_INT_STATUS_TRAIN_FAIL l) = 1 ∧ t.get (Rg.LN_SCRIPT_RESULT l) = 2)) ∧
    (s.lnState l = 3 → Answers (.scriptResult l true true tx rx snr) s fun t => t.lnState l = 2 ∧
      t.get (Rg.LN_INT_STATUS_RETRAINED l) = 1 ∧ (t.lane l).lost = false) ∧
    (s.lnState l = 3 → Answers (.scriptResult l false true tx rx snr) s fun t =>
      t.get (Rg.LN_SCRIPT_RESULT l) = 2 ∧ t.get (Rg.LN_SCRIPT_EVENT l) = 1 ∧ (t.lnState l = 4 ∨ t.lnState l = 3 ∧
        t.get (Rg.LN_RETRAIN_CNT l) = min (s.get (Rg.LN_RETRAIN_CNT l) + 1) (2 ^ (Rg.LN_RETRAIN_CNT l).w - 1))) ∧
    (s.lnState l = 2 → (s.lane l).adapting = true → ∀ pass, Answers (.scriptResult l pass true tx rx snr) s fun t =>
      t.lnState l = 2 ∧ (t.lane l).adapting = false ∧ t.get (Rg.LN_SCRIPT_EVENT l) = 2 ∧
      t.get (Rg.LN_SCRIPT_RESULT l) = (if pass then 1 else 2) ∧
      t.get (Rg.LN_PHY_TX_MAIN l) ≤ s.get (Rg.LN_PHY_TX_MAIN l) + 1 ∧
      s.get (Rg.LN_PHY_TX_MAIN l) ≤ t.get (Rg.LN_PHY_TX_MAIN l) + 1)) ∧
  (∀ (s : State) (l : Lane), s.held = false →
    (s.lnEvent l = none → Ignored (.scriptTimeout l) s) ∧
    (s.lnState l = 1 → (s.lane l).repeatWait = false → Answers (.scriptTimeout l) s fun t =>
      t.get (Rg.LN_SCRIPT_RESULT l) = 3 ∧ t.get (Rg.LN_INT_STATUS_TRAIN_FAIL l) = 1 ∧ (t.lane l).repeatWait = true ∧
      t.lnState l = 1) ∧
    (s.lnState l = 3 → Answers (.scriptTimeout l) s fun t => t.get (Rg.LN_SCRIPT_RESULT l) = 3 ∧
      t.get (Rg.LN_SCRIPT_EVENT l) = 1 ∧ (t.lnState l = 3 ∨ t.lnState l = 4)) ∧
    (s.lnState l = 2 → (s.lane l).adapting = true → Answers (.scriptTimeout l) s fun t =>
      t.get (Rg.LN_SCRIPT_RESULT l) = 3 ∧ (t.lane l).adapting = false ∧ t.lnState l = 2 ∧
      t.get (Rg.LN_ADAPT_SKIP_CNT l) = min (s.get (Rg.LN_ADAPT_SKIP_CNT l) + 1) (2 ^ (Rg.LN_ADAPT_SKIP_CNT l).w - 1))) ∧
  (∀ (s : State) (l : Lane), s.held = false →
    (s.inService l = true → s.flag (Rg.LN_ADAPT_ADAPT_EN l) = true → Answers (.adaptTick l) s fun t =>
      t.lnEvent l = some 2 ∧ t = { s with lanes := t.lanes }) ∧
    (s.inService l = false ∨ s.flag (Rg.LN_ADAPT_ADAPT_EN l) = false → Ignored (.adaptTick l) s) ∧
    (s.lnState l = 1 → (s.lane l).repeatWait = true → Answers (.fullTrainingRepeat l) s fun t =>
      t.lnEvent l = some 0 ∧ t.lnState l = 1 ∧ OnlyFields [Rg.LN_STATUS_STATE l] { s with lanes := t.lanes } t) ∧
    (s.lnState l ≠ 1 ∨ (s.lane l).repeatWait = false → Ignored (.fullTrainingRepeat l) s)) ∧
  ∀ (s : State) (m : Master) (l : Lane) (v : Word), MayWrite s m (Rg.LN_CMD_RETIRE l).addr 4 → v.toNat % 4 = 0 →
    (s.lnState l = 2 → Answers (.retrain m l v) s fun t => t.lnState l = 3 ∧ t.lnEvent l = some 1 ∧ (t.lane l).txq = [] ∧
      t.get (Rg.LN_RETRAIN_CNT l) = min (s.get (Rg.LN_RETRAIN_CNT l) + 1) (2 ^ (Rg.LN_RETRAIN_CNT l).w - 1)) ∧
    (s.lnState l ≠ 2 → Accepted (.retrain m l v) s m s)

/-- Retirement, return and the transmitter of a lane (R49, R422, R423, R425, R428, R433 to R436). A commanded retirement is at once and
permanent; a return is refused unless the lane is RETIRED and powered, and starts with the loopback, or waits for the one that
runs or for the end of a drydown tier; that a commanded retirement counts as permanent from every state, that a lane which the
heart note has shed does not return, and that RETIRE and RETURN written together are refused is assumption 61: the model's
choice. Between frames the transmitter takes the oldest verdict frame, else the item of a readout channel, with the next SEQ of its
virtual channel and the CRC-32C of what it carries, in consecutive flits; with neither, and in RETRAIN, it sends an idle flit. With
FEC_EN the bits of the flits fill codewords, which leave once they are full (their symbols by assumption 137: the model's
choice). Completes: LANE_RETIRE, LANE_RETURN, AUTO_RETURN, LANE_TRANSMIT_FRAME. -/
def Obligations.LanesRetireReturnAndSend : Prop :=
  (∀ (s : State) (m : Master) (l : Lane) (v : Word), MayWrite s m (Rg.LN_CMD_RETIRE l).addr 4 →
    (v.toNat / 2 % 2 = 0 → s.lnState l = 4 → Accepted (.laneRetire m l v) s m s) ∧
    (v.toNat / 2 % 2 = 0 → s.lnState l ≠ 4 → Answers (.laneRetire m l v) s fun t => t.lnState l = 4 ∧
      t.get (Rg.LN_INT_STATUS_RETIRED l) = 1 ∧ (t.lane l).ret = none ∧ (t.lane l).txq = []) ∧
    (v.toNat / 2 % 2 = 0 → s.lnState l ≠ 4 → (s.lane l).prog = [] → Answers (.laneRetire m l v) s fun t =>
      t.get Rg.RL_LAST_PERM_CLASS = 2 ∧ t.get Rg.RL_LAST_PERM_UNIT = l.val ∧ t.get Rg.BL_INT_STATUS_PERM = 1 ∧
      t.get Rg.RL_PERM_CNT = min (s.get Rg.RL_PERM_CNT + 1) (2 ^ Rg.RL_PERM_CNT.w - 1)) ∧
    (v.toNat / 2 % 2 = 1 → Refused (.laneRetire m l v) s m) ∧
    (s.lnState l ≠ 4 ∨ v.toNat % 2 = 1 ∨ s.lnShed l = true → Refused (.laneReturn m l v) s m) ∧
    (s.lnState l = 4 → v.toNat % 2 = 0 → s.lnShed l = false → Answers (.laneReturn m l v) s fun t => t.lnState l = 5 ∧
      (NoLoopWait s → s.get Rg.BL_STATUS_LOOP ≠ 1 → s.get Rg.DD_STATUS_TIER = 0 →
        (t.lane l).ret = some .loopback ∧ t.get Rg.BL_STATUS_LOOP = 1 ∧ t.get Rg.BL_LOOP_LANE = l.val) ∧
      (s.get Rg.BL_STATUS_LOOP = 1 ∨ s.get Rg.DD_STATUS_TIER ≠ 0 → (t.lane l).ret = some .waitLoopback ∧
        t.get Rg.BL_STATUS_LOOP = s.get Rg.BL_STATUS_LOOP))) ∧
  (∀ (s : State) (l : Lane), s.held = false →
    (s.lnState l = 4 → s.flag (Rg.LN_CTRL_AUTO_RETURN l) = true → s.lnShed l = false →
      Answers (.autoReturn l) s fun t => t.lnState l = 5 ∧
        (s.get Rg.BL_STATUS_LOOP = 1 ∨ s.get Rg.DD_STATUS_TIER ≠ 0 → (t.lane l).ret = some .waitLoopback)) ∧
    (s.lnState l ≠ 4 ∨ s.flag (Rg.LN_CTRL_AUTO_RETURN l) = false ∨ s.lnShed l = true → Ignored (.autoReturn l) s)) ∧
  (∀ (s : State) (l : Lane), s.held = false → (s.lane l).txBits.1 < 5140 →
    (s.lnState l ≠ 2 → s.lnState l ≠ 3 → Ignored (.laneTransmitFrame l) s) ∧
    (s.lnState l = 3 ∨ s.lnState l = 2 ∧ (s.lane l).txq = [] ∧
        (∀ (r : Fin 16) (i : RdItem), Tab.get s.rdHold r.val none = some i → i.tx.lane ≠ l.val) →
      Answers (.laneTransmitFrame l) s fun t => ∃ (f : BitVec 256) (cs : List (List Nat)), CodedAs s t l [f] cs ∧
        t.sent = (cs.map (Output.laneCodeword l.val)).reverse ++ .idleFlit l.val f :: s.sent ∧
        f.toNat = (s.lane l).txFseq % 64 * 1024 ∧ (t.lane l).txFseq = ((s.lane l).txFseq + 1) % 64 ∧
        t = { s with lanes := t.lanes, sent := t.sent }) ∧
    ∀ (x : TxFrame) (r : List TxFrame), s.lnState l = 2 → (s.lane l).txq = x :: r →
      Answers (.laneTransmitFrame l) s fun t => ∃ (fs : List (BitVec 256)) (cs : List (List Nat)), CodedAs s t l fs cs ∧
        t.sent = (cs.map (Output.laneCodeword l.val)).reverse ++ .laneFrame l.val x.vc (sentWords s l x) fs :: s.sent ∧
        Carries fs x.vc (s.lane l).txFseq (sentWords s l x) ∧
        (t.lane l).txFseq = ((s.lane l).txFseq + fs.length) % 64 ∧
        (t.lane l).txq = r ∧ Tab.get (t.lane l).txSeq x.vc 0 = (Tab.get (s.lane l).txSeq x.vc 0 + 1) % 2 ^ 32 ∧
        t.get (Rg.LN_TX_FRAME_CNT l) = min (s.get (Rg.LN_TX_FRAME_CNT l) + 1) (2 ^ (Rg.LN_TX_FRAME_CNT l).w - 1) ∧
        OnlyFields [Rg.LN_TX_FRAME_CNT l] { s with lanes := t.lanes, sent := t.sent } t) ∧
  ∀ (s : State) (l : Lane) (r : Fin 16) (i : RdItem), s.held = false → s.lnState l = 2 → (s.lane l).txq = [] →
    (s.lane l).txBits.1 < 5140 → Tab.get s.rdHold r.val none = some i → i.tx.lane = l.val →
    (∀ (k : Fin 16) (j : RdItem), Tab.get s.rdHold k.val none = some j → j.tx.lane = l.val → k = r) →
    Answers (.laneTransmitFrame l) s fun t => ∃ (fs : List (BitVec 256)) (cs : List (List Nat)), CodedAs s t l fs cs ∧
      t.sent = (cs.map (Output.laneCodeword l.val)).reverse ++ .laneFrame l.val i.tx.vc (sentWords s l i.tx) fs :: s.sent ∧
      Carries fs i.tx.vc (s.lane l).txFseq (sentWords s l i.tx) ∧ Tab.get t.rdHold r.val none = none ∧
      t.get (Rg.RD_ITEM_CNT r) = min (s.get (Rg.RD_ITEM_CNT r) + 1) (2 ^ (Rg.RD_ITEM_CNT r).w - 1)

/-- R74, R75 and R77: for every word of the store the mapping by one end-around add gives the logical bank w mod 8191 and the row
w div 8191; no bank exceeds 8190 and no row 4095, and two words of one bank and row are one word. R77: any 8191 consecutive words
fall in 8191 different banks, and so do 8191 words at a stride that is no multiple of 8191. -/
def Obligations.BankMappingIsModulo : Prop :=
  (∀ w, w < storeWords → bankOf w = w % 8191 ∧ rowOf w = w / 8191 ∧ bankOf w ≤ 8190 ∧ rowOf w ≤ 4095 ∧
    wordAt (bankOf w) (rowOf w) = w) ∧
  (∀ v w, v < storeWords → w < storeWords → bankOf v = bankOf w → rowOf v = rowOf w → v = w) ∧
  (∀ w i j, i < j → j < 8191 → w + j < storeWords → bankOf (w + i) ≠ bankOf (w + j)) ∧
  ∀ w k i j, k % 8191 ≠ 0 → i < j → j < 8191 → w + j * k < storeWords → bankOf (w + i * k) ≠ bankOf (w + j * k)

/-- STORE_REQUEST (R73, R75, R83, R84, R91 to R93, R72), the store without errors. A request to a word above the store stops the
machine (the model's own stop, assumption 20); with no request nothing happens; a write stores the bytes it names and no other
byte, and breaks the reservations of other agents on its word; where it covers a half in part it holds the bank for the next
cycle, in which the bank performs nothing (R72); a read answers the word and changes nothing else; a load-linked read takes
the reservation and no other sequencer keeps it; a store-conditional writes only where its sequencer holds the reservation,
which it releases either way, and breaks every other one on the word.
Which request a bank performs (R84): in a bank cycle that is 7 modulo 8 a background request where one waits, in every
other a rated one where one waits; among each the oldest acceptance (of background requests: assumption 125, the model's choice). The
answer is one of the requests. Completes: STORE_REQUEST. -/
def Obligations.StoreRequestsAccessTheirWord : Prop :=
  (∀ (s : State) (bc : Nat) (reqs : List StoreReq) (up : Option Upset), (∃ r ∈ reqs, storeTop ≤ r.word * 16) →
    exec (.storeRequest bc reqs up) s = .fault .noSuchWord) ∧
  (∀ (s : State) (bc : Nat), s.held = false → Ignored (.storeRequest bc [] none) s) ∧
  (∀ (s : State) (bc w : Nat) (a : StoreAgent) (d : QWord), s.held = false → s.storeErr = [] → s.bankHeld = [] →
    w < storeWords →
    (Answers (.storeRequest bc [wholeReq a w (.write d)] none) s fun t =>
      (∀ k, t.stByte k = if k / 16 = w then BitVec.ofNat 8 (d.toNat / 2 ^ (8 * (k % 16))) else s.stByte k) ∧
      t.bankAns = some ⟨true, 0⟩ ∧
      t = { s with store := t.store, resv := t.resv, bankAns := t.bankAns, rotMarks := t.rotMarks, rotBad := t.rotBad } ∧
      ∀ r ∈ t.resv, r ∈ s.resv ∧ (r.word = w → ∃ n, a = .seq n ∧ r.seq = n.val)) ∧
    exec (.storeRequest bc [wholeReq a w .read] none) s =
      .next { s with bankAns := some ⟨true, BitVec.ofNat 128 (s.stNat (w * 16) 16)⟩ }) ∧
  (∀ (s : State) (bc w : Nat) (n : VE) (j : Fin 4), s.held = false → s.storeErr = [] → s.bankHeld = [] → w < storeWords →
    Answers (.storeRequest bc [⟨.seq n, w, BitVec.ofNat 16 (15 * 2 ^ (4 * j.val)), .loadLinked, 0⟩] none) s fun t =>
      t.bankAns = some ⟨true, BitVec.ofNat 128 (s.stNat (w * 16 + 4 * j.val) 4)⟩ ∧ t.holdsResv n w = true ∧
      (∀ r ∈ t.resv, r.word = w → r.seq = n.val) ∧ t.store = s.store) ∧
  (∀ (s : State) (bc w : Nat) (n : VE) (d : QWord), s.held = false → s.storeErr = [] → s.bankHeld = [] → w < storeWords →
    (s.holdsResv n w = true → Answers (.storeRequest bc [wholeReq (.seq n) w (.storeCond d)] none) s fun t =>
      t.bankAns = some ⟨true, 1⟩ ∧ t.stNat (w * 16) 16 = d.toNat ∧ t.holdsResv n w = false ∧ t.regs = s.regs ∧
      ∀ r ∈ t.resv, r ∈ s.resv ∧ r.word ≠ w) ∧
    (s.holdsResv n w = false → Answers (.storeRequest bc [wholeReq (.seq n) w (.storeCond d)] none) s fun t =>
      t.bankAns = some ⟨true, 0⟩ ∧ t.store = s.store ∧ t.get Rg.ST_RES_FAIL_CNT = counted s Rg.ST_RES_FAIL_CNT ∧
      ∀ r ∈ t.resv, r ∈ s.resv ∧ r.word ≠ w)) ∧
  (∀ (s : State) (bc w : Nat) (a : StoreAgent) (b : BitVec 16) (d : QWord), s.held = false → s.storeErr = [] →
    s.bankHeld = [] → w < storeWords →
    Answers (.storeRequest bc [⟨a, w, b, .write d, 0⟩] none) s fun t => t.bankAns = some ⟨true, 0⟩ ∧ t.regs = s.regs ∧
      (∀ k, t.stByte k = if k / 16 = w ∧ b.getLsbD (k % 16) = true
        then BitVec.ofNat 8 (d.toNat / 2 ^ (8 * (k % 16))) else s.stByte k) ∧
      t.bankHeld = if partHalf (b.toNat % 2 ^ 8) ∨ partHalf (b.toNat / 2 ^ 8) then [(bankOf w, bc + 1)] else []) ∧
  (∀ (s : State) (bc : Nat) (r : StoreReq), s.held = false → r.word < storeWords →
    Tab.get s.bankHeld (bankOf r.word) (bc + 1) = bc →
    exec (.storeRequest bc [r] none) s = .next { s with bankHeld := Tab.del s.bankHeld (bankOf r.word) }) ∧
  ∀ (s : State) (bc : Nat) (reqs : List StoreReq),
    (s.bankChoice bc reqs = none ↔ reqs = []) ∧
    ∀ r, s.bankChoice bc reqs = some r → r ∈ reqs ∧
      (bc % 8 = 7 → (∃ x ∈ reqs, agentBackground x.agent = true) → agentBackground r.agent = true) ∧
      (bc % 8 ≠ 7 → (∃ x ∈ reqs, agentBackground x.agent = false) → agentBackground r.agent = false) ∧
      (agentBackground r.agent = false → ∀ x ∈ reqs, agentBackground x.agent = false → r.accepted ≤ x.accepted) ∧
      (agentBackground r.agent = true → ∀ x ∈ reqs, agentBackground x.agent = true → r.accepted ≤ x.accepted)

/-- Combines are performed in the bank on each enabled element (R88, R89): a combine request replaces each element it names
by the combine of the element and its operand, leaves every other byte, breaks the reservations on the word, and holds the
bank for the next bank cycle; of the registers only the count of clamped combines of its engine changes (R72, R93, R175). -/
def Obligations.CombinesActElementByElement : Prop :=
  ∀ (s : State) (bc w : Nat) (a : StoreAgent) (d : QWord) (o : Comb) (t : ElemTy), s.held = false → s.storeErr = [] →
    s.bankHeld = [] → w < storeWords →
    Answers (.storeRequest bc [wholeReq a w (.combine o t d)] none) s fun u =>
      (∀ i, i < 16 / t.size → u.stNat (w * 16 + i * t.size) t.size =
        (combApply o t (s.stNat (w * 16 + i * t.size) t.size)
          (t.raw (d.toNat / 2 ^ (8 * (i * t.size)) % 2 ^ t.width))).1 % 2 ^ t.width) ∧
      (∀ k, k / 16 ≠ w → u.stByte k = s.stByte k) ∧ Tab.get u.bankHeld (bankOf w) 0 = bc + 1 ∧
      u.bankAns = some ⟨true, 0⟩ ∧ (∀ r ∈ u.resv, r ∈ s.resv ∧ r.word ≠ w) ∧ (agentEngine a = none → u.regs = s.regs) ∧
      ∀ n, agentEngine a = some n → ∀ g : Fld, g.key ≠ (Rg.VE_CSAT_CNT n).key → u.get g = s.get g

/-- Errors of the store (R86, R87, R95, R96): a read of a word with a single-bit error answers its data, counts the
correction, and has it written back where ECC_WB_EN is 1; a read of one with an uncorrectable half answers no data, and counts and
reports the half; a write that covers such a half in part writes nothing. A correction write-back corrects its word, breaks no
reservation and reports nothing of its own read (assumption 34: the model's choice); a scrub access corrects a single-bit error at once and leaves an uncorrectable half, which it reports;
a scrub that is late is reported while scrubbing is on, and nothing is scrubbed while it is off. Completes: ECC_WRITEBACK,
SCRUB_ACCESS, SCRUB_LATE. -/
def Obligations.StoreErrorsAreCorrected : Prop :=
  (∀ s : State, s.held = false → (s.writeBacks = [] → Ignored .eccWriteback s) ∧
    ∀ w r, s.writeBacks = w :: r → Answers .eccWriteback s fun t =>
      t.writeBacks = r ∧ t.resv = s.resv ∧ t.store = s.store ∧ t.regs = s.regs ∧
      ∀ h, Tab.get t.storeErr h none =
        if h / 2 = w ∧ Tab.get s.storeErr h none = some .single then none else Tab.get s.storeErr h none) ∧
  (∀ (s : State) (g : Fin 128) (b : Fin 64) (row : Fin 4096), s.held = false →
    (s.flag Rg.ST_CTRL_SCRUB_EN = false → Ignored (.scrubAccess g b row none) s) ∧
    (s.flag Rg.ST_CTRL_SCRUB_EN = true → ∀ log, s.logOf (64 * g + b) = some log → s.storeErr = [] →
      Answers (.scrubAccess g b row none) s fun t => t.store = s.store ∧ t.resv = s.resv ∧
        t.get (Rg.ST_SCRUB_ROW g) = row.val ∧ t.get (Rg.ST_SCRUB_BANK g) = b.val) ∧
    (s.flag Rg.ST_CTRL_SCRUB_EN = true → ∀ log, s.logOf (64 * g + b) = some log →
      s.storeErr = [(2 * wordAt log row, some .single)] →
      Answers (.scrubAccess g b row none) s fun t => t.storeErr = [] ∧ t.store = s.store) ∧
    (s.flag Rg.ST_CTRL_SCRUB_EN = true → ∀ log, s.logOf (64 * g + b) = some log →
      s.storeErr = [(2 * wordAt log row, some .uncorrectable)] →
      Answers (.scrubAccess g b row none) s fun t => t.storeErr = s.storeErr ∧ t.store = s.store ∧
        t.get Rg.ST_UE_CNT = counted s Rg.ST_UE_CNT ∧ t.get Rg.ST_LAST_UE_SRC = 69 ∧
        t.get Rg.ST_LAST_UE_ADDR = wordAt log row * 16 % 2 ^ Rg.ST_LAST_UE_ADDR.w) ∧
    (s.flag Rg.ST_CTRL_SCRUB_EN = true → s.logOf (64 * g + b) = none → Ignored (.scrubAccess g b row none) s)) ∧
  (∀ (s : State) (bc w : Nat) (a : StoreAgent) (k : Nat), s.held = false → s.bankHeld = [] → w < storeWords → k < 2 →
    (s.storeErr = [(2 * w + k, some .single)] →
      Answers (.storeRequest bc [wholeReq a w .read] none) s fun t =>
        t.bankAns = some ⟨true, BitVec.ofNat 128 (s.stNat (w * 16) 16)⟩ ∧ t.get Rg.ST_CE_CNT = counted s Rg.ST_CE_CNT ∧
        t.store = s.store ∧ (s.flag Rg.ST_CTRL_ECC_WB_EN = true → w ∈ t.writeBacks) ∧
        (s.flag Rg.ST_CTRL_ECC_WB_EN = false → t.writeBacks = s.writeBacks)) ∧
    (s.storeErr = [(2 * w + k, some .uncorrectable)] →
      (Answers (.storeRequest bc [wholeReq a w .read] none) s fun t => t.bankAns = some ⟨false, 0⟩ ∧ t.store = s.store ∧
        t.get Rg.ST_UE_CNT = counted s Rg.ST_UE_CNT ∧ t.get Rg.ST_INT_STATUS_UE = 1 ∧ t.get Rg.ST_LAST_UE_HALF = k ∧
        t.get Rg.ST_LAST_UE_ADDR = w * 16 % 2 ^ Rg.ST_LAST_UE_ADDR.w) ∧
      ∀ d : QWord, Answers (.storeRequest bc [⟨a, w, 0x1111, .write d, 0⟩] none) s fun t =>
        t.bankAns = some ⟨false, 0⟩ ∧ t.store = s.store ∧ t.storeErr = s.storeErr)) ∧
  ∀ s : State, s.held = false →
    (s.flag Rg.ST_CTRL_SCRUB_EN = true →
      exec .scrubLate s = .next ((s.set Rg.ST_STATUS_SCRUB_LATE 1).set Rg.ST_INT_STATUS_SCRUB_LATE 1)) ∧
    (s.flag Rg.ST_CTRL_SCRUB_EN = false → Ignored .scrubLate s)

/-- Bank rotation (R87, R97 to R101). A command or the automatic start begins copying the bank asked for, or the one that R98
names, when no step is in progress, and waits behind one that is, or for the end of a drydown tier (assumption 126), or for that
of a march of the spare (assumption 35: the model's choices); a command is refused with no spare, and so is TARGET_LOG 8191
(assumption 86: the model's choice); when the copy is done an uncorrectable half stands poisoned in the spare (assumption 33: the
model's choice), and the switch waits for a frame boundary, or happens at once outside LOCKED, where the map entry becomes the
spare; the drained source is tested, or released untested with ROT_TEST 0; a source that passes becomes the spare and counts, one
that fails is retired and leaves no spare; a read of `ST_ROT_STATUS` while a step copies takes a free value for COPY_ROW
(assumption 114: the model's choice). Completes: ROT_STEP_CMD, ROT_TARGETED_CMD, ROTATION_STEP_START, ROTATION_COPY_DONE,
ROTATION_TEST_START, ROTATION_TEST_DONE. -/
def Obligations.RotationMovesABank : Prop :=
  (∀ (s : State) (m : Master) (v : Word) (log : BitVec 13), MayWrite s m Rg.ST_ROT_CMD_GO.addr 4 →
    (s.flag Rg.ST_STATUS_NO_SPARE = true → Refused (.rotStepCmd m v) s m ∧ Refused (.rotTargetedCmd m log) s m) ∧
    (s.flag Rg.ST_STATUS_NO_SPARE = false → s.get Rg.DD_STATUS_TIER = 0 → s.rot = .idle → s.rotWant = [] → s.marching = false →
      (log ≠ 8191 → Answers (.rotTargetedCmd m log) s fun t => t.rot = .copying log.toNat (s.physOf log.toNat) ∧
        t.get Rg.ST_STATUS_ROT_PHASE = 1 ∧ t.get Rg.ST_ROT_STATUS_SRC_PHYS = s.physOf log.toNat % 2 ^ 13 ∧ t.rotWant = []) ∧
      ∀ b, s.rotNext = some b → Answers (.rotStepCmd m v) s fun t => t.rot = .copying b (s.physOf b) ∧
        t.get Rg.ST_STATUS_ROT_PHASE = 1) ∧
    (s.flag Rg.ST_STATUS_NO_SPARE = false → s.get Rg.DD_STATUS_TIER ≠ 0 ∨ s.rot ≠ .idle ∨ s.marching = true →
      (log ≠ 8191 → Accepted (.rotTargetedCmd m log) s m { s with rotWant := s.rotWant ++ [some log.toNat] }) ∧
      Accepted (.rotStepCmd m v) s m { s with rotWant := s.rotWant ++ [none] }) ∧
    (log = 8191 → Refused (.rotTargetedCmd m log) s m)) ∧
  (∀ s : State, s.held = false →
    (s.flag Rg.ST_CTRL_ROT_EN = true → s.get Rg.ST_ROT_CFG_STEP_MS ≠ 0 → s.flag Rg.ST_STATUS_NO_SPARE = false →
      s.get Rg.DD_STATUS_TIER = 0 → s.rot = .idle → s.rotWant = [] → s.marching = false → ∀ b, s.rotNext = some b →
      Answers .rotationStepStart s fun t => t.rot = .copying b (s.physOf b)) ∧
    (s.flag Rg.ST_CTRL_ROT_EN = true → s.get Rg.ST_ROT_CFG_STEP_MS ≠ 0 → s.flag Rg.ST_STATUS_NO_SPARE = false →
      s.get Rg.DD_STATUS_TIER ≠ 0 ∨ s.marching = true → s.rot = .idle →
      exec .rotationStepStart s = .next { s with rotWant := s.rotWant ++ [none] }) ∧
    (s.flag Rg.ST_CTRL_ROT_EN = false ∨ s.get Rg.ST_ROT_CFG_STEP_MS = 0 ∨ s.flag Rg.ST_STATUS_NO_SPARE = true ∨ s.rot ≠ .idle →
      Ignored .rotationStepStart s)) ∧
  (∀ (s : State) (log src : Nat), s.held = false → log < 8191 → s.rot = .copying log src → s.storeErr = [] →
    (s.locked = true → Answers .rotationCopyDone s fun t => t.rot = .switching log src s.dueNow ∧
      t.get Rg.ST_STATUS_ROT_PHASE = 2 ∧ t.get (Rg.BM_PHYS log) = s.get (Rg.BM_PHYS log)) ∧
    (s.locked = false → Answers .rotationCopyDone s fun t => t.rot = .draining log src ∧
      t.get (Rg.BM_PHYS log) = s.get Rg.ST_STATUS_SPARE_PHYS % 2 ^ 13 ∧ ∀ r ∈ t.resv, bankOf r.word ≠ log)) ∧
  (∀ (s : State) (log src h : Nat), s.held = false → log < 8191 → s.rot = .copying log src → bankOf (h / 2) = log →
    s.storeErr = [(h, some .uncorrectable)] → s.rotMarks = [] → s.rotBad = [] → s.locked = false →
    Answers .rotationCopyDone s fun t => t.storeErr = [(h, some .poison)] ∧ t.get Rg.ST_UE_CNT = counted s Rg.ST_UE_CNT ∧
      t.get Rg.ST_LAST_UE_SRC = 70 ∧ t.store = s.store) ∧
  (∀ (s : State) (log src : Nat), s.held = false → src < 8192 → s.rot = .draining log src → s.rotWant = [] →
    (s.flag Rg.ST_CTRL_ROT_TEST = true → Answers .rotationTestStart s fun t => t.rot = .testing log src ∧
      t.get Rg.ST_STATUS_ROT_PHASE = 3) ∧
    (s.flag Rg.ST_CTRL_ROT_TEST = false → Answers .rotationTestStart s fun t => t.rot = .idle ∧
      t.get Rg.ST_STATUS_SPARE_PHYS = src ∧ t.get Rg.ST_ROT_COUNT = counted s Rg.ST_ROT_COUNT)) ∧
  (∀ (s : State) (log src : Nat), s.held = false → src < 8192 → s.rot = .testing log src → s.rotWant = [] →
    s.blMbist = none →
    (s.get Rg.DD_STATUS_TIER ≠ 0 → ∀ pass, Ignored (.rotationTestDone pass) s) ∧
    (s.get Rg.DD_STATUS_TIER = 0 → (Answers (.rotationTestDone true) s fun t => t.rot = .idle ∧ t.get Rg.ST_STATUS_SPARE_PHYS = src ∧
      t.get Rg.ST_INT_STATUS_ROT_DONE = 1 ∧ t.get Rg.ST_ROT_COUNT = counted s Rg.ST_ROT_COUNT) ∧
    Answers (.rotationTestDone false) s fun t => t.rot = .idle ∧ t.get Rg.ST_RETIRED_PHYS = src ∧
      t.flag Rg.ST_RETIRED_VALID = true ∧ t.flag Rg.ST_STATUS_NO_SPARE = true ∧ t.get Rg.ST_INT_STATUS_ROT_FAIL = 1)) ∧
  (∀ s : State, s.held = false →
    (s.rot = .idle → Ignored .rotationCopyDone s ∧ Ignored .rotationTestStart s ∧ ∀ pass, Ignored (.rotationTestDone pass) s)) ∧
  ∀ (s : State) (r : RegRef), r.row.base = Rg.ST_ROT_STATUS_SRC_PHYS.addr →
    (s.rotCopying = true → s.readEffect r = { s with regs := (s.readEffect r).regs, freeCtr := s.freeCtr + 1 }) ∧
    (s.rotCopying = false → s.readEffect r = { s with regs := (s.readEffect r).regs })

/-- Management pushes (R225, R226, R233, R235, R238). `Q_PUSH_LEN` with a length of 1 to 16 that fits allocates the item at
ALLOC, writes its header and opens it; one that does not fit is refused and counted as a drop; a length of 0 or above 16, a
disabled queue and an item already open are refused. Each `Q_PUSH_DATA` of the same master writes the next ring word, and the
last commits the item; a write of another master, or with no open item, is refused. An item not committed in time becomes
torn. An error of both copies of the pointers empties the queue (R394). Completes: Q_PUSH_LEN, Q_PUSH_DATA, ITEM_TORN. -/
def Obligations.ManagementPushesItems : Prop :=
  (∀ (s : State) (m : Master) (n : Queue) (v : Word), MayWrite s m (Rg.Q_PUSH_LEN n).addr 4 → PtrsGood s n →
    (v.toNat % 32 = 0 ∨ 16 < v.toNat % 32 ∨ s.qOn n = false ∨ (s.q n).opn.isSome = true ∨ mgmtMayPush n = false →
      Refused (.qPushLen m n v none) s m) ∧
    (1 ≤ v.toNat % 32 → v.toNat % 32 ≤ 16 → mgmtMayPush n = true → (s.q n).opn = none → s.qOn n = true →
      s.qFits n (v.toNat % 32) = false →
      Answers (.qPushLen m n v none) s fun t => t.get (Rg.Q_DROP_CNT n) = counted s (Rg.Q_DROP_CNT n) ∧
        t.get (Rg.Q_STATUS_DROP n) = 1 ∧ t.q n = s.q n ∧ t.resp = some { master := m, code := 4, data := 0 }) ∧
    (1 ≤ v.toNat % 32 → v.toNat % 32 ≤ 16 → mgmtMayPush n = true → (s.q n).opn = none → RingGood s n → s.storeErr = [] →
      s.qFits n (v.toNat % 32) = true →
      Answers (.qPushLen m n v none) s fun t =>
        t.q n = ⟨(s.q n).head, ((s.q n).alloc + v.toNat % 32 + 1) % (2 * s.qN n),
          (s.q n).items ++ [⟨v.toNat % 32, false, false⟩], some ⟨m, (s.q n).alloc, v.toNat % 32, 0⟩⟩ ∧
        RingHolds t n (s.q n).alloc
          ((v.toNat % 32 + 2 * 2 ^ 8 + m.val * 2 ^ 16 + s.get Rg.FT_FRAME_LO % 2 ^ 32 * 2 ^ 32) % 2 ^ 64) ∧
        (∀ k : Queue, k ≠ n → t.q k = s.q k) ∧ t.regs = s.regs)) ∧
  (∀ (s : State) (m : Master) (n : Queue) (v : DWord), MayWrite s m (Rg.Q_PUSH_DATA n).addr 8 → PtrsGood s n →
    ((s.q n).opn = none → Refused (.qPushData m n v none) s m) ∧
    ∀ o, (s.q n).opn = some o →
      (o.master ≠ m.val → Refused (.qPushData m n v none) s m) ∧
      (o.master = m.val → o.done + 1 < o.len → s.storeErr = [] → s.get (Rg.Q_BASE n) % 256 = 0 →
        Answers (.qPushData m n v none) s fun t =>
          (t.q n).opn = some { o with done := o.done + 1 } ∧ (t.q n).items = (s.q n).items ∧
          RingHolds t n (o.pos + 1 + o.done) v.toNat) ∧
      (o.master = m.val → o.done + 1 = o.len → s.storeErr = [] → s.get (Rg.Q_BASE n) % 256 = 0 →
        Answers (.qPushData m n v none) s fun t =>
          (t.q n).opn = none ∧ (t.q n).items = commitFirst (s.q n).items ∧ (t.q n).alloc = (s.q n).alloc ∧
          RingHolds t n (o.pos + 1 + o.done) v.toNat)) ∧
  (∀ (s : State) (n : Queue), s.held = false → PtrsGood s n →
    ((s.q n).opn = none → Ignored (.itemTorn n) s) ∧
    ∀ o, (s.q n).opn = some o →
      Answers (.itemTorn n) s fun t => (t.q n).opn = none ∧ (t.q n).alloc = (s.q n).alloc ∧
        t.get (Rg.Q_TORN_CNT n) = counted s (Rg.Q_TORN_CNT n) ∧ t.get (Rg.Q_STATUS_TORN n) = 1 ∧
        ((s.q n).items = [⟨o.len, false, false⟩] → (t.q n).items = [] ∧
          (t.q n).head = ((s.q n).head + o.len + 1) % (2 * s.qN n))) ∧
  ∀ (s : State) (m : Master) (n : Queue) (v : Word), MayWrite s m (Rg.Q_PUSH_LEN n).addr 4 → PtrsGood s n →
    s.qOn n = true → mgmtMayPush n = true → 1 ≤ v.toNat % 32 → v.toNat % 32 ≤ 16 → 8 ≤ s.get (Rg.Q_CFG_SIZE_LOG2 n) →
    Answers (.qPushLen m n v (some true)) s fun t => (t.q n).head = 0 ∧ (t.q n).items = [⟨v.toNat % 32, false, false⟩] ∧
      t.get Rg.RL_QPTR_UE_CNT = counted s Rg.RL_QPTR_UE_CNT ∧ t.get Rg.RL_QPTR_LAST = n.val ∧
      t.get Rg.BL_INT_STATUS_QPTR_UE = 1

/-- Release, flush, enable and disable (R223, R234, R236, R237). POP releases the head deliverable item, and is refused where
there is none; FLUSH empties the queue, and tears an item whose words were not all written; enabling a disabled queue whose
ring is well placed starts it empty with HEAD and ALLOC 0, and sets CFG_ERR where it is not; a write of 1 to ENABLE of an
enabled queue that keeps its size sets the counters to 0 (assumption 47: the model's reading); disabling flushes it. Completes:
QUEUE_POP, QUEUE_FLUSH, QUEUE_ENABLE, QUEUE_DISABLE. -/
def Obligations.QueueControlFollowsR234 : Prop :=
  (∀ (s : State) (m : Master) (n : Queue) (v : Word), MayWrite s m (Rg.Q_CMD_POP n).addr 4 → PtrsGood s n →
    ((s.q n).ready = [] → Refused (.queuePop m n v none) s m) ∧
    ((s.q n).ready = [] → v.toNat / 2 % 2 = 1 → Refused (.queueFlush m n v) s m) ∧
    (∀ i r, (s.q n).items = i :: r → i.committed = true ∨ i.torn = true → v.toNat % 2 = 0 →
      Answers (.queuePop m n v none) s fun t =>
        t.q n = { s.q n with head := (skipTorn (2 * s.qN n) (((s.q n).head + i.len + 1) % (2 * s.qN n)) r).1,
                             items := (skipTorn (2 * s.qN n) (((s.q n).head + i.len + 1) % (2 * s.qN n)) r).2 } ∧
        t = { s with queues := t.queues, resp := t.resp }) ∧
    (∀ i r, (s.q n).items = i :: r → i.committed = true → i.torn = false → r.all (fun j => !j.torn) = true →
      v.toNat % 2 = 0 →
      Answers (.queuePop m n v none) s fun t =>
        t.q n = { s.q n with head := ((s.q n).head + i.len + 1) % (2 * s.qN n), items := r } ∧ t.regs = s.regs ∧
        t.store = s.store) ∧
    (v.toNat / 2 % 2 = 0 → Answers (.queueFlush m n v) s fun t =>
      t.q n = ⟨(s.q n).alloc, (s.q n).alloc, [], none⟩ ∧ t.store = s.store ∧
      ((s.q n).items.all (fun i => i.committed) = true → t.regs = s.regs) ∧
      ((s.q n).items.any (fun i => !i.committed) = true →
        t.get (Rg.Q_TORN_CNT n) = counted s (Rg.Q_TORN_CNT n) ∧ t.get (Rg.Q_STATUS_TORN n) = 1))) ∧
  ∀ (s : State) (m : Master) (n : Queue) (v : Word), MayWrite s m (Rg.Q_CFG_ENABLE n).addr 4 → PtrsGood s n →
    (v.toNat / 2 % 32 < 8 ∨ 24 < v.toNat / 2 % 32 → Refused (.queueEnable m n v) s m ∧ Refused (.queueDisable m n v) s m) ∧
    (8 ≤ v.toNat / 2 % 32 → v.toNat / 2 % 32 ≤ 24 → s.qOn n = false → s.qPlaced n (v.toNat / 2 % 32) = true →
      Answers (.queueEnable m n v) s fun t => t.q n = {} ∧ t.qOn n = true ∧
        t.get (Rg.Q_CFG_SIZE_LOG2 n) = v.toNat / 2 % 32 ∧ t.get (Rg.Q_CFG_ITEM_WORDS n) = v.toNat / 64 % 16 ∧
        t.get (Rg.Q_CFG_INT_EN n) = v.toNat / 1024 % 2) ∧
    (8 ≤ v.toNat / 2 % 32 → v.toNat / 2 % 32 ≤ 24 → s.qOn n = false → s.qPlaced n (v.toNat / 2 % 32) = false →
      exec (.queueEnable m n v) s = .next ((s.set (Rg.Q_STATUS_CFG_ERR n) 1).respond m 4 0)) ∧
    (s.qOn n = true → v.toNat / 2 % 32 = s.get (Rg.Q_CFG_SIZE_LOG2 n) → 8 ≤ v.toNat / 2 % 32 → v.toNat / 2 % 32 ≤ 24 →
      v.toNat / 64 % 16 = s.get (Rg.Q_CFG_ITEM_WORDS n) →
      Answers (.queueDisable m n v) s fun t => t.qOn n = false ∧ t.q n = ⟨(s.q n).alloc, (s.q n).alloc, [], none⟩) ∧
    (s.qOn n = true → v.toNat / 2 % 32 ≠ s.get (Rg.Q_CFG_SIZE_LOG2 n) ∨ v.toNat / 64 % 16 ≠ s.get (Rg.Q_CFG_ITEM_WORDS n) →
      Refused (.queueEnable m n v) s m ∧ Refused (.queueDisable m n v) s m) ∧
    (s.qOn n = true → v.toNat / 2 % 32 = s.get (Rg.Q_CFG_SIZE_LOG2 n) → 8 ≤ v.toNat / 2 % 32 → v.toNat / 2 % 32 ≤ 24 →
      v.toNat / 64 % 16 = s.get (Rg.Q_CFG_ITEM_WORDS n) →
      Answers (.queueEnable m n v) s fun t => t.q n = {} ∧ t.qOn n = true ∧
        OnlyFields [Rg.Q_CFG_INT_EN n] { s with queues := t.queues, resp := t.resp } t) ∧
    (s.qOn n = false → 8 ≤ v.toNat / 2 % 32 → v.toNat / 2 % 32 ≤ 24 →
      Answers (.queueDisable m n v) s fun t => t.qOn n = false ∧ t.q n = s.q n ∧
        t.get (Rg.Q_CFG_SIZE_LOG2 n) = v.toNat / 2 % 32 ∧ t.get (Rg.Q_CFG_ITEM_WORDS n) = v.toNat / 64 % 16 ∧
        t.get (Rg.Q_CFG_INT_EN n) = v.toNat / 1024 % 2)

/-- The ALU rows (R264) and LUI (R263) write their result to RD, where s0 discards it (R261), and step the program counter; no other
register, flag, memory byte or engine changes. A form with a bit that must be 0 (R262, R263) raises an illegal instruction and has no
effect.
Completes: ADD, ADDI, SUB, AND, ANDI, OR, ORI, XOR, XORI, ANDN, SHL, SHLI, SHR, SHRI, SRA, SRAI, SLT, SLTI, SLTU, SLTIU,
MIN, MAX, MINU, MAXU, ROR, ADDS, SUBS, CLZ, POPC, BSWAP, SEXTB, SEXTH, LUI. -/
def Obligations.ScalarAluRowsWriteTheirResult : Prop :=
  (∀ (c : Instr) (s : State) (u : CoreId) (i : RInsn) (f : Word → Word → Word), aluRow c = some (u, i, f) → Ready s u →
    (i.z = 0 → Answers c s (Retires s u fun e => e.setS i.rd.toNat (f (s.coreReg u i.ra) (s.coreReg u i.rb)))) ∧
    (i.z ≠ 0 → Answers c s (Raises s u { code := 1 }))) ∧
  (∀ (c : Instr) (s : State) (u : CoreId) (i : RInsn) (f : Word → Word), unaryRow c = some (u, i, f) → Ready s u →
    (i.z = 0 → i.rb = 0 → Answers c s (Retires s u fun e => e.setS i.rd.toNat (f (s.coreReg u i.ra)))) ∧
    (i.z ≠ 0 ∨ i.rb ≠ 0 → Answers c s (Raises s u { code := 1 }))) ∧
  (∀ (c : Instr) (s : State) (u : CoreId) (i : IInsn) (k : Bool) (f : Word → Word), immRow c = some (u, i, k, f) →
    Ready s u →
    (k = false ∨ i.imm.toNat < 32 → Answers c s (Retires s u fun e => e.setS i.rd.toNat (f (s.coreReg u i.ra)))) ∧
    (k = true → 32 ≤ i.imm.toNat → Answers c s (Raises s u { code := 1 }))) ∧
  (∀ (s : State) (u : CoreId) (i : UInsn), Ready s u →
    Answers (.lui u i) s (Retires s u fun e => e.setS i.rd.toNat (BitVec.ofNat 32 (i.imm.toNat * 512)))) ∧
  (∀ a : Word, a ≠ 0 → 2 ^ (31 - (clz32 a).toNat) ≤ a.toNat ∧ a.toNat < 2 ^ (32 - (clz32 a).toNat)) ∧ clz32 0 = 32 ∧
  ∀ (e : Engine) (r : Nat) (v : Word), e.setS 0 v = e ∧ e.sreg 0 = 0 ∧
    ∀ k, (e.setS r v).sreg k = if k = r ∧ r ≠ 0 then v else e.sreg k

/-- Multiplies and divides (R265, R275, R277). A multiply's result is on its way: the next instruction still reads the old
value in exposed mode, and the new one in compatibility mode; the instruction after that reads the new one. A divide becomes
the long operation of its core, whose result is written when it completes. Completes: MUL, MULH, MULHU, DIV, DIVU, REM,
REMU, LONG_OP_COMPLETE. -/
def Obligations.LongResultsArriveAsR275Says : Prop :=
  (∀ (c : Instr) (s : State) (u : CoreId) (i : RInsn) (f : Word → Word → Word), mulRow c = some (u, i, f) → Ready s u →
    i.z = 0 → Answers c s (Retires s u fun e =>
      { e with lands := [⟨i.rd.toNat, f (s.coreReg u i.ra) (s.coreReg u i.rb), true, true⟩] })) ∧
  (∀ (c : Instr) (s : State) (u : CoreId) (i : RInsn) (f : Word → Word → Word), divRow c = some (u, i, f) → Ready s u →
    i.z = 0 → Answers c s (Retires s u fun e =>
      { e with long := some (i.rd.toNat, f (s.coreReg u i.ra) (s.coreReg u i.rb)) })) ∧
  (∀ (c : Instr) (s : State) (u : CoreId) (i : RInsn) (f : Word → Word → Word), mulRow c = some (u, i, f) ∨
    divRow c = some (u, i, f) → Ready s u → i.z ≠ 0 → Answers c s (Raises s u { code := 1 })) ∧
  (∀ (s : State) (u : CoreId), s.held = false →
    ((s.eng (coreNo u)).long = none → Answers (.longOpComplete u) s fun t => t.eng (coreNo u) = s.eng (coreNo u)) ∧
    ∀ r v, (s.eng (coreNo u)).long = some (r, v) → Answers (.longOpComplete u) s fun t =>
      t.eng (coreNo u) = { (s.eng (coreNo u)).setS r v with long := none } ∧ t = { s with engines := t.engines } ∧
      ∀ j, j ≠ coreNo u → t.eng j = s.eng j) ∧
  ∀ (s t : State) (u : CoreId) (i : RInsn) (r : Nat) (v : Word) (back : Bool),
    Ready t u → r ≠ 0 → r = i.ra.toNat → i.rb = 0 → i.rd.toNat ≠ r → i.rd ≠ 0 → i.z = 0 →
    s = t.setEng (coreNo u) { t.eng (coreNo u) with lands := [⟨r, v, true, back⟩] } →
    ((t.eng (coreNo u)).mode = false → Answers (.or u i) s fun w =>
      (w.eng (coreNo u)).sreg i.rd.toNat = t.coreReg u i.ra ∧
      (back = true → (w.eng (coreNo u)).sreg r = v ∧ (w.eng (coreNo u)).lands = []) ∧
      (back = false → (w.eng (coreNo u)).lands = [⟨r, v, false, false⟩] ∧
        (w.eng (coreNo u)).settle r = { (w.eng (coreNo u)).setS r v with lands := [] })) ∧
    ((t.eng (coreNo u)).mode = true → Answers (.or u i) s fun w =>
      (w.eng (coreNo u)).sreg i.rd.toNat = v ∧ (w.eng (coreNo u)).sreg r = v ∧ (w.eng (coreNo u)).lands = [])

/-- Scalar loads, their checks and their data (R266, R267, R275, R276, R286, R292, R294). A load whose checks pass and that no
buffered store overlaps sends its data out for RD, and updates its base where the mode says so; the data of the newest
overlapping store, where that holds all of it, is written as an ALU result; a check that fails raises its exception, with
nothing written. The data of the oldest load under way is written when it returns, unless the next instruction must still see the old
value. DLD waits for the store buffer and writes a descriptor, which in exposed mode the next instruction still sees with its old
value (R270, R275). Completes: LB, LBU, LH, LHU, LW, DLD, LOAD_DATA_RETURN. -/
def Obligations.ScalarLoadsReadMemory : Prop :=
  (∀ (c : Instr) (s : State) (u : CoreId) (i : MInsn) (n : Nat) (f : List Byte → Word), loadRow c = some (u, i, n, f) →
    Ready s u →
    (mBad i = true ∨ mClash i = true → Answers c s (Raises s u { code := 1 })) ∧
    (mBad i = false → mClash i = false →
      (∀ x, s.memCheck (coreNo u) (mCap i) permLoad (mAddr (s.eng (coreNo u)) i).toNat n n = .error x →
        Answers c s (Raises s u x)) ∧
      ∀ a, s.memCheck (coreNo u) (mCap i) permLoad (mAddr (s.eng (coreNo u)) i).toNat n n = .ok a →
        (∀ bs, (s.eng (coreNo u)).sb.any (·.meets a n) = false → DataAt s u a n bs →
          Answers c s (Retires s u fun e => { e.rebase i with lands := [⟨i.rd.toNat, f bs, true, false⟩] })) ∧
        ∀ bs, sbForward (s.eng (coreNo u)).sb a n = some bs →
          Answers c s (Retires s u fun e => (e.rebase i).setS i.rd.toNat (f bs)))) ∧
  (∀ (s : State) (u : CoreId) (i : MInsn) (a : Nat) (bs : List Byte), Ready s u → mBad i = false → i.rd.toNat < 16 →
    s.memCheck (coreNo u) (mCap i) permLoad (mAddr (s.eng (coreNo u)) i).toNat 16 16 = .ok a →
    (s.eng (coreNo u)).sb = [] → DataAt s u a 16 bs →
    ((s.eng (coreNo u)).mode = true →
      Answers (.dld u i) s (Retires s u fun e => (e.rebase i).setD i.rd.toNat (BitVec.ofNat 128 (leNat bs)))) ∧
    ((s.eng (coreNo u)).mode = false → Answers (.dld u i) s (Retires s u fun e =>
      { e.rebase i with dland := some (i.rd.toNat, BitVec.ofNat 128 (leNat bs), true) }))) ∧
  (∀ (s t : State) (u : CoreId) (i : SInsn) (v : QWord), Ready t u → (t.eng (coreNo u)).rep = none → i.rd ≠ 0 →
    s = t.setEng (coreNo u) { t.eng (coreNo u) with dland := some (i.imm.toNat / 4 % 16, v, true) } →
    Answers (.dgetw u i) s fun w => (w.eng (coreNo u)).dland = none ∧
      (w.eng (coreNo u)).desc (i.imm.toNat / 4 % 16) = v ∧
      (w.eng (coreNo u)).sreg i.rd.toNat =
        BitVec.ofNat 32 (((t.eng (coreNo u)).desc (i.imm.toNat / 4 % 16)).toNat / 2 ^ (32 * (i.imm.toNat % 4)))) ∧
  (∀ (s : State) (u : CoreId), s.held = false →
    ((∀ l ∈ (s.eng (coreNo u)).lands, l.back = true) →
      Answers (.loadDataReturn u) s fun t => t.eng (coreNo u) = s.eng (coreNo u)) ∧
    ∀ b l r, (s.eng (coreNo u)).lands = b ++ l :: r → (∀ x ∈ b, x.back = true) → l.back = false →
      Answers (.loadDataReturn u) s fun t =>
        t = { s with engines := t.engines } ∧ (∀ j, j ≠ coreNo u → t.eng j = s.eng j) ∧
        t.eng (coreNo u) =
          if l.newest ∧ (s.eng (coreNo u)).mode = false
            then { s.eng (coreNo u) with lands := b ++ { l with back := true } :: r }
            else { (s.eng (coreNo u)).setS l.rd l.val with lands := b ++ r }) ∧
  ∀ (s : State) (u : CoreId) (c p a n : Nat), 0 < n →
    (s.memCheck (coreNo u) c p a n n = .ok (((s.eng (coreNo u)).cap c).addr a) ↔
      a % n = 0 ∧ ((s.eng (coreNo u)).cap c).unusable p (((s.eng (coreNo u)).cap c).addr a) n = none ∧
      (u = .triad → p = permStore →
        (unitPerms (((s.eng (coreNo u)).cap c).addr a) n).all ((s.eng (coreNo u)).cap c).holds = true) ∧
      (u ≠ .triad → ((s.eng (coreNo u)).cap c).addr a + n ≤ storeTop)) ∧
    (a % n ≠ 0 → s.memCheck (coreNo u) c p a n n = .error { code := 2, addr := ((s.eng (coreNo u)).cap c).addr a })

/-- Scalar stores (R266, R267, R285). A store whose checks pass enters the store buffer, behind the entries it holds, with
RD's low bytes, and updates its base where the mode says so; no byte of memory changes until the entry is issued; DST and DLD of a descriptor above 15 are illegal. The oldest
entry of a sequencer, when issued, writes its bytes and no others; of an empty buffer nothing is issued. Completes: SB, SH,
SW, DST, STORE_BUFFER_ISSUE. -/
def Obligations.ScalarStoresGoThroughTheBuffer : Prop :=
  (∀ (c : Instr) (s : State) (u : CoreId) (i : MInsn) (n : Nat) (f : Engine → Nat), storeRow c = some (u, i, n, f) →
    Ready s u →
    (mBad i = true → Answers c s (Raises s u { code := 1 })) ∧
    (mBad i = false →
      (∀ x, s.memCheck (coreNo u) (mCap i) permStore (mAddr (s.eng (coreNo u)) i).toNat n n = .error x →
        Answers c s (Raises s u x)) ∧
      ∀ a, s.memCheck (coreNo u) (mCap i) permStore (mAddr (s.eng (coreNo u)) i).toNat n n = .ok a →
        (s.eng (coreNo u)).sb.length < 8 →
        Answers c s (Retires s u fun e =>
          { e.rebase i with sb := e.sb ++ [⟨a, leBytes n (f (s.eng (coreNo u)))⟩] }))) ∧
  (∀ (s : State) (u : CoreId) (i : MInsn), Ready s u → 16 ≤ i.rd.toNat →
    Answers (.dst u i) s (Raises s u { code := 1 }) ∧ Answers (.dld u i) s (Raises s u { code := 1 })) ∧
  (∀ (s : State) (u : CoreId), s.held = false → (s.eng (coreNo u)).sb = [] → Ignored (.storeBufferIssue u) s) ∧
  (∀ (s : State) (n : VE) (x : SbEntry) (r : List SbEntry), s.held = false → (s.eng n).sb = x :: r → s.storeErr = [] →
    Answers (.storeBufferIssue (.seq n)) s fun t =>
      Performed s x.addr x.bytes t ∧ (t.eng n).sb = r ∧ t.eng n = (s.eng n).sbLess ∧ t.regs = s.regs ∧
      (∀ j, j ≠ n.val → t.eng j = s.eng j) ∧ ∀ v ∈ t.resv, v ∈ s.resv) ∧
  ∀ (s : State) (a k : Nat) (bs : List Byte) (r : List SbEntry), s.held = false → s.tri.sb = ⟨a, bs⟩ :: r →
    bs.length = k → k ∈ [1, 2, 4, 8, 16] → a % k = 0 → 0x100000000 ≤ a → a + k ≤ 0x100200000 →
    s.mxCheck 0 a k true false = none → s.lmErr = [] →
    Answers (.storeBufferIssue .triad) s fun t => t.tri = s.tri.sbLess ∧ t.regs = s.regs ∧ t.store = s.store ∧
      t.lmBytes (a - 0x100000000) k = bs ∧
      ∀ o, o < a - 0x100000000 ∨ a - 0x100000000 + k ≤ o → t.lmByte o = s.lmByte o

/-- LL and SC (R90 to R93, R267, R289). LL reads its word, takes the reservation and sets LOCKED; an SC of a sequencer that
holds the reservation writes its word and answers 1, any other writes nothing and answers 0, and breaks every reservation on the
word; both clear LOCKED. Once the LL and
32 instructions after it have retired, LOCKED is cleared. Any AM but 0 is illegal. Completes: LL, SC, LL_LOCK_TIMEOUT. -/
def Obligations.LinkedPairsFollowR289 : Prop :=
  (∀ (s : State) (u : CoreId) (i : MInsn), ReadyPlain s u → i.am ≠ 0 →
    Answers (.ll u i) s (Raises s u { code := 1 }) ∧ Answers (.sc u i) s (Raises s u { code := 1 })) ∧
  (∀ (s : State) (u : CoreId) (i : MInsn) (a : Nat) (bs : List Byte), ReadyPlain s u → i.am = 0 →
    s.memCheck (coreNo u) (mCap i) permLoad (mAddr (s.eng (coreNo u)) i).toNat 4 4 = .ok a →
    (s.eng (coreNo u)).sb = [] → DataAt s u a 4 bs →
    Answers (.ll u i) s fun t => (t.eng (coreNo u)).lands = [⟨i.rd.toNat, BitVec.ofNat 32 (leNat bs), true, false⟩] ∧
      (t.eng (coreNo u)).locked = true ∧ (t.eng (coreNo u)).llAge = some 1 ∧
      (t.eng (coreNo u)).pc = (s.eng (coreNo u)).pc + 4 ∧ t.holdsResv (coreNo u) (a / 16) = true ∧
      (∀ r ∈ t.resv, r.word = a / 16 → r.seq = coreNo u) ∧ t.store = s.store ∧ t.localMem = s.localMem ∧
      (t.eng (coreNo u)).sregs = (s.eng (coreNo u)).sregs) ∧
  (∀ (s : State) (u : CoreId) (i : MInsn) (a : Nat), ReadyPlain s u → i.am = 0 →
    s.memCheck (coreNo u) (mCap i) permStore (mAddr (s.eng (coreNo u)) i).toNat 4 4 = .ok a →
    (s.eng (coreNo u)).sb = [] → s.holdsResv (coreNo u) (a / 16) = false →
    Answers (.sc u i) s fun t => (t.eng (coreNo u)).lands = [⟨i.rd.toNat, 0, true, false⟩] ∧
      (t.eng (coreNo u)).locked = false ∧ (t.eng (coreNo u)).llAge = none ∧ t.store = s.store ∧ t.localMem = s.localMem ∧
      t.get Rg.ST_RES_FAIL_CNT = counted s Rg.ST_RES_FAIL_CNT ∧ (∀ r ∈ t.resv, r ∈ s.resv ∧ r.word ≠ a / 16) ∧
      (t.eng (coreNo u)).pc = (s.eng (coreNo u)).pc + 4) ∧
  (∀ (s : State) (n : VE) (i : MInsn) (a : Nat), ReadyPlain s (.seq n) → i.am = 0 →
    s.memCheck n (mCap i) permStore (mAddr (s.eng n) i).toNat 4 4 = .ok a →
    (s.eng n).sb = [] → s.holdsResv n (a / 16) = true → s.storeErr = [] →
    Answers (.sc (.seq n) i) s fun t => (t.eng n).lands = [⟨i.rd.toNat, 1, true, false⟩] ∧ (t.eng n).locked = false ∧
      Performed s a (leBytes 4 ((s.eng n).sreg i.rd.toNat).toNat) t ∧ t.holdsResv n (a / 16) = false ∧
      t.get Rg.ST_RES_FAIL_CNT = s.get Rg.ST_RES_FAIL_CNT) ∧
  ∀ (s : State) (u : CoreId), s.held = false → Answers (.llLockTimeout u) s fun t =>
    t = { s with engines := t.engines } ∧ (∀ j, j ≠ coreNo u → t.eng j = s.eng j) ∧
    t.eng (coreNo u) = { s.eng (coreNo u) with locked := (s.eng (coreNo u)).lockHolds } ∧
    (∀ k, (s.eng (coreNo u)).llAge = some k → (s.eng (coreNo u)).rep = none →
      (t.eng (coreNo u)).locked = ((s.eng (coreNo u)).locked && decide (k < 33)))

/-- Transfers (R268, R272, R274, R278, R280). A branch goes to its target, or past it; J, CALL, JR, CALLR and RET go to theirs;
in exposed mode the delay slot comes first. A call pushes the return address, the oldest 32 entries spilled first where 64 are
held, and RET pops it, 32 entries filled first where none is held; a spill or a fill outside c7's authority raises its exception, an
uncorrectable word of a fill exception 7 with its address, and neither has another effect. RET of an empty stack raises exception 9,
a JR or CALLR to an address that is no multiple of 4 exception 2 (assumption 70: the model's choice), and any of these
instructions in a delay slot exception 1. Nothing else of the machine changes.
Completes: BEQ, BNE, BLT, BGE, BLTU, BGEU, J, CALL, JR, CALLR, RET. -/
def Obligations.TransfersGoToTheirTargets : Prop :=
  (∀ (c : Instr) (s : State) (u : CoreId) (i : BInsn) (f : Word → Word → Bool), branchRow c = some (u, i, f) →
    ReadyPlain s u → Answers c s (Goes s u id
      (if f (s.coreReg u i.ra) (s.coreReg u i.rb) then (s.eng (coreNo u)).pc + BitVec.ofInt 32 (4 * i.off.toInt)
        else afterSlot (s.eng (coreNo u))) true)) ∧
  (∀ (s : State) (u : CoreId) (i : JInsn), ReadyPlain s u → i.z = 0 →
    Answers (.j u i) s (Goes s u id ((s.eng (coreNo u)).pc + BitVec.ofInt 32 (4 * i.off.toInt)) true) ∧
    ((s.eng (coreNo u)).rstack.held.length < 64 →
      Answers (.call u i) s (Goes s u (fun e => e.pushed (afterSlot (s.eng (coreNo u))))
        ((s.eng (coreNo u)).pc + BitVec.ofInt 32 (4 * i.off.toInt)) true))) ∧
  (∀ (s : State) (u : CoreId) (i : JInsn), ReadyPlain s u → i.z ≠ 0 →
    Answers (.j u i) s (Raises s u { code := 1 }) ∧ Answers (.call u i) s (Raises s u { code := 1 })) ∧
  (∀ (s : State) (u : CoreId) (i : RInsn), ReadyPlain s u → i.z = 0 → i.rd = 0 → i.rb = 0 →
    ((s.coreReg u i.ra).toNat % 4 ≠ 0 →
      Answers (.jr u i) s (Raises s u { code := 2 }) ∧ Answers (.callr u i) s (Raises s u { code := 2 })) ∧
    ((s.coreReg u i.ra).toNat % 4 = 0 →
      Answers (.jr u i) s (Goes s u (fun e => e.cached (s.btcOn (coreNo u)) (s.coreReg u i.ra)) (s.coreReg u i.ra) true) ∧
      ((s.eng (coreNo u)).rstack.held.length < 64 →
        Answers (.callr u i) s (Goes s u (fun e => (e.cached (s.btcOn (coreNo u)) (s.coreReg u i.ra)).pushed
          (afterSlot (s.eng (coreNo u)))) (s.coreReg u i.ra) true)))) ∧
  (∀ (s : State) (u : CoreId) (i : RInsn), ReadyPlain s u → i.z = 0 → i.rd = 0 → i.rb = 0 →
    ((s.eng (coreNo u)).rstack.held = [] → (s.eng (coreNo u)).rstack.spilled = 0 →
      Answers (.ret u i) s (Raises s u { code := 9 })) ∧
    ∀ v r, (s.eng (coreNo u)).rstack.held = v :: r →
      (v.toNat % 4 ≠ 0 → Answers (.ret u i) s (Raises s u { code := 2 })) ∧
      (v.toNat % 4 = 0 →
        Answers (.ret u i) s (Goes s u (fun e => { e with rstack := { e.rstack with held := r } }) v true))) ∧
  (∀ (s : State) (u : CoreId) (i : JInsn) (k : RInsn) (p : Nat), ReadyPlain s u → i.z = 0 →
    k.z = 0 → k.rd = 0 → k.rb = 0 → (s.coreReg u k.ra).toNat % 4 = 0 →
    (s.eng (coreNo u)).rstack.held.length = 64 → p = spillPtr (coreNo u) (s.eng (coreNo u)) →
    (∀ x, s.spillCheck (coreNo u) permStore p = .error x →
      Answers (.call u i) s (Raises s u x) ∧ Answers (.callr u k) s (Raises s u x)) ∧
    ∀ n a, u = .seq n → s.spillCheck n permStore p = .ok a → s.storeErr = [] →
      (Answers (.call u i) s fun t => Performed s a (spillBytes (s.eng n)) t ∧ t.eng n =
        (((s.found u).spilled (afterSlot (s.eng n)) p).transfer (s.eng n).pc ((s.eng n).pc + BitVec.ofInt 32 (4 * i.off.toInt))
          (s.eng n).rstack true).after (s.eng n).pc false false) ∧
      Answers (.callr u k) s fun t => Performed s a (spillBytes (s.eng n)) t ∧ t.eng n =
        ((((s.found u).spilled (afterSlot (s.eng n)) p).cached (s.btcOn n) (s.coreReg u k.ra)).transfer (s.eng n).pc
          (s.coreReg u k.ra) (s.eng n).rstack true).after (s.eng n).pc false false) ∧
  (∀ (s : State) (u : CoreId) (i : RInsn) (p : Nat), ReadyPlain s u → i.z = 0 → i.rd = 0 → i.rb = 0 →
    (s.eng (coreNo u)).rstack.held = [] → (s.eng (coreNo u)).rstack.spilled ≠ 0 →
    p = spillPtr (coreNo u) (s.eng (coreNo u)) - 128 →
    (∀ x, s.spillCheck (coreNo u) permLoad p = .error x → Answers (.ret u i) s (Raises s u x)) ∧
    ∀ n a, u = .seq n → s.spillCheck n permLoad p = .ok a →
      (s.storeErr = [] → s.stNat (a + 124) 4 % 4 = 0 → Answers (.ret u i) s fun t => t.store = s.store ∧ t.eng n =
        ({ s.found u with
            rstack := { held := (List.range 31).map (fun j => BitVec.ofNat 32 (s.stNat (a + 120 - 4 * j) 4)),
                        spilled := (s.eng n).rstack.spilled - 32, ptr := p } }.transfer (s.eng n).pc
          (BitVec.ofNat 32 (s.stNat (a + 124) 4)) (s.eng n).rstack true).after (s.eng n).pc false false) ∧
      (s.storeErr = [] → s.stNat (a + 124) 4 % 4 ≠ 0 → Answers (.ret u i) s (Raises s u { code := 2 })) ∧
      ∀ h, s.storeErr = [(h, some .uncorrectable)] → a ≤ 8 * h → 8 * h < a + 128 → Answers (.ret u i) s fun t =>
        t.store = s.store ∧ t.eng n = { s.found u with exc := some { code := 7, addr := some (h / 2 * 16) } }) ∧
  (∀ (c : Instr) (s : State) (u : CoreId), slotless c = some u → ReadyOnce s u → (s.eng (coreNo u)).branch ≠ none →
    Answers c s (Raises s u { code := 1 })) ∧
  (∀ (s : State) (u : CoreId) (i : RInsn), ReadyPlain s u → i.z ≠ 0 ∨ i.rd ≠ 0 ∨ i.rb ≠ 0 →
    Answers (.jr u i) s (Raises s u { code := 1 }) ∧ Answers (.callr u i) s (Raises s u { code := 1 }) ∧
    Answers (.ret u i) s (Raises s u { code := 1 })) ∧
  ∀ (e : Engine) (pc target : Word) (before : RetStack),
    (e.mode = false → e.transfer pc target before true = { e with pc := pc + 4, branch := some ⟨pc, target, before⟩ }) ∧
    (e.mode = true → e.transfer pc target before true = { e with pc := target }) ∧
    ∀ b, e.branch = some b → e.advance pc 4 = { e with pc := b.target, branch := none }
/-- System and vector-control instructions (R269, R270, R279 to R283, R290). NOP changes nothing but the program counter. The
instructions that wait for the store buffer do so, and have their effect: IFENCE empties the caches, PFLUSH the target cache,
PBAR and PALLOW set and clear `SST.PBAR`, SYNC does no more; RDST, RDRS, GETVL and DGETW read into RD; MODE sets `SST.MODE`;
SETVL sets VL and DSETW one word of a descriptor, once no waiting accord holds them back (assumption 77: the model's choice). VGET reads the
engine's window and VPUT writes `VE_VFCTL`, which needs SYS. On the Triad VGET and VPUT are illegal (assumption 76: the model's
choice). Completes: NOP, IFENCE, PFLUSH, PBAR, PALLOW, SYNC, MODE, RDST, RDRS, SETVL, GETVL,
VGET, VPUT, DSETW, DGETW. -/
def Obligations.SystemInstructionsActOnTheirCore : Prop :=
  (∀ (s : State) (u : CoreId) (i : SInsn), Ready s u → Answers (.nop u i) s (Retires s u id)) ∧
  (∀ (c : Instr) (s : State) (u : CoreId) (g : Engine → Engine), plainSys c = some (u, g) → ReadyOnce s u →
    (s.eng (coreNo u)).sb = [] → Answers c s (Retires s u g)) ∧
  (∀ (s : State) (u : CoreId) (i : SInsn), ReadyPlain s u →
    (i.imm.toNat < 2 → Answers (.mode u i) s (Retires s u fun e => { e with mode := decide (i.imm.toNat = 1) })) ∧
    (2 ≤ i.imm.toNat → Answers (.mode u i) s (Raises s u { code := 1 }))) ∧
  (∀ (s : State) (u : CoreId) (i : SInsn), ReadyOnce s u →
    (i.rd = 0 → Answers (.setvl u i) s (Retires s u fun e => { e with vl := s.coreReg u i.ra })) ∧
    (i.rd ≠ 0 → Answers (.setvl u i) s (Raises s u { code := 1 })) ∧
    Answers (.dsetw u i) s fun t => ∃ d : QWord,
      Retires s u (fun e => e.setD (i.imm.toNat / 4 % 16) d) t ∧
      ∀ b, b < 128 → d.getLsbD b = if b / 32 = i.imm.toNat % 4 then (s.coreReg u i.ra).getLsbD (b % 32)
        else ((s.eng (coreNo u)).desc (i.imm.toNat / 4 % 16)).getLsbD b) ∧
  (∀ (s : State) (n : VE) (i : SInsn), ReadyOnce s (.seq n) →
    (i.imm.toNat % 4 = 0 → i.imm.toNat ≤ 0xFC → Answers (.vget (.seq n) i) s
      (Retires s (.seq n) fun e => e.setS i.rd.toNat (BitVec.ofNat 32 ((s.setEng n (s.found (.seq n))).ownWindow n i.imm.toNat)))) ∧
    (i.imm.toNat % 4 ≠ 0 ∨ 0xFC < i.imm.toNat → Answers (.vget (.seq n) i) s (Raises s (.seq n) { code := 1 })) ∧
    (i.imm = 0x04C → (s.eng n).grants permSys = true → Answers (.vput (.seq n) i) s fun t =>
      t.get (Rg.VE_VFCTL_ACTION n) = (s.coreReg (.seq n) i.ra).toNat % 4 ∧
      t.eng n = ((s.found (.seq n)).advance (s.eng n).pc 4).after (s.eng n).pc false false ∧
      ∀ f : Fld, f.key ≠ (Rg.VE_VFCTL_ACTION n).key → ¬ EventFld (.seq n) f → t.get f = s.get f) ∧
    (i.imm = 0x04C → (s.eng n).grants permSys = false → Answers (.vput (.seq n) i) s (Raises s (.seq n) { code := 3 })) ∧
    (i.imm ≠ 0x04C → Answers (.vput (.seq n) i) s (Raises s (.seq n) { code := 1 }))) ∧
  ∀ (s : State) (i : SInsn), ReadyOnce s .triad →
    Answers (.vget .triad i) s (Raises s .triad { code := 1 }) ∧ Answers (.vput .triad i) s (Raises s .triad { code := 1 })

/-- FEND, BRK, TRAP and ERELEASE (R22, R24, R269, R310, R482). FEND before cc W ends the sequencer's work for the frame and
records its cc; at cc W or later it does nothing. TRAP raises exception 11 with its code, BRK exception 12 with no debugger
attached, and else halts its core, which then stands past it; on the Triad FEND only retires (both by assumption 76: the model's
choice); ERELEASE clears HOLD with SYS, and raises exception 3 without it. Completes: FEND, TRAP,
BRK, ERELEASE. -/
def Obligations.FendTrapAndReleaseFollowTheSpec : Prop :=
  (∀ (s : State) (n : VE) (i : SInsn) (cc : BitVec 16), ReadyPlain s (.seq n) → (s.eng n).sb = [] → (s.eng n).helda = none →
    (cc.toNat < s.budgetW → Answers (.fend (.seq n) i cc) s fun t => (t.eng n).run = false ∧
      t.get (Rg.VE_STATUS_RUNNING n) = 0 ∧ t.get (Rg.VE_STATUS_FENDED n) = 1 ∧ t.get (Rg.VE_FEND_CC n) = cc.toNat ∧
      (t.eng n).pc = (s.eng n).pc + 4 ∧ (t.eng n).sregs = (s.eng n).sregs ∧ t.store = s.store ∧
      ∀ j, j ≠ n.val → t.eng j = s.eng j) ∧
    (s.budgetW ≤ cc.toNat → Ignored (.fend (.seq n) i cc) s)) ∧
  (∀ (s : State) (i : SInsn) (cc : BitVec 16), ReadyPlain s .triad → s.tri.sb = [] → s.tri.helda = none →
    Answers (.fend .triad i cc) s (Retires s .triad id)) ∧
  (∀ (s : State) (u : CoreId) (i : SInsn), ReadyPlain s u →
    Answers (.trap u i) s (Raises s u { code := 11, reg := some (i.imm.toNat % 256) })) ∧
  (∀ (s : State) (u : CoreId) (i : SInsn), ReadyPlain s u → (s.eng (coreNo u)).sb = [] →
    (s.attached (coreNo u) = false → Answers (.brk u i) s (Raises s u { code := 12 })) ∧
    (s.attached (coreNo u) = true → Answers (.brk u i) s fun t => (t.eng (coreNo u)).halted = true ∧
      (t.eng (coreNo u)).pc = (s.eng (coreNo u)).pc + 4 ∧ (t.eng (coreNo u)).sregs = (s.eng (coreNo u)).sregs ∧
      (∀ n : VE, u = .seq n → t.get (Rg.DBG_STATUS_HALTED n) = 1 ∧ t.get (Rg.DBG_STATUS_CAUSE n) = 2) ∧
      (u = .triad → t.get Rg.TD_STATUS_HALTED = 1 ∧ t.get Rg.TD_STATUS_CAUSE = 2))) ∧
  ∀ (s : State) (u : CoreId) (i : SInsn), ReadyOnce s u →
    ((s.eng (coreNo u)).grants permSys = true → Answers (.erelease u i) s (Retires s u fun e => { e with hold := false })) ∧
    ((s.eng (coreNo u)).grants permSys = false → Answers (.erelease u i) s (Raises s u { code := 3 }))

/-- Repeat prefixes (R273). With a good form and a count above 0, REP and REPI begin a repetition of the next instruction: REP
sets LOCKED, REPI does not; a count of 0 skips it; REP_ACTIVE takes the count from REP_COUNT, and is cleared. In a repetition
each iteration stays at its instruction until the last, which goes on and ends it.
The instruction cache (R281, R282). A fill whose line is in the line buffer changes nothing; from an absent line that the
store gives, it leaves the line in the cache and in the line buffer. IPRIME of lines that are present only clears `ICOLD`.
Completes: REP, REPI, ICACHE_FILL, IPRIME. -/
def Obligations.PrefixesAndCacheFillsFollowR273 : Prop :=
  (∀ (s : State) (u : CoreId) (i : PInsn) (c : Nat), ReadyPlain s u → i.next = true → i.z = 0 →
    (i.reg = true → i.count.toNat < 32) →
    c = (if (s.eng (coreNo u)).repAct then (s.eng (coreNo u)).repCnt
      else if i.reg then ((s.eng (coreNo u)).sreg (i.count.toNat % 32)).toNat % 65536 else i.count.toNat) →
    (c = 0 → Answers (.rep u i) s (Goes s u (fun e => { e with repAct := false, repCnt := 0 }) ((s.eng (coreNo u)).pc + 8) false) ∧
      Answers (.repi u i) s (Goes s u (fun e => { e with repAct := false, repCnt := 0 }) ((s.eng (coreNo u)).pc + 8) false)) ∧
    (c ≠ 0 →
      Answers (.rep u i) s (Goes s u (fun e =>
        { e with repAct := false, repCnt := 0, rep := some ⟨(s.eng (coreNo u)).pc, c, false⟩, locked := true })
        ((s.eng (coreNo u)).pc + 4) false) ∧
      Answers (.repi u i) s (Goes s u (fun e =>
        { e with repAct := false, repCnt := 0, rep := some ⟨(s.eng (coreNo u)).pc, c, true⟩ }) ((s.eng (coreNo u)).pc + 4) false))) ∧
  (∀ (s : State) (u : CoreId) (i : PInsn), ReadyPlain s u →
    i.next = false ∨ i.z ≠ 0 ∨ (i.reg = true ∧ 32 ≤ i.count.toNat) →
    Answers (.rep u i) s (Raises s u { code := 1 }) ∧ Answers (.repi u i) s (Raises s u { code := 1 })) ∧
  (∀ (e : Engine) (pc : Word) (r : Rep), e.branch = none → e.rep = some r →
    (1 < r.left → e.advance pc 4 = { e with rep := some { r with left := r.left - 1 } }) ∧
    (r.left ≤ 1 → (e.advance pc 4).pc = pc + 4 ∧ (e.advance pc 4).rep = none ∧
      (r.inter = false → (e.advance pc 4).locked = false))) ∧
  (∀ (s : State) (u : CoreId) (f : Form) (bad : Bool) (rs : List Nat) (b : State → Nat → SRes),
    (s.eng (coreNo u)).rep ≠ none → f.rept = false → s.issue u f bad rs b = s) ∧
  (∀ (s : State) (u : CoreId), Ready s u → Ignored (.icacheFill u false) s) ∧
  (∀ (s : State) (n : VE), s.mayIssue n = true → s.pcAddr n % 4 = 0 →
    ((s.eng n).cap 0).unusable permExec (s.pcAddr n) 4 = none → s.pcAddr n / 64 * 64 + 64 ≤ storeTop → s.storeErr = [] →
    (s.eng n).lineBuf ≠ some (s.pcAddr n / 64) → (s.eng n).lines = [] →
    Answers (.icacheFill (.seq n) false) s fun t => OnlyCore s (.seq n) t ∧
      t.eng n = { s.eng n with lines := [(s.pcAddr n / 64 % 512, s.pcAddr n / 64)], lineBuf := some (s.pcAddr n / 64) }) ∧
  ∀ (s : State) (u : CoreId) (i : SInsn), ReadyOnce s u →
    (∀ k d, k ≤ i.imm.toNat % 512 → Tab.get (s.eng (coreNo u)).lines
      ((((s.eng (coreNo u)).cap 0).addr (s.coreReg u i.ra).toNat / 64 + k) % 512) d =
        ((s.eng (coreNo u)).cap 0).addr (s.coreReg u i.ra).toNat / 64 + k) →
    Answers (.iprime u i) s (Retires s u fun e => { e with icold := false })

/-- Capability instructions (R291, R298 to R300). CCOPY copies with the tag; CCLR clears the tag; CGET reads a field; a
register number above 7, or a field above 8, is illegal. CCLIP, CDROP and CTYPE need a valid unsealed operand and narrow it;
CSEAL seals with an unsealed sealer's type; CUNSEAL opens what the operand's type grants. No other register changes.
Completes: CCOPY, CCLIP, CDROP, CTYPE, CSEAL, CUNSEAL, CGET, CCLR. -/
def Obligations.CapabilityInstructionsNarrowAuthority : Prop :=
  (∀ (c : Instr) (s : State) (u : CoreId) (i : RInsn) (ok : Bool) (g : Engine → Engine), capRow c = some (u, i, ok, g) →
    ReadyOnce s u →
    (i.z = 0 → ok = true → Answers c s (Retires s u g)) ∧
    (i.z ≠ 0 ∨ ok = false → Answers c s (Raises s u { code := 1 }))) ∧
  (∀ (s : State) (u : CoreId) (i : RInsn) (a : Cap), ReadyOnce s u → i.z = 0 → i.rd.toNat < 8 → i.ra.toNat < 8 →
    a = (s.eng (coreNo u)).cap i.ra.toNat →
    (a.tag = false →
      Answers (.cdrop u i) s (Raises s u { code := 4, sub := some 1, reg := i.ra.toNat }) ∧
      Answers (.ctype u i) s (Raises s u { code := 4, sub := some 1, reg := i.ra.toNat }) ∧
      (i.rb.getLsbD 0 = false → Answers (.cclip u i) s (Raises s u { code := 4, sub := some 1, reg := i.ra.toNat })) ∧
      (i.rb.toNat < 8 → Answers (.cseal u i) s (Raises s u { code := 4, sub := some 1, reg := i.ra.toNat }) ∧
        Answers (.cunseal u i) s (Raises s u { code := 4, sub := some 1, reg := i.ra.toNat }))) ∧
    (a.tag = true → a.sealed = false →
      (Answers (.cdrop u i) s fun t => ∃ c : Cap, Retires s u (fun e => e.setC i.rd.toNat c) t ∧ c.base = a.base ∧
        c.len = a.len ∧ c.otype = a.otype ∧ SameSeal c a ∧
        ∀ p, p < 16 → c.holds p = (a.holds p && !(s.coreReg u i.rb).getLsbD p)) ∧
      (∀ lo hi : Word, i.rb.getLsbD 0 = false → lo = s.coreReg u i.rb → hi = (s.eng (coreNo u)).sreg (i.rb.toNat + 1) →
        (hi.toNat < lo.toNat ∨ a.addr lo.toNat < a.base ∨
            a.base + a.len < a.addr lo.toNat + (hi.toNat + 1 - lo.toNat) →
          Answers (.cclip u i) s (Raises s u { code := 4, sub := some 5, reg := i.ra.toNat })) ∧
        (lo.toNat ≤ hi.toNat → a.base ≤ a.addr lo.toNat → a.addr lo.toNat + (hi.toNat + 1 - lo.toNat) ≤ a.base + a.len →
          Answers (.cclip u i) s fun t => ∃ c : Cap, Retires s u (fun e => e.setC i.rd.toNat c) t ∧
            c.base = a.addr lo.toNat ∧ c.len = hi.toNat + 1 - lo.toNat ∧ c.perms = a.perms ∧ c.otype = a.otype ∧
            SameSeal c a)) ∧
      (a.seals = true → a.otype = 0 → (s.coreReg u i.rb).toNat % 256 ≠ 0 →
        Answers (.ctype u i) s fun t => ∃ c : Cap, Retires s u (fun e => e.setC i.rd.toNat c) t ∧
          c.otype = (s.coreReg u i.rb).toNat % 256 ∧ c.base = a.base ∧ c.len = a.len ∧ c.perms = a.perms ∧ SameSeal c a) ∧
      (a.seals = false ∨ a.otype ≠ 0 ∨ (s.coreReg u i.rb).toNat % 256 = 0 →
        Answers (.ctype u i) s (Raises s u { code := 4, sub := some 6, reg := i.ra.toNat })))) ∧
  ∀ (s : State) (u : CoreId) (i : RInsn) (a b : Cap), ReadyOnce s u → i.z = 0 → i.rd.toNat < 8 → i.ra.toNat < 8 →
    i.rb.toNat < 8 → a = (s.eng (coreNo u)).cap i.ra.toNat → b = (s.eng (coreNo u)).cap i.rb.toNat → a.tag = true →
    b.tag = true → b.sealed = false →
    (a.sealed = false → a.seals = false → b.holds permSeal = true → b.otype ≠ 0 →
      Answers (.cseal u i) s fun t => ∃ c : Cap, Retires s u (fun e => e.setC i.rd.toNat c) t ∧ c.tag = true ∧
        c.sealed = true ∧ c.otype = b.otype ∧ c.base = a.base ∧ c.len = a.len ∧ c.perms = a.perms ∧ c.pdom = 0) ∧
    (a.sealed = true → b.holds permUnseal = true → b.otype = a.otype →
      Answers (.cunseal u i) s fun t => ∃ c : Cap, Retires s u (fun e => e.setC i.rd.toNat c) t ∧ c.tag = true ∧
        c.sealed = false ∧ c.otype = a.otype ∧ c.base = a.base ∧ c.len = a.len ∧ c.perms = a.perms ∧ c.pdom = 0) ∧
    (a.sealed = true → b.holds permUnseal = true → b.otype ≠ a.otype →
      Answers (.cunseal u i) s (Raises s u { code := 4, sub := some 6, reg := i.rb.toNat }))
/-- Every vector row (R104, R109, R131, R134, R136): it joins the accord being collected with its fields, the values of the
scalar registers it names and its address; with CHAIN 0 the accord then waits for its turn. The program counter steps by 8, and
nothing else of the machine changes. Completes: V_ADD, V_SUB, V_MIN, V_MAX, ABS, NEG, ABSDIFF, AVG, CLAMP, MOV, RAW, SEL,
V_AND, V_OR, V_XOR, V_ANDN, NOT, V_SHL, V_SHR, BFX, V_MUL, V_MULH, MULW, MAC, MACW, CMPEQ, CMPNE, CMPLT, CMPLE, CMPGT,
CMPGE, FADD, FSUB, FMUL, FMA, FMIN, FMAX, FABS, FNEG, CVT, TLU, TWR, V_DIV, SQRT, RSQRT, RSUM, RMIN, RMAX, RAND, V_ROR,
MAND, MOR, MXOR, MANDN, MNOT, MFILL, MPOP, MFIRST, COMPRESS, EXPAND, LD, LDG, ST, STS, STC. -/
def Obligations.VectorRowsJoinTheirAccord : Prop :=
  ∀ (c : Instr) (s : State) (n : VE) (o : VOp) (f : VFields), vecRow c = some (n, o, f) → VReady s n →
    (f.chain = true → Answers c s fun t => OnlyCore s (.seq n) t ∧ t.eng n = ({ s.found (.seq n) with
      coll := (s.eng n).coll ++ [s.latched n o f],
      collSb := if (s.eng n).coll = [] then (s.eng n).sb.length else (s.eng n).collSb,
      pc := (s.eng n).pc + 8 } : Engine).after (s.eng n).pc true false) ∧
    (f.chain = false → Answers c s fun t => OnlyCore s (.seq n) t ∧ t.eng n = ({ s.found (.seq n) with
      coll := [], wait := some ⟨(s.eng n).coll ++ [s.latched n o f], false⟩, collSb := 0,
      waitSb := if (s.eng n).coll = [] then (s.eng n).sb.length else (s.eng n).collSb,
      pc := (s.eng n).pc + 8 } : Engine).after (s.eng n).pc true false)

/-- Accords in time (R108, R109, R111, R188 to R193, R195, R202, R229). The waiting accord begins when it may, with VL and the
descriptors as they stand, as its first attempt; one that overlaps and has TRAP is counted in `VE_OVL_CNT`; a queue load takes
the item of its queue whose elements fit within VL, and comes up short with `SHORT` and its count where none does; that the item
is read and freed as the accord begins is the model's choice (assumption 41), and so is the overlap as it stands with VL 0 or
TRAP (assumption 42). One that
fails a check of R188 raises a vector fault with the cause and the instruction of the first that fails, with OVERLAP as it
stands, and does not execute. With none waiting, one executing, a vector fault being handled or an accord held, none begins.
With VL 0 an accord finishes with no effect on masks, registers, memory or `VE_SAT`; MFILL writes every mask bit below VL and no
other. With none executing nothing finishes. Completes: ACCORD_BEGIN, ACCORD_FINISH. -/
def Obligations.AccordsBeginAndFinish : Prop :=
  (∀ (s : State) (n : VE), s.held = false → (s.eng n).wait = none ∨ (s.eng n).exe.isSome = true ∨ s.excDue n = true ∨
    (s.eng n).vfBusy = true ∨ (s.eng n).helda.isSome = true → Ignored (.accordBegin n) s) ∧
  (∀ (s : State) (n : VE) (a : Accord), MayBegin s n a →
    (s.issueFault n (fun d => Tab.get (s.eng n).descs d 0) (s.eng n).vl.toNat a = none →
      (∀ v ∈ a.insns, v.op = .ld → dQueue ((s.eng n).desc (v.f.dreg.toNat % 16)) = false) →
      Answers (.accordBegin n) s fun t => (t.eng n).wait = none ∧ (t.eng n).exe = some (s.firstRun n a) ∧
        t.get (Rg.VE_VFAULT_ATTEMPT n) = 1 ∧ t.get (Rg.VE_OVL_CNT n) =
          (if (s.firstRun n a).overlap = true ∧ ∃ v ∈ a.insns, v.f.trap = true then counted s (Rg.VE_OVL_CNT n)
            else s.get (Rg.VE_OVL_CNT n)) ∧
        t.store = s.store ∧ (t.eng n).sregs = (s.eng n).sregs ∧ ∀ j, j ≠ n.val → t.eng j = s.eng j) ∧
    (∀ v q, s.issueFault n (fun d => Tab.get (s.eng n).descs d 0) (s.eng n).vl.toNat a = none → 0 < (s.eng n).vl.toNat →
      a.insns = [v] → v.op = .ld → dQueue ((s.eng n).desc (v.f.dreg.toNat % 16)) = true →
      q = dBase ((s.eng n).desc (v.f.dreg.toNat % 16)) % 8192 → PtrsGood s q →
      ((s.q q).ready = [] → Answers (.accordBegin n) s fun t => (t.eng n).exe = some (s.firstRun n a) ∧ t.q q = s.q q ∧
        t.get (Rg.Q_STATUS_SHORT q) = 1 ∧ t.get (Rg.Q_SHORT_CNT q) = counted s (Rg.Q_SHORT_CNT q)) ∧
      ∀ k, (s.q q).items = [⟨k, true, false⟩] → 8 * k ≤ (s.eng n).vl.toNat * ((vty v).getD .u32).size → s.storeErr = [] →
        Answers (.accordBegin n) s fun t =>
          (t.eng n).exe = some (s.queueRun n a q k v.f.pipe) ∧
          (t.q q).items = [] ∧ (t.q q).head = ((s.q q).head + k + 1) % (2 * s.qN q) ∧ t.store = s.store) ∧
    (∀ cause k, s.issueFault n (fun d => Tab.get (s.eng n).descs d 0) (s.eng n).vl.toNat a = some (cause, k) →
      cause < 16 → k < 8 →
      Answers (.accordBegin n) s fun t => (t.eng n).wait = none ∧ (t.eng n).exe = none ∧ (t.eng n).vfDue = true ∧
        (t.eng n).vfBusy = true ∧ t.get (Rg.VE_VFAULT_CAUSE n) = cause ∧ t.get (Rg.VE_VFAULT_INSN n) = k ∧
        t.get (Rg.VE_VFELEM n) = 0 ∧ t.get (Rg.VE_VFAULT_PENDING n) = 0 ∧ t.get (Rg.VE_VFAULT_ATTEMPT n) = 1 ∧
        t.get (Rg.VE_VFAULT_OVERLAP n) = (if (s.firstRun n a).overlap then 1 else 0) ∧
        t.get (Rg.VE_FAULT_CNT n) = counted s (Rg.VE_FAULT_CNT n) ∧ t.store = s.store)) ∧
  (∀ (s : State) (n : VE), s.held = false → (s.eng n).exe = none → Ignored (.accordFinish n) s) ∧
  (∀ (s : State) (n : VE) (a : Accord) (ds : Tab QWord), s.held = false →
    (s.eng n).exe = some (begunExec a 0 ds) →
    Answers (.accordFinish n) s fun t => t.eng n = { s.eng n with exe := none } ∧ t.store = s.store ∧
      t.get (Rg.VE_SAT n) = s.get (Rg.VE_SAT n) ∧ t.get (Rg.VE_QCOUNT_L0 n) = 0 ∧ t.get (Rg.VE_QCOUNT_L1 n) = 0 ∧
      t.get (Rg.VE_QCOUNT_S n) = 0) ∧
  ∀ (s : State) (n : VE) (v : VInsn) (ds : Tab QWord) (vl : Nat), s.held = false → v.op = .mfill → v.f.mask = 0 →
    1 ≤ v.f.dreg.toNat → v.f.dreg.toNat ≤ 7 → 0 < vl → vl ≤ 65536 → (s.eng n).stErr = [] →
    (s.eng n).exe = some (begunExec ⟨[v], false⟩ vl ds) →
    Answers (.accordFinish n) s fun t => (t.eng n).exe = none ∧ t.store = s.store ∧ (t.eng n).sregs = (s.eng n).sregs ∧
      t.get (Rg.VE_SAT n) = 0 ∧
      (∀ i, i < 65536 → (t.eng n).mbit v.f.dreg.toNat i =
        if i < vl then v.f.imm.getLsbD 0 else (s.eng n).mbit v.f.dreg.toNat i) ∧
      ∀ m i, i < 65536 → m ≠ v.f.dreg.toNat → (t.eng n).mbit m i = (s.eng n).mbit m i

/-- Faults and items while elements stream (R147, R170, R191 to R193, R196, R197, R199, R200, R230). Where the executing accord
meets no fault nothing stops; an upset that strikes it and brings none only takes its place. Whatever the accord, where a fault of
R191 is found at the next of its elements, the accord stops, and the fault is reported as R193 chooses among those found (how
many elements were looked at by then is free: assumption 37, the model's choice). So it is of the first element: an
uncorrectable mask group, a load of an uncorrectable half, a queue item's word that could not be read, an index out of bounds
or an arithmetic event with TRAP; of an accord of that one instruction the cause, INSN 0 and element 0 are reported, and the
store is as it was. A queue store allocates an item when its payload words are complete, with its active elements packed in
their order, lowest first; one that does not fit is discarded and counted. With no queue store executing nothing is
allocated. Completes: MID_VECTOR_FAULT, QUEUE_STORE_ALLOCATE. -/
def Obligations.StreamingStopsAndAllocates : Prop :=
  (∀ (s : State) (n : VE), s.held = false → s.accordFaults n = false → Ignored (.midVectorFault n none) s) ∧
  (∀ (s : State) (n : VE) (u : EngUpset), s.held = false → (s.engUpset n u).accordFaults n = false →
    exec (.midVectorFault n (some u)) s = .next (s.engUpset n u)) ∧
  (∀ (s : State) (n : VE) (x : Exec) (f : Found), s.held = false → (s.eng n).exe = some x → x.attempt ≤ 3 → x.pos < x.vl →
    f ∈ ((s.run x).elem n).faults → Answers (.midVectorFault n none) s fun t => MidStop s t n x f) ∧
  (∀ (s : State) (n : VE) (x : Exec) (v : VInsn) (vs : List VInsn) (cause : Nat), s.held = false → (s.eng n).exe = some x →
    x.attempt ≤ 3 → x.pos = 0 → 0 < x.vl → x.rdc = [] → x.acc.insns = v :: vs → FirstStops s n x v cause →
    Answers (.midVectorFault n none) s fun t => MidStop s t n x ⟨cause, 0, 0, 0⟩) ∧
  (∀ (s : State) (n : VE) (v : VInsn) (ds : Tab QWord) (vl a : Nat) (off ovl : Bool) (x : Exec) (cause : Nat), s.held = false →
    x = { begunExec ⟨[v], false⟩ vl ds with attempt := a, off := off, overlap := ovl } → (s.eng n).exe = some x → a ≤ 3 → 0 < vl →
    s.storeErr = [] ∧ (∀ e ∈ (s.eng n).stErr, e.2 = false) ∨ cause = 9 ∨ cause = 7 ∧ (∀ e ∈ (s.eng n).stErr, e.2 = false) →
    FirstStops s n x v cause →
    Answers (.midVectorFault n none) s fun t => MidStop s t n x ⟨cause, 0, 0, 0⟩ ∧ t.get (Rg.VE_VFAULT_CAUSE n) = cause ∧
      t.get (Rg.VE_VFAULT_INSN n) = 0 ∧ t.get (Rg.VE_VFELEM n) = 0 ∧ t.store = s.store) ∧
  (∀ (s : State) (n : VE) (err : Option Bool), s.held = false →
    (∀ x, (s.eng n).exe = some x → storeQueue x = none) → Ignored (.queueStoreAllocate n err) s) ∧
  ∀ (s : State) (n : VE) (v : VInsn) (y : ElemTy) (x : Exec) (ovl : Bool) (vl p e q w : Nat) (es : List Nat), s.held = false →
    v.op = .st → v.f.src1 = 7 → vty v = some y → y.isIntQ = true → y.isQ = false →
    x = { begunExec ⟨[v], false⟩ vl x.descs with pos := p, qelems := e, overlap := ovl } → (s.eng n).exe = some x →
    dQueue (vdesc x.desc v) = true → dBase (vdesc x.desc v) % 8192 = q → w = s.itemWords q →
    (∀ g ∈ (s.eng n).stErr, g.2 = false) → es = (s.activeFrom n v.f.mask p vl).take (8 * w / y.size) →
    es.length = 8 * w / y.size → PtrsGood s q →
    (RingGood s q → s.storeErr = [] → s.qOn q = true → s.qFits q w = true →
      Answers (.queueStoreAllocate n none) s fun t =>
        (t.q q).items = (s.q q).items ++ [⟨w, true, false⟩] ∧ (t.q q).alloc = ((s.q q).alloc + w + 1) % (2 * s.qN q) ∧
        (∀ j, j < w → RingHolds t q ((s.q q).alloc + 1 + j) (packedWord y.size es j)) ∧ (t.q q).head = (s.q q).head ∧
        ∃ z, (t.eng n).exe = some z ∧ z.qelems = e + es.length ∧ z.qbuf = [] ∧ z.qfull = false) ∧
    (s.qFits q w = false →
      Answers (.queueStoreAllocate n none) s fun t => t.q q = s.q q ∧ t.store = s.store ∧ t.get (Rg.Q_STATUS_DROP q) = 1 ∧
        t.get (Rg.Q_DROP_CNT q) = counted s (Rg.Q_DROP_CNT q) ∧
        ∃ z, (t.eng n).exe = some z ∧ z.qelems = e ∧ z.qbuf = [] ∧ z.qfull = true)

/-- The arithmetic of one element (R143, R144, R148, R155, R174, R175). For INT and Q types an ADD, SUB or MUL whose exact
result is in range gives it; one that is not saturates and is counted where SAT is 1 or the type is Q, and otherwise wraps.
Division by zero gives the greatest value, the least, or 0, by the dividend's sign, and is counted. A signed saturating combine
stays within the type and says when it clamped; MIN and MAX give one of their operands. -/
def Obligations.ElementArithmeticFollowsR144 : Prop :=
  (∀ (t : ElemTy) (x : Int) (sat : Bool), t.isIntQ = true →
    (t.rmin ≤ x → x ≤ t.rmax → t.raw (fit t sat x).val = x ∧ (fit t sat x).counted = false ∧ (fit t sat x).wrapped = false) ∧
    (x < t.rmin → (sat || t.isQ) = true → t.raw (fit t sat x).val = t.rmin ∧ (fit t sat x).counted = true) ∧
    (t.rmax < x → (sat || t.isQ) = true → t.raw (fit t sat x).val = t.rmax ∧ (fit t sat x).counted = true) ∧
    (x < t.rmin ∨ t.rmax < x → (sat || t.isQ) = false →
      (t.raw (fit t sat x).val - x) % 2 ^ t.width = 0 ∧ (fit t sat x).wrapped = true ∧ (fit t sat x).counted = false)) ∧
  (∀ (t t2 : ElemTy) (rm imm a b c : Nat) (sat : Bool), t.isIntQ = true →
    opEl .add t t2 rm sat imm a b c = fit t sat (t.raw a + t.raw b) ∧
    opEl .sub t t2 rm sat imm a b c = fit t sat (t.raw a - t.raw b) ∧
    (t.isQ = false → opEl .mul t t2 rm sat imm a b c = fit t sat (t.raw a * t.raw b)) ∧
    (t.raw b = 0 → t.raw (opEl .div t t2 rm sat imm a b c).val =
        (if t.raw a > 0 then t.rmax else if t.raw a < 0 then t.rmin else 0) ∧
      (opEl .div t t2 rm sat imm a b c).counted = true) ∧
    (t.raw (opEl .min t t2 rm sat imm a b c).val = min (t.raw a) (t.raw b)) ∧
    (t.raw (opEl .max t t2 rm sat imm a b c).val = max (t.raw a) (t.raw b))) ∧
  ∀ (t : ElemTy) (m : Nat) (v : Int), t.isIntQ = true →
    (t.raw (combApply .sadd t m v).1 = max t.rmin (min (t.raw m + v) t.rmax)) ∧
    ((combApply .sadd t m v).2 = true ↔ t.raw m + v < t.rmin ∨ t.rmax < t.raw m + v)
/-- Domain calls and tagged slots (R296, R299, R301). DCALL through a portal pushes the return address and enters the portal's
code with the capabilities of R301, DRET pops it, its two low bits cleared (assumption 72: the model's choice), and restores the
caller's; a push on a full stack spills the oldest 32 entries first, and a pop of one whose entries are all spilled fills 32
first (R272); a spill or fill outside c7's authority raises its exception, a DRET of an empty stack exception 9, and either in a
delay slot exception 1. Neither changes a scalar register, nor memory but by the spill. CLD and CST on the Triad move a
capability with its tag between a slot of local memory and a register, at once (assumption 71: the model's choice); a slot that
fails a check raises its fault; a sequencer has neither. Completes: DCALL, DRET, CLD, CST. -/
def Obligations.DomainCallsAndSlotsFollowR301 : Prop :=
  (∀ (s : State) (u : CoreId) (i : RInsn), ReadyPlain s u → i.z = 0 → i.rd = 0 → i.rb = 0 → i.ra.toNat < 8 →
    (∀ sub, ((s.eng (coreNo u)).cap i.ra.toNat).notPortal ((s.eng (coreNo u)).cap 0) = some sub →
      Answers (.dcall u i) s (Raises s u { code := 4, sub := if sub = 0 then none else some sub, reg := i.ra.toNat })) ∧
    (((s.eng (coreNo u)).cap i.ra.toNat).notPortal ((s.eng (coreNo u)).cap 0) = none →
      (s.eng (coreNo u)).rstack.held.length < 64 →
      Answers (.dcall u i) s fun t => OnlyCore s u t ∧ SameWork (t.eng (coreNo u)) (s.eng (coreNo u)) ∧
        (t.eng (coreNo u)).pc = BitVec.ofNat 32 ((s.eng (coreNo u)).cap i.ra.toNat).base ∧
        (t.eng (coreNo u)).rstack.held = afterSlot (s.eng (coreNo u)) :: (s.eng (coreNo u)).rstack.held ∧
        (t.eng (coreNo u)).btc = [] ∧
        ∀ k, k < 8 → (t.eng (coreNo u)).cap k = afterCall (s.eng (coreNo u)) i.ra.toNat k) ∧
    (∀ sub, ((s.eng (coreNo u)).cap i.ra.toNat).notReturn ((s.eng (coreNo u)).cap 0) = some sub →
      Answers (.dret u i) s (Raises s u { code := 4, sub := sub, reg := i.ra.toNat })) ∧
    (∀ v r, ((s.eng (coreNo u)).cap i.ra.toNat).notReturn ((s.eng (coreNo u)).cap 0) = none →
      (s.eng (coreNo u)).rstack.held = v :: r →
      Answers (.dret u i) s fun t => OnlyCore s u t ∧ SameWork (t.eng (coreNo u)) (s.eng (coreNo u)) ∧
        (t.eng (coreNo u)).pc = v &&& 0xFFFFFFFC ∧ (t.eng (coreNo u)).rstack.held = r ∧ (t.eng (coreNo u)).btc = [] ∧
        ∀ k, k < 8 → (t.eng (coreNo u)).cap k = afterReturn (s.eng (coreNo u)) i.ra.toNat k) ∧
    (((s.eng (coreNo u)).cap i.ra.toNat).notReturn ((s.eng (coreNo u)).cap 0) = none →
      (s.eng (coreNo u)).rstack.held = [] → (s.eng (coreNo u)).rstack.spilled = 0 →
      Answers (.dret u i) s (Raises s u { code := 9 }))) ∧
  (∀ (s : State) (u : CoreId) (i : RInsn) (p : Nat), ReadyPlain s u → i.z = 0 → i.rd = 0 → i.rb = 0 → i.ra.toNat < 8 →
    ((s.eng (coreNo u)).cap i.ra.toNat).notPortal ((s.eng (coreNo u)).cap 0) = none →
    (s.eng (coreNo u)).rstack.held.length = 64 → p = spillPtr (coreNo u) (s.eng (coreNo u)) →
    (∀ x, s.spillCheck (coreNo u) permStore p = .error x → Answers (.dcall u i) s (Raises s u x)) ∧
    ∀ n a, u = .seq n → s.spillCheck n permStore p = .ok a → s.storeErr = [] →
      Answers (.dcall u i) s fun t => Performed s a (spillBytes (s.eng n)) t ∧ SameWork (t.eng n) (s.eng n) ∧
        (t.eng n).pc = BitVec.ofNat 32 ((s.eng n).cap i.ra.toNat).base ∧
        (t.eng n).rstack = { held := afterSlot (s.eng n) :: (s.eng n).rstack.held.take 32,
                             spilled := (s.eng n).rstack.spilled + 32, ptr := p + 128 } ∧
        (t.eng n).btc = [] ∧ ∀ k, k < 8 → (t.eng n).cap k = afterCall (s.eng n) i.ra.toNat k) ∧
  (∀ (s : State) (u : CoreId) (i : RInsn) (p : Nat), ReadyPlain s u → i.z = 0 → i.rd = 0 → i.rb = 0 → i.ra.toNat < 8 →
    ((s.eng (coreNo u)).cap i.ra.toNat).notReturn ((s.eng (coreNo u)).cap 0) = none →
    (s.eng (coreNo u)).rstack.held = [] → (s.eng (coreNo u)).rstack.spilled ≠ 0 →
    p = spillPtr (coreNo u) (s.eng (coreNo u)) - 128 →
    (∀ x, s.spillCheck (coreNo u) permLoad p = .error x → Answers (.dret u i) s (Raises s u x)) ∧
    ∀ n a, u = .seq n → s.spillCheck n permLoad p = .ok a → s.storeErr = [] →
      Answers (.dret u i) s fun t => t.store = s.store ∧ SameWork (t.eng n) (s.eng n) ∧
        (t.eng n).pc = BitVec.ofNat 32 (s.stNat (a + 124) 4) &&& 0xFFFFFFFC ∧
        (t.eng n).rstack = { held := (List.range 31).map (fun j => BitVec.ofNat 32 (s.stNat (a + 120 - 4 * j) 4)),
                             spilled := (s.eng n).rstack.spilled - 32, ptr := p } ∧
        (t.eng n).btc = [] ∧ ∀ k, k < 8 → (t.eng n).cap k = afterReturn (s.eng n) i.ra.toNat k) ∧
  (∀ (s : State) (u : CoreId) (i : RInsn), ReadyOnce s u → (s.eng (coreNo u)).branch ≠ none →
    Answers (.dcall u i) s (Raises s u { code := 1 }) ∧ Answers (.dret u i) s (Raises s u { code := 1 })) ∧
  (∀ (s : State) (n : VE) (i : RInsn), ReadyOnce s (.seq n) →
    Answers (.cld (.seq n) i) s (Raises s (.seq n) { code := 1 }) ∧
    Answers (.cst (.seq n) i) s (Raises s (.seq n) { code := 1 })) ∧
  (∀ (s : State) (i : RInsn) (a : Nat), ReadyOnce s .triad → i.z = 0 → i.rd.toNat < 8 → i.ra.toNat < 8 → s.tri.sb = [] →
    s.lmErr = [] →
    (∀ x, s.slotCheck triadNo i.ra.toNat permLoad permLoadCap (s.coreReg .triad i.rb) = .error x →
      Answers (.cld .triad i) s (Raises s .triad x)) ∧
    (∀ x, s.slotCheck triadNo i.ra.toNat permStore permStoreCap (s.coreReg .triad i.rb) = .error x →
      Answers (.cst .triad i) s (Raises s .triad x)) ∧
    (s.slotCheck triadNo i.ra.toNat permLoad permLoadCap (s.coreReg .triad i.rb) = .ok a →
      s.mxCheck 0 a 16 false false = none →
      Answers (.cld .triad i) s (Retires s .triad fun e => e.setC i.rd.toNat
        ⟨s.slotTag a, BitVec.ofNat 128 (leNat (s.lmBytes (a - 0x100000000) 16))⟩)) ∧
    (s.slotCheck triadNo i.ra.toNat permStore permStoreCap (s.coreReg .triad i.rb) = .ok a →
      s.mxCheck 0 a 16 true false = none →
      Answers (.cst .triad i) s fun t => (t.slotTag a = (s.tri.cap i.rd.toNat).tag) ∧
        t.lmBytes (a - 0x100000000) 16 = leBytes 16 (s.tri.cap i.rd.toNat).bits.toNat ∧
        t.tri = ((s.found .triad).advance s.tri.pc 4).after s.tri.pc false false ∧ t.regs = s.regs ∧
        ∀ o, o < a - 0x100000000 ∨ a - 0x100000000 + 16 ≤ o → t.lmByte o = s.lmByte o)) ∧
  ∀ (s : State) (n c p q : Nat) (a : Word), (s.capOf n c).addr a.toNat % 16 ≠ 0 →
    s.slotCheck n c p q a = .error { code := 2, addr := (s.capOf n c).addr a.toNat }

/-- Exception registers and the interrupt enable (R304, R307, R312). EGET reads the register its selector names; EPUT writes it
and sets HOLD, DI and EI change the Triad's IE, CSVGET and CSVPUT move a capability of a save set, each only with its
permission, and raise exception 3 without it. A selector or a core that a form does not have is illegal. Completes: EGET, EPUT,
DI, EI, CSVGET, CSVPUT. -/
def Obligations.ExceptionRegistersNeedTheirPermission : Prop :=
  (∀ (s : State) (u : CoreId) (i : RInsn), ReadyOnce s u →
    (i.z = 0 → exSel u i.rb = true →
      Answers (.eget u i) s (Retires s u fun e => e.setS i.rd.toNat (BitVec.ofNat 32 (s.exGet (coreNo u) i.rb.toNat)))) ∧
    (i.z ≠ 0 ∨ exSel u i.rb = false → Answers (.eget u i) s (Raises s u { code := 1 })) ∧
    (i.z ≠ 0 ∨ exSel u i.rd = false → Answers (.eput u i) s (Raises s u { code := 1 })) ∧
    (i.z = 0 → exSel u i.rd = true → (s.eng (coreNo u)).grants permSys = false →
      Answers (.eput u i) s (Raises s u { code := 3 }))) ∧
  (∀ (s : State) (n : VE) (i : RInsn), ReadyOnce s (.seq n) → i.z = 0 → i.rd.toNat < 4 → (s.eng n).grants permSys = true →
    Answers (.eput (.seq n) i) s fun t =>
      t.get (exFld n i.rd.toNat) = (if i.rd = 2 then ctxBits (s.coreReg (.seq n) i.ra).toNat else (s.coreReg (.seq n) i.ra).toNat) ∧
      t.eng n = ({ s.found (.seq n) with hold := true }.advance (s.eng n).pc 4).after (s.eng n).pc false false ∧
      ∀ f : Fld, f.key ≠ (exFld n i.rd.toNat).key → ¬ EventFld (.seq n) f → t.get f = s.get f) ∧
  (∀ (s : State) (i : RInsn), ReadyOnce s .triad → i.z = 0 → exSel .triad i.rd = true → s.tri.grants permSys = true →
    Answers (.eput .triad i) s fun t =>
      t.save (i.rd.toNat / 8) = (s.save (i.rd.toNat / 8)).put (i.rd.toNat % 8) (s.coreReg .triad i.ra).toNat ∧
      t.tri.hold = true ∧ t.regs = s.regs ∧ ∀ l, l ≠ i.rd.toNat / 8 → t.save l = s.save l) ∧
  (∀ (s : State) (i : RInsn), ReadyOnce s .triad → i.z = 0 →
    (s.tri.grants permIrq = true →
      Answers (.di .triad i) s (Retires s .triad fun e => { e with ie := false }) ∧
      Answers (.ei .triad i) s (Retires s .triad fun e => { e with ie := true })) ∧
    (s.tri.grants permIrq = false →
      Answers (.di .triad i) s (Raises s .triad { code := 3 }) ∧
      Answers (.ei .triad i) s (Raises s .triad { code := 3 }))) ∧
  (∀ (s : State) (n : VE) (i : RInsn), ReadyOnce s (.seq n) →
    Answers (.di (.seq n) i) s (Raises s (.seq n) { code := 1 }) ∧
    Answers (.ei (.seq n) i) s (Raises s (.seq n) { code := 1 }) ∧
    Answers (.csvget (.seq n) i) s (Raises s (.seq n) { code := 1 }) ∧
    Answers (.csvput (.seq n) i) s (Raises s (.seq n) { code := 1 })) ∧
  ∀ (s : State) (i : RInsn), ReadyOnce s .triad → i.z = 0 →
    (i.rd.toNat < 8 → 2 ≤ i.rb.toNat → i.rb.toNat < 8 →
      (s.tri.grants permSys = true → Answers (.csvget .triad i) s (Retires s .triad fun e => e.setC i.rd.toNat
        (if i.rb.toNat % 2 = 1 then (s.save (i.rb.toNat / 2)).c6 else (s.save (i.rb.toNat / 2)).c0))) ∧
      (s.tri.grants permSys = false → Answers (.csvget .triad i) s (Raises s .triad { code := 3 }))) ∧
    (i.ra.toNat < 8 → 2 ≤ i.rd.toNat → i.rd.toNat < 8 →
      (s.tri.grants permSys = true → Answers (.csvput .triad i) s fun t =>
        t.save (i.rd.toNat / 2) = (if i.rd.toNat % 2 = 1
          then { s.save (i.rd.toNat / 2) with c6 := s.tri.cap i.ra.toNat }
          else { s.save (i.rd.toNat / 2) with c0 := s.tri.cap i.ra.toNat }) ∧
        (∀ l, l ≠ i.rd.toNat / 2 → t.save l = s.save l) ∧ t.regs = s.regs ∧ t.tri.caps = s.tri.caps) ∧
      (s.tri.grants permSys = false → Answers (.csvput .triad i) s (Raises s .triad { code := 3 })))

/-- Exceptions and interrupts of a sequencer (R302, R306 to R311, R322). The exception of its instruction, a deferred store
error or a vector fault, in this order, saves the return address, the status, the context and the address, sets HOLD, breaks the sequencer's reservations and begins at the entry of its
descriptor with the descriptor's capabilities; with HOLD 1, or an invalid descriptor, the sequencer escalates instead. An
enabled interrupt is entered the same way and is pending no more. ERET restores what was saved; it needs SYS; from the handler
of a vector fault it restarts the held accord, or discards it, as ACTION says (R196). `VE_IRQ_PEND` gathers the bits written.
SUB, CODE or the address of an exception that the spec gives none for are open (assumption 73: the model's choice). Completes: VE_IRQ_SET,
EXCEPTION_ENTRY, ERET (of a sequencer). -/
def Obligations.SequencerExceptionsSaveAndReturn : Prop :=
  (∀ (s : State) (m : Master) (n : VE) (v : Word), MayWrite s m (Rg.VE_IRQ_PEND n).addr 4 → s.get (Rg.VE_IRQ_PEND n) < 2 ^ 32 →
    Accepted (.veIrqSet m n v) s m (s.set (Rg.VE_IRQ_PEND n) (Nat.lor (s.get (Rg.VE_IRQ_PEND n)) v.toNat))) ∧
  (∀ (s : State) (n : VE), s.held = false → s.excDue n = false → s.seqIrq n = none → Ignored (.exceptionEntry n) s) ∧
  (∀ (s : State) (n : VE) (x : Exc) (slot : Bool) (e : Engine) (d : Desc), s.mayEnter n = true → (s.eng n).sb = [] →
    (s.eng n).haltReq = none → (s.eng n).stepping = false → (s.eng n).due = some (x, slot, e) → s.lmErr = [] → x.code < 32 →
    (s.readDesc n (s.seqDesc n x.code) none).1 = some d →
    ((s.eng n).hold = false → d.ok = true → Answers (.exceptionEntry n) s fun t =>
      t.eng n = e.handler slot d x.code ∧ t.get (Rg.VE_ERA n) = (s.eng n).era.toNat ∧
      t.get (Rg.VE_EST n) = (s.eng n).est % 2 ^ 32 ∧ (∃ a, Recorded x.code (s.eng n).fromV x (t.get (Rg.VE_ECTX n)) a ∧
        t.get (Rg.VE_EADDR n) = a % 2 ^ 32) ∧ t.get (Rg.VE_EXC_CNT n) = counted s (Rg.VE_EXC_CNT n) ∧
      (∀ r ∈ t.resv, r ∈ s.resv ∧ r.seq ≠ n.val) ∧ t.store = s.store ∧ t.localMem = s.localMem ∧
      ∀ j, j ≠ n.val → t.eng j = s.eng j) ∧
    ((s.eng n).hold = false → d.ok = false → Answers (.exceptionEntry n) s fun t =>
      t.get (Rg.VE_ESC_VALID n) = 1 ∧ t.get (Rg.VE_ESC_VEC n) = x.code ∧ t.get (Rg.VE_ESC_REASON n) = 1 ∧
      t.get (Rg.VE_STATUS_FAULTED n) = 1 ∧ (t.eng n).ended = true) ∧
    ((s.eng n).hold = true → Answers (.exceptionEntry n) s fun t =>
      t.get (Rg.VE_ESC_VALID n) = 1 ∧ t.get (Rg.VE_ESC_VEC n) = x.code ∧ t.get (Rg.VE_ESC_REASON n) = 0 ∧
      t.get (Rg.VE_STATUS_FAULTED n) = 1 ∧ (t.eng n).ended = true ∧ t.get (Rg.VE_ERA n) = s.get (Rg.VE_ERA n))) ∧
  (∀ (s : State) (n : VE) (i : Nat) (d : Desc), s.mayEnter n = true → (s.eng n).sb = [] → (s.eng n).haltReq = none →
    (s.eng n).stepping = false → (s.eng n).halted = false → s.excDue n = false → s.seqIrq n = some i → s.lmErr = [] →
    (s.readDesc n (s.seqDesc n (32 + i)) none).1 = some d → d.ok = true →
    Answers (.exceptionEntry n) s fun t => t.eng n = (s.eng n).handler false d (32 + i) ∧
      t.get (Rg.VE_IRQ_PEND n) = (s.get (Rg.VE_IRQ_PEND n) - 2 ^ i) % 2 ^ 32 ∧
      t.get (Rg.VE_ERA n) = (s.eng n).era.toNat ∧
      ∃ a, Recorded (32 + i) (s.eng n).fromV { code := 0 } (t.get (Rg.VE_ECTX n)) a ∧ t.get (Rg.VE_EADDR n) = a % 2 ^ 32) ∧
  ∀ (s : State) (n : VE) (i : SInsn) (frm era : Nat) (c0 c6 : Cap), ReadyPlain s (.seq n) →
    frm = s.get (Rg.VE_ECTX n) / 64 % 64 → era = s.get (Rg.VE_ERA n) / 4 * 4 → s.lmErr = [] →
    (s.eretCaps n frm).1 = some (c0, c6) →
    ((s.eng n).grants permSys = false → Answers (.eret (.seq n) i) s (Raises s (.seq n) { code := 3 })) ∧
    ((s.eng n).grants permSys = true → c0.codeOk era = true → c6.stackOk = true →
      (s.eng n).fromV ≠ 10 ∨ (s.eng n).helda = none →
      Answers (.eret (.seq n) i) s (Goes s (.seq n) (fun e =>
        { ((e.setSst (s.get (Rg.VE_EST n) % 2 ^ 24)).setC 0 c0).setC 6 c6 with
          locked := false, llAge := none, btc := [], fromV := frm,
          vfBusy := e.vfBusy && (s.eng n).fromV != 10 }) (BitVec.ofNat 32 era) false)) ∧
    (∀ h a, (s.eng n).grants permSys = true → c0.codeOk era = true → c6.stackOk = true → (s.eng n).fromV = 10 →
      (s.eng n).helda = some h → a = s.get (Rg.VE_VFCTL_ACTION n) →
      (a = 3 → Answers (.eret (.seq n) i) s fun t => (t.eng n).helda = none ∧ (t.eng n).exe = none ∧
        (t.eng n).vfBusy = false ∧ t.get (Rg.VE_VFAULT_PENDING n) = 0 ∧ t.get (Rg.VE_VFCTL_ACTION n) = 0 ∧
        (t.eng n).pc = BitVec.ofNat 32 era) ∧
      (a ≠ 3 → (s.restored n frm c0 c6).issueFault n h.desc h.vl h.acc = none →
        (∀ v ∈ h.acc.insns, v.op = .ld → dQueue (h.desc (v.f.dreg.toNat % 16)) = false) →
        Answers (.eret (.seq n) i) s fun t => (t.eng n).helda = none ∧ (t.eng n).vfBusy = false ∧
          (t.eng n).exe = some { begunExec h.acc h.vl h.descs with
            attempt := h.attempt + 1, off := a == 2 || (a == 0 && s.get (Rg.VE_VFAULT_CAUSE n) == 6),
            overlap := s.overlapping h.desc h.vl h.acc } ∧
          t.get (Rg.VE_RESTART_CNT n) = counted s (Rg.VE_RESTART_CNT n) ∧ t.get (Rg.VE_VFAULT_PENDING n) = 0 ∧
          t.get (Rg.VE_VFCTL_ACTION n) = 0 ∧
          t.get (Rg.VE_VFAULT_ATTEMPT n) = (h.attempt + 1) % 2 ^ (Rg.VE_VFAULT_ATTEMPT n).w ∧
          (t.eng n).pc = BitVec.ofNat 32 era)) ∧
    ((s.eng n).grants permSys = true → c0.codeOk era = false ∨ c6.stackOk = false →
      Answers (.eret (.seq n) i) s fun t => t.get (Rg.VE_ESC_VALID n) = 1 ∧ t.get (Rg.VE_ESC_REASON n) = 1 ∧
        t.get (Rg.VE_STATUS_FAULTED n) = 1 ∧ (t.eng n).ended = true)

/-- Exceptions and interrupts of the Triad (R312 to R318, R321, R496). A fault or a deferred store error at level 0 or 1 enters
level 2 on the fault stack, saving the context in save set 2; at level 2, or with an invalid descriptor, it enters level 3 with
DOUBLE; at level 3 the last-resort controller takes control, as it does where entry 16 is invalid; level 3 records VEC 16, and an
NMI's PENDING is cleared as it enters (assumption 75: the model's choice), and what an entry leaves open is free (assumption 73).
An NMI held for N + 1 cycles of its filter or longer, since a write of the filter, enters level 3 from any lower level, and waits
at level 3; one shorter than N is rejected (assumptions 116, 133: the model's reading). An interrupt stacks s1 to s7 under entry 17 and enters level 1
at its source's vector; a source presented while it does, of higher PRIO, takes it over and is counted. ERET of level 2 or 3
restores the save set of the level, of level 1 its save set and s1 to s7 from the stack, checked against c6; at level 0 it only
retires (assumption 74: the model's choice). A software source becomes pending when
SW is written. Completes: SW_INTERRUPT_SET, TRIAD_FAULT_ENTRY, NMI_ENTRY, TRIAD_INTERRUPT_ENTRY, ERET (of the Triad). -/
def Obligations.TriadEntriesFollowTheLevels : Prop :=
  (∀ (s : State) (m : Master) (n : BitVec 8) (v : Word), MayWrite s m (Rg.IC_SRC_SW n.toNat).addr 4 →
    Answers (.swInterruptSet m n v) s fun t => t.get (Rg.IC_SRC_PRIO n.toNat) = v.toNat % 16 ∧
      t.get (Rg.IC_SRC_VECTOR n.toNat) = v.toNat / 16 % 64 ∧ (192 ≤ n.toNat → t.get (Rg.IC_SRC_SW n.toNat) = 1) ∧
      (n.toNat < 192 → t.get (Rg.IC_SRC_SW n.toNat) = s.get (Rg.IC_SRC_SW n.toNat))) ∧
  (∀ (s : State) (x : Exc) (slot : Bool) (e : Engine), s.mayEnter triadNo = true → s.tri.sb = [] → s.tri.haltReq = none →
    s.tri.stepping = false → s.tri.vfDue = false → s.tri.due = some (x, slot, e) → s.lmErr = [] →
    (∀ d, s.tri.level = 0 ∨ s.tri.level = 1 → (s.readDesc triadNo (s.triDesc x.code) (some faultStack)).1 = some d →
      d.ok = true →
      Answers .triadFaultEntry s fun t =>
        t.tri = e.triHandler slot d faultStack 0x00210000 2 ∧
        (∃ k a, t.save 2 = s.triSaved k a ∧ Recorded x.code 0 x k a) ∧ t.get Rg.IC_ACTIVE_VALID = 0 ∧ t.store = s.store ∧
        t.localMem = s.localMem ∧ (∀ j, j ≠ triadNo → t.eng j = s.eng j)) ∧
    (∀ d, s.tri.level = 2 ∨ (s.tri.level < 2 ∧ ∃ b, (s.readDesc triadNo (s.triDesc x.code) (some faultStack)).1 = some b ∧
        b.ok = false) →
      (s.readDesc triadNo (s.triDesc 16) (some faultStack)).1 = some d →
      (d.ok = true → Answers .triadFaultEntry s fun t =>
        t.tri = e.triHandler slot d faultStack 0x00210000 3 ∧
        (∃ k a, t.save 3 = s.triSaved k a ∧ Recorded 16 0 x k a) ∧ t.save 2 = s.save 2 ∧ t.get Rg.IC_NMI_CAUSE_DOUBLE = 1) ∧
      (d.ok = false → Answers .triadFaultEntry s fun t => t.get Rg.VT_LR_CAUSE = 5 ∧ t.lastResort = true ∧
        t.tri.run = false ∧ t.faultLow = true)) ∧
    (s.tri.level = 3 → Answers .triadFaultEntry s fun t => t.get Rg.VT_LR_CAUSE = 4 ∧ t.lastResort = true ∧
      t.tri.run = false ∧ t.faultLow = true)) ∧
  (∀ s : State, s.held = false → s.excDue triadNo = false → Ignored .triadFaultEntry s) ∧
  (∀ (s : State) (d : Desc), s.mayEnter triadNo = true → s.tri.sb = [] → s.tri.halted = false → s.excDue triadNo = false →
    s.tri.branch = none → s.lmErr = [] →
    (∀ pin : Option (BitVec 8), s.tri.level < 3 → (s.readDesc triadNo (s.triDesc 16) (some faultStack)).1 = some d →
      (∀ mc, pin = some mc → max (s.get Rg.PAD_FILT_NMI_FILT) 1 + 1 ≤ s.sinceFilt mc.toNat) →
      (pin = none → s.get Rg.IC_NMI_CAUSE_PENDING = 1) →
      (d.ok = true → Answers (.nmiEntry pin) s fun t => t.tri = s.tri.triHandler false d faultStack 0x00210000 3 ∧
        (∃ k a, t.save 3 = s.triSaved k a ∧ Recorded 16 0 { code := 0 } k a) ∧
        (pin.isSome = true → t.get Rg.IC_NMI_CAUSE_PIN = 1) ∧ t.get Rg.IC_NMI_CAUSE_PENDING = 0) ∧
      (d.ok = false → Answers (.nmiEntry pin) s fun t => t.get Rg.VT_LR_CAUSE = 5 ∧ t.lastResort = true ∧ t.tri.run = false)) ∧
    (∀ mc : BitVec 8, max (s.get Rg.PAD_FILT_NMI_FILT) 1 + 1 ≤ s.sinceFilt mc.toNat → s.tri.level = 3 →
      exec (.nmiEntry (some mc)) s = .next ((s.set Rg.IC_NMI_CAUSE_PIN 1).set Rg.IC_NMI_CAUSE_PENDING 1)) ∧
    (∀ mc : BitVec 8, s.sinceFilt mc.toNat < max (s.get Rg.PAD_FILT_NMI_FILT) 1 → s.get Rg.IC_NMI_CAUSE_PENDING = 0 →
      Ignored (.nmiEntry (some mc)) s) ∧
    (s.get Rg.IC_NMI_CAUSE_PENDING = 0 → Ignored (.nmiEntry none) s)) ∧
  (∀ (s : State) (late : List (BitVec 8)) (first v a : Nat) (c6 : Cap) (e : Desc) (s29 : Word), s.mayEnter triadNo = true →
    s.tri.sb = [] → s.tri.halted = false → s.excDue triadNo = false → s.nmiDue = false → (s.before late).triIrq = some first →
    v = (s.takenOver first late).1 → s.lmErr = [] → s.get Rg.IC_DTOFF % 64 = 0 →
    (s.descCap triadNo (s.triDesc 17 + 0x10)).1 = some c6 →
    (s.readDesc triadNo (s.triDesc (s.get (Rg.IC_SRC_VECTOR v))) (some c6)).1 = some e →
    s29 = BitVec.ofNat 32 (c6.base + c6.len) - 32 → a = c6.addr s29.toNat → a % 16 = 0 → 0x100000000 ≤ a →
    a + 32 ≤ 0x100200000 → c6.unusable permStore a 32 = none → s.mxCheck 0 a 16 true false = none →
    s.mxCheck 0 (a + 16) 16 true false = none → e.ok = true →
    s.triDesc (s.get (Rg.IC_SRC_VECTOR v)) + 64 ≤ a - 0x100000000 ∨
      a - 0x100000000 + 32 ≤ s.triDesc (s.get (Rg.IC_SRC_VECTOR v)) →
    Answers (.triadInterruptEntry late) s fun t => t.tri = s.tri.triHandler false e c6 s29 1 ∧
      (s.get Rg.IC_LATE_CNT < 2 ^ Rg.IC_LATE_CNT.w →
        t.get Rg.IC_LATE_CNT = min (s.get Rg.IC_LATE_CNT + (s.takenOver first late).2) (2 ^ Rg.IC_LATE_CNT.w - 1)) ∧
      (∃ k a, t.save 1 = s.triSaved k a ∧ Recorded (s.get (Rg.IC_SRC_VECTOR v)) 0 { code := 0 } k a) ∧
      t.lmBytes (a - 0x100000000) 32 = s.tri.landAll.irqFrame ∧ t.get Rg.IC_ACTIVE_SOURCE = v ∧
      t.get Rg.IC_ACTIVE_VALID = 1 ∧ (192 ≤ v → t.get (Rg.IC_SRC_SW v) = 0) ∧ t.store = s.store) ∧
  (∀ s : State, s.held = false → s.triIrq = none → Ignored (.triadInterruptEntry []) s) ∧
  ∀ (s : State) (i : SInsn), ReadyPlain s .triad → s.tri.sb = [] →
    (s.tri.grants permSys = false → Answers (.eret .triad i) s (Raises s .triad { code := 3 })) ∧
    (s.tri.grants permSys = true → s.tri.level = 0 → Answers (.eret .triad i) s (Retires s .triad id)) ∧
    (∀ a, s.tri.grants permSys = true → s.tri.level = 1 → s.lmErr = [] → a = (s.tri.cap 6).addr (s.tri.sreg 29).toNat →
      (∀ sub, (s.tri.cap 6).unusable permLoad a 32 = some sub →
        Answers (.eret .triad i) s (Raises s .triad { code := 4, sub := sub, reg := some 6, addr := some a })) ∧
      ((s.tri.cap 6).unusable permLoad a 32 = none → a % 16 = 0 → 0x100000000 ≤ a → a + 32 ≤ 0x100200000 →
        s.mxCheck 0 a 16 false false = none → s.mxCheck 0 (a + 16) 16 false false = none →
        Answers (.eret .triad i) s fun t => t.tri.pc = (s.save 1).pc &&& 0xFFFFFFFC ∧
          t.tri.level = (s.save 1).sst / 2 ^ 24 % 4 ∧ t.tri.sreg 29 = (s.save 1).s29 ∧ t.tri.cap 0 = (s.save 1).c0 ∧
          t.tri.cap 6 = (s.save 1).c6 ∧ t.tri.locked = false ∧ t.tri.ie = (s.save 1).sst.testBit 26 ∧
          (∀ r, 1 ≤ r → r ≤ 7 → t.tri.sreg r = BitVec.ofNat 32 (leNat (s.lmBytes (a - 0x100000000 + 4 * (r - 1)) 4))) ∧
          ∀ r, 8 ≤ r → r ≠ 29 → t.tri.sreg r = s.tri.sreg r)) ∧
    (s.tri.grants permSys = true → s.tri.level = 2 ∨ s.tri.level = 3 →
      Answers (.eret .triad i) s fun t => t.tri.pc = (s.save s.tri.level).pc &&& 0xFFFFFFFC ∧
        t.tri.level = (s.save s.tri.level).sst / 2 ^ 24 % 4 ∧ t.tri.sreg 29 = (s.save s.tri.level).s29 ∧
        t.tri.cap 0 = (s.save s.tri.level).c0 ∧ t.tri.cap 6 = (s.save s.tri.level).c6 ∧ t.tri.locked = false ∧
        t.tri.ie = (s.save s.tri.level).sst.testBit 26 ∧ ∀ r, r ≠ 29 → t.tri.sreg r = s.tri.sreg r)
/-- Votes and the resync (R325 to R333, R343). Three equal offers change nothing; one dissenter is taken out of service and
fenced, and the majority's value is written; with no majority, or where the pair of a dual mode disagrees, the last-resort
controller takes control. A vote over the signatures of the writes of a window does the same, in the first mc of the next window
and once; a window without dissent brings probation one nearer to its end. Three cores' matrix requests
leave as their bitwise majority; a pair's leaves where the two agree, as the lower-numbered core's. A fenced core's resync
starts at a resync point after the mc of its fence, runs through quiesce, copy, check and probation, and ends in service, or
fails and counts; IN keeps it out until then, and in dual mode the PC that an absent core retires is noted (assumptions 81, 102:
the model's choice, as is what a signature folds). `VT_CMD`
names the core whose next voted write is inverted. Completes: REGISTER_DISSENT, SIGNATURE_COMPARE, VOTER_INJECT, RESYNC_START,
RESYNC_QUIESCE_DONE, RESYNC_QUIESCE_TIMEOUT, RESYNC_COPY_DONE, RESYNC_CHECK, RESYNC_DONE. -/
def Obligations.VotesFenceAndResyncFollowsR329 : Prop :=
  (∀ (s : State) (w : VoteWrite), Voting s →
    (vote w.vals = .agree → Ignored (.registerDissent [w] {}) s) ∧
    (∀ c, vote w.vals = .dissent c → Answers (.registerDissent [w] {}) s fun t => FencedBy s c 0 w.reg.val t ∧
      t.get Rg.VT_REG_DIS_CNT = counted s Rg.VT_REG_DIS_CNT ∧
      (0 < w.reg.val → w.reg.val < 32 → t.tri.sreg w.reg.val = (majority w.vals).truncate 32)) ∧
    (vote w.vals = .none → Answers (.registerDissent [w] {}) s fun t => t.get Rg.VT_LR_CAUSE = 3 ∧
      t.lastResort = true ∧ t.faultLow = true)) ∧
  (∀ (s : State) (v : Votes (List SigWrite)), Voting s →
    (s.windowEnds = false → Ignored (.signatureCompare v) s ∧ Ignored (.registerDissent [] { sig := some v }) s) ∧
    (s.windowEnds = true → vote (sigsOf v) = .agree →
      exec (.signatureCompare v) s = .next { s with triad := { s.triad with window := s.mc / 64 } } ∧
      exec (.registerDissent [] { sig := some v }) s = .next { s with triad := { s.triad with window := s.mc / 64 } }) ∧
    (∀ c, s.windowEnds = true → vote (sigsOf v) = .dissent c →
      (Answers (.signatureCompare v) s fun t => FencedBy s c 1 0 t ∧ t.triad.window = s.mc / 64 ∧
        t.get Rg.VT_SIG_DIS_CNT = counted s Rg.VT_SIG_DIS_CNT) ∧
      Answers (.registerDissent [] { sig := some v }) s fun t => FencedBy s c 1 0 t ∧ t.triad.window = s.mc / 64 ∧
        t.get Rg.VT_SIG_DIS_CNT = counted s Rg.VT_SIG_DIS_CNT)) ∧
  (∀ (s : State) (v : Votes (List SigWrite)) (k : Nat), s.held = false → s.triad.resync = .probation (k + 1) →
    s.windowEnds = true → vote (sigsOf v) = .agree →
    exec (.signatureCompare v) s = .next { s with triad := { s.triad with window := s.mc / 64, resync := .probation k } } ∧
    (s.lastResort = false → s.triad.inject = [] → exec (.registerDissent [] { sig := some v }) s =
      .next { s with triad := { s.triad with window := s.mc / 64, resync := .probation k } })) ∧
  (∀ (s : State) (v : Votes CoreReq) (r : CoreReq), Voting s → r.write = (v.v0.write && v.v1.write || v.v0.write && v.v2.write ||
      v.v1.write && v.v2.write) → (∀ i, r.addr.getLsbD i = TwoOf (v.v0.addr.getLsbD i) (v.v1.addr.getLsbD i) (v.v2.addr.getLsbD i)) →
    (∀ i, r.data.getLsbD i = TwoOf (v.v0.data.getLsbD i) (v.v1.data.getLsbD i) (v.v2.data.getLsbD i)) →
    (∀ i, r.en.getLsbD i = TwoOf (v.v0.en.getLsbD i) (v.v1.en.getLsbD i) (v.v2.en.getLsbD i)) →
    exec (.registerDissent [] { req := some v }) s = .next (s.coreIssue r)) ∧
  (∀ (s : State) (w : VoteWrite) (v : Votes (List SigWrite)) (q : Votes CoreReq) (c : Nat), s.held = false → s.get Rg.VT_STATUS_STATE = 3 →
    s.get Rg.VT_STATUS_OUT_VALID = 1 → s.get Rg.VT_STATUS_OUT_CORE = c → s.triad.resync = .idle → s.triad.inject = [] →
    (pairAgrees w.vals c = true → exec (.registerDissent [w] {}) s = .next (if w.reg.val = 41 then
      { s with triad := { s.triad with awayPc := some ((voteOf w.vals c).truncate 32) } } else s)) ∧
    (pairAgrees w.vals c = false → Answers (.registerDissent [w] {}) s fun t => t.get Rg.VT_LR_CAUSE = 1 ∧
      t.lastResort = true) ∧
    (s.windowEnds = true → pairAgrees (sigsOf v) c = false →
      Answers (.signatureCompare v) s fun t => t.get Rg.VT_LR_CAUSE = 2 ∧ t.lastResort = true) ∧
    (pairAgrees q c = true →
      exec (.registerDissent [] { req := some q }) s = .next (s.coreIssue (if c = 0 then q.v1 else q.v0))) ∧
    (pairAgrees q c = false → Answers (.registerDissent [] { req := some q }) s fun t => t.get Rg.VT_LR_CAUSE = 2 ∧
      t.lastResort = true ∧ t.store = s.store)) ∧
  (∀ (s : State) (m : Master) (v : Word), MayWrite s m Rg.VT_CMD_INJECT.addr 4 →
    (v.toNat % 4 = 3 → Refused (.voterInject m v) s m) ∧
    (v.toNat % 4 < 3 → s.triad.inject = [] →
      Accepted (.voterInject m v) s m { s with triad := { s.triad with inject := [v.toNat % 4] } })) ∧
  (∀ s : State, s.held = false →
    (s.get Rg.VT_STATUS_STATE = 1 → s.get Rg.VT_CFG_RESYNC_EN = 1 → s.tri.halted = false →
      (s.locked = true → s.triad.tick ≠ 0) → (s.locked = false → s.mc % 2048 = 0 ∧ s.triad.fenceAt ≠ some s.mc) →
      Answers .resyncStart s fun t => t.get Rg.VT_STATUS_STATE = 2 ∧ t.triad = { s.triad with resync := .quiesce } ∧
        t.triPaused = true) ∧
    (s.get Rg.VT_STATUS_STATE ≠ 1 ∨ s.tri.halted = true ∨ (s.locked = true ∧ s.triad.tick = 0) ∨
      (s.locked = false ∧ (s.mc % 2048 ≠ 0 ∨ s.triad.fenceAt = some s.mc)) → Ignored .resyncStart s) ∧
    (s.triad.resync = .quiesce → s.tri.sb = [] →
      exec .resyncQuiesceDone s = .next { s with triad := { s.triad with resync := .copy } }) ∧
    (s.triad.resync = .quiesce → ∀ c, c < 3 → s.get Rg.VT_STATUS_FENCED_CORE = c → s.get (failsFld c) < 2 →
      s.get Rg.VT_CFG_RESYNC_EN = 1 → Answers .resyncQuiesceTimeout s fun t =>
        t.get (failsFld c) = s.get (failsFld c) + 1 ∧ t.get Rg.VT_STATUS_STATE = 1 ∧ t.triad.resync = .idle ∧
        t.get Rg.VT_RESYNC_FAIL_CNT = counted s Rg.VT_RESYNC_FAIL_CNT ∧ (t.get Rg.VT_EVENT).testBit 2 = true) ∧
    (s.triad.resync = .copy → Answers .resyncCopyDone s fun t => t.triad = { s.triad with resync := .check } ∧
      t.tri.lines = [] ∧ t.tri.btc = [] ∧ t.tri.lineBuf = none ∧ t.regs = s.regs) ∧
    (s.triad.resync = .probation 0 → Answers .resyncDone s fun t => t.get Rg.VT_STATUS_STATE = 0 ∧
      t.get Rg.VT_STATUS_IN = 7 ∧ t.triad.resync = .idle ∧ t.get Rg.VT_RESYNC_CNT = counted s Rg.VT_RESYNC_CNT ∧
      (t.get Rg.VT_EVENT).testBit 1 = true) ∧
    (s.triad.resync = .idle → Ignored .resyncQuiesceDone s ∧ Ignored .resyncQuiesceTimeout s ∧ Ignored .resyncCopyDone s ∧
      Ignored .resyncDone s ∧ ∀ crc, Ignored (.resyncCheck crc) s)) ∧
  ∀ (s : State) (crc : Votes Word) (c : Nat), s.held = false → s.triad.resync = .check → c < 3 →
    s.get Rg.VT_STATUS_FENCED_CORE = c →
    (vote crc = .agree → Answers (.resyncCheck crc) s fun t => (∃ k, 0 < k ∧ t.triad = { s.triad with resync := .probation k }) ∧
      t.regs = s.regs) ∧
    (vote crc = .dissent c → s.get (failsFld c) < 2 → s.get Rg.VT_CFG_RESYNC_EN = 1 →
      Answers (.resyncCheck crc) s fun t => t.get (failsFld c) = s.get (failsFld c) + 1 ∧ t.get Rg.VT_STATUS_STATE = 1) ∧
    (pairAgrees crc c = false → s.lastResort = false →
      Answers (.resyncCheck crc) s fun t => t.get Rg.VT_LR_CAUSE = 6 ∧ t.lastResort = true)

/-- The vault, pairs and the fuses (R358, R359, R364, R369, R370, R376, R381, R463). A command or a tamper event wipes the vault, and counts; the end
of the wipe clears WIPING. A LO write only holds its half for its side; a HI write applies both, in preload mode of a timer from
the next wrap on; of a parameter that a CRC preset fixes neither does anything. `LC_CMD` starts a change of the fuses that is
allowed, wiping the vault for ADVANCE and RETIRE, and else sets ERR; the change shows in LC_STATE after it is done, where what
is in force follows at the next reset (assumption 87: the model's reading). Completes:
VAULT_WIPE_CMD, TAMPER_EVENT, VAULT_WIPE_DONE, PAIR_LO_WRITE, PAIR_HI_COMMIT, ADVANCE, LC_RETIRE, REVOKE, PROGRAM,
SVN_INCREMENT, FUSE_CHANGE_DONE. -/
def Obligations.VaultPairsAndFusesFollowTheSpec : Prop :=
  (∀ (s : State) (m : Master) (v : Word), MayWrite s m Rg.VAULT_CMD_WIPE.addr 4 →
    Answers (.vaultWipeCmd m v) s fun t => Wiped s t ∧ t = { s with vault := t.vault, vtErr := t.vtErr, regs := t.regs, resp := t.resp }) ∧
  (∀ (s : State) (k : Fin 3), s.held = false → Answers (.tamperEvent k) s fun t => Wiped s t ∧
    t.get Rg.DD_INT_STATUS_TAMPER = 1 ∧
    t.get (if k = 0 then Rg.VAULT_STATUS_TAMPER_V else if k = 1 then Rg.VAULT_STATUS_TAMPER_C
      else Rg.VAULT_STATUS_TAMPER_T) = 1) ∧
  (∀ s : State, s.held = false → exec .vaultWipeDone s = .next (s.set Rg.VAULT_STATUS_WIPING 0)) ∧
  (∀ (s : State) (m : Master) (p : Pair) (v : Word), MayWrite s m (pairFlds p).1.addr 4 →
    Answers (.pairLoWrite m p v) s fun t => t.regs = s.regs ∧ t.inForce = s.inForce ∧
      ∀ (k : Nat) (q : Pair), t.loHeld k (pairFlds q).1 =
        if s.pairFixed p = false ∧ (pairFlds q).1.addr = (pairFlds p).1.addr ∧ hostSide k = hostSide m then v.toNat else s.loHeld k (pairFlds q).1) ∧
  (∀ (s : State) (m : Master) (v : Word) (n : Fin 8) (u : Fin 16) (x : Nat), s.held = false →
    (∀ q : Pair, s.writeCheck m (pairFlds q).2.addr 4 = none) →
    (x = s.loHeld m (Rg.TMR_CMP_LO n) → x < 2 ^ 32 → s.get (Rg.TMR_CTRL_MODE n) = 0 →
      Answers (.pairHiCommit m (.tmrCmp n) v) s fun t =>
        t.get2 (Rg.TMR_CMP_LO n) (Rg.TMR_CMP_HI n) = x + v.toNat * 2 ^ 32 ∧ t.tmrCmp n = x + v.toNat * 2 ^ 32) ∧
    (x = s.loHeld m (Rg.CRC_EXPECT_LO u) → x < 2 ^ 32 →
      Answers (.pairHiCommit m (.crcExpect u) v) s fun t =>
        t.get2 (Rg.CRC_EXPECT_LO u) (Rg.CRC_EXPECT_HI u) = x + v.toNat * 2 ^ 32) ∧
    (x = s.loHeld m (Rg.TMR_TOP_LO n) → x < 2 ^ 32 → s.get (Rg.TMR_CTRL_MODE n) = 0 →
      Answers (.pairHiCommit m (.tmrTop n) v) s fun t => t.tmrTop n = x + v.toNat * 2 ^ 32 ∧ t.tmrCmp n = s.tmrCmp n) ∧
    (s.get (Rg.TMR_CTRL_MODE n) = 1 → ∀ p, p = .tmrCmp n ∨ p = .tmrTop n → Answers (.pairHiCommit m p v) s fun t =>
      t.tmrCmp n = s.tmrCmp n ∧ t.tmrTop n = s.tmrTop n ∧ t.get (Rg.TMR_STATUS_PRELOAD n) = 1) ∧
    (∀ p, s.pairFixed p = true → Accepted (.pairHiCommit m p v) s m s) ∧
    (∀ p, s.pairFixed p = false → p ≠ .calSet → (∀ k, p ≠ .crcValue k) → Answers (.pairHiCommit m p v) s fun t =>
      t.get (pairFlds p).1 = s.loHeld m (pairFlds p).1 % 2 ^ 32 ∧
      t.get (pairFlds p).2 = (s.loHeld m (pairFlds p).1 / 2 ^ 32 + v.toNat) % 2 ^ (pairFlds p).2.w) ∧
    (x = s.loHeld m (Rg.CRC_VALUE_LO u) → x < 2 ^ 32 → Answers (.pairHiCommit m (.crcValue u) v) s fun t =>
      t.get2 (Rg.CRC_VALUE_LO u) (Rg.CRC_VALUE_HI u) = (x + v.toNat * 2 ^ 32) % 2 ^ (s.crcParams u).width % 2 ^ 64) ∧
    (s.flag Rg.CAL_STATUS_BUSY = true ∨ 2 ^ 31 ≤ v.toNat → Refused (.pairHiCommit m .calSet v) s m) ∧
    (s.flag Rg.CAL_STATUS_BUSY = false → v.toNat < 2 ^ 31 → s.loHeld m Rg.CAL_SET_LO < 2 ^ 32 →
      Answers (.pairHiCommit m .calSet v) s fun t => t.flag Rg.CAL_STATUS_BUSY = true ∧
        t.get2 Rg.CAL_SET_LO Rg.CAL_SET_HI = s.loHeld m Rg.CAL_SET_LO + v.toNat * 2 ^ 32)) ∧
  (∀ (c : Instr) (s : State) (m : Master) (v : Word) (op : Nat), lcRow c = some (m, v, op) →
    MayWrite s m Rg.LC_CMD_OP.addr 4 →
    (LcAccepts s op v → Answers c s fun t => t.fuseOp = some (op, v.toNat / 16 % 4) ∧ t.get Rg.LC_STATUS_BUSY = 1 ∧
      t.get Rg.LC_STATE_STATE = s.get Rg.LC_STATE_STATE ∧ (op ≤ 2 → Wiped s t ∧ t.get Rg.VAULT_STATUS_LIFE = 1) ∧
      (2 < op → t.vault = s.vault)) ∧
    (¬ LcAccepts s op v → s.get Rg.LC_STATUS_BUSY < 2 →
      exec c s = .next ((s.set Rg.LC_STATUS_ERR 1).respond m 4 0))) ∧
  ∀ s : State, s.held = false →
    (s.fuseOp = none → Ignored .fuseChangeDone s) ∧
    (∀ k, s.fuseOp = some (1, k) → s.get Rg.LC_STATE_STATE < 2 → Answers .fuseChangeDone s fun t => t.fuseOp = none ∧
      t.get Rg.LC_STATUS_BUSY = 0 ∧ t.get Rg.LC_STATE_STATE = s.get Rg.LC_STATE_STATE + 1) ∧
    (∀ k, s.fuseOp = some (2, k) → Answers .fuseChangeDone s fun t => t.get Rg.LC_STATE_STATE = 3) ∧
    (∀ k, s.fuseOp = some (3, k) → k < 4 → s.get Rg.LC_STATE_KEY_REVOKED < 16 →
      Answers .fuseChangeDone s fun t => (t.get Rg.LC_STATE_KEY_REVOKED).testBit k = true ∧
        ∀ j, j ≠ k → (t.get Rg.LC_STATE_KEY_REVOKED).testBit j = (s.get Rg.LC_STATE_KEY_REVOKED).testBit j) ∧
    (∀ k, s.fuseOp = some (4, k) → k < 4 → s.get Rg.LC_STATE_KEY_VALID < 16 → s.lmErr = [] →
      Answers .fuseChangeDone s fun t => (t.get Rg.LC_STATE_KEY_VALID).testBit k = true ∧
        Tab.get t.keyHash k 0 = leNat (s.lmBytes (s.get Rg.LC_ARG) 48)) ∧
    ∀ k, s.fuseOp = some (5, k) → s.get Rg.LC_SVN < 63 →
      Answers .fuseChangeDone s fun t => t.get Rg.LC_SVN = s.get Rg.LC_SVN + 1

/-- Timers, the calendar, the pads' sensors (R365, R366, R368, R372, R373, R374, R376, R377, R378, R395, R499, R501). A management cycle advances the count and the timers of
source 0: below TOP the count steps, at or above it wraps to 0 with OVF; a match sets MATCH. RESTART takes effect at the next
tick; an edge of the level behind the filter, held for N + 1 cycles of it or longer since a write of the filter, is captured, four
deep, and one shorter than N is rejected (assumptions 116, 133: the model's reading); OUT_SET and OUT_CLR drive the output. Outside LOCKED every
2,048th cycle is a frame of the policy. The calendar counts, skips and adds trim, with the count and the skip held apart
(assumption 50: the model's reading), fires its alarm, takes a set, loses VALID with its
crystal and its registers with its supply. A sensor at the alert level as it is measured (assumption 129: the model's reading) sets
ALERT_ST; one out of range is a tamper event.
Completes: TIMER_TICK, TIMER_RESTART, CAP_POP, OUT_SET, OUT_CLR, TIMER_CAPTURE, CAL_TICK, CAL_TRIM, CAL_SET_DONE, OSC_FAIL,
BACKUP_DOMAIN_POWER_UP, SSC_CHANGE_DONE, THERMAL_ALERT. -/
def Obligations.TimersAndCalendarCount : Prop :=
  (∀ s : State, s.held = false → s.tmrFire = [] → (∀ n : Fin 8, s.get (Rg.TMR_CTRL_SRC n) ≠ 0) →
    (s.locked = true ∨ (s.mc + 1) % 2048 ≠ 0 → Answers .timerTick s fun t => t.mc = (s.mc + 1) % 2 ^ 64 ∧
      OnlyFields [Rg.TMR_MC_LO, Rg.TMR_MC_HI]
        { s with tmrFired := [], triad := { s.triad with tick := s.triad.tick - 1, awayPc := none } } t) ∧
    (s.locked = false → (s.mc + 1) % 2048 = 0 → Answers .timerTick s fun t => t.mc = (s.mc + 1) % 2 ^ 64 ∧
      t.polFrames = s.polFrames + 1)) ∧
  (∀ (s : State) (n : Fin 8), s.held = false → s.tmrFire = [] → OnlyTimer s n 0 →
    (s.tmrZero = [] → s.tmrTop n ≤ s.tmrCount n → Answers .timerTick s fun t => t.tmrCount n = 0 ∧
      t.get (Rg.TMR_INT_STATUS_OVF n) = 1) ∧
    (s.tmrZero = [] → s.tmrCount n < s.tmrTop n → Answers .timerTick s fun t => t.tmrCount n = (s.tmrCount n + 1) % 2 ^ 64 ∧
      t.get (Rg.TMR_INT_STATUS_MATCH n) =
        (if s.tmrCmp n = s.tmrCount n + 1 then 1 else s.get (Rg.TMR_INT_STATUS_MATCH n)) ∧
      t.get (Rg.TMR_INT_STATUS_OVF n) = s.get (Rg.TMR_INT_STATUS_OVF n)) ∧
    (s.tmrZero = [n.val] → Answers .timerTick s fun t => t.tmrCount n = 0 ∧ t.tmrZero = [] ∧
      t.get (Rg.TMR_INT_STATUS_OVF n) = s.get (Rg.TMR_INT_STATUS_OVF n))) ∧
  (∀ (s : State) (m : Master) (n : Fin 8) (v : Word), MayWrite s m (Rg.TMR_CMD_RESTART n).addr 4 →
    (v.toNat / 2 % 8 = 0 → s.tmrZero = [] → Accepted (.timerRestart m n v) s m { s with tmrZero := [n.val] }) ∧
    (v.toNat % 2 = 0 → v.toNat / 4 % 4 = 0 → ∀ c r, Tab.get s.tmrCaps n [] = c :: r → r.length < 8 →
      Answers (.capPop m n v) s fun t => Tab.get t.tmrCaps n [] = r ∧
        t.get (Rg.TMR_STATUS_CAP_LEVEL n) = r.length ∧ t.tmrZero = s.tmrZero) ∧
    (v.toNat % 4 = 0 → v.toNat / 8 % 2 = 0 → Accepted (.outSet m n v) s m (s.set (Rg.TMR_STATUS_OUT n) 1)) ∧
    (v.toNat % 8 = 0 → Accepted (.outClr m n v) s m (s.set (Rg.TMR_STATUS_OUT n) 0))) ∧
  (∀ (s : State) (pin : Fin 4) (rising : Bool) (mc : BitVec 8), s.held = false →
    s.sinceFilt mc.toNat < max (s.get Rg.PAD_FILT_TMR_FILT) 1 ∨ Tab.get s.tmrIn pin true = rising →
    Ignored (.timerCapture pin ⟨rising, mc⟩) s) ∧
  (∀ (s : State) (n : Fin 8) (pin : Fin 4) (rising : Bool) (mc : BitVec 8), s.held = false → Watches s n pin rising →
    max (s.get Rg.PAD_FILT_TMR_FILT) 1 + 1 ≤ s.sinceFilt mc.toNat → Tab.get s.tmrIn pin true ≠ rising →
    (∀ k : Fin 8, k ≠ n → ¬ Watches s k pin rising) →
    ((Tab.get s.tmrCaps n []).length < 4 → Answers (.timerCapture pin ⟨rising, mc⟩) s fun t =>
      Tab.get t.tmrIn pin true = rising ∧
      Tab.get t.tmrCaps n [] = Tab.get s.tmrCaps n [] ++ [s.tmrCount n] ∧ t.get (Rg.TMR_INT_STATUS_CAP n) = 1) ∧
    (4 ≤ (Tab.get s.tmrCaps n []).length → Answers (.timerCapture pin ⟨rising, mc⟩) s fun t => t.tmrCaps = s.tmrCaps ∧
      t.get (Rg.TMR_INT_STATUS_CAP_OVF n) = 1)) ∧
  (∀ s : State,
    (s.calSkip = 0 → Answers .calTick s fun t => t.calTime = (s.calTime + 1) % 2 ^ 63 ∧ t.calCount = s.calCount + 1 ∧
      t.get Rg.CAL_STATUS_ALARM = (if t.calTime / 2 ^ 15 ≠ s.calTime / 2 ^ 15 ∧ s.get Rg.CAL_CTRL_ALARM_EN = 1 ∧
        t.calTime / 2 ^ 15 = s.get2 Rg.CAL_ALARM_LO Rg.CAL_ALARM_HI then 1 else s.get Rg.CAL_STATUS_ALARM)) ∧
    (s.calSkip ≠ 0 → exec .calTick s = .next { s with calSkip := s.calSkip - 1 }) ∧
    (s.calCount < 64 * 2 ^ 15 → Ignored .calTrim s) ∧
    (∀ k, 64 * 2 ^ 15 ≤ s.calCount → s.calTime < 2 ^ 63 → s.get Rg.CAL_CTRL_TRIM = k →
      (k < 128 → Answers .calTrim s fun t => t.calTime = (s.calTime + k) % 2 ^ 63 ∧
        t.calCount = s.calCount - 64 * 2 ^ 15 + k ∧ t.calSkip = s.calSkip) ∧
      (128 ≤ k → k < 256 → Answers .calTrim s fun t => t.calTime = s.calTime ∧ t.calSkip = s.calSkip + (256 - k))) ∧
    (s.get Rg.CAL_STATUS_BUSY = 1 → Answers .calSetDone s fun t =>
      t.calTime = s.get Rg.CAL_SET_LO % 2 ^ 32 + (s.get Rg.CAL_SET_HI + s.get Rg.CAL_SET_LO / 2 ^ 32) % 2 ^ 32 * 2 ^ 32 ∧
      t.get Rg.CAL_STATUS_BUSY = 0 ∧ t.get Rg.CAL_STATUS_VALID = 1) ∧
    (s.get Rg.CAL_STATUS_BUSY ≠ 1 → Ignored .calSetDone s) ∧
    exec .oscFail s = .next ((s.set Rg.CAL_STATUS_OSC_FAIL 1).set Rg.CAL_STATUS_VALID 0) ∧
    (Answers .backupDomainPowerUp s fun t => t.calTime = 0 ∧ t.get Rg.CAL_STATUS_VALID = Rg.CAL_STATUS_VALID.rst ∧
      t.get Rg.BK_BOOT_CONFIRMED = Rg.BK_BOOT_CONFIRMED.rst ∧ t.calSkip = 0 ∧ t.calCount = 0 ∧ t.store = s.store)) ∧
  ∀ s : State, s.held = false →
    exec .sscChangeDone s = .next { s.set Rg.PAD_SSC_ACTIVE (s.get Rg.PAD_SSC_MGMT_SSC_EN) with sscBusy := false } ∧
    (∀ temps : Vector (BitVec 16) 8, (∃ x ∈ temps.toList, x.toInt < -320 ∨ 1000 < x.toInt) →
      Answers (.thermalAlert temps) s fun t => Wiped s t ∧ t.get Rg.VAULT_STATUS_TAMPER_T = 1 ∧
        t.sensors = temps.toList.map BitVec.toInt) ∧
    ∀ temps : Vector (BitVec 16) 8, (∀ x ∈ temps.toList, -320 ≤ x.toInt ∧ x.toInt ≤ 1000) →
      ((∃ x ∈ temps.toList, sext 11 (s.get Rg.PAD_THERM_ALERT) ≤ x.toInt) → exec (.thermalAlert temps) s =
        .next ({ s with sensors := temps.toList.map BitVec.toInt }.set Rg.PAD_THERM_ALERT_ST 1)) ∧
      ((∀ x ∈ temps.toList, x.toInt < sext 11 (s.get Rg.PAD_THERM_ALERT)) → exec (.thermalAlert temps) s =
        .next { s with sensors := temps.toList.map BitVec.toInt })

/-- CRC units and event counters (R380 to R390). Data written is absorbed byte by byte into the running register, and counted;
START loads the initial value; CHECK compares the result with the expected one. An event counts in every counter that selects
it, and no other; a count that wraps sets OVF. CLEAR_ALL clears the counts. A tagged instruction's record is that of the
instruction the engine retired last, with the stamps and EXC given (assumption 84: the model's choice); it is held, counted and
pushed to the queue named, or counted as dropped; the next interval is 2^(N - 1) + r, r open. Completes:
CRC_DATA8, CRC_DATA16, CRC_DATA32, CRC_ABSORB_DONE, CRC_START, CRC_CHECK, CLEAR_ALL, TAG_RECORD. -/
def Obligations.CrcUnitsAndCountersCount : Prop :=
  (∀ (c : Instr) (s : State) (m : Master) (u : Fin 16) (v : Word) (k : Nat), crcRow c = some (m, u, v, k) →
    (∀ f ∈ [Rg.CRC_DATA8 u, Rg.CRC_DATA16 u, Rg.CRC_DATA32 u], MayWrite s m f.addr 4) → 1 ≤ (s.crcParams u).width → (s.crcParams u).width ≤ 64 →
    Answers c s fun t => t.crcReg u = crcBytes (s.crcParams u) (s.crcReg u) (leBytes k v.toNat) ∧
      t.crcParams u = s.crcParams u ∧ t.get (Rg.CRC_STATUS_BUSY u) = 1 ∧
      t.get (Rg.CRC_BYTES u) = min (s.get (Rg.CRC_BYTES u) + k) (2 ^ 32 - 1) ∧
      OnlyFields [Rg.CRC_VALUE_LO u, Rg.CRC_VALUE_HI u, Rg.CRC_BYTES u, Rg.CRC_STATUS_BUSY u] s { t with resp := s.resp }) ∧
  (∀ (s : State) (u : Fin 16), s.held = false → exec (.crcAbsorbDone u) s = .next (s.set (Rg.CRC_STATUS_BUSY u) 0)) ∧
  (∀ (s : State) (m : Master) (u : Fin 16) (v : Word), MayWrite s m (Rg.CRC_CMD_START u).addr 4 →
    1 ≤ (s.crcParams u).width → (s.crcParams u).width ≤ 64 →
    (v.toNat / 2 % 2 = 0 → Answers (.crcStart m u v) s fun t => t.crcReg u = (s.crcParams u).init) ∧
    (v.toNat % 2 = 0 →
      (s.crcRes u = s.get2 (Rg.CRC_EXPECT_LO u) (Rg.CRC_EXPECT_HI u) % 2 ^ (s.crcParams u).width →
        Answers (.crcCheck m u v) s fun t => t.get (Rg.CRC_STATUS_CHECK_OK u) = 1 ∧
          t.get (Rg.CRC_STATUS_MISMATCH u) = s.get (Rg.CRC_STATUS_MISMATCH u) ∧ t.crcReg u = s.crcReg u) ∧
      (s.crcRes u ≠ s.get2 (Rg.CRC_EXPECT_LO u) (Rg.CRC_EXPECT_HI u) % 2 ^ (s.crcParams u).width →
        Answers (.crcCheck m u v) s fun t => t.get (Rg.CRC_STATUS_CHECK_OK u) = 0 ∧
          t.get (Rg.CRC_STATUS_MISMATCH u) = 1))) ∧
  (∀ (s : State) (n : VE) (code c k : Nat), k < 128 → 0 < c →
    (s.get (Rg.EC_SEL n k) = code →
      (s.ecAdd n code c).get2 (Rg.EC_LO n k) (Rg.EC_HI_COUNT n k) =
        (s.get2 (Rg.EC_LO n k) (Rg.EC_HI_COUNT n k) + c) % 2 ^ 48 ∧
      (2 ^ 48 ≤ s.get2 (Rg.EC_LO n k) (Rg.EC_HI_COUNT n k) + c → (s.ecAdd n code c).get (Rg.EC_HI_OVF n k) = 1)) ∧
    (s.get (Rg.EC_SEL n k) ≠ code →
      (s.ecAdd n code c).get2 (Rg.EC_LO n k) (Rg.EC_HI_COUNT n k) = s.get2 (Rg.EC_LO n k) (Rg.EC_HI_COUNT n k) ∧
      (s.ecAdd n code c).get (Rg.EC_HI_OVF n k) = s.get (Rg.EC_HI_OVF n k))) ∧
  (∀ (s : State) (m : Master) (n : VE) (v : Word), MayWrite s m (Rg.EC_CTRL_CLEAR_ALL n).addr 4 →
    Answers (.clearAll m n v) s fun t => ∀ k, k < 128 → t.get2 (Rg.EC_LO n k) (Rg.EC_HI_COUNT n k) = 0 ∧
      t.get (Rg.EC_SEL n k) = s.get (Rg.EC_SEL n k) ∧ t.get (Rg.EC_HI_OVF n k) = s.get (Rg.EC_HI_OVF n k)) ∧
  ∀ (s : State) (n : VE) (i : TagInfo), s.held = false →
    (s.get (Rg.TAG_CFG_N n) = 0 ∨ s.get Rg.DD_STATUS_TIER ≠ 0 ∨ Tab.get s.tagWait n 0 ≠ 0 → Ignored (.tagRecord n i) s) ∧
    (∀ q, s.get (Rg.TAG_CFG_N n) ≠ 0 → s.get Rg.DD_STATUS_TIER = 0 → Tab.get s.tagWait n 0 = 0 →
      q = s.get (Rg.TAG_CFG_QUEUE n) → q ≠ 0 → PtrsGood s q →
      (RingGood s q → s.storeErr = [] → s.qFits q 2 = true → Answers (.tagRecord n i) s fun t =>
        (t.q q).items = (s.q q).items ++ [⟨2, true, false⟩] ∧ t.get (Rg.TAG_CNT n) = counted s (Rg.TAG_CNT n) ∧
        RingHolds t q ((s.q q).alloc + 1) ((s.eng n).lastPc.toNat + i.s0.toNat * 2 ^ 32 + i.s1.toNat * 2 ^ 48) ∧
        t.get (Rg.TAG_DROP_CNT n) = s.get (Rg.TAG_DROP_CNT n)) ∧
      (s.qOn q = false ∨ s.qFits q 2 = false → Answers (.tagRecord n i) s fun t => t.q q = s.q q ∧
        t.get (Rg.TAG_CNT n) = counted s (Rg.TAG_CNT n) ∧ t.get (Rg.TAG_DROP_CNT n) = counted s (Rg.TAG_DROP_CNT n) ∧
        t.store = s.store)) ∧
    (s.get (Rg.TAG_CFG_N n) ≠ 0 → s.get Rg.DD_STATUS_TIER = 0 → Tab.get s.tagWait n 0 = 0 → s.get (Rg.TAG_CFG_QUEUE n) = 0 →
      Answers (.tagRecord n i) s fun t =>
        (∃ r, r < 2 ^ s.get (Rg.TAG_CFG_N n) ∧ Tab.get t.tagWait n 0 = 2 ^ (s.get (Rg.TAG_CFG_N n) - 1) + r) ∧ t.get (Rg.TAG_REC n 0) = (s.eng n).lastPc.toNat ∧
        t.get (Rg.TAG_REC n 1) = i.s0.toNat + i.s1.toNat * 2 ^ 16 ∧
        t.get (Rg.TAG_REC n 2) = i.s2.toNat + i.s3.toNat * 2 ^ 16 ∧
        t.get (Rg.TAG_REC n 3) = i.s4.toNat + s.get Rg.FT_FRAME_LO % 256 * 2 ^ 16 + (s.eng n).lastVec.toNat * 2 ^ 24 +
          (s.eng n).lastIter.toNat * 2 ^ 25 + i.exc.toNat * 2 ^ 26 ∧
        t.get (Rg.TAG_CNT n) = counted s (Rg.TAG_CNT n) ∧ t.store = s.store)
/-- Tasks on records (R210, R211, R217 to R219). A task writes word 0 of one record at a time, while the fence is open and its
bank has room, 40 accesses in a fenced frame and in no other (assumption 112: the model's choice): a marking sets
DEAD and ORPHAN; an automatic reinstatement clears ORPHAN, and DEAD where NOISY is 0, but skips a channel that a valid range
of another retired lane covers; a command clears DEAD, NOISY, ORPHAN and STRIKES; a record that changes is counted. Each
kind raises its own status bit when it completes, at its DONE row, with no record left or, outside a fenced frame, at once
(assumption 44: the model's choice). `CT_CMD` written with GO is refused while a command runs or where LAST is
below FIRST, and else begins one. Completes: TABLE_RECORD_WRITE, ORPHAN_MARKING_DONE, REINSTATED, CMD_DONE, CT_CMD_GO. -/
def Obligations.ChannelTasksWriteTheirRecords : Prop :=
  (∀ (s : State) (ch : BitVec 23) (k : CtKind) (rs : List (Nat × Nat)) (dn : List Nat), RecordsOpen s →
    s.ctTasks = [⟨k, rs, dn⟩] → covered rs ch.toNat = true → ch.toNat < s.ctCount → ch.toNat ∉ dn →
    s.ctRoom ch.toNat = true →
    ((∀ l, k = .reinstate l → s.otherRetired l ch.toNat = false) →
      Answers (.tableRecordWrite ch none) s fun t =>
        t.ctTasks = [⟨k, rs, ch.toNat :: dn⟩] ∧
        RecordIs s t ch.toNat ((taskForm k).1 (s.stBytes (s.ctAddr ch.toNat) 16)) ∧ BankCounted s t ch.toNat ∧
        t.get (taskForm k).2 = (if (taskForm k).1 (s.stBytes (s.ctAddr ch.toNat) 16) = s.stBytes (s.ctAddr ch.toNat) 16
          then s.get (taskForm k).2 else counted s (taskForm k).2)) ∧
    (∀ l, k = .reinstate l → s.otherRetired l ch.toNat = true →
      exec (.tableRecordWrite ch none) s = .next { s with ctTasks := [⟨k, rs, ch.toNat :: dn⟩] })) ∧
  (∀ (s : State) (ch : BitVec 23), s.held = false →
    (s.ctOpen = false ∨ s.ctTasks = [] ∨ s.ctCount ≤ ch.toNat ∨
      (s.ctFenced = true ∧ 40 ≤ Tab.get s.ctUsed (s.ctBank ch.toNat) 0) → Ignored (.tableRecordWrite ch none) s)) ∧
  (∀ s : State, s.held = false →
    (∀ l rs dn, s.ctTasks = [⟨.orphan l, rs, dn⟩] →
      Ignored .reinstated s ∧ Ignored .cmdDone s ∧
      (s.taskLeft ⟨.orphan l, rs, dn⟩ ≠ [] → s.ctOpen = false → Ignored .orphanMarkingDone s) ∧
      (s.taskLeft ⟨.orphan l, rs, dn⟩ = [] ∨ s.ctFenced = false → Answers .orphanMarkingDone s fun t =>
        t.ctTasks = [] ∧ t.get Rg.CT_INT_STATUS_ORPHAN = 1 ∧ t.get Rg.CT_STATUS_MARK_BUSY = 0 ∧
        (s.taskLeft ⟨.orphan l, rs, dn⟩ = [] → t.store = s.store))) ∧
    (∀ l rs dn, s.ctTasks = [⟨.reinstate l, rs, dn⟩] → s.taskLeft ⟨.reinstate l, rs, dn⟩ = [] ∨ s.ctFenced = false →
      (s.lane l).ret = some .reinstate → s.flag (Rg.LN_CTRL_ENABLE l) = true → s.locked = false → l < 128 →
      Answers .reinstated s fun t => t.ctTasks = [] ∧ t.get Rg.CT_INT_STATUS_REINSTATED = 1 ∧ t.lnState l = 2 ∧
        (t.lane l).ret = none ∧ t.get (Rg.LN_INT_STATUS_RETURNED l) = 1 ∧
        (s.taskLeft ⟨.reinstate l, rs, dn⟩ = [] → t.store = s.store)) ∧
    ∀ a b rs dn, s.ctTasks = [⟨.command a b, rs, dn⟩] → s.taskLeft ⟨.command a b, rs, dn⟩ = [] ∨ s.ctFenced = false →
      Answers .cmdDone s fun t => t.ctTasks = [] ∧ t.get Rg.CT_INT_STATUS_CMD_DONE = 1 ∧
        t.get Rg.CT_STATUS_CMD_BUSY = 0 ∧ (s.taskLeft ⟨.command a b, rs, dn⟩ = [] → t.store = s.store)) ∧
  ∀ (s : State) (m : Master) (v : Word), MayWrite s m Rg.CT_CMD_LAST.addr 4 →
    (s.flag Rg.CT_STATUS_CMD_BUSY = true ∨ v.toNat % 2 ^ 23 < s.get Rg.CT_CMD_FIRST_FIRST → Refused (.ctCmdGo m v) s m) ∧
    (s.flag Rg.CT_STATUS_CMD_BUSY = false → s.get Rg.CT_CMD_FIRST_FIRST ≤ v.toNat % 2 ^ 23 →
      Answers (.ctCmdGo m v) s fun t => t.get Rg.CT_STATUS_CMD_BUSY = 1 ∧
        t.ctTasks = s.ctTasks ++ [⟨.command (s.get Rg.CT_CMD_FIRST_FIRST) (v.toNat % 2 ^ 23),
          [(s.get Rg.CT_CMD_FIRST_FIRST, v.toNat % 2 ^ 23)], []⟩] ∧ t.store = s.store)

/-- The loader and the noise sweep (R203, R210 to R215, R220). The loader takes the head item of its queue, of a fenced frame
and of no other at most 80 (assumption 112: the model's choice): one that R213 admits is written into its record and counted, any other is counted as rejected, with its channel. A
period that finds a pass running makes it late, unless the top note has interrupted it (assumption 46: the model's choice). The
sweep visits each record once in a pass, in the order of the visits: a record over its limits gains a strike, and at the strike limit it is retired while the pass may still retire, and else
the pass is capped; the visit with which every record below COUNT has been visited completes it (assumption 46). Completes: LOADER_ITEM, SWEEP_PASS_START, SWEEP_VISIT. -/
def Obligations.LoaderAndSweepFollowR212 : Prop :=
  (∀ s : State, s.held = false → PtrsGood s (s.get Rg.CT_LOADER_QUEUE) →
    (s.flag Rg.CT_CTRL_LOADER_EN = false ∨ 2 ≤ s.get Rg.DD_STATUS_TIER ∨ s.ctOpen = false ∨ s.loaderRoom = false ∨
      (s.ctFenced = true ∧ 80 ≤ s.ctItems) → Ignored (.loaderItem none) s) ∧
    ∀ (q w0 w1 : Nat) (r : List QItem), RecordsOpen s → s.flag Rg.CT_CTRL_LOADER_EN = true →
      s.get Rg.DD_STATUS_TIER < 2 → s.get Rg.CT_LOADER_QUEUE = q → HeadPair s q w0 w1 r → s.loaderRoom = true →
      (s.ctFenced = true → s.ctItems < 80) →
      (s.loadOk [w0, w1] = true → Answers (.loaderItem none) s fun t =>
        t.q q = pairReleased s q r ∧ t.get Rg.CT_LOAD_CNT = counted s Rg.CT_LOAD_CNT ∧
        RecordIs s t (w0 % 2 ^ 23) (loadRecord w0 w1 (s.stBytes (s.ctAddr (w0 % 2 ^ 23)) 16)) ∧
        BankCounted s t (w0 % 2 ^ 23) ∧ t.ctItems = s.ctItems + (if s.ctFenced then 1 else 0) ∧
        OnlyFields [Rg.CT_LOAD_CNT]
          { s with
            queues := t.queues, store := t.store, resv := t.resv, ctUsed := t.ctUsed, ctItems := t.ctItems,
            rotMarks := t.rotMarks, rotBad := t.rotBad } t) ∧
      (s.loadOk [w0, w1] = false → Answers (.loaderItem none) s fun t =>
        t.q q = pairReleased s q r ∧ t.get Rg.CT_LOAD_REJ_CNT = counted s Rg.CT_LOAD_REJ_CNT ∧
        t.get Rg.CT_LAST_REJ = w0 % 2 ^ 23 ∧ t.get Rg.CT_INT_STATUS_LOAD_REJ = 1 ∧
        OnlyFields [Rg.CT_LOAD_REJ_CNT, Rg.CT_LAST_REJ, Rg.CT_INT_STATUS_LOAD_REJ] { s with queues := t.queues } t)) ∧
  (∀ s : State, s.held = false →
    (s.flag Rg.CT_CTRL_SWEEP_EN = false ∨ s.get Rg.DD_STATUS_TIER ≠ 0 ∨ s.ctOn = false →
      Ignored .sweepPassStart s ∧ ∀ ch, Ignored (.sweepVisit ch none) s) ∧
    (s.flag Rg.CT_CTRL_SWEEP_EN = true → s.get Rg.DD_STATUS_TIER = 0 → s.ctOn = true →
      (s.ctSweep = none → exec .sweepPassStart s = .next { s with ctSweep := some Sweep.first }) ∧
      (∀ p, s.ctSweep = some p → p.cut = false → Answers .sweepPassStart s fun t => t.get Rg.CT_STATUS_SWEEP_LATE = 1 ∧
        t.get Rg.CT_INT_STATUS_SWEEP_LATE = 1 ∧ t.ctSweep = some { p with next := true }) ∧
      ∀ p, s.ctSweep = some p → p.cut = true →
        exec .sweepPassStart s = .next { s with ctSweep := some { p with next := true } })) ∧
  ∀ (s : State) (ch : BitVec 23) (p : Sweep) (old : List Byte), RecordsOpen s → s.flag Rg.CT_CTRL_SWEEP_EN = true →
    s.get Rg.DD_STATUS_TIER = 0 → s.ctSweep = some p → ch.toNat < s.ctCount → ch.toNat ∉ p.visited →
    old = s.stBytes (s.ctAddr ch.toNat) 16 → s.sweepRoom ch.toNat = true →
    (visitedOf s p + 1 < s.ctCount → (s.tested old = false ∨ s.overLimit old = false) →
      Answers (.sweepVisit ch none) s fun t => t.ctSweep = some { p with visited := ch.toNat :: p.visited } ∧
        RecordIs s t ch.toNat (if s.tested old then setStrikes 0 old else old) ∧ t.regs = s.regs) ∧
    (visitedOf s p + 1 < s.ctCount → s.tested old = true → s.overLimit old = true →
      strikesOf old + 1 < max (s.get Rg.CT_SWEEP_STRIKE_LIMIT) 1 →
      Answers (.sweepVisit ch none) s fun t => t.ctSweep = some { p with visited := ch.toNat :: p.visited } ∧
        RecordIs s t ch.toNat (setStrikes (strikesOf old + 1) old) ∧ t.regs = s.regs) ∧
    (visitedOf s p + 1 < s.ctCount → s.tested old = true → s.overLimit old = true →
      max (s.get Rg.CT_SWEEP_STRIKE_LIMIT) 1 ≤ strikesOf old + 1 → p.retired < s.get Rg.CT_CAP_RETIRE_CAP →
      Answers (.sweepVisit ch none) s fun t =>
        t.ctSweep = some { p with visited := ch.toNat :: p.visited, retired := p.retired + 1 } ∧
        RecordIs s t ch.toNat (setHw (Nat.lor (hwflags old) 3) (setStrikes (max (s.get Rg.CT_SWEEP_STRIKE_LIMIT) 1) old)) ∧
        t.get Rg.CT_NOISY_CNT = counted s Rg.CT_NOISY_CNT ∧ t.get Rg.CT_LAST_RETIRED_CHANNEL = ch.toNat ∧
        t.get Rg.CT_LAST_RETIRED_VALID = 1 ∧ t.get Rg.CT_INT_STATUS_NOISY = 1) ∧
    (visitedOf s p + 1 < s.ctCount → s.tested old = true → s.overLimit old = true →
      max (s.get Rg.CT_SWEEP_STRIKE_LIMIT) 1 ≤ strikesOf old + 1 → s.get Rg.CT_CAP_RETIRE_CAP ≤ p.retired →
      Answers (.sweepVisit ch none) s fun t =>
        t.ctSweep = some { p with visited := ch.toNat :: p.visited, capped := true } ∧
        RecordIs s t ch.toNat (setStrikes (max (s.get Rg.CT_SWEEP_STRIKE_LIMIT) 1) old) ∧
        t.get Rg.CT_NOISY_CNT = s.get Rg.CT_NOISY_CNT ∧
        (p.capped = false → t.get Rg.CT_STATUS_CAPPED = 1 ∧ t.get Rg.CT_INT_STATUS_CAPPED = 1)) ∧
    (s.ctCount ≤ visitedOf s p + 1 → s.tested old = false →
      Answers (.sweepVisit ch none) s fun t => t.ctSweep = (if p.next then some Sweep.first else none) ∧ t.get Rg.CT_SWEEP_CNT = counted s Rg.CT_SWEEP_CNT ∧
        t.store = s.store)
/-- Sillage and readout channels (R254, R256 to R258). FREEZE stops the sillage, and clearing FROZEN lets it resume at the
next frame; a channel is enabled only on a queue of Q2048 to Q2623 that no other enabled channel drains, and keeps its fields
while it is enabled; it reads the whole head item and hands it to its lane, or writes it to its host ring and raises its
vector, or waits; an item too long for a frame is discarded and counted; an uncorrectable word halts it; RESUME ends a halt and
tries the item again, which is then sent like any other. Completes: FREEZE, SILLAGE_UNFREEZE, READOUT_ENABLE, READOUT_RESUME, READOUT_ITEM_SEND. -/
def Obligations.SillageAndReadoutFollowR254 : Prop :=
  (∀ (s : State) (m : Master) (v : Word),
    (MayWrite s m Rg.VU_SIL_CFG_FREEZE_ON.addr 4 → Answers (.freeze m v) s fun t =>
      t.get Rg.VU_STATUS_FROZEN = 1 ∧ t.get Rg.VU_SIL_CFG_FREEZE_ON = v.toNat % 8 ∧
      (s.flag Rg.VU_STATUS_FROZEN = false → t.get Rg.VU_INT_STATUS_FROZEN = 1) ∧
      (s.flag Rg.VU_STATUS_FROZEN = true → t.get Rg.VU_INT_STATUS_FROZEN = s.get Rg.VU_INT_STATUS_FROZEN)) ∧
    (MayWrite s m Rg.VU_STATUS_FROZEN.addr 4 →
      (s.flag Rg.VU_STATUS_FROZEN = true → Accepted (.sillageUnfreeze m v) s m
        { s.set Rg.VU_STATUS_FROZEN 0 with vu := { s.vu with silWait := s.locked } }) ∧
      (s.flag Rg.VU_STATUS_FROZEN = false → Accepted (.sillageUnfreeze m v) s m s))) ∧
  (∀ (s : State) (m : Master) (r : Fin 16) (v : Word),
    (MayWrite s m (Rg.RD_CFG_ENABLE r).addr 4 → s.flag (Rg.RD_CFG_ENABLE r) = false →
      (s.rdQueueOk r (v.toNat / 4 % 2 ^ 13) = false → Refused (.readoutEnable m r v) s m) ∧
      (s.rdQueueOk r (v.toNat / 4 % 2 ^ 13) = true → Answers (.readoutEnable m r v) s fun t =>
        t.flag (Rg.RD_CFG_ENABLE r) = true ∧ t.get (Rg.RD_CFG_DEST r) = v.toNat / 2 % 2 ∧
        t.get (Rg.RD_CFG_QUEUE r) = v.toNat / 4 % 2 ^ 13 ∧ t.get (Rg.RD_CFG_LANE r) = v.toNat / 2 ^ 15 % 128 ∧
        t.get (Rg.RD_CFG_VC r) = v.toNat / 2 ^ 22 % 8 ∧
        t.flag (Rg.RD_STATUS_PAUSED r) = s.flag (Rg.RD_STATUS_PAUSED r))) ∧
    (MayWrite s m (Rg.RD_CFG_ENABLE r).addr 4 → s.flag (Rg.RD_CFG_ENABLE r) = true →
      v.toNat / 4 % 2 ^ 13 ≠ s.get (Rg.RD_CFG_QUEUE r) → Refused (.readoutEnable m r v) s m) ∧
    (MayWrite s m (Rg.RD_CMD_RESUME r).addr 4 →
      (s.flag (Rg.RD_STATUS_HALTED r) = false → Accepted (.readoutResume m r v) s m s) ∧
      (s.flag (Rg.RD_STATUS_HALTED r) = true →
        Accepted (.readoutResume m r v) s m ((s.set (Rg.RD_STATUS_HALTED r) 0).readoutItem r)))) ∧
  (∀ (s : State) (m : Master) (r : Fin 16) (v : Word) (q n : Nat) (rest : List QItem), ChannelAt s r q n rest true →
    MayWrite s m (Rg.RD_CMD_RESUME r).addr 4 →
    (s.flag (Rg.RD_CFG_DEST r) = false → (n < 16 ∨ s.get (Rg.RD_TYPE_TYPE r) = 1) →
      Answers (.readoutResume m r v) s fun t => t.flag (Rg.RD_STATUS_HALTED r) = false ∧ BeforeLane s t r q n ∧
        t.resp = some { master := m, code := 0, data := 0 }) ∧
    (s.flag (Rg.RD_CFG_DEST r) = false → n = 16 → s.get (Rg.RD_TYPE_TYPE r) ≠ 1 →
      Answers (.readoutResume m r v) s fun t => t.flag (Rg.RD_STATUS_HALTED r) = false ∧ t.q q = headReleased s q n rest ∧
        t.get (Rg.RD_OVERSIZE_CNT r) = counted s (Rg.RD_OVERSIZE_CNT r)) ∧
    (s.flag (Rg.RD_CFG_DEST r) = true → s.hostReady = true →
      s.rdUsed r + 8 * (n + 1) ≤ 2 ^ s.get (Rg.RD_HOST_SIZE_LOG2 r) →
      Answers (.readoutResume m r v) s fun t => t.flag (Rg.RD_STATUS_HALTED r) = false ∧ SentToHost s t r q n rest ∧
        t.resp = some { master := m, code := 0, data := 0 }) ∧
    (s.flag (Rg.RD_CFG_DEST r) = true → s.hostReady = false ∨
        2 ^ s.get (Rg.RD_HOST_SIZE_LOG2 r) < s.rdUsed r + 8 * (n + 1) →
      Answers (.readoutResume m r v) s fun t => t.flag (Rg.RD_STATUS_HALTED r) = false ∧
        t.flag (Rg.RD_STATUS_WAITING r) = true ∧ t.q q = s.q q)) ∧
  (∀ (s : State) (r : Fin 16), s.held = false → PtrsGood s (s.get (Rg.RD_CFG_QUEUE r)) →
    (s.flag (Rg.RD_CFG_ENABLE r) = false ∨ s.flag (Rg.RD_STATUS_HALTED r) = true ∨ s.get Rg.DD_STATUS_TIER ≠ 0 ∨
      s.lastResort = true ∨ (s.q (s.get (Rg.RD_CFG_QUEUE r))).ready = [] ∨ Tab.get s.rdHold r none ≠ none →
      Ignored (.readoutItemSend r none) s)) ∧
  (∀ (s : State) (r : Fin 16) (q n : Nat) (rest : List QItem), s.held = false → s.flag (Rg.RD_CFG_ENABLE r) = true →
    s.flag (Rg.RD_STATUS_HALTED r) = false → s.get Rg.DD_STATUS_TIER = 0 → s.lastResort = false →
    Tab.get s.rdHold r none = none → s.get (Rg.RD_CFG_QUEUE r) = q → PtrsGood s q → (s.q q).items = ⟨n, true, false⟩ :: rest →
    s.qAddr q (s.q q).head % 8 = 0 → s.halfBad (s.qAddr q (s.q q).head / 8) = true →
    Answers (.readoutItemSend r none) s fun t => t.flag (Rg.RD_STATUS_HALTED r) = true ∧
      t.get (Rg.RD_UE_ADDR r) = s.qAddr q (s.q q).head % 2 ^ (Rg.RD_UE_ADDR r).w ∧
      t.get Rg.VU_INT_STATUS_RD_HALT = 1 ∧ t.q q = s.q q ∧ t.sent = s.sent ∧ t.rdHold = s.rdHold) ∧
  ∀ (s : State) (r : Fin 16) (q n : Nat) (rest : List QItem), ChannelAt s r q n rest false →
    (s.flag (Rg.RD_CFG_DEST r) = false → (n < 16 ∨ s.get (Rg.RD_TYPE_TYPE r) = 1) →
      Answers (.readoutItemSend r none) s fun t => BeforeLane s t r q n) ∧
    (s.flag (Rg.RD_CFG_DEST r) = false → n = 16 → s.get (Rg.RD_TYPE_TYPE r) ≠ 1 →
      Answers (.readoutItemSend r none) s fun t => t.q q = headReleased s q n rest ∧
        t.get (Rg.RD_OVERSIZE_CNT r) = counted s (Rg.RD_OVERSIZE_CNT r) ∧
        OnlyFields [Rg.RD_OVERSIZE_CNT r] { s with queues := t.queues } t) ∧
    (s.flag (Rg.RD_CFG_DEST r) = true → s.hostReady = true →
      2 ^ s.get (Rg.RD_HOST_SIZE_LOG2 r) < s.rdUsed r + 8 * (n + 1) →
      exec (.readoutItemSend r none) s = .next (s.set (Rg.RD_STATUS_WAITING r) 1)) ∧
    (s.flag (Rg.RD_CFG_DEST r) = true → s.hostReady = false → Answers (.readoutItemSend r none) s fun t =>
      t.flag (Rg.RD_STATUS_WAITING r) = true ∧ t.q q = s.q q ∧ t.sent = s.sent) ∧
    (s.flag (Rg.RD_CFG_DEST r) = true → s.hostReady = true →
      s.rdUsed r + 8 * (n + 1) ≤ 2 ^ s.get (Rg.RD_HOST_SIZE_LOG2 r) → Answers (.readoutItemSend r none) s fun t => SentToHost s t r q n rest)

/-- Enabling, scanning and pushing (R412, R414, R415, R416, R419). The enable reads the flash's tables, and is refused for a flash that
cannot suspend an erase, or is too small; SLOW_FLASH says that the suspend latency and five page programs exceed 1.9 ms; the
scan finds the write position, the sector prepared after it, SEQ and the BAD sectors, and makes the journal READY; with no READY
sector it shows SECTOR 255 and SLOT 62 (assumption 53: the model's choice); a push with
63 records staged is refused and counted, and any other moves TAIL. Completes: JOURNAL_ENABLE, JOURNAL_SCAN_DONE, JNL_PUSH_GO. -/
def Obligations.JournalStartsAndStages : Prop :=
  (∀ (s : State) (m : Master) (v : Word) (i : FlashInfo), MayWrite s m Rg.JNL_CTRL_ENABLE.addr 4 →
    s.flag Rg.JNL_CTRL_ENABLE = false →
    (i.size < s.get Rg.JNL_BASE + 2 ^ 20 → i.suspend = true →
      exec (.journalEnable m v i) s = .next (({ s with flashInfo := i }.set Rg.JNL_STATUS_NO_SUSPEND 0).respond m 4 0)) ∧
    (i.suspend = false →
      exec (.journalEnable m v i) s = .next (({ s with flashInfo := i }.set Rg.JNL_STATUS_NO_SUSPEND 1).respond m 4 0)) ∧
    (s.get Rg.JNL_BASE + 2 ^ 20 ≤ i.size → i.suspend = true → Answers (.journalEnable m v i) s fun t =>
      t.flag Rg.JNL_CTRL_ENABLE = true ∧ t.jnl = { s.jnl with scanning := true } ∧
      t.flag Rg.JNL_STATUS_SLOW_FLASH = decide (1900000 < i.suspendNs + 5 * i.pageNs) ∧ t.flag Rg.JNL_STATUS_NO_SUSPEND = false ∧ t.flash = s.flash)) ∧
  (∀ s : State, s.held = false →
    (s.jnl.scanning = false → Ignored .journalScanDone s) ∧
    (s.jnl.scanning = true → Answers .journalScanDone s fun t =>
      t.flag Rg.JNL_STATUS_READY = true ∧ t.jnl.scanning = false ∧ t.flash = s.flash ∧
      t.get Rg.JNL_SEQ = s.jNextSeq % 2 ^ 32 ∧ t.get Rg.JNL_BAD_SECT = s.jBad.length ∧
      (s.jNewest = none → t.get Rg.JNL_STATUS_SECTOR = 255 ∧ t.get Rg.JNL_STATUS_SLOT = 62 ∧ t.jnl.next = none) ∧
      (∀ k nx, s.jNewest = some (k, nx) → t.get Rg.JNL_STATUS_SECTOR = k ∧ t.jnl.next = nx ∧
        t.jnl.sseq = s.jSseq (nx.getD k) ∧
        (s.jKind k 62 = .free → s.jKind k 63 = .free → t.get Rg.JNL_STATUS_SLOT = s.jFirstFree k) ∧
        (s.jKind k 62 ≠ .free ∨ s.jKind k 63 ≠ .free → t.get Rg.JNL_STATUS_SLOT = 62 ∧ t.jnl.left = true)) ∧
      (256 - s.jBad.length < 8 → t.flag Rg.JNL_STATUS_FAILED = true ∧ t.flag Rg.JNL_INT_STATUS_FAILED = true))) ∧
  ∀ (s : State) (m : Master) (v : Word), MayWrite s m Rg.JNL_PUSH_GO.addr 4 →
    (63 ≤ s.jPending → Answers (.jnlPushGo m v) s fun t =>
      t.get Rg.JNL_STAGE_FULL_CNT = counted s Rg.JNL_STAGE_FULL_CNT ∧ t.get Rg.JNL_INT_STATUS_STAGE_FULL = 1 ∧
      t.get Rg.JNL_STAGE_PTR_TAIL = s.get Rg.JNL_STAGE_PTR_TAIL ∧ t.resp = some { master := m, code := 4, data := 0 }) ∧
    (s.jPending < 63 → Accepted (.jnlPushGo m v) s m
      (s.set Rg.JNL_STAGE_PTR_TAIL ((s.get Rg.JNL_STAGE_PTR_TAIL + 1) % 64)))

/-- Writing the journal (R336, R412 to R415, R417). A record is taken in hand with the next SEQ and its CRC-32C, urgent ones
first; a staged one waits while the next sector is not prepared, which becomes the current one when its slots are used; its
slot is marked 7F, written, and marked 3F, which commits it; a failure makes its sector BAD and puts the record back, but for a
LAST_RESORT record. A sector is prepared by its erase, its header and its HSTATE; an urgent record suspends an erase. A
program clears bits and sets none. Completes: JOURNAL_RECORD_WRITE, SECTOR_PREPARE, FLASH_OPERATION_DONE. -/
def Obligations.JournalWritesRecordsInOrder : Prop :=
  (∀ s : State, s.held = false →
    (s.jMayWrite = false ∨ s.jnl.urgent = [] ∧ s.jPending = 0 → Ignored .journalRecordWrite s) ∧
    (s.jMayWrite = true → s.jnl.urgent = [] → s.jPending ≠ 0 → s.jnl.op = none → s.get Rg.JNL_STATUS_SLOT ≤ 61 →
      s.jnl.next = none → Ignored .journalRecordWrite s) ∧
    (∀ k, s.jMayWrite = true → s.jnl.urgent = [] → s.jPending ≠ 0 → s.jnl.op = none → 61 < s.get Rg.JNL_STATUS_SLOT →
      s.jnl.next = some k → k < 256 → Answers .journalRecordWrite s fun t => t.get Rg.JNL_STATUS_SECTOR = k ∧
        t.get Rg.JNL_STATUS_SLOT = 1 ∧ t.jnl = { s.jnl with next := none, left := false } ∧ t.flash = s.flash) ∧
    (s.jMayWrite = true → s.jnl.urgent = [] → s.jPending ≠ 0 → s.jnl.op = none → s.get Rg.JNL_STATUS_SLOT ≤ 61 →
      s.jnl.next ≠ none → s.lmErr = [] →
      s.windowOk 8 (0x100000000 + (s.get Rg.JNL_STAGE_OFF + 64 * s.get Rg.JNL_STAGE_PTR_HEAD)) 0x38 false false = true →
      Answers .journalRecordWrite s fun t =>
        t.jnl = { s.jnl with op := some (.record 1), hand := some ⟨s.jFinish (s.lmBytes (s.get Rg.JNL_STAGE_OFF +
          64 * s.get Rg.JNL_STAGE_PTR_HEAD) 0x38), s.get Rg.JNL_STATUS_SECTOR, s.get Rg.JNL_STATUS_SLOT, false⟩ } ∧
        t.get Rg.JNL_SEQ = (s.get Rg.JNL_SEQ + 1) % 2 ^ 32 ∧ t.flag Rg.JNL_STATUS_BUSY = true ∧ t.flash = s.flash) ∧
    (∀ b r k slot, s.jMayWrite = true → s.jnl.urgent = b :: r → s.jUrgentPlace = some (k, slot) →
      (s.jnl.op = none → Answers .journalRecordWrite s fun t =>
        t.jnl = { s.jnl with urgent := r, op := some (.record 1), hand := some ⟨s.jFinish b, k, slot, true⟩ } ∧
        t.get Rg.JNL_SEQ = (s.get Rg.JNL_SEQ + 1) % 2 ^ 32) ∧
      ∀ a c, s.jnl.op = some (.erase a c) → Answers .journalRecordWrite s fun t =>
        t.jnl = { s.jnl with urgent := r, op := some (.record 1), susp := some (.erase a c),
                             hand := some ⟨s.jFinish b, k, slot, true⟩ }) ∧
    (s.jMayWrite = true → s.jnl.urgent ≠ [] → s.jUrgentPlace = none → Ignored .journalRecordWrite s) ∧
    (s.jMayWrite = false ∨ s.jnl.op ≠ none ∨ s.jnl.next ≠ none ∨ s.jNext (s.get Rg.JNL_STATUS_SECTOR) = none →
      Ignored .sectorPrepare s) ∧
    (∀ k, s.jMayWrite = true → s.jnl.op = none → s.jnl.next = none → s.jNext (s.get Rg.JNL_STATUS_SECTOR) = some k →
      Answers .sectorPrepare s fun t => t.flag Rg.JNL_STATUS_BUSY = true ∧ t.flash = s.flash ∧
        t.jnl = { s.jnl with op := some (.erase k
          ((if s.jReady k then s.flNat (s.jSector k + 8) 4 else s.get Rg.JNL_MAX_ERASE) + 1)) })) ∧
  (∀ (s : State) (n : Nat) (r : JRec), RecordUnderWay s n r →
    (n = 1 → s.flag Rg.JNL_STATUS_FAILED = false → Answers (.flashOperationDone true) s fun t => t.jnl = { s.jnl with op := some (.record 2) } ∧
      t.flByte (s.jSlot r.sector r.slot + 0x3F) = s.flByte (s.jSlot r.sector r.slot + 0x3F) &&& 0x7F ∧
      ∀ a, a ≠ s.jSlot r.sector r.slot + 0x3F → t.flByte a = s.flByte a) ∧
    (n = 2 → s.flag Rg.JNL_STATUS_FAILED = false → Answers (.flashOperationDone true) s fun t => t.jnl = { s.jnl with op := some (.record 3) } ∧
      (∀ j, j < r.body.length → t.flByte (s.jSlot r.sector r.slot + j) =
        s.flByte (s.jSlot r.sector r.slot + j) &&& r.body.getD j 0) ∧
      ∀ a, (a < s.jSlot r.sector r.slot ∨ s.jSlot r.sector r.slot + r.body.length ≤ a) → t.flByte a = s.flByte a) ∧
    (n = 3 → s.jnl.susp = none → Answers (.flashOperationDone true) s fun t =>
      t.jnl = { s.jnl with op := none, hand := none } ∧ t.flag Rg.JNL_STATUS_BUSY = false ∧
      t.flByte (s.jSlot r.sector r.slot + 0x3F) = s.flByte (s.jSlot r.sector r.slot + 0x3F) &&& 0x3F ∧
      t.get Rg.JNL_REC_CNT = counted s Rg.JNL_REC_CNT ∧ t.get Rg.JNL_INT_STATUS_COMMIT = 1 ∧
      (r.urgent = false → t.get Rg.JNL_STAGE_PTR_HEAD = (s.get Rg.JNL_STAGE_PTR_HEAD + 1) % 64 ∧
        t.get Rg.JNL_STATUS_SLOT = (r.slot + 1) % 64) ∧
      (r.urgent = true → t.get Rg.JNL_STAGE_PTR_HEAD = s.get Rg.JNL_STAGE_PTR_HEAD)) ∧
    (s.jnl.susp = none → Answers (.flashOperationDone false) s fun t =>
      t.jnl = { s.jnl with op := none, hand := none, next := if s.jnl.next = some r.sector then none else s.jnl.next,
                           urgent := if r.urgent = true ∧ r.body.headD 0 ≠ 9 then r.body.take 0x38 :: s.jnl.urgent
                             else s.jnl.urgent } ∧
      t.flByte (s.jSector r.sector + 0x3F) = 0 ∧ t.get Rg.JNL_INT_STATUS_BAD_SECTOR = 1 ∧
      (s.get Rg.JNL_STATUS_SECTOR = r.sector → t.get Rg.JNL_STATUS_SLOT = 62) ∧
      t.get Rg.JNL_SEQ = (s.get Rg.JNL_SEQ + 2 ^ 32 - 1) % 2 ^ 32 ∧
      t.get Rg.JNL_STAGE_PTR_HEAD = s.get Rg.JNL_STAGE_PTR_HEAD)) ∧
  ∀ (s : State) (k c : Nat), s.held = false →
    (s.jnl.op = none → ∀ ok, Ignored (.flashOperationDone ok) s) ∧
    (s.jnl.op = some (.erase k c) → s.jnl.susp = none → Answers (.flashOperationDone false) s fun t => t.jnl.op = none ∧
      t.flByte (s.jSector k + 0x3F) = 0 ∧ t.get Rg.JNL_INT_STATUS_BAD_SECTOR = 1) ∧
    (s.jnl.op = some (.erase k c) → s.flag Rg.JNL_STATUS_FAILED = false → Answers (.flashOperationDone true) s fun t =>
      t.jnl = { s.jnl with op := some (.header k c) } ∧
      (∀ a, s.jSector k ≤ a → a < s.jSector k + 4096 → t.flByte a = 0xFF) ∧
      ∀ a, (a < s.jSector k ∨ s.jSector k + 4096 ≤ a) → t.flByte a = s.flByte a) ∧
    (s.jnl.op = some (.header k c) → s.flag Rg.JNL_STATUS_FAILED = false → Answers (.flashOperationDone true) s fun t =>
      t.jnl = { s.jnl with sseq := s.jnl.sseq + 1, op := some (.hstate k) } ∧
      ∀ j, j < 0x3C → t.flByte (s.jSector k + j) =
        s.flByte (s.jSector k + j) &&& (jHeader (s.jnl.sseq + 1) c).getD j 0) ∧
    (s.jnl.op = some (.hstate k) → s.jnl.susp = none → Answers (.flashOperationDone true) s fun t =>
      t.jnl = { s.jnl with next := some k, op := none } ∧ t.flag Rg.JNL_STATUS_BUSY = false ∧
      t.flByte (s.jSector k + 0x3F) = s.flByte (s.jSector k + 0x3F) &&& 0x3F)
/-- Migrations, retirements and restores (R119, R125 to R130). `EM_CMD` is refused for a slot without an engine, for a
target that is not SPARE, for a retirement of an engine that is not SPARE or that a migration has taken, and for a return of an
engine that is not RETIRED or whose test has not passed. While the unit is LOCKED a migration waits for a frame boundary; outside
it the copy is made at once, and the target runs the slot with the source's context. A copy abandoned by its source gives the
target the context of the valid half, to be restored; with no valid half it goes cold,
or leaves the slot without an engine with COLD_EN 0; one abandoned by its target leaves the source in place, the target
RETIRED and the request waiting for a target of the device's choice. A restore that is done puts the target in the slot. What the
counters count and when a half is read (assumption 64), and the corners of copies, trailers and requests (assumption 63), are
the model's choice. SRESET gives a SPARE or RETIRED engine the cold context.
CHECKPOINT_TRAILER_WRITE (R120, R122, R200): with the context sent and not poisoned, the trailer stands behind it: the
frame number, the CRC, the slot, the engine and the marker 0xA5; `VE_CHK_FRAME` shows the frame, and the checkpoint is no
longer under way. A poisoned image gets no trailer. An engine without a checkpoint under way writes nothing. Completes: MIGRATE,
ENGINE_RETIRE, ENGINE_RETURN, COPY_ABANDON, CHECKPOINT_RESTORE, SRESET, CHECKPOINT_TRAILER_WRITE. -/
def Obligations.CheckpointsAndMigrationsFollowR120 : Prop :=
  (∀ (s : State) (m : Master) (v : Word), MayWrite s m Rg.EM_CMD_OP.addr 4 →
    (s.flag (Rg.EM_MAP_VALID (v.toNat % 64)) = false → Refused (.migrate m v) s m) ∧
    (v.toNat / 2 ^ 15 % 2 = 0 → (68 ≤ v.toNat / 256 % 128 ∨ s.veState (v.toNat / 256 % 128) ≠ 1) →
      Refused (.migrate m v) s m) ∧
    (s.flag (Rg.EM_MAP_VALID (v.toNat % 64)) = true → v.toNat / 2 ^ 15 % 2 = 1 → s.locked = true →
      Accepted (.migrate m v) s m { s with migReqs := s.migReqs ++ [⟨v.toNat % 64, none, .command, s.dueNow, false⟩] }) ∧
    (∀ n : VE, s.veOf (v.toNat % 64) = some n.val → v.toNat / 2 ^ 15 % 2 = 0 → v.toNat / 256 % 128 < 68 →
      s.veState (v.toNat / 256 % 128) = 1 → s.veState n = 2 → s.locked = false → NoMigration s → s.lmErr = [] →
      (s.eng n).stErr = [] →
      Answers (.migrate m v) s fun t => t.veOf (v.toNat % 64) = some (v.toNat / 256 % 128) ∧
        t.veState (v.toNat / 256 % 128) = 2 ∧ t.veState n = 1 ∧ t.get Rg.EM_MIG_CNT = counted s Rg.EM_MIG_CNT ∧
        t.get Rg.EM_INT_STATUS_MIG_DONE = 1 ∧ t.get Rg.EM_STATUS_LAST_RESULT = 0 ∧
        (t.eng (v.toNat / 256 % 128)).sregs = (s.eng n).sregs ∧ (t.eng (v.toNat / 256 % 128)).masks = (s.eng n).masks ∧
        Tab.get t.reason (v.toNat % 64) 0 = 1 ∧ NoMigration t) ∧
    (v.toNat / 256 % 128 < 68 → s.veState (v.toNat / 256 % 128) = 1 → s.untaken (v.toNat / 256 % 128) = true →
      Accepted (.engineRetire m v) s m (s.setVeState (v.toNat / 256 % 128) 4)) ∧
    (s.veState (v.toNat / 256 % 128) ≠ 1 ∨ s.untaken (v.toNat / 256 % 128) = false → Refused (.engineRetire m v) s m) ∧
    (v.toNat / 256 % 128 < 68 → s.veState (v.toNat / 256 % 128) = 4 → s.get (Rg.BL_VE_RESULT (v.toNat / 256 % 128)) = 1 →
      NoneServed s → Accepted (.engineReturn m v) s m (s.setVeState (v.toNat / 256 % 128) 1)) ∧
    (s.veState (v.toNat / 256 % 128) ≠ 4 ∨ s.get (Rg.BL_VE_RESULT (v.toNat / 256 % 128)) ≠ 1 →
      Refused (.engineReturn m v) s m)) ∧
  (∀ (s : State) (k : Slot) (sent : BitVec 13), s.held = false →
    (s.copies = [] → NoneServed s → ∀ b, Ignored (.copyAbandon k b sent) s) ∧
    ∀ (a b : VE) (why : MigWhy), s.copies = [⟨k.val, a.val, b.val, why⟩] → s.locked = true →
      (Answers (.copyAbandon k true sent) s fun t => t.copies = [] ∧ t.veState b = 4 ∧
        t.get (Rg.EM_MAP_VE k) = a.val ∧ t.migReqs = s.migReqs ++ [⟨k.val, none, why, 1, false⟩]) ∧
      (a ≠ b → Tab.get s.chks a.val none = none → StrikeIsTransient s a → s.lmErr = [] → s.restores = [] →
        s.storeErr = [] → s.halfValid (s.chkHalf k ((s.frameNo + 2 ^ 64 - 1) % 2 ^ 64 + 1)) k = true →
        Answers (.copyAbandon k false sent) s fun t => t.copies = [] ∧ t.veState a = afterCopy why ∧
          t.restores = [⟨k.val, b.val, s.chkHalf k ((s.frameNo + 2 ^ 64 - 1) % 2 ^ 64 + 1), false⟩] ∧
          HasContext s t b (s.chkHalf k ((s.frameNo + 2 ^ 64 - 1) % 2 ^ 64 + 1))) ∧
      (a ≠ b → Tab.get s.chks a.val none = none → StrikeIsTransient s a → s.lmErr = [] → s.restores = [] →
        s.halfValid (s.chkHalf k ((s.frameNo + 2 ^ 64 - 1) % 2 ^ 64 + 1)) k = false →
        (s.flag Rg.EM_CTRL_COLD_EN = true → Answers (.copyAbandon k false sent) s fun t => t.copies = [] ∧
          t.veState a = afterCopy why ∧ t.veState b = 2 ∧ t.veOf k = some b.val ∧ t.get Rg.EM_STATUS_LAST_RESULT = 2 ∧
          (t.eng b).sregs = [] ∧ (t.eng b).masks = [] ∧ Tab.get t.reason k.val 0 = 3 ∧
          t.get Rg.EM_COLD_CNT = counted s Rg.EM_COLD_CNT) ∧
        (s.flag Rg.EM_CTRL_COLD_EN = false → Answers (.copyAbandon k false sent) s fun t => t.copies = [] ∧
          t.veState a = afterCopy why ∧ t.veState b = 1 ∧ t.veOf k = none ∧ t.get Rg.EM_STATUS_LAST_RESULT = 3))) ∧
  (∀ (s : State) (k : Slot), s.held = false →
    (s.restores = [] → Ignored (.checkpointRestore k) s) ∧
    ∀ (b : VE) (half : Nat) (sag : Bool), s.restores = [⟨k.val, b.val, half, sag⟩] → s.lmErr = [] →
      NoneServed s → Answers (.checkpointRestore k) s fun t => t.restores = [] ∧ t.veOf k = some b.val ∧ t.veState b = 2 ∧
        (t.eng b).sregs = (s.eng b).sregs ∧ (t.eng b).vl = (s.eng b).vl ∧ (t.eng b).descs = (s.eng b).descs ∧
        (t.eng b).masks = (s.eng b).masks ∧ (t.eng b).table = (s.eng b).table ∧ Tab.get t.reason k.val 0 = 2 ∧
        t.get Rg.EM_RESTORE_CNT = counted s Rg.EM_RESTORE_CNT ∧ t.get Rg.EM_STATUS_LAST_RESULT = 1) ∧
  (∀ (s : State) (m : Master) (n : VE) (v : Word), MayWrite s m (Rg.VE_CTRL_SRESET n).addr 4 →
    (s.veState n = 1 ∨ s.veState n = 4 → Accepted (.sreset m n v) s m (s.modEng n Engine.cold)) ∧
    (s.veState n ≠ 1 → s.veState n ≠ 4 → Refused (.sreset m n v) s m)) ∧
  (∀ (s : State) (n : VE) (c : Chk), s.held = false → s.storeErr = [] → NoneServed s → Tab.get s.chks n.val none = some c →
    c.sent = true → c.poison = false → s.get Rg.EM_CHK_BASE % 4096 = 0 → c.frame < 2 ^ 64 →
    Answers (.checkpointTrailerWrite n) s fun t =>
      t.stBytes (s.chkHalf c.slot c.frame + 0x11400) 16 = chkTrailer c.frame c.crc c.slot n.val ∧
      t.get (Rg.VE_CHK_FRAME_LO n) + t.get (Rg.VE_CHK_FRAME_HI n) * 2 ^ 32 = c.frame ∧ Tab.get t.chks n.val none = none) ∧
  (∀ (s : State) (n : VE) (c : Chk), s.held = false → NoneServed s → Tab.get s.chks n.val none = some c → c.sent = true →
    c.poison = true →
    Answers (.checkpointTrailerWrite n) s fun t => t = { s with chks := t.chks } ∧ Tab.get t.chks n.val none = none) ∧
  ∀ (s : State) (n : VE), s.held = false → NoneServed s → Tab.get s.chks n.val none = none → Ignored (.checkpointTrailerWrite n) s

/-- Blotter's tests and the leaky buckets (R395, R401 to R407). A test is refused while one of its kind runs, for a target
that the table does not have or an engine that is OFF (assumption 57: the model's choice), and with no spare bank; an LBIST of a
RETIRED engine tests it in place, one of an ACTIVE engine, or of one a migration has taken, asks for its migration first. A march
of the spare is accepted during a rotation step and begins after it, and a step asked for meanwhile begins after the march
(assumption 35: the model's choice). A test that passes raises DONE and returns its engine to SPARE; one that fails raises FAIL
(assumption 57), and retires the bank it tested. The automatic LBIST takes the next SPARE engine. The drydown top note, or a
migration that finds no SPARE engine, abandons an LBIST, whose engine returns to SPARE. Completes: BUCKET_LEAK, LBIST,
MBIST_SPARE, MBIST_ROTATION, LOOPBACK, LBIST_DONE, MBIST_DONE, LOOPBACK_DONE, AUTO_LBIST, TEST_ABORT. -/
def Obligations.SelfTestsReportTheirResult : Prop :=
  (∀ s : State, s.held = false →
    (s.polLeak < max (s.get Rg.RL_CFG_LEAK_FRAMES) 1 → Ignored .bucketLeak s) ∧
    (max (s.get Rg.RL_CFG_LEAK_FRAMES) 1 ≤ s.polLeak → Answers .bucketLeak s fun t =>
      t.polLeak = s.polLeak - max (s.get Rg.RL_CFG_LEAK_FRAMES) 1 ∧
      ∀ b, b < 330 → t.get (Rg.RL_BKT_COUNT b) = (s.get (Rg.RL_BKT_COUNT b) - 1) % 2 ^ 9)) ∧
  (∀ (s : State) (m : Master) (x : BitVec 13), MayWrite s m Rg.BL_CMD_OP.addr 4 →
    (68 ≤ x.toNat ∨ s.get Rg.BL_STATUS_LBIST = 1 ∨ s.veState x.toNat = 0 → Refused (.lbist m x) s m) ∧
    (x.toNat < 68 → s.get Rg.BL_STATUS_LBIST ≠ 1 → s.veState x.toNat = 1 → s.untaken x.toNat = true → Answers (.lbist m x) s fun t =>
      t.blLbist = some x.toNat ∧ t.get Rg.BL_STATUS_LBIST = 1 ∧ t.get Rg.BL_STATUS_LBIST_VE = x.toNat ∧
      t.veState x.toNat = 3) ∧
    (x.toNat < 68 → s.get Rg.BL_STATUS_LBIST ≠ 1 → s.veState x.toNat = 4 → Answers (.lbist m x) s fun t =>
      t.blLbist = some x.toNat ∧ t.get Rg.BL_STATUS_LBIST = 1 ∧ t.get Rg.BL_STATUS_LBIST_VE = x.toNat ∧
      t.veState x.toNat = 4) ∧
    (∀ k, x.toNat < 68 → s.get Rg.BL_STATUS_LBIST ≠ 1 →
      s.veState x.toNat = 2 ∨ s.veState x.toNat = 1 ∧ s.untaken x.toNat = false → s.slotOf x.toNat = some k → s.locked = true →
      s.restores = [] → s.migReqs = [] → Answers (.lbist m x) s fun t => t.blLbist = some x.toNat ∧ t.get Rg.BL_STATUS_LBIST = 1 ∧
        t.veState x.toNat = s.veState x.toNat ∧ t.migReqs = [⟨k, none, .blotter, s.dueNow, false⟩]) ∧
    (x.toNat = 8191 → Refused (.mbistRotation m x) s m) ∧
    (s.flag Rg.ST_STATUS_NO_SPARE = true ∨ s.get Rg.BL_STATUS_MBIST = 1 →
      Refused (.mbistSpare m x) s m ∧ Refused (.mbistRotation m x) s m) ∧
    (s.flag Rg.ST_STATUS_NO_SPARE = false → s.get Rg.BL_STATUS_MBIST ≠ 1 →
      (s.blMbist = none → s.rot = .idle → Accepted (.mbistSpare m x) s m
        ((s.set Rg.BL_STATUS_MBIST 1).set Rg.BL_STATUS_MBIST_PHYS (s.get Rg.ST_STATUS_SPARE_PHYS))) ∧
      (s.rot ≠ .idle → Accepted (.mbistSpare m x) s m (s.set Rg.BL_STATUS_MBIST 1)) ∧
      (x ≠ 8191 → s.rot = .idle → s.rotWant = [] → s.get Rg.DD_STATUS_TIER = 0 → Answers (.mbistRotation m x) s fun t =>
        t.blMbist = some x.toNat ∧ t.get Rg.BL_STATUS_MBIST = 1 ∧ t.rot = .copying x.toNat (s.physOf x.toNat))) ∧
    (128 ≤ x.toNat ∨ s.get Rg.BL_STATUS_LOOP = 1 ∨ s.lnState x.toNat ∉ [0, 4, 5] → Refused (.loopback m x) s m) ∧
    (x.toNat < 128 → s.get Rg.BL_STATUS_LOOP ≠ 1 → s.lnState x.toNat ∈ [0, 4, 5] →
      Accepted (.loopback m x) s m ((s.set Rg.BL_STATUS_LOOP 1).set Rg.BL_LOOP_LANE x.toNat))) ∧
  (∀ (s : State) (sig : DWord), s.held = false →
    (s.blLbist = none → Ignored (.lbistDone sig) s) ∧
    (∀ n : VE, s.blLbist = some n.val → s.veState n = 3 → NoneServed s →
      sig.toNat = s.get2 Rg.BL_LBIST_EXP_LO Rg.BL_LBIST_EXP_HI →
      Answers (.lbistDone sig) s fun t => t.blLbist = none ∧ t.get Rg.BL_STATUS_LBIST = 2 ∧
        t.get (Rg.BL_VE_RESULT n) = 1 ∧ t.veState n = 1 ∧ t.get Rg.BL_INT_STATUS_DONE = 1 ∧
        t.get2 Rg.BL_LBIST_SIG_LO Rg.BL_LBIST_SIG_HI = sig.toNat ∧ (t.eng n).sregs = []) ∧
    (∀ n : VE, s.blLbist = some n.val → (s.veState n = 3 ∨ s.veState n = 4) → NoneServed s →
      sig.toNat ≠ s.get2 Rg.BL_LBIST_EXP_LO Rg.BL_LBIST_EXP_HI →
      Answers (.lbistDone sig) s fun t => t.blLbist = none ∧ t.get Rg.BL_STATUS_LBIST = 3 ∧
        t.get (Rg.BL_VE_RESULT n) = 2 ∧ t.veState n = 4 ∧ t.get Rg.BL_INT_STATUS_FAIL = 1)) ∧
  (∀ s : State, s.held = false →
    (s.get Rg.BL_STATUS_MBIST ≠ 1 ∨ s.blMbist ≠ none ∨ s.rot ≠ .idle → ∀ pass, Ignored (.mbistDone pass) s) ∧
    (s.get Rg.BL_STATUS_MBIST = 1 → s.blMbist = none → s.rot = .idle →
      (s.rotWant = [] → exec (.mbistDone true) s = .next ((s.set Rg.BL_STATUS_MBIST 2).set Rg.BL_INT_STATUS_DONE 1)) ∧
      (∀ b r, s.rotWant = some b :: r → s.flag Rg.ST_STATUS_NO_SPARE = false → s.get Rg.DD_STATUS_TIER = 0 →
        Answers (.mbistDone true) s fun t => t.get Rg.BL_STATUS_MBIST = 2 ∧ t.rot = .copying b (s.physOf b) ∧ t.rotWant = r) ∧
      Answers (.mbistDone false) s fun t => t.get Rg.BL_STATUS_MBIST = 3 ∧ t.get Rg.BL_INT_STATUS_FAIL = 1 ∧
        t.flag Rg.ST_STATUS_NO_SPARE = true ∧ t.flag Rg.ST_RETIRED_VALID = true ∧ t.rotWant = [] ∧
        t.get Rg.ST_RETIRED_PHYS = s.get Rg.BL_STATUS_MBIST_PHYS % 2 ^ 13) ∧
    (s.get Rg.BL_STATUS_LOOP ≠ 1 → ∀ e, Ignored (.loopbackDone e) s) ∧
    (∀ e : Word, s.get Rg.BL_STATUS_LOOP = 1 → NoLoopWait s → (s.lane (s.get Rg.BL_LOOP_LANE)).ret ≠ some .loopback →
      Answers (.loopbackDone e) s fun t => t.get Rg.BL_LOOP_ERR = e.toNat ∧
        (e = 0 → t.get Rg.BL_STATUS_LOOP = 2 ∧ t.get Rg.BL_INT_STATUS_DONE = 1) ∧
        (e ≠ 0 → t.get Rg.BL_STATUS_LOOP = 3 ∧ t.get Rg.BL_INT_STATUS_FAIL = 1) ∧
        OnlyFields [Rg.BL_LOOP_ERR, Rg.BL_STATUS_LOOP, Rg.BL_INT_STATUS_DONE, Rg.BL_INT_STATUS_FAIL] s t) ∧
    (s.flag Rg.BL_CTRL_AUTO_EN = false ∨ s.get Rg.DD_STATUS_TIER ≠ 0 ∨ s.get Rg.BL_STATUS_LBIST = 1 ∨
      s.nextSpare s.blLast = none → Ignored .autoLbist s) ∧
    (∀ n, s.flag Rg.BL_CTRL_AUTO_EN = true → s.get Rg.DD_STATUS_TIER = 0 → s.get Rg.BL_STATUS_LBIST ≠ 1 →
      s.nextSpare s.blLast = some n → Answers .autoLbist s fun t => t.blLast = n ∧ t.blLbist = some n ∧
        t.veState n = 3 ∧ t.get Rg.BL_STATUS_LBIST = 1)) ∧
  ∀ s : State, s.held = false →
    (s.get Rg.DD_STATUS_TIER = 0 → s.migReqs = [] → Ignored .testAbort s) ∧
    (∀ (n : VE) (k : Nat) (w : Bool), s.get Rg.DD_STATUS_TIER = 0 → s.migReqs = [⟨k, none, .policy, 1, w⟩] →
      (∀ j, j < 68 → s.veState j ≠ 1) → s.blLbist = some n.val → s.veState n = 3 → Answers .testAbort s fun t =>
        t.blLbist = none ∧ t.veState n = 1 ∧ t.get Rg.BL_STATUS_LBIST = 4 ∧ t.get (Rg.BL_VE_RESULT n) = 3 ∧
        t.get Rg.BL_INT_STATUS_ABORTED = 1 ∧ t.migReqs = s.migReqs) ∧
    ∀ n : VE, s.get Rg.DD_STATUS_TIER ≠ 0 → s.blLbist = some n.val → s.veState n = 3 → s.get Rg.BL_STATUS_MBIST ≠ 1 →
      s.get Rg.BL_STATUS_LOOP ≠ 1 → Answers .testAbort s fun t => t.blLbist = none ∧ t.veState n = 1 ∧
        t.get Rg.BL_STATUS_LBIST = 4 ∧ t.get (Rg.BL_VE_RESULT n) = 3 ∧ t.get Rg.BL_INT_STATUS_ABORTED = 1
/-- Drydown (R440, R441, R443, R444, R445, R464). Each sample of VDD_CORE is shown, with the lowest, and counted towards the
threshold of each tier that it lies below; the samples come with the two rows that tiers are entered and left by (assumption 115: the
model's choice). With EN 1 the deepest tier is entered that `SUSTAIN_US` of samples lie below, each tier passed being counted
(assumption 65: the model's choice): the top note pauses readout, the heart note cancels the migrations that wait, and waits for
cc 0 in LOCKED, the base note stops the programs of an evaluation that has not come to its words. A sample below the present
tier's limit returns its count of good frames to 0; a frame that ends counts where it was whole and each of its samples good, and
the one that completes `GOOD_FRAMES` leaves the tier, at cc 0 or, outside LOCKED, after 2,048 mc. FORCE enters at least its
tier, and holds it: one that holds the present tier returns the count to 0 (assumption 65). Engines powered on come back
with their counters at their reset values. Completes: DRYDOWN_TIER_ENTER, DRYDOWN_TIER_LEAVE, DRYDOWN_FORCE,
ENGINE_POWER_READY. -/
def Obligations.DrydownTiersFollowR440 : Prop :=
  (∀ (s : State) (r : SampleRun) (l : List SampleRun), s.held = false → Ignored (.drydownTierEnter []) s ∧
    Ignored (.drydownTierLeave []) s ∧ exec (.drydownTierEnter (r :: l)) s = exec (.drydownTierEnter l) (s.ddRun r) ∧
    exec (.drydownTierLeave (r :: l)) s = exec (.drydownTierLeave l) (s.ddRun r)) ∧
  (∀ (c : Instr) (s : State) (r : SampleRun), c = .drydownTierEnter [r] ∨ c = .drydownTierLeave [r] → s.held = false →
    (r.n = 0 → Ignored c s) ∧
    (r.n ≠ 0 → Answers c s fun t => t.get Rg.DD_VCORE_MV = r.mv.toNat ∧
      t.get Rg.DD_VCORE_MIN_MV = min r.mv.toNat (s.get Rg.DD_VCORE_MIN_MV) ∧
      ∀ k, 1 ≤ k → k ≤ 3 → Tab.get t.dd.runs k 0 = samplesBelow s r k) ∧
    (r.n ≠ 0 → s.flag Rg.DD_CTRL_EN = false ∨ (∀ k, s.get Rg.DD_STATUS_TIER < k → k ≤ 3 → crosses s r k = false) →
      Answers c s fun t => OnlyFields [Rg.DD_VCORE_MV, Rg.DD_VCORE_MIN_MV, Rg.DD_STATUS_GOOD] { s with dd := t.dd } t ∧
        t.dd.minMv = min r.mv.toNat s.dd.minMv ∧
        (s.ddThreshold (s.get Rg.DD_STATUS_TIER) + s.get Rg.DD_CFG_HYST_MV ≤ r.mv.toNat →
          t.get Rg.DD_STATUS_GOOD = s.get Rg.DD_STATUS_GOOD ∧ t.dd.badFrame = s.dd.badFrame) ∧
        (r.mv.toNat < s.ddThreshold (s.get Rg.DD_STATUS_TIER) + s.get Rg.DD_CFG_HYST_MV →
          t.get Rg.DD_STATUS_GOOD = 0 ∧ t.dd.badFrame = true)) ∧
    (r.n ≠ 0 → s.flag Rg.DD_CTRL_EN = true →
      (s.get Rg.DD_STATUS_TIER = 0 → crosses s r 1 = true → crosses s r 2 = false → crosses s r 3 = false → NoTest s →
        Answers c s fun t => AtTopNote s t ∧ t.dd.minMv = r.mv.toNat) ∧
      (s.get Rg.DD_STATUS_TIER = 1 → crosses s r 2 = true → crosses s r 3 = false → s.locked = true →
        Answers c s fun t => t.get Rg.DD_STATUS_TIER = 2 ∧ t.dd.heartDue = true ∧ t.migReqs = [] ∧
          t.get Rg.DD_HEART_CNT = counted s Rg.DD_HEART_CNT ∧ t.get Rg.DD_INT_STATUS_DEEPER = 1 ∧
          t.dd.path = Nat.lor s.dd.path 2 ∧ t.dd.since = 0) ∧
      (s.get Rg.DD_STATUS_TIER = 0 → crosses s r 2 = true → crosses s r 3 = false → s.locked = true → NoTest s →
        Answers c s fun t => t.get Rg.DD_STATUS_TIER = 2 ∧ t.dd.heartDue = true ∧ t.migReqs = [] ∧ t.dd.path = 3 ∧
          t.get Rg.DD_TOP_CNT = counted s Rg.DD_TOP_CNT ∧ t.get Rg.DD_HEART_CNT = counted s Rg.DD_HEART_CNT) ∧
      (s.get Rg.DD_STATUS_TIER = 2 → crosses s r 3 = true → s.locked = true →
        (s.ft.evalRun = false ∨ 3 ≤ s.ft.phase → Answers c s fun t => t.get Rg.DD_STATUS_TIER = 3 ∧
          t.get Rg.DD_BASE_CNT = counted s Rg.DD_BASE_CNT ∧ t.dd.path = Nat.lor s.dd.path 4 ∧ t.ft = s.ft) ∧
        (s.ft.evalRun = true → s.ft.phase < 3 → Answers c s fun t => t.get Rg.DD_STATUS_TIER = 3 ∧
          t.get Rg.DD_BASE_CNT = counted s Rg.DD_BASE_CNT ∧ t.ft.baseStop = true ∧ ∀ n : VE, (t.eng n).run = false ∨
            s.slotOf n = none)))) ∧
  (∀ (s : State) (o : Nat), s.get Rg.DD_STATUS_TIER = o → o ≠ 0 →
    (s.held = false → s.tmrFire = [] → (∀ n : Fin 8, s.get (Rg.TMR_CTRL_SRC n) ≠ 0) → s.locked = false → (s.mc + 1) % 2048 = 0 →
      (goodFrame s = false → Answers .timerTick s fun t => t.get Rg.DD_STATUS_GOOD = 0 ∧ t.get Rg.DD_STATUS_TIER = o) ∧
      (goodFrame s = true → s.get Rg.DD_STATUS_GOOD + 1 < max 1 (s.get Rg.DD_CFG_GOOD_FRAMES) → s.get Rg.DD_STATUS_GOOD < 255 →
        Answers .timerTick s fun t => t.get Rg.DD_STATUS_GOOD = s.get Rg.DD_STATUS_GOOD + 1 ∧ t.get Rg.DD_STATUS_TIER = o) ∧
      (goodFrame s = true → s.get Rg.DD_STATUS_GOOD + 1 = max 1 (s.get Rg.DD_CFG_GOOD_FRAMES) → s.get Rg.DD_STATUS_GOOD < 255 →
        Answers .timerTick s fun t => t.get Rg.DD_STATUS_TIER = o - 1 ∧ t.get Rg.DD_STATUS_GOOD = 0 ∧
          t.get Rg.DD_INT_STATUS_LIGHTER = 1 ∧ (o = 1 → ∀ r : Fin 16, t.flag (Rg.RD_STATUS_PAUSED r) = false))) ∧
    (s.held = false → s.locked = true → s.ft.phase = 5 → s.ft.inFrame = s.frameF → s.ft.crossOpen = false →
      s.ft.unlockReq = false → s.staged = [] → s.migReqs = [] → s.copies = [] → s.restores = [] →
      (goodFrame s = false → Answers .frameTick s fun t => t.get Rg.DD_STATUS_GOOD = 0 ∧ t.get Rg.DD_STATUS_TIER = o) ∧
      (goodFrame s = true → s.get Rg.DD_STATUS_GOOD + 1 = max 1 (s.get Rg.DD_CFG_GOOD_FRAMES) → s.get Rg.DD_STATUS_GOOD < 255 →
        Answers .frameTick s fun t => t.get Rg.DD_STATUS_TIER = o - 1 ∧ t.get Rg.DD_STATUS_GOOD = 0 ∧
          t.get Rg.DD_INT_STATUS_LIGHTER = 1))) ∧
  (∀ (s : State) (m : Master) (tier : BitVec 2) (v : Word), MayWrite s m Rg.DD_CTRL_EN.addr 4 →
    (tier.toNat < s.get Rg.DD_STATUS_TIER → Accepted (.drydownForce m tier v) s m
      ((s.set Rg.DD_CTRL_EN (v.toNat % 2)).set Rg.DD_CTRL_FORCE tier.toNat)) ∧
    (tier.toNat = s.get Rg.DD_STATUS_TIER → Answers (.drydownForce m tier v) s fun t => t.get Rg.DD_CTRL_EN = v.toNat % 2 ∧
      t.get Rg.DD_CTRL_FORCE = tier.toNat ∧ t.get Rg.DD_STATUS_GOOD = 0 ∧ t.dd = { s.dd with badFrame := true }) ∧
    (s.get Rg.DD_STATUS_TIER = 0 → tier = 1 → NoTest s → Answers (.drydownForce m tier v) s fun t =>
      AtTopNote s t ∧ t.get Rg.DD_CTRL_FORCE = 1)) ∧
  ∀ s : State, s.held = false →
    (s.dd.power = [] → Ignored .enginePowerReady s) ∧
    (s.dd.power ≠ [] → s.locked = true →
      exec .enginePowerReady s = .next { s with dd := { s.dd with ready := true } }) ∧
    ∀ n : VE, s.dd.power = [n.val] → s.locked = false → s.slotOf n = none → s.copies = [] → s.restores = [] →
      Answers .enginePowerReady s fun t => t.veState n = 1 ∧ t.get Rg.DD_STATUS_POWERING = 0 ∧ t.dd.power = [] ∧
        ∀ k, k < 128 → t.get (Rg.EC_LO n k) = (Rg.EC_LO n k).rst ∧ t.get (Rg.EC_SEL n k) = (Rg.EC_SEL n k).rst

/-- Resets (R438, R439, R446, R448 to R451, R465, R500). PORST_N low for at least 5 µs, a supply below its threshold, the crystal
stopped, and the final threshold each reset the device and show their cause, and no other one, the crystal as POR (assumption 90:
the model's choice); a pulse below 1 µs, a supply at its threshold, and a sample at or above the final threshold do nothing. A supply
below its threshold counts as low until it has come 15 mV above it; VDD_CORE resets by the final step alone. `RST_BLK` resets the
idle block that it names: a lane's link logic, but for its return under way and the frames it lost (assumption 62: the model's
choice), a readout channel's state, a CRC unit's registers, the flash controller, whose INDEX is 0 (assumption 128: the model's
choice); a block that is not idle is refused and counted. Completes: PORST, SUPPLY_LOW, CRYSTAL_STOP, FINAL_SAG, LANE_BLOCK_RESET,
READOUT_BLOCK_RESET, CRC_BLOCK_RESET, FLASH_BLOCK_RESET. -/
def Obligations.ResetsFollowR448 : Prop :=
  (∀ (s : State) (ns : Word),
    (ns.toNat < 1000 → Ignored (.porst ns) s) ∧
    (5000 ≤ ns.toNat → Answers (.porst ns) s fun t => AfterReset s t Rg.RST_CAUSE_PIN)) ∧
  (∀ (s : State) (k : Fin 6) (mv : BitVec 12),
    (supplyThr k ≤ mv.toNat → mv.toNat < supplyThr k + 15 → Ignored (.supplyLow k mv) s) ∧
    (supplyThr k + 15 ≤ mv.toNat → exec (.supplyLow k mv) s = .next { s with supplyLow := s.supplyLow.filter (· ≠ k.val) }) ∧
    (mv.toNat < supplyThr k → k ≠ 5 → Answers (.supplyLow k mv) s fun t => AfterReset s t Rg.RST_CAUSE_SUPPLY ∧
      k.val ∈ t.supplyLow) ∧
    (mv.toNat < supplyThr k → k = 5 → Answers (.supplyLow k mv) s fun t => t = { s with supplyLow := t.supplyLow } ∧
      5 ∈ t.supplyLow)) ∧
  (∀ s : State, Answers .crystalStop s fun t => AfterReset s t Rg.RST_CAUSE_POR) ∧
  (∀ (s : State) (mv : BitVec 10) (us : Word) (ops : BitVec 4),
    (s.held = true ∨ s.get Rg.DD_THR1_FINAL_MV ≤ mv.toNat → Ignored (.finalSag mv us ops) s) ∧
    (s.held = false → mv.toNat < s.get Rg.DD_THR1_FINAL_MV →
      Answers (.finalSag mv us ops) s fun t => AfterReset s t Rg.RST_CAUSE_FINAL ∧ (mv.toNat < 670 → 5 ∈ t.supplyLow))) ∧
  ∀ (s : State) (m : Master) (i : BitVec 7), MayWrite s m Rg.RST_BLK_KIND.addr 4 →
    (∀ c k, (c, k) ∈ [(Instr.laneBlockReset m i, 1), (.readoutBlockReset m i, 2), (.crcBlockReset m i, 3),
        (.flashBlockReset m i, 4)] → s.blockIdle k i.toNat = false →
      Answers c s fun t => t.get Rg.RST_BLK_DENY_CNT = counted s Rg.RST_BLK_DENY_CNT ∧
        t.resp = some { master := m, code := 4, data := 0 } ∧ OnlyFields [Rg.RST_BLK_DENY_CNT] { s with resp := t.resp } t) ∧
    (s.blockIdle 1 i.toNat = true → Answers (.laneBlockReset m i) s fun t => t.regs = s.regs ∧
      t.lane i.toNat = { ret := (s.lane i.toNat).ret, lost := (s.lane i.toNat).lost } ∧
      ∀ l : Lane, l.val ≠ i.toNat → t.lane l = s.lane l) ∧
    (s.blockIdle 2 i.toNat = true → Answers (.readoutBlockReset m i) s fun t =>
      t.flag (Rg.RD_STATUS_HALTED i.toNat) = false ∧ t.flag (Rg.RD_STATUS_PAUSED i.toNat) = false ∧
      t.flag (Rg.RD_STATUS_WAITING i.toNat) = false ∧ Tab.get t.rdHold i.toNat none = none) ∧
    (s.blockIdle 3 i.toNat = true → Answers (.crcBlockReset m i) s fun t =>
      ∀ f : Fld, f.lo < 64 → (InCrcUnit i.toNat f → t.get f = f.rst) ∧ (¬ InCrcUnit i.toNat f → t.get f = s.get f)) ∧
    (s.blockIdle 4 i.toNat = true → Answers (.flashBlockReset m i) s fun t => t.jnl = {} ∧
      t.flag Rg.JNL_STATUS_READY = false ∧ t.flash = s.flash ∧
      OnlyFields [Rg.JNL_STATUS_READY] { s with resp := t.resp, jnl := {} } t)
/-- Boot (R439, R452, R453, R458, R460, R462, R465, R474). While a supply lies low a release does nothing; one that no reset
came before shows POR (assumption 90: the model's choice). A released RETIRED device loads nothing and drives FAULT_N low, which
stays so (assumption 91: the model's choice); straps 0 and 7
make the ROM wait for an image; a flash without usable tables, or without a directory, is RESULT 1 or 2, and the ROM waits. GO
of `HB_LOAD` has the image checked: one that is too long is RESULT 9, one that fails a check shows which, the first in the order
of assumption 92 (the model's choice), and the ROM waits
again; an accepted one runs from its entry, or waits for `BOOT_GO`, which only the host side may give (assumption 96: the model's
choice). `BOOT_CONFIRM` is
recorded in the backup domain. Completes: RESET_RELEASE, BOOT_CONFIRM, BOOT_GO, HOST_LOAD_GO. -/
def Obligations.BootFollowsR453 : Prop :=
  (∀ (s : State) (b : BootIn),
    (s.boot ≠ none ∨ s.supplyLow ≠ [] → Ignored (.resetRelease b) s) ∧
    (s.boot = none → s.supplyLow = [] → s.get Rg.LC_STATE_STATE = 3 ∨ b.code.toNat / 4 = 0 → Answers (.resetRelease b) s fun t =>
      t.get Rg.RST_CAUSE_POR = if s.get Rg.RST_CAUSE_PIN = 0 ∧ s.get Rg.RST_CAUSE_FINAL = 0 ∧ s.get Rg.RST_CAUSE_SUPPLY = 0
        then 1 else s.get Rg.RST_CAUSE_POR) ∧
    (s.boot = none → s.supplyLow = [] → s.get Rg.LC_STATE_STATE = 3 → Answers (.resetRelease b) s fun t =>
      t.held = false ∧ t.faultLow = true ∧ t.rom = s.rom ∧ t.tri = s.tri ∧ t.get Rg.STRAP_CODE = b.code.toNat) ∧
    (s.boot = none → s.supplyLow = [] → s.get Rg.LC_STATE_STATE ≠ 3 → b.code.toNat / 4 = 0 ∨ b.code.toNat / 4 = 7 →
      Answers (.resetRelease b) s fun t => AwaitsImage t ∧ t.held = false ∧ t.boot = some b ∧ t.faultLow = s.faultLow ∧ t.tri = s.tri ∧
        t.get Rg.STRAP_CODE = b.code.toNat ∧ t.get Rg.STRAP_CHOICE = b.code.toNat / 4) ∧
    (s.boot = none → s.supplyLow = [] → s.get Rg.LC_STATE_STATE ≠ 3 → 1 ≤ b.code.toNat / 4 → b.code.toNat / 4 ≤ 6 →
      ((∀ i, b.sfdp = some i → i.usable = false) → Answers (.resetRelease b) s fun t =>
        AwaitsImage t ∧ t.faultLow = true ∧ t.get Rg.BOOT_STATUS_RESULT = 1) ∧
      ∀ i, b.sfdp = some i → i.usable = true → s.flashDir = none → Answers (.resetRelease b) s fun t =>
        AwaitsImage t ∧ t.faultLow = true ∧ t.get Rg.BOOT_STATUS_RESULT = 2 ∧ t.flashInfo = i)) ∧
  (∀ (s : State) (m : Master) (v : Word), MayWrite s m Rg.BOOT_CONFIRM.addr 4 →
    Accepted (.bootConfirm m v) s m (s.set Rg.BK_BOOT_CONFIRMED 1)) ∧
  (∀ (s : State) (m : Master) (v : Word) (b : BootIn), MayWrite s m Rg.BOOT_GO.addr 4 → s.romGo = none → s.boot = some b →
    (hostSide m = false ∨ s.rom = .none ∨ s.rom = .load → Accepted (.bootGo m v) s m s) ∧
    ∀ entry, s.rom = .go entry false → hostSide m = true → Answers (.bootGo m v) s fun t =>
      RunsFrom t entry ∧ t.get Rg.BOOT_TIME_US = b.timeUs.toNat) ∧
  ∀ (s : State) (m : Master) (v : Word) (b : BootIn), MayWrite s m Rg.HB_LOAD_GO.addr 4 → s.romGo = none →
    s.boot = some b → s.storeErr = [] →
    (s.rom = .none ∨ s.flag Rg.HB_LOAD_READY = false → Accepted (.hostLoadGo m v none) s m s) ∧
    (s.rom = .load → s.flag Rg.HB_LOAD_READY = true → Answers (.hostLoadGo m v none) s fun t =>
      if imageMax < s.get Rg.HB_LOAD_LEN then AwaitsImage t ∧ t.get Rg.BOOT_STATUS_RESULT = 9
      else if s.imageResult (s.stBytes stageLo (s.get Rg.HB_LOAD_LEN)) (s.get Rg.HB_LOAD_LEN) ≠ 0 then
        AwaitsImage t ∧ t.get Rg.BOOT_STATUS_RESULT =
          s.imageResult (s.stBytes stageLo (s.get Rg.HB_LOAD_LEN)) (s.get Rg.HB_LOAD_LEN)
      else t.romGo = none ∧ (s.get Rg.STRAP_CHOICE ≠ 6 →
        RunsFrom t (imgNat (s.stBytes stageLo (s.get Rg.HB_LOAD_LEN)) 0x14 4)))

/-- The PCIe endpoint and the SMBus target (R466, R467, R468, R469, R470, R471, R472, R473, R475, R476, R484, R496). A BAR access
reaches its target in D0: a read completes with the data or with the status of its error, which is counted, an unmapped offset
with Unsupported Request (assumption 98: the model's choice); in D3hot a read has that status and a write is dropped (assumption
99: the model's choice). The configuration space reads the endpoint's identifiers, and its Link Control holds the host's ASPM
setting (assumption 134: presumed). A PCIE_PERST_N that its filter passes (assumptions 116, 130: the model's choice) resets the
link, and DSTATE and the speed shown are as assumption 99 says; outside the host's setting the link enters no L1 in D0, and at L0
it reports 10 µs. A wake is pending in D3, once for each channel that waits, and is merged with a host exit under way. A message
is sent, or its pending bit set. A telemetry read answers from the snapshot that the command carries, with its PEC where it is asked
for (assumption 100: the model's choice). Completes: BAR_ACCESS, PCIE_PERST, HOST_EXIT, DSTATE_CHANGE, LINK_STATE_CHANGE, WAKE_REQ,
MSI_TRIG, SMBUS_TRANSACTION, SMBUS_TIMEOUT. -/
def Obligations.HostPortsFollowR467 : Prop :=
  (∀ (s : State) (r : BarReq) (c : CfgReg), s.held = false → s.romGo = none → r.up = none → r.cfg = some c →
    (s.flag Rg.HB_STATUS_PERST = true ∨ 4 ≤ s.get Rg.HB_STATUS_LSTATE ∨ s.get Rg.HB_STATUS_DSTATE = 2 →
      Ignored (.barAccess r) s) ∧
    (∀ d, BarOpen s d → d ≠ 2 →
      (r.write = none → exec (.barAccess r) s = .next (s.emit (.completion 0 (s.cfgRead c)))) ∧
      (∀ w, r.write = some w → c = .linkControl →
        exec (.barAccess r) s = .next ({ s with aspm := w.toNat.testBit 1 }.emit (.completion 0 0))) ∧
      (∀ w, r.write = some w → c ≠ .linkControl → c ≠ .aerCorrectable →
        exec (.barAccess r) s = .next (s.emit (.completion 0 0)))) ∧
    s.cfgRead .ids / 2 ^ 16 = 0x8191 ∧ s.cfgRead .revClass = 0x118000B0 ∧ (s.cfgRead .linkControl = 2 ↔ s.aspm = true)) ∧
  (∀ (s : State) (r : BarReq), s.held = false → s.romGo = none → r.up = none → r.cfg = none →
    (s.flag Rg.HB_STATUS_PERST = true ∨ 4 ≤ s.get Rg.HB_STATUS_LSTATE ∨ s.get Rg.HB_STATUS_DSTATE = 2 →
      Ignored (.barAccess r) s) ∧
    (BarOpen s 1 → r.write = none → exec (.barAccess r) s = .next (s.emit (.completion 1 0))) ∧
    (BarOpen s 1 → r.write ≠ none → Ignored (.barAccess r) s) ∧
    (BarOpen s 0 → s.barTarget r.bar2 r.addr.toNat = .nothing →
      (r.write = none → exec (.barAccess r) s = .next (s.emit (.completion 1 0))) ∧
      (r.write ≠ none → Ignored (.barAccess r) s)) ∧
    (∀ o, BarOpen s 0 → s.barTarget r.bar2 r.addr.toNat = .msix o → r.write = none →
      exec (.barAccess r) s = .next (s.emit (.completion 0 (s.msixNat o (r.last.toNat + 1))))) ∧
    (∀ o, BarOpen s 0 → s.barTarget r.bar2 r.addr.toNat = .pba o → r.write = none → Answers (.barAccess r) s fun t =>
      ∃ v, t = s.emit (.completion 0 v) ∧ ∀ k : Fin 64, 8 * o ≤ k.val → k.val < 8 * (o + (r.last.toNat + 1)) →
        s.msixPend.Nodup → (v.testBit (k.val - 8 * o) = true ↔ k.val ∈ s.msixPend)) ∧
    (∀ a peek bs t, BarOpen s 0 → s.barTarget r.bar2 r.addr.toNat = .mgmt a peek → r.write = none →
      tlpSplit a (r.last.toNat + 1) = some [(a, r.last.toNat + 1)] → s.busGet 1 a (r.last.toNat + 1) peek = (.ok bs, t) →
      t.romGo = none → Answers (.barAccess r) s fun u => u.sent = .completion 0 (leNat bs) :: t.sent ∧ u.regs = t.regs) ∧
    (∀ a peek c t, BarOpen s 0 → s.barTarget r.bar2 r.addr.toNat = .mgmt a peek → r.write = none →
      tlpSplit a (r.last.toNat + 1) = some [(a, r.last.toNat + 1)] → s.busGet 1 a (r.last.toNat + 1) peek = (.error c, t) →
      t.romGo = none → Answers (.barAccess r) s fun u =>
        u.sent = .completion (if c = 0 then 0 else if c ≤ 2 then 1 else 2) 0 :: t.sent ∧
        u.get Rg.HB_ERR_CNT = counted t Rg.HB_ERR_CNT ∧ u.get Rg.HB_INT_STATUS_HOST_ERR = 1) ∧
    (∀ a peek d c t, BarOpen s 0 → s.barTarget r.bar2 r.addr.toNat = .mgmt a peek → r.write = some d →
      r.last.toNat < 512 → tlpSplit a (r.last.toNat + 1) = some [(a, r.last.toNat + 1)] →
      s.busPut 1 a (leBytes (r.last.toNat + 1) d.toNat) = (c, t) → t.romGo = none →
      Answers (.barAccess r) s fun u => u.sent = t.sent ∧ (c = 0 → u.regs = t.regs) ∧
        (c ≠ 0 → u.get Rg.HB_LAST_ERR_LO = a % 2 ^ 32 ∧ u.get Rg.HB_LAST_ERR_HI_CODE = c % 8 ∧
          u.get Rg.HB_LAST_ERR_HI_ADDR = a / 2 ^ 32 % 2 ^ 16 ∧ u.aerAdvisory = true ∧
          u.get Rg.HB_ERR_CNT = counted t Rg.HB_ERR_CNT))) ∧
  (∀ s : State, s.held = false →
    (s.sinceFilt s.perstMc < max (s.get Rg.PAD_FILT_PERST_FILT) 1 → Answers .pciePerst s fun t => t.perstMc < 256 ∧
      t = { s with perstMc := t.perstMc, freeCtr := s.freeCtr + 1 }) ∧
    (max (s.get Rg.PAD_FILT_PERST_FILT) 1 + 1 ≤ s.sinceFilt s.perstMc → Answers .pciePerst s fun t =>
      t.flag Rg.HB_STATUS_PERST = true ∧ t.get Rg.HB_STATUS_LSTATE = 5 ∧ t.get Rg.HB_STATUS_WIDTH = 0 ∧
      t.get Rg.HB_INT_STATUS_PERST = 1 ∧ t.perstMc < 256 ∧
      OnlyFields [Rg.HB_STATUS_PERST, Rg.HB_STATUS_LSTATE, Rg.HB_STATUS_WIDTH, Rg.HB_INT_STATUS_PERST]
        { s with hostExit := false, aspm := false, perstMc := t.perstMc, freeCtr := s.freeCtr + 1 } t) ∧
    (∀ mc : BitVec 8, s.flag Rg.HB_STATUS_PERST = false ∨ s.sinceFilt mc.toNat < max (s.get Rg.PAD_FILT_PERST_FILT) 1 →
      Ignored (.hostExit (.perst mc)) s) ∧
    (s.get Rg.HB_STATUS_LSTATE = 0 ∨ 5 ≤ s.get Rg.HB_STATUS_LSTATE → Ignored (.hostExit .link) s) ∧
    (s.flag Rg.HB_STATUS_WAKE_PENDING = false →
      (∀ mc : BitVec 8, s.flag Rg.HB_STATUS_PERST = true → max (s.get Rg.PAD_FILT_PERST_FILT) 1 + 1 ≤ s.sinceFilt mc.toNat →
        exec (.hostExit (.perst mc)) s = .next { s.set Rg.HB_STATUS_PERST 0 with hostExit := true }) ∧
      (1 ≤ s.get Rg.HB_STATUS_LSTATE → s.get Rg.HB_STATUS_LSTATE ≤ 4 →
        exec (.hostExit .link) s = .next { s with hostExit := true })) ∧
    (s.flag Rg.HB_STATUS_WAKE_PENDING = true → ∀ e : HostExit,
      (∀ mc, e = .perst mc →
        s.flag Rg.HB_STATUS_PERST = true ∧ max (s.get Rg.PAD_FILT_PERST_FILT) 1 + 1 ≤ s.sinceFilt mc.toNat) →
      (e = .link → 1 ≤ s.get Rg.HB_STATUS_LSTATE ∧ s.get Rg.HB_STATUS_LSTATE ≤ 4) →
      Answers (.hostExit e) s fun t => t.hostExit = true ∧
      t.flag Rg.HB_STATUS_WAKE_PENDING = false ∧ t.flag Rg.HB_STATUS_WAKE_MERGED = true ∧
      t.get Rg.HB_WAKE_MERGE_CNT = counted s Rg.HB_WAKE_MERGE_CNT ∧ t.get Rg.HB_INT_STATUS_WAKE_MERGED = 1) ∧
    (∀ d : Fin 3, s.get Rg.HB_STATUS_DSTATE = d.val → Ignored (.dstateChange d) s) ∧
    (∀ d : Fin 3, s.get Rg.HB_STATUS_DSTATE ≠ d.val →
      (d = 0 → s.msixPend = [] → exec (.dstateChange d) s =
        .next { (s.set Rg.HB_STATUS_DSTATE 0).set Rg.HB_INT_STATUS_DSTATE 1 with woken := [] }) ∧
      (d ≠ 0 → (∀ r ∈ s.hostWaits, r ∈ s.woken) ∨ s.flag Rg.HB_CTRL_WAKE_EN = false →
        exec (.dstateChange d) s = .next ((s.set Rg.HB_STATUS_DSTATE d).set Rg.HB_INT_STATUS_DSTATE 1)) ∧
      (∀ r, d ≠ 0 → s.hostWaits = [r] → r ∉ s.woken → s.flag Rg.HB_CTRL_WAKE_EN = true →
        Answers (.dstateChange d) s fun t => t.woken = s.woken ++ [r] ∧ t.get Rg.HB_STATUS_DSTATE = d.val ∧
          (s.hostExit = false → t.flag Rg.HB_STATUS_WAKE_PENDING = true) ∧
          (s.hostExit = true → t.flag Rg.HB_STATUS_WAKE_PENDING = false ∧
            t.get Rg.HB_WAKE_MERGE_CNT = counted s Rg.HB_WAKE_MERGE_CNT))) ∧
    (∀ (l : Fin 6) (sp : Fin 3) (w : Fin 4), 1 ≤ l.val → l.val ≤ 3 → s.get Rg.HB_STATUS_DSTATE = 0 → s.aspm = false →
      Ignored (.linkStateChange l sp w false) s) ∧
    ∀ (l : Fin 6) (sp : Fin 3) (w : Fin 4) (h : Bool), s.msixPend = [] →
      l.val = 0 ∨ 3 < l.val ∨ s.get Rg.HB_STATUS_DSTATE ≠ 0 ∨ h = true ∨ s.aspm = true →
      Answers (.linkStateChange l sp w h) s fun t =>
      t.get Rg.HB_STATUS_LSTATE = l.val ∧
      t.get Rg.HB_STATUS_WIDTH = (if l.val < 4 then 2 ^ w.val else 0) ∧
      (l.val < 4 → t.get Rg.HB_STATUS_SPEED = min sp.val (s.get Rg.HB_CTRL_MAX_SPEED)) ∧
      (l.val = 0 → s.get Rg.HB_STATUS_DSTATE = 0 → t.sent = .ltr 10 :: s.sent) ∧
      (s.get Rg.HB_STATUS_LSTATE = 0 → l.val ≠ 0 → h = false → t.get Rg.HB_INT_STATUS_LINK_DOWN = 1) ∧
      (l.val = 0 → t.flag Rg.HB_STATUS_WAKE_PENDING = false ∧ t.hostExit = false)) ∧
  (∀ (s : State) (m : Master) (v : Word),
    (MayWrite s m Rg.HB_WAKE_REQ.addr 4 →
      (s.flag Rg.HB_CTRL_WAKE_EN = false ∨ s.get Rg.HB_STATUS_DSTATE = 0 → Accepted (.wakeReq m v) s m s) ∧
      (s.flag Rg.HB_CTRL_WAKE_EN = true → s.get Rg.HB_STATUS_DSTATE ≠ 0 →
        (s.hostExit = false → Accepted (.wakeReq m v) s m (s.set Rg.HB_STATUS_WAKE_PENDING 1)) ∧
        (s.hostExit = true → Answers (.wakeReq m v) s fun t => t.flag Rg.HB_STATUS_WAKE_PENDING = false ∧
          t.flag Rg.HB_STATUS_WAKE_MERGED = true ∧ t.get Rg.HB_WAKE_MERGE_CNT = counted s Rg.HB_WAKE_MERGE_CNT))) ∧
    (MayWrite s m Rg.HB_MSI_TRIG_GO.addr 4 →
      (hostSide m = true → Accepted (.msiTrig m v) s m s) ∧
      (hostSide m = false → s.hostReady = true → s.msixByte (16 * (v.toNat % 64) + 12) % 2 = 0 →
        Answers (.msiTrig m v) s fun t => v.toNat % 64 ∉ t.msixPend ∧ t.sent = .msi (v.toNat % 64)
          (s.msixNat (16 * (v.toNat % 64)) 8) (s.msixNat (16 * (v.toNat % 64) + 8) 4) :: s.sent ∧ t.regs = s.regs) ∧
      (hostSide m = false → (s.hostReady = false ∨ s.msixByte (16 * (v.toNat % 64) + 12) % 2 = 1) →
        Answers (.msiTrig m v) s fun t => v.toNat % 64 ∈ t.msixPend ∧ t.sent = s.sent ∧ t.regs = s.regs))) ∧
  ∀ (s : State) (r : SmbReq) (x : Telemetry), s.held = false →
    exec .smbusTimeout s = .next (s.bump Rg.TM_SMB_ERR_CNT) ∧
    (s.flag Rg.TM_SMB_EN = false ∨ r.addr.toNat ≠ s.get Rg.TM_SMB_ADDR →
      exec (.smbusTransaction r x) s = .next (s.emit (.smbus false []))) ∧
    (s.flag Rg.TM_SMB_EN = true → r.addr.toNat = s.get Rg.TM_SMB_ADDR → Answers (.smbusTransaction r x) s fun t =>
      t.sensors = x.temps.toList.map BitVec.toInt ∧ t.supplies = x.supplies.toList.map BitVec.toNat ∧
      t.power = x.power.toNat ∧
      t.get Rg.TM_SMB_ERR_CNT = (if s.tmBad r then counted s Rg.TM_SMB_ERR_CNT else s.get Rg.TM_SMB_ERR_CNT) ∧
      (r.kind = .write → t.sent = .smbus true [] :: s.sent) ∧
      ∀ d, (r.kind = .readWord → (r.code = 0x12 → d = [s.lanesIn 2 % 256, s.lanesIn 2 / 256 % 256]) ∧
          (r.code = 0x0A → d = [x.supplies[0].toNat % 256, x.supplies[0].toNat / 256 % 256]) ∧
          (0x19 ≤ r.code.toNat → d = [0xFF, 0xFF])) →
        r.kind = .readWord → r.code = 0x12 ∨ r.code = 0x0A ∨ 0x19 ≤ r.code.toNat →
        t.sent = .smbus true (if r.pec = .absent then d else d ++ [smbPec r.addr.toNat r.code.toNat d]) :: s.sent)
/-- Debug halts (R480 to R483). In FIELD, HALT, STEP and RESUME are refused. HALT asks for a halt; STEP lets a halted core
execute one instruction, and does nothing to another; RESUME lets it go on, and after a cc 0 it waits for the next one. A halt takes
effect at a boundary at which interrupts could be taken; a lock that blocks it is broken, and a repetition then stops at its prefix;
a breakpoint halts an attached engine before its instruction, and is passed once after a STEP or RESUME (assumption 83: the
model's choice, as are the refusals in FIELD, the cores that are not halted and the wait for cc 0). Completes: ENGINE_HALT, ENGINE_STEP, ENGINE_RESUME, TRIAD_HALT,
TRIAD_STEP, TRIAD_RESUME, HALT_EFFECTIVE, LOCK_BREAK, BREAKPOINT. -/
def Obligations.HaltsFollowR480 : Prop :=
  (∀ (s : State) (m : Master) (n : VE) (v : Word), MayWrite s m (Rg.DBG_CTRL_HALT n).addr 4 →
    (s.inField = true → Refused (.engineHalt m n v) s m ∧ Refused (.engineStep m n v) s m ∧
      Refused (.engineResume m n v) s m) ∧
    (s.inField = false → v.toNat % 8 = 0 →
      Accepted (.engineHalt m n v) s m ((s.set (Rg.DBG_CTRL_ATTACH n) (v.toNat / 8 % 2)).modEng n fun e =>
        if e.halted = true ∨ e.haltReq.isSome = true then e else { e with haltReq := some 0 }) ∧
      Accepted (.engineStep m n v) s m ((s.set (Rg.DBG_CTRL_ATTACH n) (v.toNat / 8 % 2)).modEng n fun e =>
        if e.halted = true then { e with stepping := true, skipBp := true } else e) ∧
      ((s.eng n).halted = true → Answers (.engineResume m n v) s fun t =>
        (t.eng n).halted = false ∧ (t.eng n).pc = (s.eng n).pc ∧ t.flag (Rg.DBG_STATUS_HALTED n) = false ∧
        t.flag (Rg.DBG_STATUS_TICK_PASSED n) = false ∧
        (s.flag (Rg.DBG_STATUS_TICK_PASSED n) = true → (t.eng n).run = false) ∧
        (s.flag (Rg.DBG_STATUS_TICK_PASSED n) = false → (t.eng n).run = (s.eng n).run)))) ∧
  (∀ (s : State) (m : Master) (v : Word), MayWrite s m Rg.TD_CTRL_HALT.addr 4 →
    (s.inField = true → Refused (.triadHalt m v) s m ∧ Refused (.triadStep m v) s m ∧ Refused (.triadResume m v) s m) ∧
    (s.inField = false → v.toNat % 8 = 0 →
      Accepted (.triadHalt m v) s m (s.modEng triadNo fun e =>
        if e.halted = true ∨ e.haltReq.isSome = true then e else { e with haltReq := some 0 }) ∧
      Accepted (.triadStep m v) s m (s.modEng triadNo fun e =>
        if e.halted = true then { e with stepping := true, skipBp := true } else e) ∧
      (s.tri.halted = true → Answers (.triadResume m v) s fun t => t.tri.halted = false ∧ t.tri.pc = s.tri.pc ∧
        t.tri.run = s.tri.run ∧ t.flag Rg.TD_STATUS_HALTED = false))) ∧
  (∀ (s : State) (u : CoreId), s.held = false →
    ((s.eng (coreNo u)).haltReq = none → Ignored (.haltEffective u) s ∧ Ignored (.lockBreak u) s) ∧
    (s.openBoundary (coreNo u) = false → Ignored (.haltEffective u) s) ∧
    ((s.eng (coreNo u)).lockHolds = false → Ignored (.lockBreak u) s) ∧
    ∀ cause, (s.eng (coreNo u)).haltReq = some cause → s.runsOn (coreNo u) = true → NothingUnderWay s (coreNo u) →
      (s.openBoundary (coreNo u) = true →
        Answers (.haltEffective u) s (HaltedWith u cause (s.eng (coreNo u)))) ∧
      ((s.eng (coreNo u)).lockHolds = true → (s.eng (coreNo u)).branch = none → (s.eng (coreNo u)).coll = [] →
        (∀ n, u = .seq n → (s.eng n).hold = false) →
        (u = .triad → s.tri.level = 0 ∧ s.tri.ie = true ∧ s.flag Rg.IC_CTRL_ENABLE = true) →
        Answers (.lockBreak u) s fun t => HaltedWith u cause (s.eng (coreNo u)).unlockedByBreak t ∧
          (∀ n, u = .seq n → t.flag (Rg.DBG_STATUS_LOCK_BROKEN n) = true ∧
            t.get (Rg.DBG_LOCKBRK_CNT n) = counted s (Rg.DBG_LOCKBRK_CNT n)) ∧
          (u = .triad → t.flag Rg.TD_STATUS_LOCK_BROKEN = true))) ∧
  ∀ (s : State) (n : VE),
    (s.mayIssue n = false ∨ s.atBreakpoint n = false → Ignored (.breakpoint n) s) ∧
    (s.mayIssue n = true → s.atBreakpoint n = true → NothingUnderWay s n →
      Answers (.breakpoint n) s (HaltedWith (.seq n) 3 (s.eng n)))

/-- The test port (R477, R478, R496). An instruction selects its register: IDCODE captures 0x181911A3, the boundary
instructions take the cells, every code without an instruction selects BYPASS, a TAP reset that its
filter passes selects IDCODE, with 5 cycles of low or more, and not with fewer than 4 (assumptions 116, 130: the model's choice).
SAMPLE takes the levels of the pins (assumption 135: the model's choice). DBGACC returns the
result before, and makes one access as master 2, but in RETIRED it selects BYPASS, in FIELD a write or a read with effect is
answered with code 4, and while the device is held in reset it makes no access (assumption 101: the model's choice). Completes: IDCODE, TAP_RESET,
CLAMP_INSTRUCTION, HIGHZ, SAMPLE_PRELOAD, EXTEST, EXTEST_PULSE, EXTEST_TRAIN, BYPASS, DBGACC. -/
def Obligations.TestPortFollowsR477 : Prop :=
  (∀ s : State,
    exec .idcode s = .next ({ s with jtag := .idcode }.emit (.idcode 0x181911A3)) ∧
    (5 ≤ s.trstMc → Answers .tapReset s fun t => t.trstMc < 256 ∧
      t = { s with jtag := .idcode, trstMc := t.trstMc, freeCtr := s.freeCtr + 1 }) ∧
    (s.trstMc < 4 → Answers .tapReset s fun t => t.trstMc < 256 ∧ t = { s with trstMc := t.trstMc, freeCtr := s.freeCtr + 1 }) ∧
    exec .clampInstruction s = .next { s with jtag := .clamp } ∧
    exec .highz s = .next { s with jtag := .highz } ∧
    (∀ cells, (Answers (.samplePreload cells) s fun t => ∃ high, t.sent = .sampled (s.devicePins high) :: s.sent ∧
        t = { s with jtag := .samplePreload, bscan := cells, sent := t.sent, freeCtr := t.freeCtr }) ∧
      exec (.extest cells) s = .next { s with jtag := .extest, bscan := cells } ∧
      exec (.extestPulse cells) s = .next { s with jtag := .extestPulse, bscan := cells } ∧
      exec (.extestTrain cells) s = .next { s with jtag := .extestTrain, bscan := cells }) ∧
    ∀ c : BitVec 8,
      (c.toNat ∉ [0x01, 0x02, 0x03, 0x04, 0x05, 0x06, 0x07, 0x20] → exec (.bypass c) s = .next { s with jtag := .bypass }) ∧
      (c.toNat ∈ [0x01, 0x02, 0x03, 0x04, 0x05, 0x06, 0x07, 0x20] → Ignored (.bypass c) s)) ∧
  ∀ (s : State) (r : DbgReq), s.romGo = none →
    (s.lcForce = 3 → exec (.dbgacc r) s = .next { s with jtag := .bypass }) ∧
    (s.lcForce ≠ 3 → s.held = true → exec (.dbgacc r) s =
      .next { s with jtag := .dbgacc, triad := { s.triad with dbgSel := true } }) ∧
    (s.lcForce = 2 → s.held = false → r.up = none → r.write = true ∨ r.effect = true → Answers (.dbgacc r) s fun t =>
      t.dbgRes = { err := 4, done := true, data := 0 } ∧ t.regs = s.regs ∧ t.store = s.store ∧ t.jtag = .dbgacc ∧
      t.sent = .dbgacc s.dbgRes.err s.dbgRes.done s.dbgRes.data :: s.sent) ∧
    (∀ c t, s.lcForce ≠ 2 → s.lcForce ≠ 3 → s.held = false → r.up = none → r.write = true →
      s.dbgStart.busPut 2 r.addr.toNat (leBytes (if r.size8 then 8 else 4) r.data.toNat) = (c, t) → t.romGo = none →
      Answers (.dbgacc r) s fun x => x.dbgRes = { err := c, done := true, data := 0 } ∧ x.regs = t.regs ∧
        x.store = t.store ∧ x.sent = t.sent ∧ x.resp = some { master := 2, code := c, data := 0 }) ∧
    ∀ bs t, (s.lcForce ≠ 2 ∨ r.effect = false) → s.lcForce ≠ 3 → s.held = false → r.up = none → r.write = false →
      s.dbgStart.busGet 2 r.addr.toNat (if r.size8 then 8 else 4) (!r.effect) = (.ok bs, t) → t.romGo = none →
      Answers (.dbgacc r) s fun x => x.dbgRes = { err := 0, done := true, data := leNat bs } ∧ x.regs = t.regs ∧
        x.sent = t.sent ∧ x.resp = some { master := 2, code := 0, data := leNat bs }
end
end

