-- ==== Sys2Proof/Laws/Tab.lean ====
section
/-! SUPPORT. The laws of sparse tables: what a key reads as after a write, and that a write keeps the canonical form. -/

namespace Sys2Proof.Machine

@[simp] theorem Tab.get_nil {α : Type} (k : Nat) (d : α) : Tab.get ([] : Tab α) k d = d := rfl

theorem Tab.get_put {α : Type} (t : Tab α) (k k' : Nat) (d v : α) :
    Tab.get (Tab.put t k v) k' d = if k' = k then v else Tab.get t k' d := by
  induction t with
  | nil => simp only [Tab.put, Tab.get, eq_comm]
  | cons e r ih =>
    obtain ⟨j, w⟩ := e
    simp only [Tab.put]
    by_cases h1 : k < j
    · simp only [h1, if_true, Tab.get, @eq_comm _ k k']
    · by_cases h2 : k = j
      · subst h2
        by_cases h3 : k = k'
        · simp [Tab.get, h3]
        · simp [Tab.get, h3, Ne.symm h3]
      · simp only [h1, h2, if_false, Tab.get, ih]
        by_cases h3 : j = k'
        · have : k' ≠ k := fun h => h2 (by rw [h3, h])
          simp [h3, this]
        · simp [h3]

theorem Tab.get_del {α : Type} (t : Tab α) (k k' : Nat) (d : α) :
    Tab.get (Tab.del t k) k' d = if k' = k then d else Tab.get t k' d := by
  induction t with
  | nil => simp [Tab.del]
  | cons e r ih =>
    obtain ⟨j, w⟩ := e
    by_cases h : j = k
    · simp only [Tab.del, h, if_true, ih, Tab.get]
      by_cases h3 : k' = k
      · simp [h3]
      · simp [h3, Ne.symm h3]
    · simp only [Tab.del, h, if_false, Tab.get, ih]
      by_cases h3 : j = k'
      · have : k' ≠ k := fun e => h (by rw [h3, e])
        simp [h3, this]
      · simp [h3]

/-- Reading a table after one key was set. -/
theorem Tab.get_set {α : Type} [DecidableEq α] (t : Tab α) (k k' : Nat) (d v : α) :
    Tab.get (Tab.set t k d v) k' d = if k' = k then v else Tab.get t k' d := by
  unfold Tab.set
  split
  · rename_i h
    rw [Tab.get_del, h]
  · exact Tab.get_put t k k' d v

@[simp] theorem Tab.get_set_self {α : Type} [DecidableEq α] (t : Tab α) (k : Nat) (d v : α) :
    Tab.get (Tab.set t k d v) k d = v := by simp [Tab.get_set]

theorem Tab.get_set_ne {α : Type} [DecidableEq α] (t : Tab α) (k k' : Nat) (d e v : α) (h : k' ≠ k) :
    Tab.get (Tab.set t k d v) k' e = Tab.get t k' e := by
  unfold Tab.set
  split
  · simp [Tab.get_del, h]
  · simp [Tab.get_put, h]

/-- Every key of a table stands above `b`. -/
def Tab.above {α : Type} (b : Nat) (t : Tab α) : Prop := ∀ e ∈ t, b < e.1

theorem Tab.rising_cons {α : Type} (k : Nat) (v : α) (r : Tab α) :
    Tab.rising ((k, v) :: r) = true ↔ Tab.above k r ∧ Tab.rising r = true := by
  induction r generalizing k v with
  | nil => simp [Tab.rising, Tab.above]
  | cons e r ih =>
    obtain ⟨j, w⟩ := e
    simp only [Tab.rising, Bool.and_eq_true, decide_eq_true_eq, ih]
    constructor
    · rintro ⟨h, ha, hr⟩
      refine ⟨?_, ha, hr⟩
      intro e he
      rcases List.mem_cons.mp he with rfl | he
      · exact h
      · exact Nat.lt_trans h (ha e he)
    · rintro ⟨ha, hb, hr⟩
      exact ⟨ha (j, w) (by simp), hb, hr⟩

theorem Tab.above_put {α : Type} {b : Nat} {t : Tab α} (k : Nat) (v : α) (h : Tab.above b t) (hk : b < k) :
    Tab.above b (Tab.put t k v) := by
  induction t with
  | nil => simpa [Tab.put, Tab.above] using hk
  | cons e r ih =>
    obtain ⟨j, w⟩ := e
    have hj : b < j := h (j, w) (by simp)
    have hr : Tab.above b r := fun e he => h e (by simp [he])
    simp only [Tab.put]
    split
    · intro e he; rcases List.mem_cons.mp he with rfl | he
      · exact hk
      · exact h e he
    · split
      · intro e he; rcases List.mem_cons.mp he with rfl | he
        · exact hk
        · exact hr e he
      · intro e he; rcases List.mem_cons.mp he with rfl | he
        · exact hj
        · exact ih hr e he

theorem Tab.above_del {α : Type} {b : Nat} {t : Tab α} (k : Nat) (h : Tab.above b t) : Tab.above b (Tab.del t k) := by
  induction t with
  | nil => exact h
  | cons e r ih =>
    obtain ⟨j, w⟩ := e
    have hj : b < j := h (j, w) (by simp)
    have hr : Tab.above b r := fun e he => h e (by simp [he])
    simp only [Tab.del]
    split
    · exact ih hr
    · intro e he; rcases List.mem_cons.mp he with rfl | he
      · exact hj
      · exact ih hr e he

theorem Tab.rising_put {α : Type} {t : Tab α} (k : Nat) (v : α) (h : Tab.rising t = true) :
    Tab.rising (Tab.put t k v) = true := by
  induction t with
  | nil => rfl
  | cons e r ih =>
    obtain ⟨j, w⟩ := e
    obtain ⟨ha, hr⟩ := (Tab.rising_cons j w r).mp h
    simp only [Tab.put]
    split
    · rename_i hk
      refine (Tab.rising_cons ..).mpr ⟨?_, h⟩
      intro e he; rcases List.mem_cons.mp he with rfl | he
      · exact hk
      · exact Nat.lt_trans hk (ha e he)
    · split
      · rename_i hk; subst hk
        exact (Tab.rising_cons ..).mpr ⟨ha, hr⟩
      · exact (Tab.rising_cons ..).mpr ⟨Tab.above_put k v ha (by omega), ih hr⟩

theorem Tab.rising_del {α : Type} {t : Tab α} (k : Nat) (h : Tab.rising t = true) : Tab.rising (Tab.del t k) = true := by
  induction t with
  | nil => rfl
  | cons e r ih =>
    obtain ⟨j, w⟩ := e
    obtain ⟨ha, hr⟩ := (Tab.rising_cons j w r).mp h
    simp only [Tab.del]
    split
    · exact ih hr
    · exact (Tab.rising_cons ..).mpr ⟨Tab.above_del k ha, ih hr⟩

theorem Tab.all_put {α : Type} (p : Nat × α → Bool) {t : Tab α} (k : Nat) (v : α) (h : t.all p = true) (hv : p (k, v) = true) :
    (Tab.put t k v).all p = true := by
  induction t with
  | nil => simpa [Tab.put] using hv
  | cons e r ih =>
    obtain ⟨j, w⟩ := e
    simp only [List.all_cons, Bool.and_eq_true] at h
    simp only [Tab.put]
    split
    · simp [hv, h.1, h.2]
    · split
      · simp [hv, h.2]
      · simp [h.1, ih h.2]

theorem Tab.all_del {α : Type} (p : Nat × α → Bool) {t : Tab α} (k : Nat) (h : t.all p = true) :
    (Tab.del t k).all p = true := by
  induction t with
  | nil => rfl
  | cons e r ih =>
    obtain ⟨j, w⟩ := e
    simp only [List.all_cons, Bool.and_eq_true] at h
    simp only [Tab.del]
    split
    · exact ih h.2
    · simp [h.1, ih h.2]

/-- A write to a table keeps its canonical form. -/
theorem Tab.canonical_set {α : Type} [DecidableEq α] {t : Tab α} {d : α} (k : Nat) (v : α) (h : Tab.canonical t d = true) :
    Tab.canonical (Tab.set t k d v) d = true := by
  simp only [Tab.canonical, Bool.and_eq_true] at h ⊢
  unfold Tab.set
  split
  · exact ⟨Tab.rising_del k h.1, Tab.all_del _ k h.2⟩
  · rename_i hv
    exact ⟨Tab.rising_put k v h.1, Tab.all_put _ k v h.2 (by simpa using hv)⟩

end Sys2Proof.Machine
end

