-- ==== Sys2Proof/Laws/State.lean ====
section
/-! SUPPORT. What each update of the state leaves: one lemma per field per update, and what a register field, an engine and a
byte of memory read as after it. -/

set_option Elab.async false

namespace Sys2Proof.Machine

/-! ### The fields an update does not touch -/

@[simp] theorem State.set_pending (s : State) (f : Fld) (v : Nat) : (s.set f v).pending = s.pending := rfl
@[simp] theorem State.set_inForce (s : State) (f : Fld) (v : Nat) : (s.set f v).inForce = s.inForce := rfl
@[simp] theorem State.set_staged (s : State) (f : Fld) (v : Nat) : (s.set f v).staged = s.staged := rfl
@[simp] theorem State.set_freeCtr (s : State) (f : Fld) (v : Nat) : (s.set f v).freeCtr = s.freeCtr := rfl
@[simp] theorem State.set_sent (s : State) (f : Fld) (v : Nat) : (s.set f v).sent = s.sent := rfl
@[simp] theorem State.set_resp (s : State) (f : Fld) (v : Nat) : (s.set f v).resp = s.resp := rfl
@[simp] theorem State.set_ft (s : State) (f : Fld) (v : Nat) : (s.set f v).ft = s.ft := rfl
@[simp] theorem State.set_store (s : State) (f : Fld) (v : Nat) : (s.set f v).store = s.store := rfl
@[simp] theorem State.set_storeErr (s : State) (f : Fld) (v : Nat) : (s.set f v).storeErr = s.storeErr := rfl
@[simp] theorem State.set_resv (s : State) (f : Fld) (v : Nat) : (s.set f v).resv = s.resv := rfl
@[simp] theorem State.set_writeBacks (s : State) (f : Fld) (v : Nat) : (s.set f v).writeBacks = s.writeBacks := rfl
@[simp] theorem State.set_bankHeld (s : State) (f : Fld) (v : Nat) : (s.set f v).bankHeld = s.bankHeld := rfl
@[simp] theorem State.set_rot (s : State) (f : Fld) (v : Nat) : (s.set f v).rot = s.rot := rfl
@[simp] theorem State.set_rotMarks (s : State) (f : Fld) (v : Nat) : (s.set f v).rotMarks = s.rotMarks := rfl
@[simp] theorem State.set_rotBad (s : State) (f : Fld) (v : Nat) : (s.set f v).rotBad = s.rotBad := rfl
@[simp] theorem State.set_rotWant (s : State) (f : Fld) (v : Nat) : (s.set f v).rotWant = s.rotWant := rfl
@[simp] theorem State.set_localMem (s : State) (f : Fld) (v : Nat) : (s.set f v).localMem = s.localMem := rfl
@[simp] theorem State.set_tags (s : State) (f : Fld) (v : Nat) : (s.set f v).tags = s.tags := rfl
@[simp] theorem State.set_lmErr (s : State) (f : Fld) (v : Nat) : (s.set f v).lmErr = s.lmErr := rfl
@[simp] theorem State.set_vault (s : State) (f : Fld) (v : Nat) : (s.set f v).vault = s.vault := rfl
@[simp] theorem State.set_vtErr (s : State) (f : Fld) (v : Nat) : (s.set f v).vtErr = s.vtErr := rfl
@[simp] theorem State.set_queues (s : State) (f : Fld) (v : Nat) : (s.set f v).queues = s.queues := rfl
@[simp] theorem State.set_qPtrBad (s : State) (f : Fld) (v : Nat) : (s.set f v).qPtrBad = s.qPtrBad := rfl
@[simp] theorem State.set_engines (s : State) (f : Fld) (v : Nat) : (s.set f v).engines = s.engines := rfl
@[simp] theorem State.set_polFrames (s : State) (f : Fld) (v : Nat) : (s.set f v).polFrames = s.polFrames := rfl
@[simp] theorem State.set_polLeak (s : State) (f : Fld) (v : Nat) : (s.set f v).polLeak = s.polLeak := rfl
@[simp] theorem State.set_strikes (s : State) (f : Fld) (v : Nat) : (s.set f v).strikes = s.strikes := rfl
@[simp] theorem State.set_bankTrack (s : State) (f : Fld) (v : Nat) : (s.set f v).bankTrack = s.bankTrack := rfl
@[simp] theorem State.set_lastCeBank (s : State) (f : Fld) (v : Nat) : (s.set f v).lastCeBank = s.lastCeBank := rfl
@[simp] theorem State.set_migReqs (s : State) (f : Fld) (v : Nat) : (s.set f v).migReqs = s.migReqs := rfl
@[simp] theorem State.set_expSeq (s : State) (f : Fld) (v : Nat) : (s.set f v).expSeq = s.expSeq := rfl
@[simp] theorem State.set_bankAns (s : State) (f : Fld) (v : Nat) : (s.set f v).bankAns = s.bankAns := rfl
@[simp] theorem State.set_blMbist (s : State) (f : Fld) (v : Nat) : (s.set f v).blMbist = s.blMbist := rfl
@[simp] theorem State.set_held (s : State) (f : Fld) (v : Nat) : (s.set f v).held = s.held := rfl
@[simp] theorem State.set_heldLo (s : State) (f : Fld) (v : Nat) : (s.set f v).heldLo = s.heldLo := rfl
@[simp] theorem State.set_tagBad (s : State) (f : Fld) (v : Nat) : (s.set f v).tagBad = s.tagBad := rfl
@[simp] theorem State.set_tmrFire (s : State) (f : Fld) (v : Nat) : (s.set f v).tmrFire = s.tmrFire := rfl
@[simp] theorem State.set_tmrZero (s : State) (f : Fld) (v : Nat) : (s.set f v).tmrZero = s.tmrZero := rfl
@[simp] theorem State.set_tmrFired (s : State) (f : Fld) (v : Nat) : (s.set f v).tmrFired = s.tmrFired := rfl
@[simp] theorem State.set_tmrCaps (s : State) (f : Fld) (v : Nat) : (s.set f v).tmrCaps = s.tmrCaps := rfl
@[simp] theorem State.set_calCount (s : State) (f : Fld) (v : Nat) : (s.set f v).calCount = s.calCount := rfl
@[simp] theorem State.set_calSkip (s : State) (f : Fld) (v : Nat) : (s.set f v).calSkip = s.calSkip := rfl
@[simp] theorem State.set_tagWait (s : State) (f : Fld) (v : Nat) : (s.set f v).tagWait = s.tagWait := rfl
@[simp] theorem State.set_blLbist (s : State) (f : Fld) (v : Nat) : (s.set f v).blLbist = s.blLbist := rfl
@[simp] theorem State.set_blLast (s : State) (f : Fld) (v : Nat) : (s.set f v).blLast = s.blLast := rfl
@[simp] theorem State.set_jnl (s : State) (f : Fld) (v : Nat) : (s.set f v).jnl = s.jnl := rfl
@[simp] theorem State.set_flash (s : State) (f : Fld) (v : Nat) : (s.set f v).flash = s.flash := rfl
@[simp] theorem State.set_flashInfo (s : State) (f : Fld) (v : Nat) : (s.set f v).flashInfo = s.flashInfo := rfl
@[simp] theorem State.set_ctTasks (s : State) (f : Fld) (v : Nat) : (s.set f v).ctTasks = s.ctTasks := rfl
@[simp] theorem State.set_ctSweep (s : State) (f : Fld) (v : Nat) : (s.set f v).ctSweep = s.ctSweep := rfl
@[simp] theorem State.set_ctUsed (s : State) (f : Fld) (v : Nat) : (s.set f v).ctUsed = s.ctUsed := rfl
@[simp] theorem State.set_ctItems (s : State) (f : Fld) (v : Nat) : (s.set f v).ctItems = s.ctItems := rfl
@[simp] theorem State.set_vu (s : State) (f : Fld) (v : Nat) : (s.set f v).vu = s.vu := rfl
@[simp] theorem State.set_rdHold (s : State) (f : Fld) (v : Nat) : (s.set f v).rdHold = s.rdHold := rfl
@[simp] theorem State.set_rdTurn (s : State) (f : Fld) (v : Nat) : (s.set f v).rdTurn = s.rdTurn := rfl
@[simp] theorem State.set_lanes (s : State) (f : Fld) (v : Nat) : (s.set f v).lanes = s.lanes := rfl
@[simp] theorem State.set_rxDone (s : State) (f : Fld) (v : Nat) : (s.set f v).rxDone = s.rxDone := rfl
@[simp] theorem State.set_chks (s : State) (f : Fld) (v : Nat) : (s.set f v).chks = s.chks := rfl
@[simp] theorem State.set_copies (s : State) (f : Fld) (v : Nat) : (s.set f v).copies = s.copies := rfl
@[simp] theorem State.set_restores (s : State) (f : Fld) (v : Nat) : (s.set f v).restores = s.restores := rfl
@[simp] theorem State.set_reason (s : State) (f : Fld) (v : Nat) : (s.set f v).reason = s.reason := rfl
@[simp] theorem State.set_dd (s : State) (f : Fld) (v : Nat) : (s.set f v).dd = s.dd := rfl
@[simp] theorem State.set_msix (s : State) (f : Fld) (v : Nat) : (s.set f v).msix = s.msix := rfl
@[simp] theorem State.set_msixPend (s : State) (f : Fld) (v : Nat) : (s.set f v).msixPend = s.msixPend := rfl
@[simp] theorem State.set_hostExit (s : State) (f : Fld) (v : Nat) : (s.set f v).hostExit = s.hostExit := rfl
@[simp] theorem State.set_perstMc (s : State) (f : Fld) (v : Nat) : (s.set f v).perstMc = s.perstMc := rfl
@[simp] theorem State.set_trstMc (s : State) (f : Fld) (v : Nat) : (s.set f v).trstMc = s.trstMc := rfl
@[simp] theorem State.set_tmrIn (s : State) (f : Fld) (v : Nat) : (s.set f v).tmrIn = s.tmrIn := rfl
@[simp] theorem State.set_filtAt (s : State) (f : Fld) (v : Nat) : (s.set f v).filtAt = s.filtAt := rfl
@[simp] theorem State.set_woken (s : State) (f : Fld) (v : Nat) : (s.set f v).woken = s.woken := rfl
@[simp] theorem State.set_aspm (s : State) (f : Fld) (v : Nat) : (s.set f v).aspm = s.aspm := rfl
@[simp] theorem State.set_aerAdvisory (s : State) (f : Fld) (v : Nat) : (s.set f v).aerAdvisory = s.aerAdvisory := rfl
@[simp] theorem State.set_triad (s : State) (f : Fld) (v : Nat) : (s.set f v).triad = s.triad := rfl
@[simp] theorem State.set_faultLow (s : State) (f : Fld) (v : Nat) : (s.set f v).faultLow = s.faultLow := rfl
@[simp] theorem State.set_rom (s : State) (f : Fld) (v : Nat) : (s.set f v).rom = s.rom := rfl
@[simp] theorem State.set_romGo (s : State) (f : Fld) (v : Nat) : (s.set f v).romGo = s.romGo := rfl
@[simp] theorem State.set_booted (s : State) (f : Fld) (v : Nat) : (s.set f v).booted = s.booted := rfl
@[simp] theorem State.set_boot (s : State) (f : Fld) (v : Nat) : (s.set f v).boot = s.boot := rfl
@[simp] theorem State.set_laneScripts (s : State) (f : Fld) (v : Nat) : (s.set f v).laneScripts = s.laneScripts := rfl
@[simp] theorem State.set_bankProgs (s : State) (f : Fld) (v : Nat) : (s.set f v).bankProgs = s.bankProgs := rfl
@[simp] theorem State.set_keyHash (s : State) (f : Fld) (v : Nat) : (s.set f v).keyHash = s.keyHash := rfl
@[simp] theorem State.set_lcForce (s : State) (f : Fld) (v : Nat) : (s.set f v).lcForce = s.lcForce := rfl
@[simp] theorem State.set_fuseOp (s : State) (f : Fld) (v : Nat) : (s.set f v).fuseOp = s.fuseOp := rfl
@[simp] theorem State.set_jtag (s : State) (f : Fld) (v : Nat) : (s.set f v).jtag = s.jtag := rfl
@[simp] theorem State.set_dbgRes (s : State) (f : Fld) (v : Nat) : (s.set f v).dbgRes = s.dbgRes := rfl
@[simp] theorem State.set_bscan (s : State) (f : Fld) (v : Nat) : (s.set f v).bscan = s.bscan := rfl
@[simp] theorem State.set_sensors (s : State) (f : Fld) (v : Nat) : (s.set f v).sensors = s.sensors := rfl
@[simp] theorem State.set_supplies (s : State) (f : Fld) (v : Nat) : (s.set f v).supplies = s.supplies := rfl
@[simp] theorem State.set_power (s : State) (f : Fld) (v : Nat) : (s.set f v).power = s.power := rfl
@[simp] theorem State.set_supplyLow (s : State) (f : Fld) (v : Nat) : (s.set f v).supplyLow = s.supplyLow := rfl
@[simp] theorem State.set_sscBusy (s : State) (f : Fld) (v : Nat) : (s.set f v).sscBusy = s.sscBusy := rfl

@[simp] theorem State.setForce_pending (s : State) (f : Fld) (v : Nat) : (s.setForce f v).pending = s.pending := rfl
@[simp] theorem State.setForce_regs (s : State) (f : Fld) (v : Nat) : (s.setForce f v).regs = s.regs := rfl
@[simp] theorem State.setForce_staged (s : State) (f : Fld) (v : Nat) : (s.setForce f v).staged = s.staged := rfl
@[simp] theorem State.setForce_freeCtr (s : State) (f : Fld) (v : Nat) : (s.setForce f v).freeCtr = s.freeCtr := rfl
@[simp] theorem State.setForce_sent (s : State) (f : Fld) (v : Nat) : (s.setForce f v).sent = s.sent := rfl
@[simp] theorem State.setForce_resp (s : State) (f : Fld) (v : Nat) : (s.setForce f v).resp = s.resp := rfl
@[simp] theorem State.setForce_ft (s : State) (f : Fld) (v : Nat) : (s.setForce f v).ft = s.ft := rfl
@[simp] theorem State.setForce_store (s : State) (f : Fld) (v : Nat) : (s.setForce f v).store = s.store := rfl
@[simp] theorem State.setForce_storeErr (s : State) (f : Fld) (v : Nat) : (s.setForce f v).storeErr = s.storeErr := rfl
@[simp] theorem State.setForce_resv (s : State) (f : Fld) (v : Nat) : (s.setForce f v).resv = s.resv := rfl
@[simp] theorem State.setForce_writeBacks (s : State) (f : Fld) (v : Nat) : (s.setForce f v).writeBacks = s.writeBacks := rfl
@[simp] theorem State.setForce_bankHeld (s : State) (f : Fld) (v : Nat) : (s.setForce f v).bankHeld = s.bankHeld := rfl
@[simp] theorem State.setForce_rot (s : State) (f : Fld) (v : Nat) : (s.setForce f v).rot = s.rot := rfl
@[simp] theorem State.setForce_rotMarks (s : State) (f : Fld) (v : Nat) : (s.setForce f v).rotMarks = s.rotMarks := rfl
@[simp] theorem State.setForce_rotBad (s : State) (f : Fld) (v : Nat) : (s.setForce f v).rotBad = s.rotBad := rfl
@[simp] theorem State.setForce_rotWant (s : State) (f : Fld) (v : Nat) : (s.setForce f v).rotWant = s.rotWant := rfl
@[simp] theorem State.setForce_localMem (s : State) (f : Fld) (v : Nat) : (s.setForce f v).localMem = s.localMem := rfl
@[simp] theorem State.setForce_tags (s : State) (f : Fld) (v : Nat) : (s.setForce f v).tags = s.tags := rfl
@[simp] theorem State.setForce_lmErr (s : State) (f : Fld) (v : Nat) : (s.setForce f v).lmErr = s.lmErr := rfl
@[simp] theorem State.setForce_vault (s : State) (f : Fld) (v : Nat) : (s.setForce f v).vault = s.vault := rfl
@[simp] theorem State.setForce_vtErr (s : State) (f : Fld) (v : Nat) : (s.setForce f v).vtErr = s.vtErr := rfl
@[simp] theorem State.setForce_queues (s : State) (f : Fld) (v : Nat) : (s.setForce f v).queues = s.queues := rfl
@[simp] theorem State.setForce_qPtrBad (s : State) (f : Fld) (v : Nat) : (s.setForce f v).qPtrBad = s.qPtrBad := rfl
@[simp] theorem State.setForce_engines (s : State) (f : Fld) (v : Nat) : (s.setForce f v).engines = s.engines := rfl
@[simp] theorem State.setForce_polFrames (s : State) (f : Fld) (v : Nat) : (s.setForce f v).polFrames = s.polFrames := rfl
@[simp] theorem State.setForce_polLeak (s : State) (f : Fld) (v : Nat) : (s.setForce f v).polLeak = s.polLeak := rfl
@[simp] theorem State.setForce_strikes (s : State) (f : Fld) (v : Nat) : (s.setForce f v).strikes = s.strikes := rfl
@[simp] theorem State.setForce_bankTrack (s : State) (f : Fld) (v : Nat) : (s.setForce f v).bankTrack = s.bankTrack := rfl
@[simp] theorem State.setForce_lastCeBank (s : State) (f : Fld) (v : Nat) : (s.setForce f v).lastCeBank = s.lastCeBank := rfl
@[simp] theorem State.setForce_migReqs (s : State) (f : Fld) (v : Nat) : (s.setForce f v).migReqs = s.migReqs := rfl
@[simp] theorem State.setForce_expSeq (s : State) (f : Fld) (v : Nat) : (s.setForce f v).expSeq = s.expSeq := rfl
@[simp] theorem State.setForce_bankAns (s : State) (f : Fld) (v : Nat) : (s.setForce f v).bankAns = s.bankAns := rfl
@[simp] theorem State.setForce_blMbist (s : State) (f : Fld) (v : Nat) : (s.setForce f v).blMbist = s.blMbist := rfl
@[simp] theorem State.setForce_held (s : State) (f : Fld) (v : Nat) : (s.setForce f v).held = s.held := rfl
@[simp] theorem State.setForce_heldLo (s : State) (f : Fld) (v : Nat) : (s.setForce f v).heldLo = s.heldLo := rfl
@[simp] theorem State.setForce_tagBad (s : State) (f : Fld) (v : Nat) : (s.setForce f v).tagBad = s.tagBad := rfl
@[simp] theorem State.setForce_tmrFire (s : State) (f : Fld) (v : Nat) : (s.setForce f v).tmrFire = s.tmrFire := rfl
@[simp] theorem State.setForce_tmrZero (s : State) (f : Fld) (v : Nat) : (s.setForce f v).tmrZero = s.tmrZero := rfl
@[simp] theorem State.setForce_tmrFired (s : State) (f : Fld) (v : Nat) : (s.setForce f v).tmrFired = s.tmrFired := rfl
@[simp] theorem State.setForce_tmrCaps (s : State) (f : Fld) (v : Nat) : (s.setForce f v).tmrCaps = s.tmrCaps := rfl
@[simp] theorem State.setForce_calCount (s : State) (f : Fld) (v : Nat) : (s.setForce f v).calCount = s.calCount := rfl
@[simp] theorem State.setForce_calSkip (s : State) (f : Fld) (v : Nat) : (s.setForce f v).calSkip = s.calSkip := rfl
@[simp] theorem State.setForce_tagWait (s : State) (f : Fld) (v : Nat) : (s.setForce f v).tagWait = s.tagWait := rfl
@[simp] theorem State.setForce_blLbist (s : State) (f : Fld) (v : Nat) : (s.setForce f v).blLbist = s.blLbist := rfl
@[simp] theorem State.setForce_blLast (s : State) (f : Fld) (v : Nat) : (s.setForce f v).blLast = s.blLast := rfl
@[simp] theorem State.setForce_jnl (s : State) (f : Fld) (v : Nat) : (s.setForce f v).jnl = s.jnl := rfl
@[simp] theorem State.setForce_flash (s : State) (f : Fld) (v : Nat) : (s.setForce f v).flash = s.flash := rfl
@[simp] theorem State.setForce_flashInfo (s : State) (f : Fld) (v : Nat) : (s.setForce f v).flashInfo = s.flashInfo := rfl
@[simp] theorem State.setForce_ctTasks (s : State) (f : Fld) (v : Nat) : (s.setForce f v).ctTasks = s.ctTasks := rfl
@[simp] theorem State.setForce_ctSweep (s : State) (f : Fld) (v : Nat) : (s.setForce f v).ctSweep = s.ctSweep := rfl
@[simp] theorem State.setForce_ctUsed (s : State) (f : Fld) (v : Nat) : (s.setForce f v).ctUsed = s.ctUsed := rfl
@[simp] theorem State.setForce_ctItems (s : State) (f : Fld) (v : Nat) : (s.setForce f v).ctItems = s.ctItems := rfl
@[simp] theorem State.setForce_vu (s : State) (f : Fld) (v : Nat) : (s.setForce f v).vu = s.vu := rfl
@[simp] theorem State.setForce_rdHold (s : State) (f : Fld) (v : Nat) : (s.setForce f v).rdHold = s.rdHold := rfl
@[simp] theorem State.setForce_rdTurn (s : State) (f : Fld) (v : Nat) : (s.setForce f v).rdTurn = s.rdTurn := rfl
@[simp] theorem State.setForce_lanes (s : State) (f : Fld) (v : Nat) : (s.setForce f v).lanes = s.lanes := rfl
@[simp] theorem State.setForce_rxDone (s : State) (f : Fld) (v : Nat) : (s.setForce f v).rxDone = s.rxDone := rfl
@[simp] theorem State.setForce_chks (s : State) (f : Fld) (v : Nat) : (s.setForce f v).chks = s.chks := rfl
@[simp] theorem State.setForce_copies (s : State) (f : Fld) (v : Nat) : (s.setForce f v).copies = s.copies := rfl
@[simp] theorem State.setForce_restores (s : State) (f : Fld) (v : Nat) : (s.setForce f v).restores = s.restores := rfl
@[simp] theorem State.setForce_reason (s : State) (f : Fld) (v : Nat) : (s.setForce f v).reason = s.reason := rfl
@[simp] theorem State.setForce_dd (s : State) (f : Fld) (v : Nat) : (s.setForce f v).dd = s.dd := rfl
@[simp] theorem State.setForce_msix (s : State) (f : Fld) (v : Nat) : (s.setForce f v).msix = s.msix := rfl
@[simp] theorem State.setForce_msixPend (s : State) (f : Fld) (v : Nat) : (s.setForce f v).msixPend = s.msixPend := rfl
@[simp] theorem State.setForce_hostExit (s : State) (f : Fld) (v : Nat) : (s.setForce f v).hostExit = s.hostExit := rfl
@[simp] theorem State.setForce_perstMc (s : State) (f : Fld) (v : Nat) : (s.setForce f v).perstMc = s.perstMc := rfl
@[simp] theorem State.setForce_trstMc (s : State) (f : Fld) (v : Nat) : (s.setForce f v).trstMc = s.trstMc := rfl
@[simp] theorem State.setForce_tmrIn (s : State) (f : Fld) (v : Nat) : (s.setForce f v).tmrIn = s.tmrIn := rfl
@[simp] theorem State.setForce_filtAt (s : State) (f : Fld) (v : Nat) : (s.setForce f v).filtAt = s.filtAt := rfl
@[simp] theorem State.setForce_woken (s : State) (f : Fld) (v : Nat) : (s.setForce f v).woken = s.woken := rfl
@[simp] theorem State.setForce_aspm (s : State) (f : Fld) (v : Nat) : (s.setForce f v).aspm = s.aspm := rfl
@[simp] theorem State.setForce_aerAdvisory (s : State) (f : Fld) (v : Nat) : (s.setForce f v).aerAdvisory = s.aerAdvisory := rfl
@[simp] theorem State.setForce_triad (s : State) (f : Fld) (v : Nat) : (s.setForce f v).triad = s.triad := rfl
@[simp] theorem State.setForce_faultLow (s : State) (f : Fld) (v : Nat) : (s.setForce f v).faultLow = s.faultLow := rfl
@[simp] theorem State.setForce_rom (s : State) (f : Fld) (v : Nat) : (s.setForce f v).rom = s.rom := rfl
@[simp] theorem State.setForce_romGo (s : State) (f : Fld) (v : Nat) : (s.setForce f v).romGo = s.romGo := rfl
@[simp] theorem State.setForce_booted (s : State) (f : Fld) (v : Nat) : (s.setForce f v).booted = s.booted := rfl
@[simp] theorem State.setForce_boot (s : State) (f : Fld) (v : Nat) : (s.setForce f v).boot = s.boot := rfl
@[simp] theorem State.setForce_laneScripts (s : State) (f : Fld) (v : Nat) : (s.setForce f v).laneScripts = s.laneScripts := rfl
@[simp] theorem State.setForce_bankProgs (s : State) (f : Fld) (v : Nat) : (s.setForce f v).bankProgs = s.bankProgs := rfl
@[simp] theorem State.setForce_keyHash (s : State) (f : Fld) (v : Nat) : (s.setForce f v).keyHash = s.keyHash := rfl
@[simp] theorem State.setForce_lcForce (s : State) (f : Fld) (v : Nat) : (s.setForce f v).lcForce = s.lcForce := rfl
@[simp] theorem State.setForce_fuseOp (s : State) (f : Fld) (v : Nat) : (s.setForce f v).fuseOp = s.fuseOp := rfl
@[simp] theorem State.setForce_jtag (s : State) (f : Fld) (v : Nat) : (s.setForce f v).jtag = s.jtag := rfl
@[simp] theorem State.setForce_dbgRes (s : State) (f : Fld) (v : Nat) : (s.setForce f v).dbgRes = s.dbgRes := rfl
@[simp] theorem State.setForce_bscan (s : State) (f : Fld) (v : Nat) : (s.setForce f v).bscan = s.bscan := rfl
@[simp] theorem State.setForce_sensors (s : State) (f : Fld) (v : Nat) : (s.setForce f v).sensors = s.sensors := rfl
@[simp] theorem State.setForce_supplies (s : State) (f : Fld) (v : Nat) : (s.setForce f v).supplies = s.supplies := rfl
@[simp] theorem State.setForce_power (s : State) (f : Fld) (v : Nat) : (s.setForce f v).power = s.power := rfl
@[simp] theorem State.setForce_supplyLow (s : State) (f : Fld) (v : Nat) : (s.setForce f v).supplyLow = s.supplyLow := rfl
@[simp] theorem State.setForce_sscBusy (s : State) (f : Fld) (v : Nat) : (s.setForce f v).sscBusy = s.sscBusy := rfl

@[simp] theorem State.setEng_pending (s : State) (n : Nat) (e : Engine) : (s.setEng n e).pending = s.pending := rfl
@[simp] theorem State.setEng_regs (s : State) (n : Nat) (e : Engine) : (s.setEng n e).regs = s.regs := rfl
@[simp] theorem State.setEng_inForce (s : State) (n : Nat) (e : Engine) : (s.setEng n e).inForce = s.inForce := rfl
@[simp] theorem State.setEng_staged (s : State) (n : Nat) (e : Engine) : (s.setEng n e).staged = s.staged := rfl
@[simp] theorem State.setEng_freeCtr (s : State) (n : Nat) (e : Engine) : (s.setEng n e).freeCtr = s.freeCtr := rfl
@[simp] theorem State.setEng_sent (s : State) (n : Nat) (e : Engine) : (s.setEng n e).sent = s.sent := rfl
@[simp] theorem State.setEng_resp (s : State) (n : Nat) (e : Engine) : (s.setEng n e).resp = s.resp := rfl
@[simp] theorem State.setEng_ft (s : State) (n : Nat) (e : Engine) : (s.setEng n e).ft = s.ft := rfl
@[simp] theorem State.setEng_store (s : State) (n : Nat) (e : Engine) : (s.setEng n e).store = s.store := rfl
@[simp] theorem State.setEng_storeErr (s : State) (n : Nat) (e : Engine) : (s.setEng n e).storeErr = s.storeErr := rfl
@[simp] theorem State.setEng_resv (s : State) (n : Nat) (e : Engine) : (s.setEng n e).resv = s.resv := rfl
@[simp] theorem State.setEng_writeBacks (s : State) (n : Nat) (e : Engine) : (s.setEng n e).writeBacks = s.writeBacks := rfl
@[simp] theorem State.setEng_bankHeld (s : State) (n : Nat) (e : Engine) : (s.setEng n e).bankHeld = s.bankHeld := rfl
@[simp] theorem State.setEng_rot (s : State) (n : Nat) (e : Engine) : (s.setEng n e).rot = s.rot := rfl
@[simp] theorem State.setEng_rotMarks (s : State) (n : Nat) (e : Engine) : (s.setEng n e).rotMarks = s.rotMarks := rfl
@[simp] theorem State.setEng_rotBad (s : State) (n : Nat) (e : Engine) : (s.setEng n e).rotBad = s.rotBad := rfl
@[simp] theorem State.setEng_rotWant (s : State) (n : Nat) (e : Engine) : (s.setEng n e).rotWant = s.rotWant := rfl
@[simp] theorem State.setEng_localMem (s : State) (n : Nat) (e : Engine) : (s.setEng n e).localMem = s.localMem := rfl
@[simp] theorem State.setEng_tags (s : State) (n : Nat) (e : Engine) : (s.setEng n e).tags = s.tags := rfl
@[simp] theorem State.setEng_lmErr (s : State) (n : Nat) (e : Engine) : (s.setEng n e).lmErr = s.lmErr := rfl
@[simp] theorem State.setEng_vault (s : State) (n : Nat) (e : Engine) : (s.setEng n e).vault = s.vault := rfl
@[simp] theorem State.setEng_vtErr (s : State) (n : Nat) (e : Engine) : (s.setEng n e).vtErr = s.vtErr := rfl
@[simp] theorem State.setEng_queues (s : State) (n : Nat) (e : Engine) : (s.setEng n e).queues = s.queues := rfl
@[simp] theorem State.setEng_qPtrBad (s : State) (n : Nat) (e : Engine) : (s.setEng n e).qPtrBad = s.qPtrBad := rfl
@[simp] theorem State.setEng_polFrames (s : State) (n : Nat) (e : Engine) : (s.setEng n e).polFrames = s.polFrames := rfl
@[simp] theorem State.setEng_polLeak (s : State) (n : Nat) (e : Engine) : (s.setEng n e).polLeak = s.polLeak := rfl
@[simp] theorem State.setEng_strikes (s : State) (n : Nat) (e : Engine) : (s.setEng n e).strikes = s.strikes := rfl
@[simp] theorem State.setEng_bankTrack (s : State) (n : Nat) (e : Engine) : (s.setEng n e).bankTrack = s.bankTrack := rfl
@[simp] theorem State.setEng_lastCeBank (s : State) (n : Nat) (e : Engine) : (s.setEng n e).lastCeBank = s.lastCeBank := rfl
@[simp] theorem State.setEng_migReqs (s : State) (n : Nat) (e : Engine) : (s.setEng n e).migReqs = s.migReqs := rfl
@[simp] theorem State.setEng_expSeq (s : State) (n : Nat) (e : Engine) : (s.setEng n e).expSeq = s.expSeq := rfl
@[simp] theorem State.setEng_bankAns (s : State) (n : Nat) (e : Engine) : (s.setEng n e).bankAns = s.bankAns := rfl
@[simp] theorem State.setEng_blMbist (s : State) (n : Nat) (e : Engine) : (s.setEng n e).blMbist = s.blMbist := rfl
@[simp] theorem State.setEng_held (s : State) (n : Nat) (e : Engine) : (s.setEng n e).held = s.held := rfl
@[simp] theorem State.setEng_heldLo (s : State) (n : Nat) (e : Engine) : (s.setEng n e).heldLo = s.heldLo := rfl
@[simp] theorem State.setEng_tagBad (s : State) (n : Nat) (e : Engine) : (s.setEng n e).tagBad = s.tagBad := rfl
@[simp] theorem State.setEng_tmrFire (s : State) (n : Nat) (e : Engine) : (s.setEng n e).tmrFire = s.tmrFire := rfl
@[simp] theorem State.setEng_tmrZero (s : State) (n : Nat) (e : Engine) : (s.setEng n e).tmrZero = s.tmrZero := rfl
@[simp] theorem State.setEng_tmrFired (s : State) (n : Nat) (e : Engine) : (s.setEng n e).tmrFired = s.tmrFired := rfl
@[simp] theorem State.setEng_tmrCaps (s : State) (n : Nat) (e : Engine) : (s.setEng n e).tmrCaps = s.tmrCaps := rfl
@[simp] theorem State.setEng_calCount (s : State) (n : Nat) (e : Engine) : (s.setEng n e).calCount = s.calCount := rfl
@[simp] theorem State.setEng_calSkip (s : State) (n : Nat) (e : Engine) : (s.setEng n e).calSkip = s.calSkip := rfl
@[simp] theorem State.setEng_tagWait (s : State) (n : Nat) (e : Engine) : (s.setEng n e).tagWait = s.tagWait := rfl
@[simp] theorem State.setEng_blLbist (s : State) (n : Nat) (e : Engine) : (s.setEng n e).blLbist = s.blLbist := rfl
@[simp] theorem State.setEng_blLast (s : State) (n : Nat) (e : Engine) : (s.setEng n e).blLast = s.blLast := rfl
@[simp] theorem State.setEng_jnl (s : State) (n : Nat) (e : Engine) : (s.setEng n e).jnl = s.jnl := rfl
@[simp] theorem State.setEng_flash (s : State) (n : Nat) (e : Engine) : (s.setEng n e).flash = s.flash := rfl
@[simp] theorem State.setEng_flashInfo (s : State) (n : Nat) (e : Engine) : (s.setEng n e).flashInfo = s.flashInfo := rfl
@[simp] theorem State.setEng_ctTasks (s : State) (n : Nat) (e : Engine) : (s.setEng n e).ctTasks = s.ctTasks := rfl
@[simp] theorem State.setEng_ctSweep (s : State) (n : Nat) (e : Engine) : (s.setEng n e).ctSweep = s.ctSweep := rfl
@[simp] theorem State.setEng_ctUsed (s : State) (n : Nat) (e : Engine) : (s.setEng n e).ctUsed = s.ctUsed := rfl
@[simp] theorem State.setEng_ctItems (s : State) (n : Nat) (e : Engine) : (s.setEng n e).ctItems = s.ctItems := rfl
@[simp] theorem State.setEng_vu (s : State) (n : Nat) (e : Engine) : (s.setEng n e).vu = s.vu := rfl
@[simp] theorem State.setEng_rdHold (s : State) (n : Nat) (e : Engine) : (s.setEng n e).rdHold = s.rdHold := rfl
@[simp] theorem State.setEng_rdTurn (s : State) (n : Nat) (e : Engine) : (s.setEng n e).rdTurn = s.rdTurn := rfl
@[simp] theorem State.setEng_lanes (s : State) (n : Nat) (e : Engine) : (s.setEng n e).lanes = s.lanes := rfl
@[simp] theorem State.setEng_rxDone (s : State) (n : Nat) (e : Engine) : (s.setEng n e).rxDone = s.rxDone := rfl
@[simp] theorem State.setEng_chks (s : State) (n : Nat) (e : Engine) : (s.setEng n e).chks = s.chks := rfl
@[simp] theorem State.setEng_copies (s : State) (n : Nat) (e : Engine) : (s.setEng n e).copies = s.copies := rfl
@[simp] theorem State.setEng_restores (s : State) (n : Nat) (e : Engine) : (s.setEng n e).restores = s.restores := rfl
@[simp] theorem State.setEng_reason (s : State) (n : Nat) (e : Engine) : (s.setEng n e).reason = s.reason := rfl
@[simp] theorem State.setEng_dd (s : State) (n : Nat) (e : Engine) : (s.setEng n e).dd = s.dd := rfl
@[simp] theorem State.setEng_msix (s : State) (n : Nat) (e : Engine) : (s.setEng n e).msix = s.msix := rfl
@[simp] theorem State.setEng_msixPend (s : State) (n : Nat) (e : Engine) : (s.setEng n e).msixPend = s.msixPend := rfl
@[simp] theorem State.setEng_hostExit (s : State) (n : Nat) (e : Engine) : (s.setEng n e).hostExit = s.hostExit := rfl
@[simp] theorem State.setEng_perstMc (s : State) (n : Nat) (e : Engine) : (s.setEng n e).perstMc = s.perstMc := rfl
@[simp] theorem State.setEng_trstMc (s : State) (n : Nat) (e : Engine) : (s.setEng n e).trstMc = s.trstMc := rfl
@[simp] theorem State.setEng_tmrIn (s : State) (n : Nat) (e : Engine) : (s.setEng n e).tmrIn = s.tmrIn := rfl
@[simp] theorem State.setEng_filtAt (s : State) (n : Nat) (e : Engine) : (s.setEng n e).filtAt = s.filtAt := rfl
@[simp] theorem State.setEng_woken (s : State) (n : Nat) (e : Engine) : (s.setEng n e).woken = s.woken := rfl
@[simp] theorem State.setEng_aspm (s : State) (n : Nat) (e : Engine) : (s.setEng n e).aspm = s.aspm := rfl
@[simp] theorem State.setEng_aerAdvisory (s : State) (n : Nat) (e : Engine) : (s.setEng n e).aerAdvisory = s.aerAdvisory := rfl
@[simp] theorem State.setEng_triad (s : State) (n : Nat) (e : Engine) : (s.setEng n e).triad = s.triad := rfl
@[simp] theorem State.setEng_faultLow (s : State) (n : Nat) (e : Engine) : (s.setEng n e).faultLow = s.faultLow := rfl
@[simp] theorem State.setEng_rom (s : State) (n : Nat) (e : Engine) : (s.setEng n e).rom = s.rom := rfl
@[simp] theorem State.setEng_romGo (s : State) (n : Nat) (e : Engine) : (s.setEng n e).romGo = s.romGo := rfl
@[simp] theorem State.setEng_booted (s : State) (n : Nat) (e : Engine) : (s.setEng n e).booted = s.booted := rfl
@[simp] theorem State.setEng_boot (s : State) (n : Nat) (e : Engine) : (s.setEng n e).boot = s.boot := rfl
@[simp] theorem State.setEng_laneScripts (s : State) (n : Nat) (e : Engine) : (s.setEng n e).laneScripts = s.laneScripts := rfl
@[simp] theorem State.setEng_bankProgs (s : State) (n : Nat) (e : Engine) : (s.setEng n e).bankProgs = s.bankProgs := rfl
@[simp] theorem State.setEng_keyHash (s : State) (n : Nat) (e : Engine) : (s.setEng n e).keyHash = s.keyHash := rfl
@[simp] theorem State.setEng_lcForce (s : State) (n : Nat) (e : Engine) : (s.setEng n e).lcForce = s.lcForce := rfl
@[simp] theorem State.setEng_fuseOp (s : State) (n : Nat) (e : Engine) : (s.setEng n e).fuseOp = s.fuseOp := rfl
@[simp] theorem State.setEng_jtag (s : State) (n : Nat) (e : Engine) : (s.setEng n e).jtag = s.jtag := rfl
@[simp] theorem State.setEng_dbgRes (s : State) (n : Nat) (e : Engine) : (s.setEng n e).dbgRes = s.dbgRes := rfl
@[simp] theorem State.setEng_bscan (s : State) (n : Nat) (e : Engine) : (s.setEng n e).bscan = s.bscan := rfl
@[simp] theorem State.setEng_sensors (s : State) (n : Nat) (e : Engine) : (s.setEng n e).sensors = s.sensors := rfl
@[simp] theorem State.setEng_supplies (s : State) (n : Nat) (e : Engine) : (s.setEng n e).supplies = s.supplies := rfl
@[simp] theorem State.setEng_power (s : State) (n : Nat) (e : Engine) : (s.setEng n e).power = s.power := rfl
@[simp] theorem State.setEng_supplyLow (s : State) (n : Nat) (e : Engine) : (s.setEng n e).supplyLow = s.supplyLow := rfl
@[simp] theorem State.setEng_sscBusy (s : State) (n : Nat) (e : Engine) : (s.setEng n e).sscBusy = s.sscBusy := rfl

@[simp] theorem State.emit_pending (s : State) (o : Output) : (s.emit o).pending = s.pending := rfl
@[simp] theorem State.emit_regs (s : State) (o : Output) : (s.emit o).regs = s.regs := rfl
@[simp] theorem State.emit_inForce (s : State) (o : Output) : (s.emit o).inForce = s.inForce := rfl
@[simp] theorem State.emit_staged (s : State) (o : Output) : (s.emit o).staged = s.staged := rfl
@[simp] theorem State.emit_freeCtr (s : State) (o : Output) : (s.emit o).freeCtr = s.freeCtr := rfl
@[simp] theorem State.emit_resp (s : State) (o : Output) : (s.emit o).resp = s.resp := rfl
@[simp] theorem State.emit_ft (s : State) (o : Output) : (s.emit o).ft = s.ft := rfl
@[simp] theorem State.emit_store (s : State) (o : Output) : (s.emit o).store = s.store := rfl
@[simp] theorem State.emit_storeErr (s : State) (o : Output) : (s.emit o).storeErr = s.storeErr := rfl
@[simp] theorem State.emit_resv (s : State) (o : Output) : (s.emit o).resv = s.resv := rfl
@[simp] theorem State.emit_writeBacks (s : State) (o : Output) : (s.emit o).writeBacks = s.writeBacks := rfl
@[simp] theorem State.emit_bankHeld (s : State) (o : Output) : (s.emit o).bankHeld = s.bankHeld := rfl
@[simp] theorem State.emit_rot (s : State) (o : Output) : (s.emit o).rot = s.rot := rfl
@[simp] theorem State.emit_rotMarks (s : State) (o : Output) : (s.emit o).rotMarks = s.rotMarks := rfl
@[simp] theorem State.emit_rotBad (s : State) (o : Output) : (s.emit o).rotBad = s.rotBad := rfl
@[simp] theorem State.emit_rotWant (s : State) (o : Output) : (s.emit o).rotWant = s.rotWant := rfl
@[simp] theorem State.emit_localMem (s : State) (o : Output) : (s.emit o).localMem = s.localMem := rfl
@[simp] theorem State.emit_tags (s : State) (o : Output) : (s.emit o).tags = s.tags := rfl
@[simp] theorem State.emit_lmErr (s : State) (o : Output) : (s.emit o).lmErr = s.lmErr := rfl
@[simp] theorem State.emit_vault (s : State) (o : Output) : (s.emit o).vault = s.vault := rfl
@[simp] theorem State.emit_vtErr (s : State) (o : Output) : (s.emit o).vtErr = s.vtErr := rfl
@[simp] theorem State.emit_queues (s : State) (o : Output) : (s.emit o).queues = s.queues := rfl
@[simp] theorem State.emit_qPtrBad (s : State) (o : Output) : (s.emit o).qPtrBad = s.qPtrBad := rfl
@[simp] theorem State.emit_engines (s : State) (o : Output) : (s.emit o).engines = s.engines := rfl
@[simp] theorem State.emit_polFrames (s : State) (o : Output) : (s.emit o).polFrames = s.polFrames := rfl
@[simp] theorem State.emit_polLeak (s : State) (o : Output) : (s.emit o).polLeak = s.polLeak := rfl
@[simp] theorem State.emit_strikes (s : State) (o : Output) : (s.emit o).strikes = s.strikes := rfl
@[simp] theorem State.emit_bankTrack (s : State) (o : Output) : (s.emit o).bankTrack = s.bankTrack := rfl
@[simp] theorem State.emit_lastCeBank (s : State) (o : Output) : (s.emit o).lastCeBank = s.lastCeBank := rfl
@[simp] theorem State.emit_migReqs (s : State) (o : Output) : (s.emit o).migReqs = s.migReqs := rfl
@[simp] theorem State.emit_expSeq (s : State) (o : Output) : (s.emit o).expSeq = s.expSeq := rfl
@[simp] theorem State.emit_bankAns (s : State) (o : Output) : (s.emit o).bankAns = s.bankAns := rfl
@[simp] theorem State.emit_blMbist (s : State) (o : Output) : (s.emit o).blMbist = s.blMbist := rfl
@[simp] theorem State.emit_held (s : State) (o : Output) : (s.emit o).held = s.held := rfl
@[simp] theorem State.emit_heldLo (s : State) (o : Output) : (s.emit o).heldLo = s.heldLo := rfl
@[simp] theorem State.emit_tagBad (s : State) (o : Output) : (s.emit o).tagBad = s.tagBad := rfl
@[simp] theorem State.emit_tmrFire (s : State) (o : Output) : (s.emit o).tmrFire = s.tmrFire := rfl
@[simp] theorem State.emit_tmrZero (s : State) (o : Output) : (s.emit o).tmrZero = s.tmrZero := rfl
@[simp] theorem State.emit_tmrFired (s : State) (o : Output) : (s.emit o).tmrFired = s.tmrFired := rfl
@[simp] theorem State.emit_tmrCaps (s : State) (o : Output) : (s.emit o).tmrCaps = s.tmrCaps := rfl
@[simp] theorem State.emit_calCount (s : State) (o : Output) : (s.emit o).calCount = s.calCount := rfl
@[simp] theorem State.emit_calSkip (s : State) (o : Output) : (s.emit o).calSkip = s.calSkip := rfl
@[simp] theorem State.emit_tagWait (s : State) (o : Output) : (s.emit o).tagWait = s.tagWait := rfl
@[simp] theorem State.emit_blLbist (s : State) (o : Output) : (s.emit o).blLbist = s.blLbist := rfl
@[simp] theorem State.emit_blLast (s : State) (o : Output) : (s.emit o).blLast = s.blLast := rfl
@[simp] theorem State.emit_jnl (s : State) (o : Output) : (s.emit o).jnl = s.jnl := rfl
@[simp] theorem State.emit_flash (s : State) (o : Output) : (s.emit o).flash = s.flash := rfl
@[simp] theorem State.emit_flashInfo (s : State) (o : Output) : (s.emit o).flashInfo = s.flashInfo := rfl
@[simp] theorem State.emit_ctTasks (s : State) (o : Output) : (s.emit o).ctTasks = s.ctTasks := rfl
@[simp] theorem State.emit_ctSweep (s : State) (o : Output) : (s.emit o).ctSweep = s.ctSweep := rfl
@[simp] theorem State.emit_ctUsed (s : State) (o : Output) : (s.emit o).ctUsed = s.ctUsed := rfl
@[simp] theorem State.emit_ctItems (s : State) (o : Output) : (s.emit o).ctItems = s.ctItems := rfl
@[simp] theorem State.emit_vu (s : State) (o : Output) : (s.emit o).vu = s.vu := rfl
@[simp] theorem State.emit_rdHold (s : State) (o : Output) : (s.emit o).rdHold = s.rdHold := rfl
@[simp] theorem State.emit_rdTurn (s : State) (o : Output) : (s.emit o).rdTurn = s.rdTurn := rfl
@[simp] theorem State.emit_lanes (s : State) (o : Output) : (s.emit o).lanes = s.lanes := rfl
@[simp] theorem State.emit_rxDone (s : State) (o : Output) : (s.emit o).rxDone = s.rxDone := rfl
@[simp] theorem State.emit_chks (s : State) (o : Output) : (s.emit o).chks = s.chks := rfl
@[simp] theorem State.emit_copies (s : State) (o : Output) : (s.emit o).copies = s.copies := rfl
@[simp] theorem State.emit_restores (s : State) (o : Output) : (s.emit o).restores = s.restores := rfl
@[simp] theorem State.emit_reason (s : State) (o : Output) : (s.emit o).reason = s.reason := rfl
@[simp] theorem State.emit_dd (s : State) (o : Output) : (s.emit o).dd = s.dd := rfl
@[simp] theorem State.emit_msix (s : State) (o : Output) : (s.emit o).msix = s.msix := rfl
@[simp] theorem State.emit_msixPend (s : State) (o : Output) : (s.emit o).msixPend = s.msixPend := rfl
@[simp] theorem State.emit_hostExit (s : State) (o : Output) : (s.emit o).hostExit = s.hostExit := rfl
@[simp] theorem State.emit_perstMc (s : State) (o : Output) : (s.emit o).perstMc = s.perstMc := rfl
@[simp] theorem State.emit_trstMc (s : State) (o : Output) : (s.emit o).trstMc = s.trstMc := rfl
@[simp] theorem State.emit_tmrIn (s : State) (o : Output) : (s.emit o).tmrIn = s.tmrIn := rfl
@[simp] theorem State.emit_filtAt (s : State) (o : Output) : (s.emit o).filtAt = s.filtAt := rfl
@[simp] theorem State.emit_woken (s : State) (o : Output) : (s.emit o).woken = s.woken := rfl
@[simp] theorem State.emit_aspm (s : State) (o : Output) : (s.emit o).aspm = s.aspm := rfl
@[simp] theorem State.emit_aerAdvisory (s : State) (o : Output) : (s.emit o).aerAdvisory = s.aerAdvisory := rfl
@[simp] theorem State.emit_triad (s : State) (o : Output) : (s.emit o).triad = s.triad := rfl
@[simp] theorem State.emit_faultLow (s : State) (o : Output) : (s.emit o).faultLow = s.faultLow := rfl
@[simp] theorem State.emit_rom (s : State) (o : Output) : (s.emit o).rom = s.rom := rfl
@[simp] theorem State.emit_romGo (s : State) (o : Output) : (s.emit o).romGo = s.romGo := rfl
@[simp] theorem State.emit_booted (s : State) (o : Output) : (s.emit o).booted = s.booted := rfl
@[simp] theorem State.emit_boot (s : State) (o : Output) : (s.emit o).boot = s.boot := rfl
@[simp] theorem State.emit_laneScripts (s : State) (o : Output) : (s.emit o).laneScripts = s.laneScripts := rfl
@[simp] theorem State.emit_bankProgs (s : State) (o : Output) : (s.emit o).bankProgs = s.bankProgs := rfl
@[simp] theorem State.emit_keyHash (s : State) (o : Output) : (s.emit o).keyHash = s.keyHash := rfl
@[simp] theorem State.emit_lcForce (s : State) (o : Output) : (s.emit o).lcForce = s.lcForce := rfl
@[simp] theorem State.emit_fuseOp (s : State) (o : Output) : (s.emit o).fuseOp = s.fuseOp := rfl
@[simp] theorem State.emit_jtag (s : State) (o : Output) : (s.emit o).jtag = s.jtag := rfl
@[simp] theorem State.emit_dbgRes (s : State) (o : Output) : (s.emit o).dbgRes = s.dbgRes := rfl
@[simp] theorem State.emit_bscan (s : State) (o : Output) : (s.emit o).bscan = s.bscan := rfl
@[simp] theorem State.emit_sensors (s : State) (o : Output) : (s.emit o).sensors = s.sensors := rfl
@[simp] theorem State.emit_supplies (s : State) (o : Output) : (s.emit o).supplies = s.supplies := rfl
@[simp] theorem State.emit_power (s : State) (o : Output) : (s.emit o).power = s.power := rfl
@[simp] theorem State.emit_supplyLow (s : State) (o : Output) : (s.emit o).supplyLow = s.supplyLow := rfl
@[simp] theorem State.emit_sscBusy (s : State) (o : Output) : (s.emit o).sscBusy = s.sscBusy := rfl

@[simp] theorem State.respond_pending (s : State) (m code data : Nat) : (s.respond m code data).pending = s.pending := rfl
@[simp] theorem State.respond_regs (s : State) (m code data : Nat) : (s.respond m code data).regs = s.regs := rfl
@[simp] theorem State.respond_inForce (s : State) (m code data : Nat) : (s.respond m code data).inForce = s.inForce := rfl
@[simp] theorem State.respond_staged (s : State) (m code data : Nat) : (s.respond m code data).staged = s.staged := rfl
@[simp] theorem State.respond_freeCtr (s : State) (m code data : Nat) : (s.respond m code data).freeCtr = s.freeCtr := rfl
@[simp] theorem State.respond_sent (s : State) (m code data : Nat) : (s.respond m code data).sent = s.sent := rfl
@[simp] theorem State.respond_ft (s : State) (m code data : Nat) : (s.respond m code data).ft = s.ft := rfl
@[simp] theorem State.respond_store (s : State) (m code data : Nat) : (s.respond m code data).store = s.store := rfl
@[simp] theorem State.respond_storeErr (s : State) (m code data : Nat) : (s.respond m code data).storeErr = s.storeErr := rfl
@[simp] theorem State.respond_resv (s : State) (m code data : Nat) : (s.respond m code data).resv = s.resv := rfl
@[simp] theorem State.respond_writeBacks (s : State) (m code data : Nat) : (s.respond m code data).writeBacks = s.writeBacks := rfl
@[simp] theorem State.respond_bankHeld (s : State) (m code data : Nat) : (s.respond m code data).bankHeld = s.bankHeld := rfl
@[simp] theorem State.respond_rot (s : State) (m code data : Nat) : (s.respond m code data).rot = s.rot := rfl
@[simp] theorem State.respond_rotMarks (s : State) (m code data : Nat) : (s.respond m code data).rotMarks = s.rotMarks := rfl
@[simp] theorem State.respond_rotBad (s : State) (m code data : Nat) : (s.respond m code data).rotBad = s.rotBad := rfl
@[simp] theorem State.respond_rotWant (s : State) (m code data : Nat) : (s.respond m code data).rotWant = s.rotWant := rfl
@[simp] theorem State.respond_localMem (s : State) (m code data : Nat) : (s.respond m code data).localMem = s.localMem := rfl
@[simp] theorem State.respond_tags (s : State) (m code data : Nat) : (s.respond m code data).tags = s.tags := rfl
@[simp] theorem State.respond_lmErr (s : State) (m code data : Nat) : (s.respond m code data).lmErr = s.lmErr := rfl
@[simp] theorem State.respond_vault (s : State) (m code data : Nat) : (s.respond m code data).vault = s.vault := rfl
@[simp] theorem State.respond_vtErr (s : State) (m code data : Nat) : (s.respond m code data).vtErr = s.vtErr := rfl
@[simp] theorem State.respond_queues (s : State) (m code data : Nat) : (s.respond m code data).queues = s.queues := rfl
@[simp] theorem State.respond_qPtrBad (s : State) (m code data : Nat) : (s.respond m code data).qPtrBad = s.qPtrBad := rfl
@[simp] theorem State.respond_engines (s : State) (m code data : Nat) : (s.respond m code data).engines = s.engines := rfl
@[simp] theorem State.respond_polFrames (s : State) (m code data : Nat) : (s.respond m code data).polFrames = s.polFrames := rfl
@[simp] theorem State.respond_polLeak (s : State) (m code data : Nat) : (s.respond m code data).polLeak = s.polLeak := rfl
@[simp] theorem State.respond_strikes (s : State) (m code data : Nat) : (s.respond m code data).strikes = s.strikes := rfl
@[simp] theorem State.respond_bankTrack (s : State) (m code data : Nat) : (s.respond m code data).bankTrack = s.bankTrack := rfl
@[simp] theorem State.respond_lastCeBank (s : State) (m code data : Nat) : (s.respond m code data).lastCeBank = s.lastCeBank := rfl
@[simp] theorem State.respond_migReqs (s : State) (m code data : Nat) : (s.respond m code data).migReqs = s.migReqs := rfl
@[simp] theorem State.respond_expSeq (s : State) (m code data : Nat) : (s.respond m code data).expSeq = s.expSeq := rfl
@[simp] theorem State.respond_bankAns (s : State) (m code data : Nat) : (s.respond m code data).bankAns = s.bankAns := rfl
@[simp] theorem State.respond_blMbist (s : State) (m code data : Nat) : (s.respond m code data).blMbist = s.blMbist := rfl
@[simp] theorem State.respond_held (s : State) (m code data : Nat) : (s.respond m code data).held = s.held := rfl
@[simp] theorem State.respond_heldLo (s : State) (m code data : Nat) : (s.respond m code data).heldLo = s.heldLo := rfl
@[simp] theorem State.respond_tagBad (s : State) (m code data : Nat) : (s.respond m code data).tagBad = s.tagBad := rfl
@[simp] theorem State.respond_tmrFire (s : State) (m code data : Nat) : (s.respond m code data).tmrFire = s.tmrFire := rfl
@[simp] theorem State.respond_tmrZero (s : State) (m code data : Nat) : (s.respond m code data).tmrZero = s.tmrZero := rfl
@[simp] theorem State.respond_tmrFired (s : State) (m code data : Nat) : (s.respond m code data).tmrFired = s.tmrFired := rfl
@[simp] theorem State.respond_tmrCaps (s : State) (m code data : Nat) : (s.respond m code data).tmrCaps = s.tmrCaps := rfl
@[simp] theorem State.respond_calCount (s : State) (m code data : Nat) : (s.respond m code data).calCount = s.calCount := rfl
@[simp] theorem State.respond_calSkip (s : State) (m code data : Nat) : (s.respond m code data).calSkip = s.calSkip := rfl
@[simp] theorem State.respond_tagWait (s : State) (m code data : Nat) : (s.respond m code data).tagWait = s.tagWait := rfl
@[simp] theorem State.respond_blLbist (s : State) (m code data : Nat) : (s.respond m code data).blLbist = s.blLbist := rfl
@[simp] theorem State.respond_blLast (s : State) (m code data : Nat) : (s.respond m code data).blLast = s.blLast := rfl
@[simp] theorem State.respond_jnl (s : State) (m code data : Nat) : (s.respond m code data).jnl = s.jnl := rfl
@[simp] theorem State.respond_flash (s : State) (m code data : Nat) : (s.respond m code data).flash = s.flash := rfl
@[simp] theorem State.respond_flashInfo (s : State) (m code data : Nat) : (s.respond m code data).flashInfo = s.flashInfo := rfl
@[simp] theorem State.respond_ctTasks (s : State) (m code data : Nat) : (s.respond m code data).ctTasks = s.ctTasks := rfl
@[simp] theorem State.respond_ctSweep (s : State) (m code data : Nat) : (s.respond m code data).ctSweep = s.ctSweep := rfl
@[simp] theorem State.respond_ctUsed (s : State) (m code data : Nat) : (s.respond m code data).ctUsed = s.ctUsed := rfl
@[simp] theorem State.respond_ctItems (s : State) (m code data : Nat) : (s.respond m code data).ctItems = s.ctItems := rfl
@[simp] theorem State.respond_vu (s : State) (m code data : Nat) : (s.respond m code data).vu = s.vu := rfl
@[simp] theorem State.respond_rdHold (s : State) (m code data : Nat) : (s.respond m code data).rdHold = s.rdHold := rfl
@[simp] theorem State.respond_rdTurn (s : State) (m code data : Nat) : (s.respond m code data).rdTurn = s.rdTurn := rfl
@[simp] theorem State.respond_lanes (s : State) (m code data : Nat) : (s.respond m code data).lanes = s.lanes := rfl
@[simp] theorem State.respond_rxDone (s : State) (m code data : Nat) : (s.respond m code data).rxDone = s.rxDone := rfl
@[simp] theorem State.respond_chks (s : State) (m code data : Nat) : (s.respond m code data).chks = s.chks := rfl
@[simp] theorem State.respond_copies (s : State) (m code data : Nat) : (s.respond m code data).copies = s.copies := rfl
@[simp] theorem State.respond_restores (s : State) (m code data : Nat) : (s.respond m code data).restores = s.restores := rfl
@[simp] theorem State.respond_reason (s : State) (m code data : Nat) : (s.respond m code data).reason = s.reason := rfl
@[simp] theorem State.respond_dd (s : State) (m code data : Nat) : (s.respond m code data).dd = s.dd := rfl
@[simp] theorem State.respond_msix (s : State) (m code data : Nat) : (s.respond m code data).msix = s.msix := rfl
@[simp] theorem State.respond_msixPend (s : State) (m code data : Nat) : (s.respond m code data).msixPend = s.msixPend := rfl
@[simp] theorem State.respond_hostExit (s : State) (m code data : Nat) : (s.respond m code data).hostExit = s.hostExit := rfl
@[simp] theorem State.respond_perstMc (s : State) (m code data : Nat) : (s.respond m code data).perstMc = s.perstMc := rfl
@[simp] theorem State.respond_trstMc (s : State) (m code data : Nat) : (s.respond m code data).trstMc = s.trstMc := rfl
@[simp] theorem State.respond_tmrIn (s : State) (m code data : Nat) : (s.respond m code data).tmrIn = s.tmrIn := rfl
@[simp] theorem State.respond_filtAt (s : State) (m code data : Nat) : (s.respond m code data).filtAt = s.filtAt := rfl
@[simp] theorem State.respond_woken (s : State) (m code data : Nat) : (s.respond m code data).woken = s.woken := rfl
@[simp] theorem State.respond_aspm (s : State) (m code data : Nat) : (s.respond m code data).aspm = s.aspm := rfl
@[simp] theorem State.respond_aerAdvisory (s : State) (m code data : Nat) : (s.respond m code data).aerAdvisory = s.aerAdvisory := rfl
@[simp] theorem State.respond_triad (s : State) (m code data : Nat) : (s.respond m code data).triad = s.triad := rfl
@[simp] theorem State.respond_faultLow (s : State) (m code data : Nat) : (s.respond m code data).faultLow = s.faultLow := rfl
@[simp] theorem State.respond_rom (s : State) (m code data : Nat) : (s.respond m code data).rom = s.rom := rfl
@[simp] theorem State.respond_romGo (s : State) (m code data : Nat) : (s.respond m code data).romGo = s.romGo := rfl
@[simp] theorem State.respond_booted (s : State) (m code data : Nat) : (s.respond m code data).booted = s.booted := rfl
@[simp] theorem State.respond_boot (s : State) (m code data : Nat) : (s.respond m code data).boot = s.boot := rfl
@[simp] theorem State.respond_laneScripts (s : State) (m code data : Nat) : (s.respond m code data).laneScripts = s.laneScripts := rfl
@[simp] theorem State.respond_bankProgs (s : State) (m code data : Nat) : (s.respond m code data).bankProgs = s.bankProgs := rfl
@[simp] theorem State.respond_keyHash (s : State) (m code data : Nat) : (s.respond m code data).keyHash = s.keyHash := rfl
@[simp] theorem State.respond_lcForce (s : State) (m code data : Nat) : (s.respond m code data).lcForce = s.lcForce := rfl
@[simp] theorem State.respond_fuseOp (s : State) (m code data : Nat) : (s.respond m code data).fuseOp = s.fuseOp := rfl
@[simp] theorem State.respond_jtag (s : State) (m code data : Nat) : (s.respond m code data).jtag = s.jtag := rfl
@[simp] theorem State.respond_dbgRes (s : State) (m code data : Nat) : (s.respond m code data).dbgRes = s.dbgRes := rfl
@[simp] theorem State.respond_bscan (s : State) (m code data : Nat) : (s.respond m code data).bscan = s.bscan := rfl
@[simp] theorem State.respond_sensors (s : State) (m code data : Nat) : (s.respond m code data).sensors = s.sensors := rfl
@[simp] theorem State.respond_supplies (s : State) (m code data : Nat) : (s.respond m code data).supplies = s.supplies := rfl
@[simp] theorem State.respond_power (s : State) (m code data : Nat) : (s.respond m code data).power = s.power := rfl
@[simp] theorem State.respond_supplyLow (s : State) (m code data : Nat) : (s.respond m code data).supplyLow = s.supplyLow := rfl
@[simp] theorem State.respond_sscBusy (s : State) (m code data : Nat) : (s.respond m code data).sscBusy = s.sscBusy := rfl

@[simp] theorem State.stPut_pending (s : State) (a : Nat) (b : Byte) : (s.stPut a b).pending = s.pending := rfl
@[simp] theorem State.stPut_regs (s : State) (a : Nat) (b : Byte) : (s.stPut a b).regs = s.regs := rfl
@[simp] theorem State.stPut_inForce (s : State) (a : Nat) (b : Byte) : (s.stPut a b).inForce = s.inForce := rfl
@[simp] theorem State.stPut_staged (s : State) (a : Nat) (b : Byte) : (s.stPut a b).staged = s.staged := rfl
@[simp] theorem State.stPut_freeCtr (s : State) (a : Nat) (b : Byte) : (s.stPut a b).freeCtr = s.freeCtr := rfl
@[simp] theorem State.stPut_sent (s : State) (a : Nat) (b : Byte) : (s.stPut a b).sent = s.sent := rfl
@[simp] theorem State.stPut_resp (s : State) (a : Nat) (b : Byte) : (s.stPut a b).resp = s.resp := rfl
@[simp] theorem State.stPut_ft (s : State) (a : Nat) (b : Byte) : (s.stPut a b).ft = s.ft := rfl
@[simp] theorem State.stPut_storeErr (s : State) (a : Nat) (b : Byte) : (s.stPut a b).storeErr = s.storeErr := rfl
@[simp] theorem State.stPut_resv (s : State) (a : Nat) (b : Byte) : (s.stPut a b).resv = s.resv := rfl
@[simp] theorem State.stPut_writeBacks (s : State) (a : Nat) (b : Byte) : (s.stPut a b).writeBacks = s.writeBacks := rfl
@[simp] theorem State.stPut_bankHeld (s : State) (a : Nat) (b : Byte) : (s.stPut a b).bankHeld = s.bankHeld := rfl
@[simp] theorem State.stPut_rot (s : State) (a : Nat) (b : Byte) : (s.stPut a b).rot = s.rot := rfl
@[simp] theorem State.stPut_rotMarks (s : State) (a : Nat) (b : Byte) : (s.stPut a b).rotMarks = s.rotMarks := rfl
@[simp] theorem State.stPut_rotBad (s : State) (a : Nat) (b : Byte) : (s.stPut a b).rotBad = s.rotBad := rfl
@[simp] theorem State.stPut_rotWant (s : State) (a : Nat) (b : Byte) : (s.stPut a b).rotWant = s.rotWant := rfl
@[simp] theorem State.stPut_localMem (s : State) (a : Nat) (b : Byte) : (s.stPut a b).localMem = s.localMem := rfl
@[simp] theorem State.stPut_tags (s : State) (a : Nat) (b : Byte) : (s.stPut a b).tags = s.tags := rfl
@[simp] theorem State.stPut_lmErr (s : State) (a : Nat) (b : Byte) : (s.stPut a b).lmErr = s.lmErr := rfl
@[simp] theorem State.stPut_vault (s : State) (a : Nat) (b : Byte) : (s.stPut a b).vault = s.vault := rfl
@[simp] theorem State.stPut_vtErr (s : State) (a : Nat) (b : Byte) : (s.stPut a b).vtErr = s.vtErr := rfl
@[simp] theorem State.stPut_queues (s : State) (a : Nat) (b : Byte) : (s.stPut a b).queues = s.queues := rfl
@[simp] theorem State.stPut_qPtrBad (s : State) (a : Nat) (b : Byte) : (s.stPut a b).qPtrBad = s.qPtrBad := rfl
@[simp] theorem State.stPut_engines (s : State) (a : Nat) (b : Byte) : (s.stPut a b).engines = s.engines := rfl
@[simp] theorem State.stPut_polFrames (s : State) (a : Nat) (b : Byte) : (s.stPut a b).polFrames = s.polFrames := rfl
@[simp] theorem State.stPut_polLeak (s : State) (a : Nat) (b : Byte) : (s.stPut a b).polLeak = s.polLeak := rfl
@[simp] theorem State.stPut_strikes (s : State) (a : Nat) (b : Byte) : (s.stPut a b).strikes = s.strikes := rfl
@[simp] theorem State.stPut_bankTrack (s : State) (a : Nat) (b : Byte) : (s.stPut a b).bankTrack = s.bankTrack := rfl
@[simp] theorem State.stPut_lastCeBank (s : State) (a : Nat) (b : Byte) : (s.stPut a b).lastCeBank = s.lastCeBank := rfl
@[simp] theorem State.stPut_migReqs (s : State) (a : Nat) (b : Byte) : (s.stPut a b).migReqs = s.migReqs := rfl
@[simp] theorem State.stPut_expSeq (s : State) (a : Nat) (b : Byte) : (s.stPut a b).expSeq = s.expSeq := rfl
@[simp] theorem State.stPut_bankAns (s : State) (a : Nat) (b : Byte) : (s.stPut a b).bankAns = s.bankAns := rfl
@[simp] theorem State.stPut_blMbist (s : State) (a : Nat) (b : Byte) : (s.stPut a b).blMbist = s.blMbist := rfl
@[simp] theorem State.stPut_held (s : State) (a : Nat) (b : Byte) : (s.stPut a b).held = s.held := rfl
@[simp] theorem State.stPut_heldLo (s : State) (a : Nat) (b : Byte) : (s.stPut a b).heldLo = s.heldLo := rfl
@[simp] theorem State.stPut_tagBad (s : State) (a : Nat) (b : Byte) : (s.stPut a b).tagBad = s.tagBad := rfl
@[simp] theorem State.stPut_tmrFire (s : State) (a : Nat) (b : Byte) : (s.stPut a b).tmrFire = s.tmrFire := rfl
@[simp] theorem State.stPut_tmrZero (s : State) (a : Nat) (b : Byte) : (s.stPut a b).tmrZero = s.tmrZero := rfl
@[simp] theorem State.stPut_tmrFired (s : State) (a : Nat) (b : Byte) : (s.stPut a b).tmrFired = s.tmrFired := rfl
@[simp] theorem State.stPut_tmrCaps (s : State) (a : Nat) (b : Byte) : (s.stPut a b).tmrCaps = s.tmrCaps := rfl
@[simp] theorem State.stPut_calCount (s : State) (a : Nat) (b : Byte) : (s.stPut a b).calCount = s.calCount := rfl
@[simp] theorem State.stPut_calSkip (s : State) (a : Nat) (b : Byte) : (s.stPut a b).calSkip = s.calSkip := rfl
@[simp] theorem State.stPut_tagWait (s : State) (a : Nat) (b : Byte) : (s.stPut a b).tagWait = s.tagWait := rfl
@[simp] theorem State.stPut_blLbist (s : State) (a : Nat) (b : Byte) : (s.stPut a b).blLbist = s.blLbist := rfl
@[simp] theorem State.stPut_blLast (s : State) (a : Nat) (b : Byte) : (s.stPut a b).blLast = s.blLast := rfl
@[simp] theorem State.stPut_jnl (s : State) (a : Nat) (b : Byte) : (s.stPut a b).jnl = s.jnl := rfl
@[simp] theorem State.stPut_flash (s : State) (a : Nat) (b : Byte) : (s.stPut a b).flash = s.flash := rfl
@[simp] theorem State.stPut_flashInfo (s : State) (a : Nat) (b : Byte) : (s.stPut a b).flashInfo = s.flashInfo := rfl
@[simp] theorem State.stPut_ctTasks (s : State) (a : Nat) (b : Byte) : (s.stPut a b).ctTasks = s.ctTasks := rfl
@[simp] theorem State.stPut_ctSweep (s : State) (a : Nat) (b : Byte) : (s.stPut a b).ctSweep = s.ctSweep := rfl
@[simp] theorem State.stPut_ctUsed (s : State) (a : Nat) (b : Byte) : (s.stPut a b).ctUsed = s.ctUsed := rfl
@[simp] theorem State.stPut_ctItems (s : State) (a : Nat) (b : Byte) : (s.stPut a b).ctItems = s.ctItems := rfl
@[simp] theorem State.stPut_vu (s : State) (a : Nat) (b : Byte) : (s.stPut a b).vu = s.vu := rfl
@[simp] theorem State.stPut_rdHold (s : State) (a : Nat) (b : Byte) : (s.stPut a b).rdHold = s.rdHold := rfl
@[simp] theorem State.stPut_rdTurn (s : State) (a : Nat) (b : Byte) : (s.stPut a b).rdTurn = s.rdTurn := rfl
@[simp] theorem State.stPut_lanes (s : State) (a : Nat) (b : Byte) : (s.stPut a b).lanes = s.lanes := rfl
@[simp] theorem State.stPut_rxDone (s : State) (a : Nat) (b : Byte) : (s.stPut a b).rxDone = s.rxDone := rfl
@[simp] theorem State.stPut_chks (s : State) (a : Nat) (b : Byte) : (s.stPut a b).chks = s.chks := rfl
@[simp] theorem State.stPut_copies (s : State) (a : Nat) (b : Byte) : (s.stPut a b).copies = s.copies := rfl
@[simp] theorem State.stPut_restores (s : State) (a : Nat) (b : Byte) : (s.stPut a b).restores = s.restores := rfl
@[simp] theorem State.stPut_reason (s : State) (a : Nat) (b : Byte) : (s.stPut a b).reason = s.reason := rfl
@[simp] theorem State.stPut_dd (s : State) (a : Nat) (b : Byte) : (s.stPut a b).dd = s.dd := rfl
@[simp] theorem State.stPut_msix (s : State) (a : Nat) (b : Byte) : (s.stPut a b).msix = s.msix := rfl
@[simp] theorem State.stPut_msixPend (s : State) (a : Nat) (b : Byte) : (s.stPut a b).msixPend = s.msixPend := rfl
@[simp] theorem State.stPut_hostExit (s : State) (a : Nat) (b : Byte) : (s.stPut a b).hostExit = s.hostExit := rfl
@[simp] theorem State.stPut_perstMc (s : State) (a : Nat) (b : Byte) : (s.stPut a b).perstMc = s.perstMc := rfl
@[simp] theorem State.stPut_trstMc (s : State) (a : Nat) (b : Byte) : (s.stPut a b).trstMc = s.trstMc := rfl
@[simp] theorem State.stPut_tmrIn (s : State) (a : Nat) (b : Byte) : (s.stPut a b).tmrIn = s.tmrIn := rfl
@[simp] theorem State.stPut_filtAt (s : State) (a : Nat) (b : Byte) : (s.stPut a b).filtAt = s.filtAt := rfl
@[simp] theorem State.stPut_woken (s : State) (a : Nat) (b : Byte) : (s.stPut a b).woken = s.woken := rfl
@[simp] theorem State.stPut_aspm (s : State) (a : Nat) (b : Byte) : (s.stPut a b).aspm = s.aspm := rfl
@[simp] theorem State.stPut_aerAdvisory (s : State) (a : Nat) (b : Byte) : (s.stPut a b).aerAdvisory = s.aerAdvisory := rfl
@[simp] theorem State.stPut_triad (s : State) (a : Nat) (b : Byte) : (s.stPut a b).triad = s.triad := rfl
@[simp] theorem State.stPut_faultLow (s : State) (a : Nat) (b : Byte) : (s.stPut a b).faultLow = s.faultLow := rfl
@[simp] theorem State.stPut_rom (s : State) (a : Nat) (b : Byte) : (s.stPut a b).rom = s.rom := rfl
@[simp] theorem State.stPut_romGo (s : State) (a : Nat) (b : Byte) : (s.stPut a b).romGo = s.romGo := rfl
@[simp] theorem State.stPut_booted (s : State) (a : Nat) (b : Byte) : (s.stPut a b).booted = s.booted := rfl
@[simp] theorem State.stPut_boot (s : State) (a : Nat) (b : Byte) : (s.stPut a b).boot = s.boot := rfl
@[simp] theorem State.stPut_laneScripts (s : State) (a : Nat) (b : Byte) : (s.stPut a b).laneScripts = s.laneScripts := rfl
@[simp] theorem State.stPut_bankProgs (s : State) (a : Nat) (b : Byte) : (s.stPut a b).bankProgs = s.bankProgs := rfl
@[simp] theorem State.stPut_keyHash (s : State) (a : Nat) (b : Byte) : (s.stPut a b).keyHash = s.keyHash := rfl
@[simp] theorem State.stPut_lcForce (s : State) (a : Nat) (b : Byte) : (s.stPut a b).lcForce = s.lcForce := rfl
@[simp] theorem State.stPut_fuseOp (s : State) (a : Nat) (b : Byte) : (s.stPut a b).fuseOp = s.fuseOp := rfl
@[simp] theorem State.stPut_jtag (s : State) (a : Nat) (b : Byte) : (s.stPut a b).jtag = s.jtag := rfl
@[simp] theorem State.stPut_dbgRes (s : State) (a : Nat) (b : Byte) : (s.stPut a b).dbgRes = s.dbgRes := rfl
@[simp] theorem State.stPut_bscan (s : State) (a : Nat) (b : Byte) : (s.stPut a b).bscan = s.bscan := rfl
@[simp] theorem State.stPut_sensors (s : State) (a : Nat) (b : Byte) : (s.stPut a b).sensors = s.sensors := rfl
@[simp] theorem State.stPut_supplies (s : State) (a : Nat) (b : Byte) : (s.stPut a b).supplies = s.supplies := rfl
@[simp] theorem State.stPut_power (s : State) (a : Nat) (b : Byte) : (s.stPut a b).power = s.power := rfl
@[simp] theorem State.stPut_supplyLow (s : State) (a : Nat) (b : Byte) : (s.stPut a b).supplyLow = s.supplyLow := rfl
@[simp] theorem State.stPut_sscBusy (s : State) (a : Nat) (b : Byte) : (s.stPut a b).sscBusy = s.sscBusy := rfl

@[simp] theorem State.lmPut_pending (s : State) (a : Nat) (b : Byte) : (s.lmPut a b).pending = s.pending := rfl
@[simp] theorem State.lmPut_regs (s : State) (a : Nat) (b : Byte) : (s.lmPut a b).regs = s.regs := rfl
@[simp] theorem State.lmPut_inForce (s : State) (a : Nat) (b : Byte) : (s.lmPut a b).inForce = s.inForce := rfl
@[simp] theorem State.lmPut_staged (s : State) (a : Nat) (b : Byte) : (s.lmPut a b).staged = s.staged := rfl
@[simp] theorem State.lmPut_freeCtr (s : State) (a : Nat) (b : Byte) : (s.lmPut a b).freeCtr = s.freeCtr := rfl
@[simp] theorem State.lmPut_sent (s : State) (a : Nat) (b : Byte) : (s.lmPut a b).sent = s.sent := rfl
@[simp] theorem State.lmPut_resp (s : State) (a : Nat) (b : Byte) : (s.lmPut a b).resp = s.resp := rfl
@[simp] theorem State.lmPut_ft (s : State) (a : Nat) (b : Byte) : (s.lmPut a b).ft = s.ft := rfl
@[simp] theorem State.lmPut_store (s : State) (a : Nat) (b : Byte) : (s.lmPut a b).store = s.store := rfl
@[simp] theorem State.lmPut_storeErr (s : State) (a : Nat) (b : Byte) : (s.lmPut a b).storeErr = s.storeErr := rfl
@[simp] theorem State.lmPut_resv (s : State) (a : Nat) (b : Byte) : (s.lmPut a b).resv = s.resv := rfl
@[simp] theorem State.lmPut_writeBacks (s : State) (a : Nat) (b : Byte) : (s.lmPut a b).writeBacks = s.writeBacks := rfl
@[simp] theorem State.lmPut_bankHeld (s : State) (a : Nat) (b : Byte) : (s.lmPut a b).bankHeld = s.bankHeld := rfl
@[simp] theorem State.lmPut_rot (s : State) (a : Nat) (b : Byte) : (s.lmPut a b).rot = s.rot := rfl
@[simp] theorem State.lmPut_rotMarks (s : State) (a : Nat) (b : Byte) : (s.lmPut a b).rotMarks = s.rotMarks := rfl
@[simp] theorem State.lmPut_rotBad (s : State) (a : Nat) (b : Byte) : (s.lmPut a b).rotBad = s.rotBad := rfl
@[simp] theorem State.lmPut_rotWant (s : State) (a : Nat) (b : Byte) : (s.lmPut a b).rotWant = s.rotWant := rfl
@[simp] theorem State.lmPut_lmErr (s : State) (a : Nat) (b : Byte) : (s.lmPut a b).lmErr = s.lmErr := rfl
@[simp] theorem State.lmPut_vault (s : State) (a : Nat) (b : Byte) : (s.lmPut a b).vault = s.vault := rfl
@[simp] theorem State.lmPut_vtErr (s : State) (a : Nat) (b : Byte) : (s.lmPut a b).vtErr = s.vtErr := rfl
@[simp] theorem State.lmPut_queues (s : State) (a : Nat) (b : Byte) : (s.lmPut a b).queues = s.queues := rfl
@[simp] theorem State.lmPut_qPtrBad (s : State) (a : Nat) (b : Byte) : (s.lmPut a b).qPtrBad = s.qPtrBad := rfl
@[simp] theorem State.lmPut_engines (s : State) (a : Nat) (b : Byte) : (s.lmPut a b).engines = s.engines := rfl
@[simp] theorem State.lmPut_polFrames (s : State) (a : Nat) (b : Byte) : (s.lmPut a b).polFrames = s.polFrames := rfl
@[simp] theorem State.lmPut_polLeak (s : State) (a : Nat) (b : Byte) : (s.lmPut a b).polLeak = s.polLeak := rfl
@[simp] theorem State.lmPut_strikes (s : State) (a : Nat) (b : Byte) : (s.lmPut a b).strikes = s.strikes := rfl
@[simp] theorem State.lmPut_bankTrack (s : State) (a : Nat) (b : Byte) : (s.lmPut a b).bankTrack = s.bankTrack := rfl
@[simp] theorem State.lmPut_lastCeBank (s : State) (a : Nat) (b : Byte) : (s.lmPut a b).lastCeBank = s.lastCeBank := rfl
@[simp] theorem State.lmPut_migReqs (s : State) (a : Nat) (b : Byte) : (s.lmPut a b).migReqs = s.migReqs := rfl
@[simp] theorem State.lmPut_expSeq (s : State) (a : Nat) (b : Byte) : (s.lmPut a b).expSeq = s.expSeq := rfl
@[simp] theorem State.lmPut_bankAns (s : State) (a : Nat) (b : Byte) : (s.lmPut a b).bankAns = s.bankAns := rfl
@[simp] theorem State.lmPut_blMbist (s : State) (a : Nat) (b : Byte) : (s.lmPut a b).blMbist = s.blMbist := rfl
@[simp] theorem State.lmPut_held (s : State) (a : Nat) (b : Byte) : (s.lmPut a b).held = s.held := rfl
@[simp] theorem State.lmPut_heldLo (s : State) (a : Nat) (b : Byte) : (s.lmPut a b).heldLo = s.heldLo := rfl
@[simp] theorem State.lmPut_tmrFire (s : State) (a : Nat) (b : Byte) : (s.lmPut a b).tmrFire = s.tmrFire := rfl
@[simp] theorem State.lmPut_tmrZero (s : State) (a : Nat) (b : Byte) : (s.lmPut a b).tmrZero = s.tmrZero := rfl
@[simp] theorem State.lmPut_tmrFired (s : State) (a : Nat) (b : Byte) : (s.lmPut a b).tmrFired = s.tmrFired := rfl
@[simp] theorem State.lmPut_tmrCaps (s : State) (a : Nat) (b : Byte) : (s.lmPut a b).tmrCaps = s.tmrCaps := rfl
@[simp] theorem State.lmPut_calCount (s : State) (a : Nat) (b : Byte) : (s.lmPut a b).calCount = s.calCount := rfl
@[simp] theorem State.lmPut_calSkip (s : State) (a : Nat) (b : Byte) : (s.lmPut a b).calSkip = s.calSkip := rfl
@[simp] theorem State.lmPut_tagWait (s : State) (a : Nat) (b : Byte) : (s.lmPut a b).tagWait = s.tagWait := rfl
@[simp] theorem State.lmPut_blLbist (s : State) (a : Nat) (b : Byte) : (s.lmPut a b).blLbist = s.blLbist := rfl
@[simp] theorem State.lmPut_blLast (s : State) (a : Nat) (b : Byte) : (s.lmPut a b).blLast = s.blLast := rfl
@[simp] theorem State.lmPut_jnl (s : State) (a : Nat) (b : Byte) : (s.lmPut a b).jnl = s.jnl := rfl
@[simp] theorem State.lmPut_flash (s : State) (a : Nat) (b : Byte) : (s.lmPut a b).flash = s.flash := rfl
@[simp] theorem State.lmPut_flashInfo (s : State) (a : Nat) (b : Byte) : (s.lmPut a b).flashInfo = s.flashInfo := rfl
@[simp] theorem State.lmPut_ctTasks (s : State) (a : Nat) (b : Byte) : (s.lmPut a b).ctTasks = s.ctTasks := rfl
@[simp] theorem State.lmPut_ctSweep (s : State) (a : Nat) (b : Byte) : (s.lmPut a b).ctSweep = s.ctSweep := rfl
@[simp] theorem State.lmPut_ctUsed (s : State) (a : Nat) (b : Byte) : (s.lmPut a b).ctUsed = s.ctUsed := rfl
@[simp] theorem State.lmPut_ctItems (s : State) (a : Nat) (b : Byte) : (s.lmPut a b).ctItems = s.ctItems := rfl
@[simp] theorem State.lmPut_vu (s : State) (a : Nat) (b : Byte) : (s.lmPut a b).vu = s.vu := rfl
@[simp] theorem State.lmPut_rdHold (s : State) (a : Nat) (b : Byte) : (s.lmPut a b).rdHold = s.rdHold := rfl
@[simp] theorem State.lmPut_rdTurn (s : State) (a : Nat) (b : Byte) : (s.lmPut a b).rdTurn = s.rdTurn := rfl
@[simp] theorem State.lmPut_lanes (s : State) (a : Nat) (b : Byte) : (s.lmPut a b).lanes = s.lanes := rfl
@[simp] theorem State.lmPut_rxDone (s : State) (a : Nat) (b : Byte) : (s.lmPut a b).rxDone = s.rxDone := rfl
@[simp] theorem State.lmPut_chks (s : State) (a : Nat) (b : Byte) : (s.lmPut a b).chks = s.chks := rfl
@[simp] theorem State.lmPut_copies (s : State) (a : Nat) (b : Byte) : (s.lmPut a b).copies = s.copies := rfl
@[simp] theorem State.lmPut_restores (s : State) (a : Nat) (b : Byte) : (s.lmPut a b).restores = s.restores := rfl
@[simp] theorem State.lmPut_reason (s : State) (a : Nat) (b : Byte) : (s.lmPut a b).reason = s.reason := rfl
@[simp] theorem State.lmPut_dd (s : State) (a : Nat) (b : Byte) : (s.lmPut a b).dd = s.dd := rfl
@[simp] theorem State.lmPut_msix (s : State) (a : Nat) (b : Byte) : (s.lmPut a b).msix = s.msix := rfl
@[simp] theorem State.lmPut_msixPend (s : State) (a : Nat) (b : Byte) : (s.lmPut a b).msixPend = s.msixPend := rfl
@[simp] theorem State.lmPut_hostExit (s : State) (a : Nat) (b : Byte) : (s.lmPut a b).hostExit = s.hostExit := rfl
@[simp] theorem State.lmPut_perstMc (s : State) (a : Nat) (b : Byte) : (s.lmPut a b).perstMc = s.perstMc := rfl
@[simp] theorem State.lmPut_trstMc (s : State) (a : Nat) (b : Byte) : (s.lmPut a b).trstMc = s.trstMc := rfl
@[simp] theorem State.lmPut_tmrIn (s : State) (a : Nat) (b : Byte) : (s.lmPut a b).tmrIn = s.tmrIn := rfl
@[simp] theorem State.lmPut_filtAt (s : State) (a : Nat) (b : Byte) : (s.lmPut a b).filtAt = s.filtAt := rfl
@[simp] theorem State.lmPut_woken (s : State) (a : Nat) (b : Byte) : (s.lmPut a b).woken = s.woken := rfl
@[simp] theorem State.lmPut_aspm (s : State) (a : Nat) (b : Byte) : (s.lmPut a b).aspm = s.aspm := rfl
@[simp] theorem State.lmPut_aerAdvisory (s : State) (a : Nat) (b : Byte) : (s.lmPut a b).aerAdvisory = s.aerAdvisory := rfl
@[simp] theorem State.lmPut_triad (s : State) (a : Nat) (b : Byte) : (s.lmPut a b).triad = s.triad := rfl
@[simp] theorem State.lmPut_faultLow (s : State) (a : Nat) (b : Byte) : (s.lmPut a b).faultLow = s.faultLow := rfl
@[simp] theorem State.lmPut_rom (s : State) (a : Nat) (b : Byte) : (s.lmPut a b).rom = s.rom := rfl
@[simp] theorem State.lmPut_romGo (s : State) (a : Nat) (b : Byte) : (s.lmPut a b).romGo = s.romGo := rfl
@[simp] theorem State.lmPut_booted (s : State) (a : Nat) (b : Byte) : (s.lmPut a b).booted = s.booted := rfl
@[simp] theorem State.lmPut_boot (s : State) (a : Nat) (b : Byte) : (s.lmPut a b).boot = s.boot := rfl
@[simp] theorem State.lmPut_laneScripts (s : State) (a : Nat) (b : Byte) : (s.lmPut a b).laneScripts = s.laneScripts := rfl
@[simp] theorem State.lmPut_bankProgs (s : State) (a : Nat) (b : Byte) : (s.lmPut a b).bankProgs = s.bankProgs := rfl
@[simp] theorem State.lmPut_keyHash (s : State) (a : Nat) (b : Byte) : (s.lmPut a b).keyHash = s.keyHash := rfl
@[simp] theorem State.lmPut_lcForce (s : State) (a : Nat) (b : Byte) : (s.lmPut a b).lcForce = s.lcForce := rfl
@[simp] theorem State.lmPut_fuseOp (s : State) (a : Nat) (b : Byte) : (s.lmPut a b).fuseOp = s.fuseOp := rfl
@[simp] theorem State.lmPut_jtag (s : State) (a : Nat) (b : Byte) : (s.lmPut a b).jtag = s.jtag := rfl
@[simp] theorem State.lmPut_dbgRes (s : State) (a : Nat) (b : Byte) : (s.lmPut a b).dbgRes = s.dbgRes := rfl
@[simp] theorem State.lmPut_bscan (s : State) (a : Nat) (b : Byte) : (s.lmPut a b).bscan = s.bscan := rfl
@[simp] theorem State.lmPut_sensors (s : State) (a : Nat) (b : Byte) : (s.lmPut a b).sensors = s.sensors := rfl
@[simp] theorem State.lmPut_supplies (s : State) (a : Nat) (b : Byte) : (s.lmPut a b).supplies = s.supplies := rfl
@[simp] theorem State.lmPut_power (s : State) (a : Nat) (b : Byte) : (s.lmPut a b).power = s.power := rfl
@[simp] theorem State.lmPut_supplyLow (s : State) (a : Nat) (b : Byte) : (s.lmPut a b).supplyLow = s.supplyLow := rfl
@[simp] theorem State.lmPut_sscBusy (s : State) (a : Nat) (b : Byte) : (s.lmPut a b).sscBusy = s.sscBusy := rfl

@[simp] theorem State.vtPut_pending (s : State) (a : Nat) (b : Byte) : (s.vtPut a b).pending = s.pending := rfl
@[simp] theorem State.vtPut_regs (s : State) (a : Nat) (b : Byte) : (s.vtPut a b).regs = s.regs := rfl
@[simp] theorem State.vtPut_inForce (s : State) (a : Nat) (b : Byte) : (s.vtPut a b).inForce = s.inForce := rfl
@[simp] theorem State.vtPut_staged (s : State) (a : Nat) (b : Byte) : (s.vtPut a b).staged = s.staged := rfl
@[simp] theorem State.vtPut_freeCtr (s : State) (a : Nat) (b : Byte) : (s.vtPut a b).freeCtr = s.freeCtr := rfl
@[simp] theorem State.vtPut_sent (s : State) (a : Nat) (b : Byte) : (s.vtPut a b).sent = s.sent := rfl
@[simp] theorem State.vtPut_resp (s : State) (a : Nat) (b : Byte) : (s.vtPut a b).resp = s.resp := rfl
@[simp] theorem State.vtPut_ft (s : State) (a : Nat) (b : Byte) : (s.vtPut a b).ft = s.ft := rfl
@[simp] theorem State.vtPut_store (s : State) (a : Nat) (b : Byte) : (s.vtPut a b).store = s.store := rfl
@[simp] theorem State.vtPut_storeErr (s : State) (a : Nat) (b : Byte) : (s.vtPut a b).storeErr = s.storeErr := rfl
@[simp] theorem State.vtPut_resv (s : State) (a : Nat) (b : Byte) : (s.vtPut a b).resv = s.resv := rfl
@[simp] theorem State.vtPut_writeBacks (s : State) (a : Nat) (b : Byte) : (s.vtPut a b).writeBacks = s.writeBacks := rfl
@[simp] theorem State.vtPut_bankHeld (s : State) (a : Nat) (b : Byte) : (s.vtPut a b).bankHeld = s.bankHeld := rfl
@[simp] theorem State.vtPut_rot (s : State) (a : Nat) (b : Byte) : (s.vtPut a b).rot = s.rot := rfl
@[simp] theorem State.vtPut_rotMarks (s : State) (a : Nat) (b : Byte) : (s.vtPut a b).rotMarks = s.rotMarks := rfl
@[simp] theorem State.vtPut_rotBad (s : State) (a : Nat) (b : Byte) : (s.vtPut a b).rotBad = s.rotBad := rfl
@[simp] theorem State.vtPut_rotWant (s : State) (a : Nat) (b : Byte) : (s.vtPut a b).rotWant = s.rotWant := rfl
@[simp] theorem State.vtPut_localMem (s : State) (a : Nat) (b : Byte) : (s.vtPut a b).localMem = s.localMem := rfl
@[simp] theorem State.vtPut_tags (s : State) (a : Nat) (b : Byte) : (s.vtPut a b).tags = s.tags := rfl
@[simp] theorem State.vtPut_lmErr (s : State) (a : Nat) (b : Byte) : (s.vtPut a b).lmErr = s.lmErr := rfl
@[simp] theorem State.vtPut_vtErr (s : State) (a : Nat) (b : Byte) : (s.vtPut a b).vtErr = s.vtErr := rfl
@[simp] theorem State.vtPut_queues (s : State) (a : Nat) (b : Byte) : (s.vtPut a b).queues = s.queues := rfl
@[simp] theorem State.vtPut_qPtrBad (s : State) (a : Nat) (b : Byte) : (s.vtPut a b).qPtrBad = s.qPtrBad := rfl
@[simp] theorem State.vtPut_engines (s : State) (a : Nat) (b : Byte) : (s.vtPut a b).engines = s.engines := rfl
@[simp] theorem State.vtPut_polFrames (s : State) (a : Nat) (b : Byte) : (s.vtPut a b).polFrames = s.polFrames := rfl
@[simp] theorem State.vtPut_polLeak (s : State) (a : Nat) (b : Byte) : (s.vtPut a b).polLeak = s.polLeak := rfl
@[simp] theorem State.vtPut_strikes (s : State) (a : Nat) (b : Byte) : (s.vtPut a b).strikes = s.strikes := rfl
@[simp] theorem State.vtPut_bankTrack (s : State) (a : Nat) (b : Byte) : (s.vtPut a b).bankTrack = s.bankTrack := rfl
@[simp] theorem State.vtPut_lastCeBank (s : State) (a : Nat) (b : Byte) : (s.vtPut a b).lastCeBank = s.lastCeBank := rfl
@[simp] theorem State.vtPut_migReqs (s : State) (a : Nat) (b : Byte) : (s.vtPut a b).migReqs = s.migReqs := rfl
@[simp] theorem State.vtPut_expSeq (s : State) (a : Nat) (b : Byte) : (s.vtPut a b).expSeq = s.expSeq := rfl
@[simp] theorem State.vtPut_bankAns (s : State) (a : Nat) (b : Byte) : (s.vtPut a b).bankAns = s.bankAns := rfl
@[simp] theorem State.vtPut_blMbist (s : State) (a : Nat) (b : Byte) : (s.vtPut a b).blMbist = s.blMbist := rfl
@[simp] theorem State.vtPut_held (s : State) (a : Nat) (b : Byte) : (s.vtPut a b).held = s.held := rfl
@[simp] theorem State.vtPut_heldLo (s : State) (a : Nat) (b : Byte) : (s.vtPut a b).heldLo = s.heldLo := rfl
@[simp] theorem State.vtPut_tagBad (s : State) (a : Nat) (b : Byte) : (s.vtPut a b).tagBad = s.tagBad := rfl
@[simp] theorem State.vtPut_tmrFire (s : State) (a : Nat) (b : Byte) : (s.vtPut a b).tmrFire = s.tmrFire := rfl
@[simp] theorem State.vtPut_tmrZero (s : State) (a : Nat) (b : Byte) : (s.vtPut a b).tmrZero = s.tmrZero := rfl
@[simp] theorem State.vtPut_tmrFired (s : State) (a : Nat) (b : Byte) : (s.vtPut a b).tmrFired = s.tmrFired := rfl
@[simp] theorem State.vtPut_tmrCaps (s : State) (a : Nat) (b : Byte) : (s.vtPut a b).tmrCaps = s.tmrCaps := rfl
@[simp] theorem State.vtPut_calCount (s : State) (a : Nat) (b : Byte) : (s.vtPut a b).calCount = s.calCount := rfl
@[simp] theorem State.vtPut_calSkip (s : State) (a : Nat) (b : Byte) : (s.vtPut a b).calSkip = s.calSkip := rfl
@[simp] theorem State.vtPut_tagWait (s : State) (a : Nat) (b : Byte) : (s.vtPut a b).tagWait = s.tagWait := rfl
@[simp] theorem State.vtPut_blLbist (s : State) (a : Nat) (b : Byte) : (s.vtPut a b).blLbist = s.blLbist := rfl
@[simp] theorem State.vtPut_blLast (s : State) (a : Nat) (b : Byte) : (s.vtPut a b).blLast = s.blLast := rfl
@[simp] theorem State.vtPut_jnl (s : State) (a : Nat) (b : Byte) : (s.vtPut a b).jnl = s.jnl := rfl
@[simp] theorem State.vtPut_flash (s : State) (a : Nat) (b : Byte) : (s.vtPut a b).flash = s.flash := rfl
@[simp] theorem State.vtPut_flashInfo (s : State) (a : Nat) (b : Byte) : (s.vtPut a b).flashInfo = s.flashInfo := rfl
@[simp] theorem State.vtPut_ctTasks (s : State) (a : Nat) (b : Byte) : (s.vtPut a b).ctTasks = s.ctTasks := rfl
@[simp] theorem State.vtPut_ctSweep (s : State) (a : Nat) (b : Byte) : (s.vtPut a b).ctSweep = s.ctSweep := rfl
@[simp] theorem State.vtPut_ctUsed (s : State) (a : Nat) (b : Byte) : (s.vtPut a b).ctUsed = s.ctUsed := rfl
@[simp] theorem State.vtPut_ctItems (s : State) (a : Nat) (b : Byte) : (s.vtPut a b).ctItems = s.ctItems := rfl
@[simp] theorem State.vtPut_vu (s : State) (a : Nat) (b : Byte) : (s.vtPut a b).vu = s.vu := rfl
@[simp] theorem State.vtPut_rdHold (s : State) (a : Nat) (b : Byte) : (s.vtPut a b).rdHold = s.rdHold := rfl
@[simp] theorem State.vtPut_rdTurn (s : State) (a : Nat) (b : Byte) : (s.vtPut a b).rdTurn = s.rdTurn := rfl
@[simp] theorem State.vtPut_lanes (s : State) (a : Nat) (b : Byte) : (s.vtPut a b).lanes = s.lanes := rfl
@[simp] theorem State.vtPut_rxDone (s : State) (a : Nat) (b : Byte) : (s.vtPut a b).rxDone = s.rxDone := rfl
@[simp] theorem State.vtPut_chks (s : State) (a : Nat) (b : Byte) : (s.vtPut a b).chks = s.chks := rfl
@[simp] theorem State.vtPut_copies (s : State) (a : Nat) (b : Byte) : (s.vtPut a b).copies = s.copies := rfl
@[simp] theorem State.vtPut_restores (s : State) (a : Nat) (b : Byte) : (s.vtPut a b).restores = s.restores := rfl
@[simp] theorem State.vtPut_reason (s : State) (a : Nat) (b : Byte) : (s.vtPut a b).reason = s.reason := rfl
@[simp] theorem State.vtPut_dd (s : State) (a : Nat) (b : Byte) : (s.vtPut a b).dd = s.dd := rfl
@[simp] theorem State.vtPut_msix (s : State) (a : Nat) (b : Byte) : (s.vtPut a b).msix = s.msix := rfl
@[simp] theorem State.vtPut_msixPend (s : State) (a : Nat) (b : Byte) : (s.vtPut a b).msixPend = s.msixPend := rfl
@[simp] theorem State.vtPut_hostExit (s : State) (a : Nat) (b : Byte) : (s.vtPut a b).hostExit = s.hostExit := rfl
@[simp] theorem State.vtPut_perstMc (s : State) (a : Nat) (b : Byte) : (s.vtPut a b).perstMc = s.perstMc := rfl
@[simp] theorem State.vtPut_trstMc (s : State) (a : Nat) (b : Byte) : (s.vtPut a b).trstMc = s.trstMc := rfl
@[simp] theorem State.vtPut_tmrIn (s : State) (a : Nat) (b : Byte) : (s.vtPut a b).tmrIn = s.tmrIn := rfl
@[simp] theorem State.vtPut_filtAt (s : State) (a : Nat) (b : Byte) : (s.vtPut a b).filtAt = s.filtAt := rfl
@[simp] theorem State.vtPut_woken (s : State) (a : Nat) (b : Byte) : (s.vtPut a b).woken = s.woken := rfl
@[simp] theorem State.vtPut_aspm (s : State) (a : Nat) (b : Byte) : (s.vtPut a b).aspm = s.aspm := rfl
@[simp] theorem State.vtPut_aerAdvisory (s : State) (a : Nat) (b : Byte) : (s.vtPut a b).aerAdvisory = s.aerAdvisory := rfl
@[simp] theorem State.vtPut_triad (s : State) (a : Nat) (b : Byte) : (s.vtPut a b).triad = s.triad := rfl
@[simp] theorem State.vtPut_faultLow (s : State) (a : Nat) (b : Byte) : (s.vtPut a b).faultLow = s.faultLow := rfl
@[simp] theorem State.vtPut_rom (s : State) (a : Nat) (b : Byte) : (s.vtPut a b).rom = s.rom := rfl
@[simp] theorem State.vtPut_romGo (s : State) (a : Nat) (b : Byte) : (s.vtPut a b).romGo = s.romGo := rfl
@[simp] theorem State.vtPut_booted (s : State) (a : Nat) (b : Byte) : (s.vtPut a b).booted = s.booted := rfl
@[simp] theorem State.vtPut_boot (s : State) (a : Nat) (b : Byte) : (s.vtPut a b).boot = s.boot := rfl
@[simp] theorem State.vtPut_laneScripts (s : State) (a : Nat) (b : Byte) : (s.vtPut a b).laneScripts = s.laneScripts := rfl
@[simp] theorem State.vtPut_bankProgs (s : State) (a : Nat) (b : Byte) : (s.vtPut a b).bankProgs = s.bankProgs := rfl
@[simp] theorem State.vtPut_keyHash (s : State) (a : Nat) (b : Byte) : (s.vtPut a b).keyHash = s.keyHash := rfl
@[simp] theorem State.vtPut_lcForce (s : State) (a : Nat) (b : Byte) : (s.vtPut a b).lcForce = s.lcForce := rfl
@[simp] theorem State.vtPut_fuseOp (s : State) (a : Nat) (b : Byte) : (s.vtPut a b).fuseOp = s.fuseOp := rfl
@[simp] theorem State.vtPut_jtag (s : State) (a : Nat) (b : Byte) : (s.vtPut a b).jtag = s.jtag := rfl
@[simp] theorem State.vtPut_dbgRes (s : State) (a : Nat) (b : Byte) : (s.vtPut a b).dbgRes = s.dbgRes := rfl
@[simp] theorem State.vtPut_bscan (s : State) (a : Nat) (b : Byte) : (s.vtPut a b).bscan = s.bscan := rfl
@[simp] theorem State.vtPut_sensors (s : State) (a : Nat) (b : Byte) : (s.vtPut a b).sensors = s.sensors := rfl
@[simp] theorem State.vtPut_supplies (s : State) (a : Nat) (b : Byte) : (s.vtPut a b).supplies = s.supplies := rfl
@[simp] theorem State.vtPut_power (s : State) (a : Nat) (b : Byte) : (s.vtPut a b).power = s.power := rfl
@[simp] theorem State.vtPut_supplyLow (s : State) (a : Nat) (b : Byte) : (s.vtPut a b).supplyLow = s.supplyLow := rfl
@[simp] theorem State.vtPut_sscBusy (s : State) (a : Nat) (b : Byte) : (s.vtPut a b).sscBusy = s.sscBusy := rfl

@[simp] theorem State.flPut_pending (s : State) (a : Nat) (b : Byte) : (s.flPut a b).pending = s.pending := rfl
@[simp] theorem State.flPut_regs (s : State) (a : Nat) (b : Byte) : (s.flPut a b).regs = s.regs := rfl
@[simp] theorem State.flPut_inForce (s : State) (a : Nat) (b : Byte) : (s.flPut a b).inForce = s.inForce := rfl
@[simp] theorem State.flPut_staged (s : State) (a : Nat) (b : Byte) : (s.flPut a b).staged = s.staged := rfl
@[simp] theorem State.flPut_freeCtr (s : State) (a : Nat) (b : Byte) : (s.flPut a b).freeCtr = s.freeCtr := rfl
@[simp] theorem State.flPut_sent (s : State) (a : Nat) (b : Byte) : (s.flPut a b).sent = s.sent := rfl
@[simp] theorem State.flPut_resp (s : State) (a : Nat) (b : Byte) : (s.flPut a b).resp = s.resp := rfl
@[simp] theorem State.flPut_ft (s : State) (a : Nat) (b : Byte) : (s.flPut a b).ft = s.ft := rfl
@[simp] theorem State.flPut_store (s : State) (a : Nat) (b : Byte) : (s.flPut a b).store = s.store := rfl
@[simp] theorem State.flPut_storeErr (s : State) (a : Nat) (b : Byte) : (s.flPut a b).storeErr = s.storeErr := rfl
@[simp] theorem State.flPut_resv (s : State) (a : Nat) (b : Byte) : (s.flPut a b).resv = s.resv := rfl
@[simp] theorem State.flPut_writeBacks (s : State) (a : Nat) (b : Byte) : (s.flPut a b).writeBacks = s.writeBacks := rfl
@[simp] theorem State.flPut_bankHeld (s : State) (a : Nat) (b : Byte) : (s.flPut a b).bankHeld = s.bankHeld := rfl
@[simp] theorem State.flPut_rot (s : State) (a : Nat) (b : Byte) : (s.flPut a b).rot = s.rot := rfl
@[simp] theorem State.flPut_rotMarks (s : State) (a : Nat) (b : Byte) : (s.flPut a b).rotMarks = s.rotMarks := rfl
@[simp] theorem State.flPut_rotBad (s : State) (a : Nat) (b : Byte) : (s.flPut a b).rotBad = s.rotBad := rfl
@[simp] theorem State.flPut_rotWant (s : State) (a : Nat) (b : Byte) : (s.flPut a b).rotWant = s.rotWant := rfl
@[simp] theorem State.flPut_localMem (s : State) (a : Nat) (b : Byte) : (s.flPut a b).localMem = s.localMem := rfl
@[simp] theorem State.flPut_tags (s : State) (a : Nat) (b : Byte) : (s.flPut a b).tags = s.tags := rfl
@[simp] theorem State.flPut_lmErr (s : State) (a : Nat) (b : Byte) : (s.flPut a b).lmErr = s.lmErr := rfl
@[simp] theorem State.flPut_vault (s : State) (a : Nat) (b : Byte) : (s.flPut a b).vault = s.vault := rfl
@[simp] theorem State.flPut_vtErr (s : State) (a : Nat) (b : Byte) : (s.flPut a b).vtErr = s.vtErr := rfl
@[simp] theorem State.flPut_queues (s : State) (a : Nat) (b : Byte) : (s.flPut a b).queues = s.queues := rfl
@[simp] theorem State.flPut_qPtrBad (s : State) (a : Nat) (b : Byte) : (s.flPut a b).qPtrBad = s.qPtrBad := rfl
@[simp] theorem State.flPut_engines (s : State) (a : Nat) (b : Byte) : (s.flPut a b).engines = s.engines := rfl
@[simp] theorem State.flPut_polFrames (s : State) (a : Nat) (b : Byte) : (s.flPut a b).polFrames = s.polFrames := rfl
@[simp] theorem State.flPut_polLeak (s : State) (a : Nat) (b : Byte) : (s.flPut a b).polLeak = s.polLeak := rfl
@[simp] theorem State.flPut_strikes (s : State) (a : Nat) (b : Byte) : (s.flPut a b).strikes = s.strikes := rfl
@[simp] theorem State.flPut_bankTrack (s : State) (a : Nat) (b : Byte) : (s.flPut a b).bankTrack = s.bankTrack := rfl
@[simp] theorem State.flPut_lastCeBank (s : State) (a : Nat) (b : Byte) : (s.flPut a b).lastCeBank = s.lastCeBank := rfl
@[simp] theorem State.flPut_migReqs (s : State) (a : Nat) (b : Byte) : (s.flPut a b).migReqs = s.migReqs := rfl
@[simp] theorem State.flPut_expSeq (s : State) (a : Nat) (b : Byte) : (s.flPut a b).expSeq = s.expSeq := rfl
@[simp] theorem State.flPut_bankAns (s : State) (a : Nat) (b : Byte) : (s.flPut a b).bankAns = s.bankAns := rfl
@[simp] theorem State.flPut_blMbist (s : State) (a : Nat) (b : Byte) : (s.flPut a b).blMbist = s.blMbist := rfl
@[simp] theorem State.flPut_held (s : State) (a : Nat) (b : Byte) : (s.flPut a b).held = s.held := rfl
@[simp] theorem State.flPut_heldLo (s : State) (a : Nat) (b : Byte) : (s.flPut a b).heldLo = s.heldLo := rfl
@[simp] theorem State.flPut_tagBad (s : State) (a : Nat) (b : Byte) : (s.flPut a b).tagBad = s.tagBad := rfl
@[simp] theorem State.flPut_tmrFire (s : State) (a : Nat) (b : Byte) : (s.flPut a b).tmrFire = s.tmrFire := rfl
@[simp] theorem State.flPut_tmrZero (s : State) (a : Nat) (b : Byte) : (s.flPut a b).tmrZero = s.tmrZero := rfl
@[simp] theorem State.flPut_tmrFired (s : State) (a : Nat) (b : Byte) : (s.flPut a b).tmrFired = s.tmrFired := rfl
@[simp] theorem State.flPut_tmrCaps (s : State) (a : Nat) (b : Byte) : (s.flPut a b).tmrCaps = s.tmrCaps := rfl
@[simp] theorem State.flPut_calCount (s : State) (a : Nat) (b : Byte) : (s.flPut a b).calCount = s.calCount := rfl
@[simp] theorem State.flPut_calSkip (s : State) (a : Nat) (b : Byte) : (s.flPut a b).calSkip = s.calSkip := rfl
@[simp] theorem State.flPut_tagWait (s : State) (a : Nat) (b : Byte) : (s.flPut a b).tagWait = s.tagWait := rfl
@[simp] theorem State.flPut_blLbist (s : State) (a : Nat) (b : Byte) : (s.flPut a b).blLbist = s.blLbist := rfl
@[simp] theorem State.flPut_blLast (s : State) (a : Nat) (b : Byte) : (s.flPut a b).blLast = s.blLast := rfl
@[simp] theorem State.flPut_jnl (s : State) (a : Nat) (b : Byte) : (s.flPut a b).jnl = s.jnl := rfl
@[simp] theorem State.flPut_flashInfo (s : State) (a : Nat) (b : Byte) : (s.flPut a b).flashInfo = s.flashInfo := rfl
@[simp] theorem State.flPut_ctTasks (s : State) (a : Nat) (b : Byte) : (s.flPut a b).ctTasks = s.ctTasks := rfl
@[simp] theorem State.flPut_ctSweep (s : State) (a : Nat) (b : Byte) : (s.flPut a b).ctSweep = s.ctSweep := rfl
@[simp] theorem State.flPut_ctUsed (s : State) (a : Nat) (b : Byte) : (s.flPut a b).ctUsed = s.ctUsed := rfl
@[simp] theorem State.flPut_ctItems (s : State) (a : Nat) (b : Byte) : (s.flPut a b).ctItems = s.ctItems := rfl
@[simp] theorem State.flPut_vu (s : State) (a : Nat) (b : Byte) : (s.flPut a b).vu = s.vu := rfl
@[simp] theorem State.flPut_rdHold (s : State) (a : Nat) (b : Byte) : (s.flPut a b).rdHold = s.rdHold := rfl
@[simp] theorem State.flPut_rdTurn (s : State) (a : Nat) (b : Byte) : (s.flPut a b).rdTurn = s.rdTurn := rfl
@[simp] theorem State.flPut_lanes (s : State) (a : Nat) (b : Byte) : (s.flPut a b).lanes = s.lanes := rfl
@[simp] theorem State.flPut_rxDone (s : State) (a : Nat) (b : Byte) : (s.flPut a b).rxDone = s.rxDone := rfl
@[simp] theorem State.flPut_chks (s : State) (a : Nat) (b : Byte) : (s.flPut a b).chks = s.chks := rfl
@[simp] theorem State.flPut_copies (s : State) (a : Nat) (b : Byte) : (s.flPut a b).copies = s.copies := rfl
@[simp] theorem State.flPut_restores (s : State) (a : Nat) (b : Byte) : (s.flPut a b).restores = s.restores := rfl
@[simp] theorem State.flPut_reason (s : State) (a : Nat) (b : Byte) : (s.flPut a b).reason = s.reason := rfl
@[simp] theorem State.flPut_dd (s : State) (a : Nat) (b : Byte) : (s.flPut a b).dd = s.dd := rfl
@[simp] theorem State.flPut_msix (s : State) (a : Nat) (b : Byte) : (s.flPut a b).msix = s.msix := rfl
@[simp] theorem State.flPut_msixPend (s : State) (a : Nat) (b : Byte) : (s.flPut a b).msixPend = s.msixPend := rfl
@[simp] theorem State.flPut_hostExit (s : State) (a : Nat) (b : Byte) : (s.flPut a b).hostExit = s.hostExit := rfl
@[simp] theorem State.flPut_perstMc (s : State) (a : Nat) (b : Byte) : (s.flPut a b).perstMc = s.perstMc := rfl
@[simp] theorem State.flPut_trstMc (s : State) (a : Nat) (b : Byte) : (s.flPut a b).trstMc = s.trstMc := rfl
@[simp] theorem State.flPut_tmrIn (s : State) (a : Nat) (b : Byte) : (s.flPut a b).tmrIn = s.tmrIn := rfl
@[simp] theorem State.flPut_filtAt (s : State) (a : Nat) (b : Byte) : (s.flPut a b).filtAt = s.filtAt := rfl
@[simp] theorem State.flPut_woken (s : State) (a : Nat) (b : Byte) : (s.flPut a b).woken = s.woken := rfl
@[simp] theorem State.flPut_aspm (s : State) (a : Nat) (b : Byte) : (s.flPut a b).aspm = s.aspm := rfl
@[simp] theorem State.flPut_aerAdvisory (s : State) (a : Nat) (b : Byte) : (s.flPut a b).aerAdvisory = s.aerAdvisory := rfl
@[simp] theorem State.flPut_triad (s : State) (a : Nat) (b : Byte) : (s.flPut a b).triad = s.triad := rfl
@[simp] theorem State.flPut_faultLow (s : State) (a : Nat) (b : Byte) : (s.flPut a b).faultLow = s.faultLow := rfl
@[simp] theorem State.flPut_rom (s : State) (a : Nat) (b : Byte) : (s.flPut a b).rom = s.rom := rfl
@[simp] theorem State.flPut_romGo (s : State) (a : Nat) (b : Byte) : (s.flPut a b).romGo = s.romGo := rfl
@[simp] theorem State.flPut_booted (s : State) (a : Nat) (b : Byte) : (s.flPut a b).booted = s.booted := rfl
@[simp] theorem State.flPut_boot (s : State) (a : Nat) (b : Byte) : (s.flPut a b).boot = s.boot := rfl
@[simp] theorem State.flPut_laneScripts (s : State) (a : Nat) (b : Byte) : (s.flPut a b).laneScripts = s.laneScripts := rfl
@[simp] theorem State.flPut_bankProgs (s : State) (a : Nat) (b : Byte) : (s.flPut a b).bankProgs = s.bankProgs := rfl
@[simp] theorem State.flPut_keyHash (s : State) (a : Nat) (b : Byte) : (s.flPut a b).keyHash = s.keyHash := rfl
@[simp] theorem State.flPut_lcForce (s : State) (a : Nat) (b : Byte) : (s.flPut a b).lcForce = s.lcForce := rfl
@[simp] theorem State.flPut_fuseOp (s : State) (a : Nat) (b : Byte) : (s.flPut a b).fuseOp = s.fuseOp := rfl
@[simp] theorem State.flPut_jtag (s : State) (a : Nat) (b : Byte) : (s.flPut a b).jtag = s.jtag := rfl
@[simp] theorem State.flPut_dbgRes (s : State) (a : Nat) (b : Byte) : (s.flPut a b).dbgRes = s.dbgRes := rfl
@[simp] theorem State.flPut_bscan (s : State) (a : Nat) (b : Byte) : (s.flPut a b).bscan = s.bscan := rfl
@[simp] theorem State.flPut_sensors (s : State) (a : Nat) (b : Byte) : (s.flPut a b).sensors = s.sensors := rfl
@[simp] theorem State.flPut_supplies (s : State) (a : Nat) (b : Byte) : (s.flPut a b).supplies = s.supplies := rfl
@[simp] theorem State.flPut_power (s : State) (a : Nat) (b : Byte) : (s.flPut a b).power = s.power := rfl
@[simp] theorem State.flPut_supplyLow (s : State) (a : Nat) (b : Byte) : (s.flPut a b).supplyLow = s.supplyLow := rfl
@[simp] theorem State.flPut_sscBusy (s : State) (a : Nat) (b : Byte) : (s.flPut a b).sscBusy = s.sscBusy := rfl

@[simp] theorem State.fresh_pending (s : State) (n : Nat) : (s.fresh n).2.pending = s.pending := rfl
@[simp] theorem State.fresh_regs (s : State) (n : Nat) : (s.fresh n).2.regs = s.regs := rfl
@[simp] theorem State.fresh_inForce (s : State) (n : Nat) : (s.fresh n).2.inForce = s.inForce := rfl
@[simp] theorem State.fresh_staged (s : State) (n : Nat) : (s.fresh n).2.staged = s.staged := rfl
@[simp] theorem State.fresh_sent (s : State) (n : Nat) : (s.fresh n).2.sent = s.sent := rfl
@[simp] theorem State.fresh_resp (s : State) (n : Nat) : (s.fresh n).2.resp = s.resp := rfl
@[simp] theorem State.fresh_ft (s : State) (n : Nat) : (s.fresh n).2.ft = s.ft := rfl
@[simp] theorem State.fresh_store (s : State) (n : Nat) : (s.fresh n).2.store = s.store := rfl
@[simp] theorem State.fresh_storeErr (s : State) (n : Nat) : (s.fresh n).2.storeErr = s.storeErr := rfl
@[simp] theorem State.fresh_resv (s : State) (n : Nat) : (s.fresh n).2.resv = s.resv := rfl
@[simp] theorem State.fresh_writeBacks (s : State) (n : Nat) : (s.fresh n).2.writeBacks = s.writeBacks := rfl
@[simp] theorem State.fresh_bankHeld (s : State) (n : Nat) : (s.fresh n).2.bankHeld = s.bankHeld := rfl
@[simp] theorem State.fresh_rot (s : State) (n : Nat) : (s.fresh n).2.rot = s.rot := rfl
@[simp] theorem State.fresh_rotMarks (s : State) (n : Nat) : (s.fresh n).2.rotMarks = s.rotMarks := rfl
@[simp] theorem State.fresh_rotBad (s : State) (n : Nat) : (s.fresh n).2.rotBad = s.rotBad := rfl
@[simp] theorem State.fresh_rotWant (s : State) (n : Nat) : (s.fresh n).2.rotWant = s.rotWant := rfl
@[simp] theorem State.fresh_localMem (s : State) (n : Nat) : (s.fresh n).2.localMem = s.localMem := rfl
@[simp] theorem State.fresh_tags (s : State) (n : Nat) : (s.fresh n).2.tags = s.tags := rfl
@[simp] theorem State.fresh_lmErr (s : State) (n : Nat) : (s.fresh n).2.lmErr = s.lmErr := rfl
@[simp] theorem State.fresh_vault (s : State) (n : Nat) : (s.fresh n).2.vault = s.vault := rfl
@[simp] theorem State.fresh_vtErr (s : State) (n : Nat) : (s.fresh n).2.vtErr = s.vtErr := rfl
@[simp] theorem State.fresh_queues (s : State) (n : Nat) : (s.fresh n).2.queues = s.queues := rfl
@[simp] theorem State.fresh_qPtrBad (s : State) (n : Nat) : (s.fresh n).2.qPtrBad = s.qPtrBad := rfl
@[simp] theorem State.fresh_engines (s : State) (n : Nat) : (s.fresh n).2.engines = s.engines := rfl
@[simp] theorem State.fresh_polFrames (s : State) (n : Nat) : (s.fresh n).2.polFrames = s.polFrames := rfl
@[simp] theorem State.fresh_polLeak (s : State) (n : Nat) : (s.fresh n).2.polLeak = s.polLeak := rfl
@[simp] theorem State.fresh_strikes (s : State) (n : Nat) : (s.fresh n).2.strikes = s.strikes := rfl
@[simp] theorem State.fresh_bankTrack (s : State) (n : Nat) : (s.fresh n).2.bankTrack = s.bankTrack := rfl
@[simp] theorem State.fresh_lastCeBank (s : State) (n : Nat) : (s.fresh n).2.lastCeBank = s.lastCeBank := rfl
@[simp] theorem State.fresh_migReqs (s : State) (n : Nat) : (s.fresh n).2.migReqs = s.migReqs := rfl
@[simp] theorem State.fresh_expSeq (s : State) (n : Nat) : (s.fresh n).2.expSeq = s.expSeq := rfl
@[simp] theorem State.fresh_bankAns (s : State) (n : Nat) : (s.fresh n).2.bankAns = s.bankAns := rfl
@[simp] theorem State.fresh_blMbist (s : State) (n : Nat) : (s.fresh n).2.blMbist = s.blMbist := rfl
@[simp] theorem State.fresh_held (s : State) (n : Nat) : (s.fresh n).2.held = s.held := rfl
@[simp] theorem State.fresh_heldLo (s : State) (n : Nat) : (s.fresh n).2.heldLo = s.heldLo := rfl
@[simp] theorem State.fresh_tagBad (s : State) (n : Nat) : (s.fresh n).2.tagBad = s.tagBad := rfl
@[simp] theorem State.fresh_tmrFire (s : State) (n : Nat) : (s.fresh n).2.tmrFire = s.tmrFire := rfl
@[simp] theorem State.fresh_tmrZero (s : State) (n : Nat) : (s.fresh n).2.tmrZero = s.tmrZero := rfl
@[simp] theorem State.fresh_tmrFired (s : State) (n : Nat) : (s.fresh n).2.tmrFired = s.tmrFired := rfl
@[simp] theorem State.fresh_tmrCaps (s : State) (n : Nat) : (s.fresh n).2.tmrCaps = s.tmrCaps := rfl
@[simp] theorem State.fresh_calCount (s : State) (n : Nat) : (s.fresh n).2.calCount = s.calCount := rfl
@[simp] theorem State.fresh_calSkip (s : State) (n : Nat) : (s.fresh n).2.calSkip = s.calSkip := rfl
@[simp] theorem State.fresh_tagWait (s : State) (n : Nat) : (s.fresh n).2.tagWait = s.tagWait := rfl
@[simp] theorem State.fresh_blLbist (s : State) (n : Nat) : (s.fresh n).2.blLbist = s.blLbist := rfl
@[simp] theorem State.fresh_blLast (s : State) (n : Nat) : (s.fresh n).2.blLast = s.blLast := rfl
@[simp] theorem State.fresh_jnl (s : State) (n : Nat) : (s.fresh n).2.jnl = s.jnl := rfl
@[simp] theorem State.fresh_flash (s : State) (n : Nat) : (s.fresh n).2.flash = s.flash := rfl
@[simp] theorem State.fresh_flashInfo (s : State) (n : Nat) : (s.fresh n).2.flashInfo = s.flashInfo := rfl
@[simp] theorem State.fresh_ctTasks (s : State) (n : Nat) : (s.fresh n).2.ctTasks = s.ctTasks := rfl
@[simp] theorem State.fresh_ctSweep (s : State) (n : Nat) : (s.fresh n).2.ctSweep = s.ctSweep := rfl
@[simp] theorem State.fresh_ctUsed (s : State) (n : Nat) : (s.fresh n).2.ctUsed = s.ctUsed := rfl
@[simp] theorem State.fresh_ctItems (s : State) (n : Nat) : (s.fresh n).2.ctItems = s.ctItems := rfl
@[simp] theorem State.fresh_vu (s : State) (n : Nat) : (s.fresh n).2.vu = s.vu := rfl
@[simp] theorem State.fresh_rdHold (s : State) (n : Nat) : (s.fresh n).2.rdHold = s.rdHold := rfl
@[simp] theorem State.fresh_rdTurn (s : State) (n : Nat) : (s.fresh n).2.rdTurn = s.rdTurn := rfl
@[simp] theorem State.fresh_lanes (s : State) (n : Nat) : (s.fresh n).2.lanes = s.lanes := rfl
@[simp] theorem State.fresh_rxDone (s : State) (n : Nat) : (s.fresh n).2.rxDone = s.rxDone := rfl
@[simp] theorem State.fresh_chks (s : State) (n : Nat) : (s.fresh n).2.chks = s.chks := rfl
@[simp] theorem State.fresh_copies (s : State) (n : Nat) : (s.fresh n).2.copies = s.copies := rfl
@[simp] theorem State.fresh_restores (s : State) (n : Nat) : (s.fresh n).2.restores = s.restores := rfl
@[simp] theorem State.fresh_reason (s : State) (n : Nat) : (s.fresh n).2.reason = s.reason := rfl
@[simp] theorem State.fresh_dd (s : State) (n : Nat) : (s.fresh n).2.dd = s.dd := rfl
@[simp] theorem State.fresh_msix (s : State) (n : Nat) : (s.fresh n).2.msix = s.msix := rfl
@[simp] theorem State.fresh_msixPend (s : State) (n : Nat) : (s.fresh n).2.msixPend = s.msixPend := rfl
@[simp] theorem State.fresh_hostExit (s : State) (n : Nat) : (s.fresh n).2.hostExit = s.hostExit := rfl
@[simp] theorem State.fresh_perstMc (s : State) (n : Nat) : (s.fresh n).2.perstMc = s.perstMc := rfl
@[simp] theorem State.fresh_trstMc (s : State) (n : Nat) : (s.fresh n).2.trstMc = s.trstMc := rfl
@[simp] theorem State.fresh_tmrIn (s : State) (n : Nat) : (s.fresh n).2.tmrIn = s.tmrIn := rfl
@[simp] theorem State.fresh_filtAt (s : State) (n : Nat) : (s.fresh n).2.filtAt = s.filtAt := rfl
@[simp] theorem State.fresh_woken (s : State) (n : Nat) : (s.fresh n).2.woken = s.woken := rfl
@[simp] theorem State.fresh_aspm (s : State) (n : Nat) : (s.fresh n).2.aspm = s.aspm := rfl
@[simp] theorem State.fresh_aerAdvisory (s : State) (n : Nat) : (s.fresh n).2.aerAdvisory = s.aerAdvisory := rfl
@[simp] theorem State.fresh_triad (s : State) (n : Nat) : (s.fresh n).2.triad = s.triad := rfl
@[simp] theorem State.fresh_faultLow (s : State) (n : Nat) : (s.fresh n).2.faultLow = s.faultLow := rfl
@[simp] theorem State.fresh_rom (s : State) (n : Nat) : (s.fresh n).2.rom = s.rom := rfl
@[simp] theorem State.fresh_romGo (s : State) (n : Nat) : (s.fresh n).2.romGo = s.romGo := rfl
@[simp] theorem State.fresh_booted (s : State) (n : Nat) : (s.fresh n).2.booted = s.booted := rfl
@[simp] theorem State.fresh_boot (s : State) (n : Nat) : (s.fresh n).2.boot = s.boot := rfl
@[simp] theorem State.fresh_laneScripts (s : State) (n : Nat) : (s.fresh n).2.laneScripts = s.laneScripts := rfl
@[simp] theorem State.fresh_bankProgs (s : State) (n : Nat) : (s.fresh n).2.bankProgs = s.bankProgs := rfl
@[simp] theorem State.fresh_keyHash (s : State) (n : Nat) : (s.fresh n).2.keyHash = s.keyHash := rfl
@[simp] theorem State.fresh_lcForce (s : State) (n : Nat) : (s.fresh n).2.lcForce = s.lcForce := rfl
@[simp] theorem State.fresh_fuseOp (s : State) (n : Nat) : (s.fresh n).2.fuseOp = s.fuseOp := rfl
@[simp] theorem State.fresh_jtag (s : State) (n : Nat) : (s.fresh n).2.jtag = s.jtag := rfl
@[simp] theorem State.fresh_dbgRes (s : State) (n : Nat) : (s.fresh n).2.dbgRes = s.dbgRes := rfl
@[simp] theorem State.fresh_bscan (s : State) (n : Nat) : (s.fresh n).2.bscan = s.bscan := rfl
@[simp] theorem State.fresh_sensors (s : State) (n : Nat) : (s.fresh n).2.sensors = s.sensors := rfl
@[simp] theorem State.fresh_supplies (s : State) (n : Nat) : (s.fresh n).2.supplies = s.supplies := rfl
@[simp] theorem State.fresh_power (s : State) (n : Nat) : (s.fresh n).2.power = s.power := rfl
@[simp] theorem State.fresh_supplyLow (s : State) (n : Nat) : (s.fresh n).2.supplyLow = s.supplyLow := rfl
@[simp] theorem State.fresh_sscBusy (s : State) (n : Nat) : (s.fresh n).2.sscBusy = s.sscBusy := rfl
@[simp] theorem State.fresh_freeCtr (s : State) (n : Nat) : (s.fresh n).2.freeCtr = s.freeCtr + 1 := rfl

/-! ### The other ways to write a field are `set` -/

@[simp] theorem State.raise_eq (s : State) (f : Fld) : s.raise f = s.set f 1 := rfl
@[simp] theorem State.setBit_eq (s : State) (f : Fld) (b : Bool) : s.setBit f b = s.set f (if b then 1 else 0) := rfl
@[simp] theorem State.resetFld_eq (s : State) (f : Fld) : s.resetFld f = s.set f f.rst := rfl
@[simp] theorem State.bump_eq (s : State) (f : Fld) : s.bump f = s.bumpBy f 1 := rfl
@[simp] theorem State.bumpBy_eq (s : State) (f : Fld) (n : Nat) :
    s.bumpBy f n = s.set f (min (s.get f + n) (2 ^ f.w - 1)) := rfl

/-! ### Register fields read after an update -/

/-- A field reads as what was written, cut to its width. -/
@[simp] theorem State.get_set_self (s : State) (f : Fld) (v : Nat) : (s.set f v).get f = v % 2 ^ f.w := by
  simp [State.get, State.set]

/-- A field of another place reads as before. -/
theorem State.get_set_ne (s : State) (f g : Fld) (v : Nat) (h : g.key ≠ f.key) : (s.set f v).get g = s.get g := by
  simp only [State.get, State.set]
  exact Tab.get_set_ne _ _ _ _ _ _ h

/-- A field's value in force reads as what was applied. -/
@[simp] theorem State.force_setForce_self (s : State) (f : Fld) (v : Nat) : (s.setForce f v).force f = v % 2 ^ f.w := by
  simp [State.force, State.setForce]

theorem State.force_setForce_ne (s : State) (f g : Fld) (v : Nat) (h : g.key ≠ f.key) :
    (s.setForce f v).force g = s.force g := by
  simp only [State.force, State.setForce]
  exact Tab.get_set_ne _ _ _ _ _ _ h

@[simp] theorem State.set_force (s : State) (f : Fld) (v : Nat) (g : Fld) : (s.set f v).force g = s.force g := rfl
@[simp] theorem State.set_eng (s : State) (f : Fld) (v : Nat) (k : Nat) : (s.set f v).eng k = s.eng k := rfl
@[simp] theorem State.setForce_get (s : State) (f : Fld) (v : Nat) (g : Fld) : (s.setForce f v).get g = s.get g := rfl
@[simp] theorem State.setForce_eng (s : State) (f : Fld) (v : Nat) (k : Nat) : (s.setForce f v).eng k = s.eng k := rfl
@[simp] theorem State.setEng_get (s : State) (n : Nat) (e : Engine) (g : Fld) : (s.setEng n e).get g = s.get g := rfl
@[simp] theorem State.setEng_force (s : State) (n : Nat) (e : Engine) (g : Fld) : (s.setEng n e).force g = s.force g := rfl
@[simp] theorem State.emit_get (s : State) (o : Output) (g : Fld) : (s.emit o).get g = s.get g := rfl
@[simp] theorem State.emit_force (s : State) (o : Output) (g : Fld) : (s.emit o).force g = s.force g := rfl
@[simp] theorem State.emit_eng (s : State) (o : Output) (k : Nat) : (s.emit o).eng k = s.eng k := rfl
@[simp] theorem State.respond_get (s : State) (m code data : Nat) (g : Fld) : (s.respond m code data).get g = s.get g := rfl
@[simp] theorem State.respond_force (s : State) (m code data : Nat) (g : Fld) : (s.respond m code data).force g = s.force g := rfl
@[simp] theorem State.respond_eng (s : State) (m code data : Nat) (k : Nat) : (s.respond m code data).eng k = s.eng k := rfl
@[simp] theorem State.stPut_get (s : State) (a : Nat) (b : Byte) (g : Fld) : (s.stPut a b).get g = s.get g := rfl
@[simp] theorem State.stPut_force (s : State) (a : Nat) (b : Byte) (g : Fld) : (s.stPut a b).force g = s.force g := rfl
@[simp] theorem State.stPut_eng (s : State) (a : Nat) (b : Byte) (k : Nat) : (s.stPut a b).eng k = s.eng k := rfl
@[simp] theorem State.lmPut_get (s : State) (a : Nat) (b : Byte) (g : Fld) : (s.lmPut a b).get g = s.get g := rfl
@[simp] theorem State.lmPut_force (s : State) (a : Nat) (b : Byte) (g : Fld) : (s.lmPut a b).force g = s.force g := rfl
@[simp] theorem State.lmPut_eng (s : State) (a : Nat) (b : Byte) (k : Nat) : (s.lmPut a b).eng k = s.eng k := rfl
@[simp] theorem State.vtPut_get (s : State) (a : Nat) (b : Byte) (g : Fld) : (s.vtPut a b).get g = s.get g := rfl
@[simp] theorem State.vtPut_force (s : State) (a : Nat) (b : Byte) (g : Fld) : (s.vtPut a b).force g = s.force g := rfl
@[simp] theorem State.vtPut_eng (s : State) (a : Nat) (b : Byte) (k : Nat) : (s.vtPut a b).eng k = s.eng k := rfl
@[simp] theorem State.flPut_get (s : State) (a : Nat) (b : Byte) (g : Fld) : (s.flPut a b).get g = s.get g := rfl
@[simp] theorem State.flPut_force (s : State) (a : Nat) (b : Byte) (g : Fld) : (s.flPut a b).force g = s.force g := rfl
@[simp] theorem State.flPut_eng (s : State) (a : Nat) (b : Byte) (k : Nat) : (s.flPut a b).eng k = s.eng k := rfl
@[simp] theorem State.fresh_get (s : State) (n : Nat) (g : Fld) : (s.fresh n).2.get g = s.get g := rfl
@[simp] theorem State.fresh_force (s : State) (n : Nat) (g : Fld) : (s.fresh n).2.force g = s.force g := rfl
@[simp] theorem State.fresh_eng (s : State) (n k : Nat) : (s.fresh n).2.eng k = s.eng k := rfl

/-- A free value lies below its bound. -/
theorem State.fresh_lt (s : State) (n : Nat) (h : 0 < n) : (s.fresh n).1 < n := by
  have : max n 1 = n := by omega
  simpa [State.fresh, this] using Nat.mod_lt _ h

/-! ### Engines, the scalar registers -/

@[simp] theorem State.eng_setEng_self (s : State) (n : Nat) (e : Engine) : (s.setEng n e).eng n = e := by
  simp [State.eng, State.setEng, Tab.get_put]

theorem State.eng_setEng_ne (s : State) (n k : Nat) (e : Engine) (h : k ≠ n) : (s.setEng n e).eng k = s.eng k := by
  simp [State.eng, State.setEng, Tab.get_put, h]

@[simp] theorem State.modEng_eq (s : State) (n : Nat) (f : Engine → Engine) : s.modEng n f = s.setEng n (f (s.eng n)) := rfl

/-- s0 reads 0 whatever was written (R261). -/
@[simp] theorem Engine.sreg_zero (e : Engine) : e.sreg 0 = 0 := rfl

@[simp] theorem Engine.setS_zero (e : Engine) (v : Word) : e.setS 0 v = e := rfl

/-- A scalar register other than s0 reads as what was written. -/
theorem Engine.sreg_setS_self (e : Engine) (r : Nat) (v : Word) (h : r ≠ 0) : (e.setS r v).sreg r = v := by
  simp [Engine.sreg, Engine.setS, h]

theorem Engine.sreg_setS_ne (e : Engine) (r k : Nat) (v : Word) (h : k ≠ r) : (e.setS r v).sreg k = e.sreg k := by
  unfold Engine.sreg Engine.setS
  split
  · rfl
  · split
    · rfl
    · exact Tab.get_set_ne _ _ _ _ _ _ h

/-! ### Bytes of memory -/

theorem State.stByte_stPut (s : State) (a k : Nat) (b : Byte) : (s.stPut a b).stByte k = if k = a then b else s.stByte k := by
  simp [State.stByte, State.stPut, Tab.get_set]

theorem State.lmByte_lmPut (s : State) (a k : Nat) (b : Byte) : (s.lmPut a b).lmByte k = if k = a then b else s.lmByte k := by
  simp [State.lmByte, State.lmPut, Tab.get_set]

theorem State.vtByte_vtPut (s : State) (a k : Nat) (b : Byte) : (s.vtPut a b).vtByte k = if k = a then b else s.vtByte k := by
  simp [State.vtByte, State.vtPut, Tab.get_set]

theorem State.flByte_flPut (s : State) (a k : Nat) (b : Byte) : (s.flPut a b).flByte k = if k = a then b else s.flByte k := by
  simp [State.flByte, State.flPut, Tab.get_set]

end Sys2Proof.Machine
end

