-- ==== Sys2Proof/Laws/Memory.lean ====
section
/-! SUPPORT. Every operation on a memory keeps the canonical form of the memories. -/

namespace Sys2Proof.Machine

theorem Tab.above_filter {α : Type} {b : Nat} {t : Tab α} (p : Nat × α → Bool) (h : Tab.above b t) :
    Tab.above b (t.filter p) := fun e he => h e ((List.mem_filter.mp he).1)

theorem Tab.rising_filter {α : Type} {t : Tab α} (p : Nat × α → Bool) (h : Tab.rising t = true) :
    Tab.rising (t.filter p) = true := by
  induction t with
  | nil => rfl
  | cons e r ih =>
    obtain ⟨j, w⟩ := e
    obtain ⟨ha, hr⟩ := (Tab.rising_cons j w r).mp h
    by_cases hp : p (j, w) = true
    · rw [List.filter_cons_of_pos hp]
      exact (Tab.rising_cons ..).mpr ⟨Tab.above_filter p ha, ih hr⟩
    · rw [List.filter_cons_of_neg hp]
      exact ih hr

/-- A table keeps its canonical form when entries are dropped. -/
theorem Tab.canonical_filter {α : Type} [DecidableEq α] {t : Tab α} {d : α} (p : Nat × α → Bool)
    (h : Tab.canonical t d = true) : Tab.canonical (t.filter p) d = true := by
  simp only [Tab.canonical, Bool.and_eq_true, List.all_eq_true] at h ⊢
  exact ⟨Tab.rising_filter p h.1, fun e he => h.2 e ((List.mem_filter.mp he).1)⟩

/-- A table keeps its canonical form under a run of writes. -/
theorem Tab.canonical_foldl_set {α β : Type} [DecidableEq α] {d : α} (key : β → Nat) (val : β → α) (l : List β) :
    ∀ t : Tab α, Tab.canonical t d = true →
      Tab.canonical (l.foldl (fun (m : Tab α) x => Tab.set m (key x) d (val x)) t) d = true := by
  induction l with
  | nil => intro t h; exact h
  | cons x r ih => intro t h; exact ih _ (Tab.canonical_set _ _ h)

theorem Memory.wf_iff (s : State) : Memory.wf s = true ↔
    Tab.canonical s.store 0 = true ∧ Tab.canonical s.localMem 0 = true ∧ Tab.canonical s.vault 0 = true ∧
      Tab.canonical s.flash 0xFF = true := by
  simp [Memory.wf, and_assoc]

/-- Only the four memories decide the form. -/
theorem Memory.wf_congr {s t : State} (h1 : t.store = s.store) (h2 : t.localMem = s.localMem) (h3 : t.vault = s.vault)
    (h4 : t.flash = s.flash) : Memory.wf t = Memory.wf s := by
  simp [Memory.wf, h1, h2, h3, h4]

@[simp] theorem Memory.wf_set (s : State) (f : Fld) (v : Nat) : Memory.wf (s.set f v) = Memory.wf s := rfl
@[simp] theorem Memory.wf_setForce (s : State) (f : Fld) (v : Nat) : Memory.wf (s.setForce f v) = Memory.wf s := rfl
@[simp] theorem Memory.wf_setEng (s : State) (n : Nat) (e : Engine) : Memory.wf (s.setEng n e) = Memory.wf s := rfl
@[simp] theorem Memory.wf_emit (s : State) (o : Output) : Memory.wf (s.emit o) = Memory.wf s := rfl
@[simp] theorem Memory.wf_respond (s : State) (m c d : Nat) : Memory.wf (s.respond m c d) = Memory.wf s := rfl
@[simp] theorem Memory.wf_fresh (s : State) (n : Nat) : Memory.wf (s.fresh n).2 = Memory.wf s := rfl

theorem Memory.wf_stPut {s : State} (a : Nat) (b : Byte) (h : Memory.wf s = true) : Memory.wf (s.stPut a b) = true := by
  obtain ⟨h1, h2, h3, h4⟩ := (Memory.wf_iff s).mp h
  exact (Memory.wf_iff _).mpr ⟨Tab.canonical_set a b h1, h2, h3, h4⟩

theorem Memory.wf_lmPut {s : State} (a : Nat) (b : Byte) (h : Memory.wf s = true) : Memory.wf (s.lmPut a b) = true := by
  obtain ⟨h1, h2, h3, h4⟩ := (Memory.wf_iff s).mp h
  exact (Memory.wf_iff _).mpr ⟨h1, Tab.canonical_set a b h2, h3, h4⟩

theorem Memory.wf_vtPut {s : State} (a : Nat) (b : Byte) (h : Memory.wf s = true) : Memory.wf (s.vtPut a b) = true := by
  obtain ⟨h1, h2, h3, h4⟩ := (Memory.wf_iff s).mp h
  exact (Memory.wf_iff _).mpr ⟨h1, h2, Tab.canonical_set a b h3, h4⟩

theorem Memory.wf_flPut {s : State} (a : Nat) (b : Byte) (h : Memory.wf s = true) : Memory.wf (s.flPut a b) = true := by
  obtain ⟨h1, h2, h3, h4⟩ := (Memory.wf_iff s).mp h
  exact (Memory.wf_iff _).mpr ⟨h1, h2, h3, Tab.canonical_set a b h4⟩

theorem Memory.wf_stPuts (bs : List Byte) : ∀ (s : State) (a : Nat), Memory.wf s = true → Memory.wf (s.stPuts a bs) = true := by
  induction bs with
  | nil => intro s a h; exact h
  | cons b r ih => intro s a h; exact ih _ _ (Memory.wf_stPut a b h)

theorem Memory.wf_lmPuts (bs : List Byte) : ∀ (s : State) (a : Nat), Memory.wf s = true → Memory.wf (s.lmPuts a bs) = true := by
  induction bs with
  | nil => intro s a h; exact h
  | cons b r ih => intro s a h; exact ih _ _ (Memory.wf_lmPut a b h)

theorem Memory.wf_vtPuts (bs : List Byte) : ∀ (s : State) (a : Nat), Memory.wf s = true → Memory.wf (s.vtPuts a bs) = true := by
  induction bs with
  | nil => intro s a h; exact h
  | cons b r ih => intro s a h; exact ih _ _ (Memory.wf_vtPut a b h)

theorem Memory.wf_stPutAll (ps : List (Nat × Byte)) : ∀ s : State, Memory.wf s = true → Memory.wf (s.stPutAll ps) = true := by
  induction ps with
  | nil => intro s h; exact h
  | cons p r ih => intro s h; exact ih _ (Memory.wf_stPut p.1 p.2 h)

theorem Memory.wf_flProgram (bs : List Byte) :
    ∀ (s : State) (a : Nat), Memory.wf s = true → Memory.wf (s.flProgram a bs) = true := by
  induction bs with
  | nil => intro s a h; exact h
  | cons b r ih => intro s a h; exact ih _ _ (Memory.wf_flPut a _ h)

theorem Memory.wf_flFree (as : List Nat) : ∀ s : State, Memory.wf s = true → Memory.wf (s.flFree as) = true := by
  induction as with
  | nil => intro s h; exact h
  | cons a r ih => intro s h; exact ih _ (Memory.wf_flPut a _ h)

theorem Memory.wf_flErase {s : State} (a : Nat) (h : Memory.wf s = true) : Memory.wf (s.flErase a) = true := by
  obtain ⟨h1, h2, h3, h4⟩ := (Memory.wf_iff s).mp h
  exact (Memory.wf_iff _).mpr ⟨h1, h2, h3, Tab.canonical_filter _ h4⟩

theorem Memory.wf_vaultWipe {s : State} (h : Memory.wf s = true) : Memory.wf s.vaultWipe = true := by
  obtain ⟨h1, h2, _, h4⟩ := (Memory.wf_iff s).mp h
  exact (Memory.wf_iff _).mpr ⟨h1, h2, rfl, h4⟩

theorem Memory.wf_storeFill {s : State} (a : Nat) (bs : Image) (h : Memory.wf s = true) :
    Memory.wf (s.storeFill a bs) = true := Memory.wf_stPuts bs s a h

theorem Memory.wf_zeroFill {s : State} (h : Memory.wf s = true) : Memory.wf s.zeroFill = true := by
  obtain ⟨h1, h2, h3, h4⟩ := (Memory.wf_iff s).mp h
  exact (Memory.wf_iff _).mpr ⟨Tab.canonical_filter _ h1, h2, h3, h4⟩

theorem Memory.wf_stageClear {s : State} (h : Memory.wf s = true) : Memory.wf s.stageClear = true := by
  obtain ⟨h1, h2, h3, h4⟩ := (Memory.wf_iff s).mp h
  exact (Memory.wf_iff _).mpr ⟨Tab.canonical_filter _ h1, h2, h3, h4⟩

/-- The memories of the machine right after reset list nothing. -/
theorem Memory.wf_reset : Memory.wf State.reset = true := by decide

/-- A reset keeps the store and the flash and clears local memory and the vault (R449). -/
theorem Memory.wf_hardReset {s : State} (cause : Fld) (h : Memory.wf s.flCut = true) :
    Memory.wf (s.hardReset cause) = true := by
  obtain ⟨h1, _, _, h4⟩ := (Memory.wf_iff _).mp h
  unfold State.hardReset
  simp only [Memory.wf_set]
  have keep : ∀ (l : List Fld) (g : Fld → Nat) (r : State),
      Memory.wf (l.foldl (fun r f => r.set f (g f)) r) = Memory.wf r := by
    intro l g
    induction l with
    | nil => intro r; rfl
    | cons f l ih => intro r; exact (ih _).trans (Memory.wf_set ..)
  rw [keep]
  exact (Memory.wf_iff _).mpr ⟨h1, rfl, rfl, h4⟩

end Sys2Proof.Machine
end

