-- ==== Sys2Proof/Laws/Ops.lean ====
section
/-! SUPPORT. What the shared shapes of a command can do. -/

namespace Sys2Proof.Machine

/-- What an operation that always acts answers. -/
theorem always_eq (s : State) (f : State → State) : always s f = .next { f s with pending := s.pending } := rfl

/-- A command acts on a device that is not held. -/
theorem act_eq {s : State} (h : s.held = false) (f : State → State) : act s f = .next { f s with pending := s.pending } := by
  simp [act, always, h]

/-- A command leaves a held device as it is. -/
theorem act_held {s : State} (h : s.held = true) (f : State → State) : act s f = .next s := by
  have e : (if s.held then s else f s) = s := if_pos h
  rw [act, always_eq, e]

/-- If a command of the shape `always` answers, it left the queue alone. -/
theorem always_pending {s t : State} {f : State → State} (h : always s f = .next t) : t.pending = s.pending := by
  simp only [always, Host.Outcome.next.injEq] at h
  rw [← h]

/-- If a command of the shape `act` answers, it left the queue alone. -/
theorem act_pending {s t : State} {f : State → State} (h : act s f = .next t) : t.pending = s.pending :=
  always_pending h

/-- If a command of the shape `act` answers, the device was held and stays as it is, or its effect was taken. -/
theorem act_cases {s t : State} {f : State → State} (h : act s f = .next t) :
    (s.held = true ∧ t = s) ∨ (s.held = false ∧ t = { f s with pending := s.pending }) := by
  cases hh : s.held with
  | true => rw [act_held hh] at h; left; exact ⟨rfl, by cases h; rfl⟩
  | false => rw [act_eq hh] at h; right; exact ⟨rfl, by cases h; rfl⟩

/-- The front command leaves the queue and has its effect. -/
theorem step_front {s : State} {c : Instr} {rest : List Instr} (h : s.pending = c :: rest) :
    step s = exec c { s with pending := rest } := by
  simp [step, h]

/-- With no command waiting the block idles (assumption 5). -/
theorem step_empty {s : State} (h : s.pending = []) : step s = .next s := by
  simp [step, h]

/-! ### Register writes (R351) -/

/-- A register write that a check of the matrix turns away only answers and records its denial. -/
theorem State.regCommand_denied {s : State} {m a n c : Nat} (w : State → WRes) (h : s.writeCheck m a n = some c) :
    s.regCommand m a n w = s.fail m a c := by simp [State.regCommand, h]

/-- A register write that passes the matrix and that its register accepts. -/
theorem State.regCommand_ok {s t : State} {m a n : Nat} {w : State → WRes} (h : s.writeCheck m a n = none)
    (hw : w s = .ok t) : s.regCommand m a n w = t.respond m 0 0 := by simp [State.regCommand, h, hw]

/-- A register write that passes the matrix and that its register refuses. -/
theorem State.regCommand_refused {s t : State} {m a n : Nat} {w : State → WRes} (h : s.writeCheck m a n = none)
    (hw : w s = .refused t) : s.regCommand m a n w = t.fail m a 4 := by simp [State.regCommand, h, hw]

/-- A register write is denied, accepted or refused, and nothing else. -/
theorem State.regCommand_cases (s : State) (m a n : Nat) (w : State → WRes) :
    (∃ c, s.writeCheck m a n = some c ∧ s.regCommand m a n w = s.fail m a c) ∨
    (s.writeCheck m a n = none ∧ ∃ t, w s = .ok t ∧ s.regCommand m a n w = t.respond m 0 0) ∨
    (s.writeCheck m a n = none ∧ ∃ t, w s = .refused t ∧ s.regCommand m a n w = t.fail m a 4) := by
  cases h : s.writeCheck m a n with
  | some c => exact .inl ⟨c, rfl, regCommand_denied w h⟩
  | none =>
    cases hw : w s with
    | ok t => exact .inr (.inl ⟨rfl, t, rfl, regCommand_ok h hw⟩)
    | refused t => exact .inr (.inr ⟨rfl, t, rfl, regCommand_refused h hw⟩)

/-- A write of `n` bytes that the matrix turns away has one of the codes 2, 3, 7 and, of JTAG in FIELD, 4. -/
theorem State.writeCheck_code {s : State} {m a n c : Nat} (h : s.writeCheck m a n = some c) :
    c = 2 ∨ c = 3 ∨ c = 7 ∨ (c = 4 ∧ m = 2 ∧ s.lcForce = 2) := by
  unfold State.writeCheck at h
  split at h
  · exact .inl (by cases h; rfl)
  · split at h
    · exact .inr (.inl (by cases h; rfl))
    · split at h
      · exact .inr (.inr (.inl (by cases h; rfl)))
      · split at h
        · rename_i hf
          simp [State.fieldBars] at hf
          cases h
          exact .inr (.inr (.inr ⟨rfl, hf.1, hf.2⟩))
        · cases h

/-! ### Memories without errors -/

@[simp] theorem State.decodeHalf_clean {s : State} (h : s.storeErr = []) (k src : Nat) : s.decodeHalf k src = (true, s) := by
  simp [State.decodeHalf, h]

theorem State.decodeHalves_clean {s : State} (h : s.storeErr = []) (src : Nat) :
    ∀ l : List Nat, s.decodeHalves src l = (none, s)
  | [] => rfl
  | k :: r => by simp [State.decodeHalves, h, decodeHalves_clean h src r]

/-- A read of a store without errors gives the bytes that stand there and changes nothing. -/
theorem State.stRead_clean {s : State} (h : s.storeErr = []) (a n src : Nat) :
    s.stRead a n src = (.data (s.stBytes a n), s) := by
  simp [State.stRead, decodeHalves_clean h]

theorem State.lmDecode_clean {s : State} (h : s.lmErr = []) : ∀ l : List Nat, s.lmDecode l = (true, s)
  | [] => rfl
  | k :: r => by simp [State.lmDecode, h, lmDecode_clean h r]

/-- A read of a local memory without errors gives the bytes that stand there and changes nothing. -/
theorem State.lmRead_clean {s : State} (h : s.lmErr = []) (a n : Nat) : s.lmRead a n = (some (s.lmBytes a n), s) := by
  simp [State.lmRead, lmDecode_clean h]

/-! ### Instructions -/

/-- A core that may not issue does nothing. -/
theorem State.issue_not {s : State} {u : CoreId} (h : s.mayIssue (coreNo u) = false) (f : Form) (bad : Bool) (rs : List Nat)
    (body : State → Nat → SRes) : s.issue u f bad rs body = s := by simp [State.issue, h]

/-- A form that a repeat prefix does not allow does nothing. -/
theorem State.issue_misfit {s : State} {u : CoreId} {f : Form} (h : s.formFits (coreNo u) f = false) (bad : Bool)
    (rs : List Nat) (body : State → Nat → SRes) : s.issue u f bad rs body = s := by simp [State.issue, h]

/-- A core at a breakpoint halts before the instruction. -/
theorem State.issue_break {s : State} {u : CoreId} {f : Form} (h : s.mayIssue (coreNo u) = true)
    (hf : s.formFits (coreNo u) f = true) (hb : s.atBreakpoint (coreNo u) = true) (bad : Bool) (rs : List Nat)
    (body : State → Nat → SRes) : s.issue u f bad rs body = s.haltNow (coreNo u) 3 := by simp [State.issue, h, hf, hb]

/-- A value given is that value, and costs no free one; one not given is a free value below its bound. -/
theorem State.orFree_spec (s : State) (v : Option Nat) (n : Nat) : ∃ a c, s.orFree v n = (a, { s with freeCtr := c }) ∧
    (∀ k, v = some k → a = k) ∧ (v = none → a < max n 1) := by
  cases v with
  | some k => exact ⟨k, s.freeCtr, rfl, fun _ h => (Option.some.inj h), fun h => nomatch h⟩
  | none => exact ⟨_, _, rfl, (by simp), fun _ => Nat.mod_lt _ (by omega)⟩

/-- What an entry records: the fields that the exception gives, and a state that differs in the free values drawn. -/
theorem State.recorded_spec (s : State) (v frm : Nat) (x : Exc) : ∃ sub code a c,
    s.recorded v frm x = ((ectx v frm sub code, a), { s with freeCtr := c }) ∧ (∀ k, x.sub = some k → sub = k) ∧
    (∀ k, x.reg = some k → code = k) ∧ ∀ k, x.addr = some k → a = k := by
  obtain ⟨sub, c, h, hs, -⟩ := s.orFree_spec x.sub 8
  obtain ⟨code, c', h', hc, -⟩ := { s with freeCtr := c }.orFree_spec x.reg 256
  obtain ⟨a, c'', h'', ha, -⟩ := { s with freeCtr := c' }.orFree_spec x.addr (2 ^ 48)
  exact ⟨sub, code, a, c'', by simp only [State.recorded, h, h', h''], hs, hc, ha⟩

/-- ECTX holds the vector, the vector it came from, SUB and CODE in their places, and 0 elsewhere. -/
theorem ectx_fields (v frm sub code : Nat) : ectx v frm sub code % 2 ^ 12 = v % 64 + frm % 64 * 64 ∧
    ectx v frm sub code / 2 ^ 12 % 8 = sub % 8 ∧ ectx v frm sub code / 2 ^ 15 % 2 = 0 ∧
    ectx v frm sub code / 2 ^ 16 % 256 = code % 256 ∧ ectx v frm sub code / 2 ^ 24 = 0 := by
  simp only [ectx]; omega

end Sys2Proof.Machine
end

