-- ==== Sys2Proof/Tests/Base.lean ====
section
/-! SUPPORT. Small states for the tests. -/

namespace Sys2Proof.Tests

open Sys2Proof Sys2Proof.Machine

/-- A state with some register fields set. -/
def devOn (s : State) (fs : List (Fld × Nat)) : State := fs.foldl (fun s p => s.set p.1 p.2) s

/-- The machine after reset, with some register fields set. -/
def dev (fs : List (Fld × Nat)) : State := devOn State.reset fs

/-- The state that a target leaves, whatever it answers. -/
def wresState : WRes → State
  | .ok s => s
  | .refused s => s

/-- Capabilities of a sequencer over the whole store. -/
def seqCaps : Tab Cap :=
  [(0, rootCap 0 0x1FFF0000 0x3F9F), (1, rootCap 0 0x1FFF0000 3), (5, rootCap 0 0x1FFF0000 3), (6, rootCap 0 0x1FFF0000 3)]

/-- Engine 0 runs at 0x100, whose line stands in its line buffer, with s2 = 7 and s3 = 5. -/
def seqAt (f : Engine → Engine) : State :=
  State.reset.setEng 0 (f { run := true, pc := 0x100, lineBuf := some 4, caps := seqCaps, sregs := [(2, 7), (3, 5)] })

/-- The Triad runs at offset 0x100 of local memory, whose line stands in its line buffer, with s2 = 7 and s3 = 5. -/
def triAt (f : Engine → Engine) : State :=
  State.reset.setEng 68
    (f { run := true, pc := 0x100, lineBuf := some 0x4000004, caps := rootCaps, sregs := [(2, 7), (3, 5)] })

/-- A check that passes, by evaluation. -/
theorem ok_of (x : Except Exc Nat) (a : Nat) (h : (match x with | .ok b => b == a | .error _ => false) = true) : x = .ok a := by
  cases x with
  | error => simp at h
  | ok b => simpa using h

/-- A handler's code and stack. -/
def codeCap : Cap := rootCap 0x100000000 0x200000 0x87
@[inherit_doc codeCap] def stackCap : Cap := rootCap 0x100000000 0x200000 3

/-- A descriptor at an offset of local memory, with entry 0x800, valid. -/
def withDesc (s : State) (off : Nat) (c0 c6 : Cap) : State :=
  (((s.storeCap off c0).storeCap (off + 16) c6).lmWrite (off + 32) [0, 8, 0, 0, 1, 0, 0, 0]).2

/-- A checkpoint half for slot 2: four FF bytes bring the CRC's register to 0, zeros keep it there, and a valid trailer follows
(R122). -/
def halfStore (h : Nat) : Tab Byte :=
  [(h, 255), (h + 1, 255), (h + 2, 255), (h + 3, 255), (h + ctxSize + 8, 255), (h + ctxSize + 9, 255), (h + ctxSize + 10, 255),
   (h + ctxSize + 11, 255), (h + ctxSize + 12, 2), (h + ctxSize + 15, 0xA5)]
/-- Zeros leave the register 0. -/
theorem crc_zeros : ∀ n, crcBytes crc32cParams 0 (List.replicate n 0) = 0
  | 0 => rfl
  | n + 1 => crc_zeros n
/-- Bytes that read 0. -/
theorem stBytes_zeros (s : State) : ∀ n a, (∀ i, i < n → s.stByte (a + i) = 0) → s.stBytes a n = List.replicate n 0
  | 0, _, _ => rfl
  | n + 1, a, h => by
    rw [State.stBytes, stBytes_zeros s n (a + 1) (fun i hi => by rw [Nat.add_assoc, Nat.add_comm 1 i]; exact h (i + 1) (by omega)),
      List.replicate_succ, show s.stByte a = 0 from h 0 (by omega)]
@[inherit_doc crc_zeros] theorem crc_cons (p : CrcParams) (a b c d : Byte) (l : List Byte) (r : Nat) :
    crcBytes p r (a :: b :: c :: d :: l) = crcBytes p (crcBytes p r [a, b, c, d]) l := by simp only [crcBytes]
@[inherit_doc halfStore] theorem stBytes_half (s : State) (h m : Nat) (hs : s.store = halfStore h) :
    s.stBytes h (m + 4) = 255 :: 255 :: 255 :: 255 :: s.stBytes (h + 4) m := by
  simp [State.stBytes, State.stByte, hs, halfStore, Tab.get, Nat.add_assoc]
@[inherit_doc halfStore] theorem half_crc (s : State) (h m : Nat) (hs : s.store = halfStore h) (hm : m + 4 = ctxSize) :
    crc32c (s.stBytes h ctxSize) = 0xFFFFFFFF := by
  have hz : s.stBytes (h + 4) m = List.replicate m 0 := by
    apply stBytes_zeros
    intro i hi
    rw [State.stByte, hs, halfStore]
    generalize ctxSize = k at hm ⊢
    simp only [Tab.get]
    repeat rw [if_neg (by omega)]
  rw [← hm, stBytes_half s h m hs, hz, crc32c, crc_cons,
    show crcBytes crc32cParams crc32cParams.init [255, 255, 255, 255] = 0 from by decide +kernel, crc_zeros]
  decide +kernel
@[inherit_doc halfStore] theorem half_valid (s : State) (h : Nat) (hs : s.store = halfStore h) (he : s.storeErr = []) : s.halfValid h 2 = true := by
  rw [State.halfValid, half_crc s h 70652 hs rfl, he]
  have hk : ∃ k, k = ctxSize ∧ 4 ≤ k := ⟨_, rfl, by decide⟩
  obtain ⟨k, hk, h4⟩ := hk
  rw [← hk]
  have e : ∀ a b, a < 4 → ¬ (h + a = h + k + b) := by omega
  simp [State.stByte, State.stNat, leNat, State.stBytes, hs, halfStore, Tab.get, ← hk, Nat.add_assoc]

end Sys2Proof.Tests
end

