-- ==== Sys2Proof/Tests/Slice0.lean ====
section
/-! SUPPORT. Tests: an ill-formed term for each check of WellFormed, the worked values of the spec, and for every clause of a
statement that has hypotheses a state and operands that meet all of them together: one conjunct
per clause, in the order of the clauses. -/

set_option maxRecDepth 20000
set_option Elab.async false

namespace Sys2Proof.Tests

open Sys2Proof Sys2Proof.Machine

/-! ### Well-formedness refuses each ill-formed term -/

/-- An upset beyond the last half of the store. -/
theorem test_wf_upset : (Instr.scrubAccess 0 0 0 (some ⟨67100672, .single⟩)).wf = false := by decide +kernel
/-- A request beyond the last word of the store (R73). -/
theorem test_wf_store_request :
    (Instr.storeRequest 0 [⟨.router, 0x1FFF000, 0xFFFF, .read, 0⟩] none).wf = false := by decide +kernel
/-- An upset of an engine that strikes a half that does not exist. -/
theorem test_wf_engine_upset : EngUpset.optWf (some (.store ⟨67100672, .single⟩)) = false := by decide +kernel
/-- An upset of the matrix that strikes a half that does not exist. -/
theorem test_wf_memory_upset : MemUpset.optWf (some (.store ⟨67100672, .poison⟩)) = false := by decide +kernel
/-- 24 bytes from the middle of a line are no transaction of R347. -/
theorem test_wf_matrix_request : MxReq.wf ⟨8, 23, none, false, none⟩ = false := by decide +kernel
/-- Nor are 12 bytes from the middle of a line a side-effect-free read (R347). -/
theorem test_wf_peek : (Instr.peekRead 0 8 11 none).wf = false := by decide +kernel
/-- A write TLP of more than 512 bytes (R466). -/
theorem test_wf_bar_request : BarReq.wf ⟨false, 0, 512, some 0, none, none⟩ = false := by decide +kernel
/-- A received codeword of 543 symbols (R422). -/
theorem test_wf_codeword : (Instr.flitReceive 0 0 (some (List.replicate 543 0))).wf = false := by decide +kernel
/-- A sample below 0.670 V, which FINAL_SAG brings (R446). -/
theorem test_wf_sample : SampleRun.wf ⟨669, 1⟩ = false := by decide +kernel
/-- A debug access whose upset strikes a half that does not exist. -/
theorem test_wf_debug_access (r : DbgReq) (h : r.up = some (.store ⟨67100672, .single⟩)) : r.wf = false := by
  simp only [DbgReq.wf, h]; decide +kernel

/-! ### Worked values of the spec -/

/-- The check values of R381, presets 1 to 4: the CRC of "123456789". -/
def nine : List Byte := [0x31, 0x32, 0x33, 0x34, 0x35, 0x36, 0x37, 0x38, 0x39]
@[inherit_doc nine] def checkOf (p : CrcParams) : Nat := crcResult p (crcBytes p p.init nine)
@[inherit_doc nine] theorem test_crc_presets :
    [1, 2, 3, 4].map (fun p => checkOf ((dev [(Rg.CRC_CFG_PRESET 3, p)]).crcParams 3)) =
      [0xCBF43926, 0xE3069283, 0x29B1, 0x6C40DF5F0B497347] := by decide +kernel
/-- The six addresses that the spec maps (R75): bank and row. -/
theorem test_bank_mapping :
    [0, 8191, 8192, 12296000, 16777216, 33550335].map bankOf = [0, 0, 1, 1309, 2048, 8190] := by decide +kernel
/-- MUL q15 of 0x4000 by 0x6000, and of 0x8000 by itself, which is counted (R149). -/
theorem test_mul_q15 : opEl .mul .q15 .q31 0 false 0 0x4000 0x6000 0 = { val := 0x3000 } ∧
    opEl .mul .q15 .q31 0 false 0 0x8000 0x8000 0 = { val := 0x7FFF, counted := true } := by decide +kernel
/-- MULW q15 of 0x8000 by itself (R149). -/
theorem test_mulw_q15 : opEl .mulw .q15 .q31 0 false 0 0x8000 0x8000 0 = { val := 0x7FFFFFFF, counted := true } := by
  decide +kernel
/-- SHR u32 of 0x80000000 by 32 under RM 0 and RM 1 (R148). -/
theorem test_shr_u32 : (opEl .shr .u32 .u32 0 false 0 0x80000000 32 0).val = 0 ∧
    (opEl .shr .u32 .u32 1 false 0 0x80000000 32 0).val = 1 := by decide +kernel
/-- DIV i32 of −7 by 2 under RM 0, 1 and 2 (R154). -/
theorem test_div_i32 : [0, 1, 2].map (fun rm => (opEl .div .i32 .i32 rm false 0 (2 ^ 32 - 7) 2 0).val) =
    [2 ^ 32 - 4, 2 ^ 32 - 3, 2 ^ 32 - 4] := by decide +kernel
/-- CVT q15 to i16 of 0.5 under RM 0 and 1, f32 to u16 of −3.0, u32 to f16 of 70,000 (R152). -/
theorem test_cvt : (cvt .q15 .i16 0 0x4000).val = 0 ∧ (cvt .q15 .i16 1 0x4000).val = 1 ∧
    cvt .f32 .u16 0 0xC0400000 = { val := 0, counted := true } ∧ (cvt .u32 .f16 0 70000).val = 0x7C00 := by decide +kernel
/-- The pedestal example of chapter 5: BFX of 0x00032A15 and the net amplitudes, the third one counted. -/
theorem test_pedestal : (opEl .bfx .u32 .u32 0 false (8 + 16 * 32) 0x00032A15 0 0).val = 810 ∧
    opEl .sub .u32 .u32 0 true 0 810 772 0 = { val := 38 } ∧
    opEl .sub .u32 .u32 0 true 0 761 775 0 = { val := 0, counted := true } := by decide +kernel
/-- The default settings: F × M = 3,200 cc and W = 2,944 cc (the first budget example). -/
theorem test_budget : State.reset.frameCc = 3200 ∧ State.reset.budgetW = 2944 := by decide +kernel
/-- A write of `VAULT_CMD` by the host passes no window at reset and is recorded (R351, R352). -/
theorem test_host_write_denied :
    (match exec (.vaultWipeCmd 1 1) (dev []) with
      | .next u => u.get Rg.MX_LAST_ERR_HI_MASTER == 1 && u.get Rg.MX_WIN_DENY_CNT == 1
      | _ => false) = true := by decide +kernel
/-- A step runs the front command and drops it. -/
theorem test_step_front : (match step { State.reset with pending := [.crossingTick, .scrubLate] } with
    | .next t => t.pending == [.scrubLate]
    | _ => false) = true := by decide +kernel
/-- A request above the store stops by name. -/
theorem test_no_such_word :
    (match exec (.storeRequest 0 [⟨.router, 0x1FFF000, 0xFFFF, .read, 0⟩] none) (dev []) with
      | .fault f => f == .noSuchWord
      | _ => false) = true := by decide +kernel
/-- SUB u32 of the pedestal example (R132): OP 0x01, PIPE 1, TYPE 5, CHAIN, SRC1 2, SRC2 1, SAT. -/
theorem test_decode_vector_sub : decodeVector 0 0x000040008401503F =
    some (.vSub 0 ⟨true, 1, 5, 0, 0, 2, 1, 0, 0, 0, true, false, 0⟩) := by decide +kernel
/-- CMPGE u32 of the second accord of that example: OP 0x2D, PIPE 1, TYPE 5, SRC2 42, DKIND 1, DREG 1, CHAIN; its two words
are joined, the low one first (R131). -/
theorem test_decode_vector_cmpge : decodeStream (.seq 0) 0 0x000155BF 0x000000B5 =
    some (.cmpge 0 ⟨true, 1, 5, 0, 0, 0, 42, 1, 1, 0, false, false, 0⟩, 2) := by decide +kernel
/-- A load of the sequencer (R262, R267). -/
theorem test_decode_load : decodeScalar .triad 0 0x011854C4 0 = some (.lw .triad ⟨12, 10, 1, 1, 4⟩) := by decide +kernel
/-- Major 0xE, an OP that no table lists, and a vector instruction on the Triad stand for no command (R131, R140, R263). -/
theorem test_decode_nothing : decodeScalar .triad 0 0xE 0 = none ∧ decodeVector 0 0x18F = none ∧
    decodeStream .triad 0 0x000155BF 0x000000B5 = none := by decide +kernel


/-- A check that fails, by evaluation. -/
theorem error_of (x : Except Exc Nat) (a : Exc) (h : (match x with | .error b => b == a | .ok _ => false) = true) :
    x = .error a := by
  cases x with
  | error b => simpa using h
  | ok b => simp at h
/-- The bits of a majority. -/
theorem majority_of {w : Nat} (r a b c : BitVec w) (h : r = (a &&& b) ||| (a &&& c) ||| (b &&& c)) (i : Nat) :
    r.getLsbD i = TwoOf (a.getLsbD i) (b.getLsbD i) (c.getLsbD i) := by
  subst h; simp [TwoOf]

/-! ### The hypotheses of the statements -/

/-- The hypotheses of the clauses of `Obligations.StepRunsFrontCommand` are met. -/
theorem witness_StepRunsFrontCommand :
    (∃ (s : State) (c : Instr) (rest : List Instr), s.pending = c :: rest) ∧
    (∃ (s : State), s.pending = []) :=
  ⟨⟨{ State.reset with pending := [.crossingTick, .scrubLate] }, .crossingTick, [.scrubLate], by decide +kernel⟩,
   ⟨{ State.reset with pending := [] }, by decide +kernel⟩⟩

/-- The hypotheses of the clauses of `Obligations.StepKeepsQueueWellFormed` are met. -/
theorem witness_StepKeepsQueueWellFormed :
    (∃ (c : Instr) (s t : State), exec c s = .next t) ∧
    (∃ (s t : State), s.queueWf = true ∧ step s = .next t) :=
  ⟨⟨.scrubLate, State.reset, ((State.reset.set Rg.ST_STATUS_SCRUB_LATE 1).raise Rg.ST_INT_STATUS_SCRUB_LATE), rfl⟩,
   ⟨{ State.reset with pending := [.crossingTick, .scrubLate] },
     { State.reset with pending := [.scrubLate], vu := { out := none } }, by decide +kernel, rfl⟩⟩

/-- The hypotheses of the clauses of `Obligations.StepKeepsMemoriesCanonical` are met. -/
theorem witness_StepKeepsMemoriesCanonical :
    ∃ (s t : State), Memory.wf s = true ∧ step s = .next t :=
  ⟨{ State.reset with store := [(5, 7)], pending := [.crossingTick] }, { State.reset with store := [(5, 7)] },
    by decide +kernel, rfl⟩

/-- The hypotheses of the clauses of `Obligations.WellFormedCommandsComplete` are met. -/
theorem witness_WellFormedCommandsComplete :
    (∃ (c : Instr) (_ : State), c.wf = true) ∧
    (∃ (c : Instr) (s : State), s.held = true ∧ c.wf = true ∧ actsWhenHeld c = false) ∧
    (∃ (c : Instr) (s : State) (f : Fault), exec c s = .fault f) ∧
    (∃ (_ : Nat) (reqs : List StoreReq) (_ : Option Upset) (_ : State), (reqs.any (fun r => decide (storeTop ≤ r.word *
      16)) = true)) :=
  ⟨⟨.crossingTick, State.reset, by decide +kernel⟩,
   ⟨.crossingTick, { State.reset with held := true }, by decide +kernel⟩,
   ⟨.storeRequest 0 [⟨.router, 33550336, 0xFFFF, .read, 0⟩] none, State.reset, .noSuchWord, rfl⟩,
   ⟨0, [⟨.router, 33550336, 0xFFFF, .read, 0⟩], none, State.reset, by decide +kernel⟩⟩

/-- The hypotheses of the clauses of `Obligations.RegisterCommandsPassTheMatrixInOrder` are met. -/
theorem witness_RegisterCommandsPassTheMatrixInOrder :
    (∃ (c : Instr) (s : State) (m a n : Nat), regTarget c = some (m, a, n) ∧ s.held = false ∧ s.windowOk m a n true
      false = false) ∧
    (∃ (c : Instr) (s : State) (m a n : Nat), regTarget c = some (m, a, n) ∧ s.held = false ∧ s.windowOk m a n true
      false = true ∧ s.ownOk m a = false) ∧
    (∃ (c : Instr) (s : State) (m a n : Nat), regTarget c = some (m, a, n) ∧ s.held = false ∧ s.windowOk m a n true
      false = true ∧ s.ownOk m a = true ∧ s.lastResort = true ∧ m ≠ 8) ∧
    (∃ (c : Instr) (s : State) (m a n : Nat), regTarget c = some (m, a, n) ∧ s.held = false ∧ s.windowOk m a n true
      false = true ∧ s.ownOk m a = true ∧ s.lastResort = false ∧ m = 2 ∧ s.lcForce = 2) :=
  ⟨⟨.lockReq 1 0, State.reset, 1, 0x500000000, 4, by decide +kernel⟩,
   ⟨.lockReq 2 0, State.reset, 2, 0x500000000, 4, by decide +kernel⟩,
   ⟨.lockReq 0 0, { dev [(Rg.VT_STATUS_STATE, 4)] with held := false }, 0, 0x500000000, 4, by decide +kernel⟩,
   ⟨.lockReq 2 0, { dev [(Rg.MX_WIN_VALID 2 0, 1), (Rg.MX_WIN_R 2 0, 1), (Rg.MX_WIN_W 2 0, 1), (Rg.MX_WIN_LIMIT_LO 2 0,
     2 ^ 32), (Rg.MX_WIN_LIMIT_HI 2 0, 15), (Rg.OWN_CLASS_OWNER (ownClass 0x500000000), 1)] with lcForce := 2 }, 2,
     0x500000000, 4, by decide +kernel⟩⟩

/-- The hypotheses of the clauses of `Obligations.DenialsAreRecorded` are met. -/
theorem witness_DenialsAreRecorded :
    (∃ (_ : State) (_ _ : Nat) (c : _), (c = 1 ∨ c = 2)) ∧
    (∃ (_ : State) (_ _ c : Nat), c ≠ 1 ∧ c ≠ 2 ∧ c ≠ 3) :=
  ⟨⟨State.reset, 0, 0, 1, by decide +kernel⟩,
   ⟨State.reset, 0, 0, 7, by decide +kernel⟩⟩

/-- The hypotheses of the clauses of `Obligations.AccessCodesFollowR7` are met. -/
theorem witness_AccessCodesFollowR7 :
    (∃ (s : State) (f : Fld) (_ : Nat), s.get f < 2 ^ f.w) ∧
    (∃ (s : State) (f : Fld) (_ : Nat) (i : _), s.get f < 2 ^ f.w ∧ i < f.w) ∧
    (∃ (s : State) (f : Fld) (_ : Nat) (_ : Acc), s.get f < 2 ^ f.w) ∧
    (∃ (_ : State) (r : RegRef) (f : _), (r.row.base < (Rg.CRC_VALUE_LO 0).addr ∨ (Rg.CRC_RESULT_HI 0).addr <
      r.row.base) ∧ (((r.row.flds r.n r.k).map (fun p => p.1.key)).Nodup) ∧ (∀ p ∈ r.row.flds r.n r.k, p.1.rst < 2 ^
      p.1.w) ∧ (f, Acc.rc) ∈ r.row.flds r.n r.k) ∧
    (∃ (_ : State) (r : RegRef), (r.row.base < (Rg.CRC_VALUE_LO 0).addr ∨ (Rg.CRC_RESULT_HI 0).addr < r.row.base) ∧
      (((r.row.flds r.n r.k).map (fun p => p.1.key)).Nodup) ∧ (∀ p ∈ r.row.flds r.n r.k, p.1.rst < 2 ^ p.1.w) ∧ r.row.base
      ≠ Rg.ST_ROT_STATUS_SRC_PHYS.addr) ∧
    (∃ (_ : State) (r : RegRef) (g : Fld), (r.row.base < (Rg.CRC_VALUE_LO 0).addr ∨ (Rg.CRC_RESULT_HI 0).addr <
      r.row.base) ∧ (((r.row.flds r.n r.k).map (fun p => p.1.key)).Nodup) ∧ (∀ p ∈ r.row.flds r.n r.k, p.1.rst < 2 ^
      p.1.w) ∧ (g.key ∉ ((r.row.flds r.n r.k).filter (fun p => p.2 = .rc)).map (·.1.key))) :=
  ⟨⟨State.reset, Rg.FT_CFG_M, 0x12345678, by decide +kernel⟩,
   ⟨State.reset, Rg.FT_CFG_M, 0x12345678, 3, by decide +kernel⟩,
   ⟨State.reset, Rg.FT_CFG_M, 0x12345678, .w1c, by decide +kernel⟩,
   ⟨State.reset, ((regAt 0x500066000).get (by decide)), Rg.MX_ERR_CNT, by decide +kernel⟩,
   ⟨State.reset, ((regAt 0x500066000).get (by decide)), by decide +kernel⟩,
   ⟨State.reset, ((regAt 0x500066000).get (by decide)), Rg.FT_CFG_M, by decide +kernel⟩⟩

/-- The hypotheses of the clauses of `Obligations.RegisterAccessesComplete` are met. -/
theorem witness_RegisterAccessesComplete :
    (∃ (s : State) (m : Master) (a : Addr) (wide : Bool) (v : DWord) (r : RegRef) (t : State), s.held = false ∧ s.rom =
      .none ∧ regAt a.toNat = some r ∧ targetOf a.toNat = .register r ∧ s.mxCheck m a.toNat (if wide then 8 else 4) true
      false = none ∧ r.widthOk (if wide then 8 else 4) = true ∧ s.regWrite m r (if wide then 8 else 4) (v.toNat % 2 ^ (if
      wide then 64 else 32)) = .ok t ∧ t.rom = .none) ∧
    (∃ (s : State) (m : Master) (a : Addr) (wide : Bool) (v : DWord) (r : RegRef) (_ : State), s.held = false ∧ s.rom =
      .none ∧ regAt a.toNat = some r ∧ targetOf a.toNat = .register r ∧ s.mxCheck m a.toNat (if wide then 8 else 4) true
      false = none ∧ r.widthOk (if wide then 8 else 4) = true ∧ s.regWrite m r (if wide then 8 else 4) (v.toNat % 2 ^ (if
      wide then 64 else 32)) = .refused s) ∧
    (∃ (s : State) (m : Master) (a : Addr) (wide : Bool) (_ : DWord) (r : RegRef), s.held = false ∧ s.rom = .none ∧
      targetOf a.toNat = .register r ∧ s.mxCheck m a.toNat (if wide then 8 else 4) true false = none ∧ r.widthOk (if wide
      then 8 else 4) = false) ∧
    (∃ (s : State) (m : Master) (a : Addr) (wide : Bool) (_ : DWord) (r : RegRef), s.held = false ∧ s.rom = .none ∧
      targetOf a.toNat = .register r ∧ s.mxCheck m a.toNat (if wide then 8 else 4) true false = none ∧ r.widthOk (if wide
      then 8 else 4) = false ∧ s.mxCheck m a.toNat (if wide then 8 else 4) false false = none) ∧
    (∃ (s : State) (m : Master) (a : Addr) (wide : Bool) (r : RegRef), s.held = false ∧ targetOf a.toNat = .register r ∧
      s.mxCheck m a.toNat (if wide then 8 else 4) false false = none ∧ r.widthOk (if wide then 8 else 4) = true ∧
      r.row.base ≠ (Rg.Q_POP_HDR 0).addr ∧ r.row.base ∉ ptrRows) ∧
    (∃ (s : State) (m : Master) (a : Addr) (r : RegRef), s.held = false ∧ targetOf a.toNat = .register r ∧ s.mxCheck m
      a.toNat 4 false false = none ∧ r.row.base ∈ ptrRows ∧ r.widthOk 4 = true) ∧
    (∃ (s : State) (m : Master) (a : Addr) (r : RegRef), s.held = false ∧ targetOf a.toNat = .register r ∧ s.mxCheck m
      a.toNat 8 false false = none ∧ r.row.base = (Rg.Q_POP_HDR 0).addr ∧ r.widthOk 8 = true) :=
  ⟨⟨{ State.reset with rom := .none }, 0, 0x500000004, false, 0x05DC000F, ((regAt 0x500000004).get (by decide)),
     wresState (State.reset.regWrite 0 ((regAt 0x500000004).get (by decide)) 4 0x05DC000F), by decide +kernel,
     by decide +kernel, rfl, rfl, by decide +kernel, by decide +kernel, rfl, by decide +kernel⟩,
   ⟨{ dev [(Rg.FT_STATUS_STATE, 4)] with rom := .none }, 0, 0x500000004, false, 0x05DC000F, ((regAt 0x500000004).get (by
     decide)), State.reset, by decide +kernel, by decide +kernel, rfl, rfl, by decide +kernel, by decide +kernel,
     by decide +kernel⟩,
   ⟨{ State.reset with rom := .none }, 0, 0x500000004, true, 0x05DC000F, ((regAt 0x500000004).get (by decide)),
     by decide +kernel, by decide +kernel, rfl, by decide +kernel, by decide +kernel⟩,
   ⟨{ State.reset with rom := .none }, 0, 0x500000004, true, 0x05DC000F, ((regAt 0x500000004).get (by decide)),
     by decide +kernel, by decide +kernel, rfl, by decide +kernel, by decide +kernel, by decide +kernel⟩,
   ⟨State.reset, 0, 0x500000004, false, ((regAt 0x500000004).get (by decide)), by decide +kernel, rfl,
     by decide +kernel, by decide +kernel, by decide +kernel, by decide +kernel⟩,
   ⟨State.reset, 0, 0x300000008, ((regAt 0x300000008).get (by decide)), by decide +kernel, rfl, by decide +kernel,
     by decide +kernel, by decide +kernel⟩,
   ⟨State.reset, 0, 0x300000030, ((regAt 0x300000030).get (by decide)), by decide +kernel, rfl, by decide +kernel,
     by decide +kernel, by decide +kernel⟩⟩

/-- The hypotheses of the clauses of `Obligations.MatrixReadsAndWritesFollowR351` are met. -/
theorem witness_MatrixReadsAndWritesFollowR351 :
    (∃ (s : State) (_ : Master) (a : Addr) (last : BitVec 4), s.held = false ∧ transactionForm a.toNat (last.toNat + 1)
      = true) ∧
    (∃ (s : State) (m : Master) (a : Addr) (r : RegRef), s.held = false ∧ targetOf a.toNat = .register r ∧ s.mxCheck m
      a.toNat 4 false true = none ∧ r.widthOk 4 = true ∧ r.row.base ≠ (Rg.Q_POP_HDR 0).addr ∧ r.row.base ∉ ptrRows) ∧
    (∃ (s : State) (m : Master) (a : Addr) (last : BitVec 4), s.held = false ∧ s.lmErr = [] ∧ 0x100000000 ≤ a.toNat ∧
      a.toNat + last.toNat + 1 ≤ 0x100200000 ∧ a.toNat % 16 + last.toNat + 1 ≤ 16 ∧ s.mxCheck m a.toNat (last.toNat + 1)
      false true = none) ∧
    (∃ (s : State) (m : Master) (a : Addr) (last : BitVec 8) (_ : BitVec 2048), s.held = false ∧ s.lmErr = [] ∧ s.romGo
      = none ∧ 0x100000000 ≤ a.toNat ∧ a.toNat + last.toNat + 1 ≤ 0x100200000 ∧ a.toNat % 16 + last.toNat + 1 ≤ 16 ∧
      s.mxCheck m a.toNat (last.toNat + 1) true false = none) ∧
    (∃ (s : State) (m : Master) (a : Addr) (last : BitVec 8), s.held = false ∧ s.lmErr = [] ∧ s.romGo = none ∧
      0x100000000 ≤ a.toNat ∧ a.toNat + last.toNat + 1 ≤ 0x100200000 ∧ a.toNat % 16 + last.toNat + 1 ≤ 16 ∧ s.mxCheck m
      a.toNat (last.toNat + 1) false false = none) ∧
    (∃ (s : State) (m : Master) (r : MxReq) (c : Nat), s.held = false ∧ r.up = none ∧ s.romGo = none ∧ transactionForm
      r.addr.toNat (r.last.toNat + 1) = true ∧ s.mxCheck m r.addr.toNat (r.last.toNat + 1) r.write.isSome (r.write.isNone
      && r.peek) = some c) :=
  ⟨⟨State.reset, 0, 0, 0, by decide +kernel⟩,
   ⟨State.reset, 0, 0x500000004, ((regAt 0x500000004).get (by decide)), by decide +kernel, rfl, by decide +kernel,
     by decide +kernel, by decide +kernel, by decide +kernel⟩,
   ⟨{ State.reset with lmErr := [] }, 0, 0x100000010, 7, by decide +kernel⟩,
   ⟨{ State.reset with lmErr := [], romGo := none }, 0, 0x100000010, 7, 0x123456789, by decide +kernel⟩,
   ⟨{ State.reset with lmErr := [], romGo := none }, 0, 0x100000010, 7, by decide +kernel⟩,
   ⟨{ State.reset with romGo := none }, 0, ⟨0x700000000, 3, none, false, none⟩, 1, by decide +kernel⟩⟩

/-- The hypotheses of clauses 1 to 10 of `Obligations.LockSequenceFollowsR16` are met. -/
theorem witness_LockSequenceFollowsR16_1 :
    (∃ (s : State) (m : Master) (_ : Word), MayWrite s m Rg.FT_CTRL_LOCK_REQ.addr 4 ∧ s.unlocked = true) ∧
    (∃ (s : State) (m : Master) (v : Word), MayWrite s m Rg.FT_CTRL_LOCK_REQ.addr 4 ∧ s.unlocked = false ∧
      (s.evalRefused = false ∨ v.toNat / 4 % 2 = 0) ∧ v.toNat / 2 % 2 = 0) ∧
    (∃ (s : State) (m : Master) (v : Word), MayWrite s m Rg.FT_CTRL_LOCK_REQ.addr 4 ∧ s.get Rg.FT_STATUS_STATE ∈ [1, 2,
      3, 5] ∧ (s.evalRefused = false ∨ v.toNat / 4 % 2 = 0)) ∧
    (∃ (s : State) (m : Master) (v : Word), MayWrite s m Rg.FT_CTRL_LOCK_REQ.addr 4 ∧ s.locked = true ∧ (s.evalRefused =
      false ∨ v.toNat / 4 % 2 = 0)) ∧
    (∃ (s : State) (m : Master) (v : Word), MayWrite s m Rg.FT_CTRL_LOCK_REQ.addr 4 ∧ s.unlocked = true ∧ v.toNat % 2 =
      0) ∧
    (∃ (s : State) (m : Master) (v : Word), MayWrite s m Rg.FT_CTRL_LOCK_REQ.addr 4 ∧ s.unlocked = false ∧ v.toNat / 4 %
      2 = 1 ∧ (s.frameCc < 512 ∨ s.budgetW < s.get Rg.FT_BUDGET_PROVED_W)) ∧
    (∃ (s : State) (m : Master) (v : Word), MayWrite s m Rg.FT_CTRL_LOCK_REQ.addr 4 ∧ (s.evalRefused = false ∨ v.toNat /
      4 % 2 = 0)) ∧
    (∃ (s : State) (_ : BitVec 17), s.held = false ∧ s.get Rg.FT_STATUS_STATE = 1) ∧
    (∃ (_ : State) (khz : Nat), (khz < 10000 ∨ 80000 < khz)) ∧
    (∃ (s : State) (khz : Nat), 10000 ≤ khz ∧ khz ≤ 80000 ∧ (s.frameM * khz < 1200000 ∨ 2200000 < s.frameM * khz)) :=
  ⟨⟨State.reset, 0, 0, by decide +kernel⟩,
   ⟨dev [(Rg.FT_STATUS_STATE, 1)], 0, 0, by decide +kernel⟩,
   ⟨dev [(Rg.FT_STATUS_STATE, 1)], 0, 0, by decide +kernel⟩,
   ⟨dev [(Rg.FT_STATUS_STATE, 4)], 0, 0, by decide +kernel⟩,
   ⟨State.reset, 0, 0, by decide +kernel⟩,
   ⟨dev [(Rg.FT_STATUS_STATE, 4), (Rg.FT_CFG_F_M1, 15), (Rg.FT_CFG_M, 30)], 0, 4, by decide +kernel⟩,
   ⟨State.reset, 0, 0, by decide +kernel⟩,
   ⟨{ dev [(Rg.FT_STATUS_STATE, 1)] with held := false }, 0, by decide +kernel⟩,
   ⟨State.reset, 0, by decide +kernel⟩,
   ⟨dev [(Rg.FT_CFG_M, 4)], 25000, by decide +kernel⟩⟩

/-- The hypotheses of clauses 11 to 19 of `Obligations.LockSequenceFollowsR16` are met. -/
theorem witness_LockSequenceFollowsR16_2 :
    (∃ (s : State) (khz : Nat), 10000 ≤ khz ∧ khz ≤ 80000 ∧ 1200000 ≤ s.frameM * khz ∧ s.frameM * khz ≤ 2200000 ∧
      s.force Rg.FT_CTRL_EVAL_EN = 1 ∧ s.frameCc < 512) ∧
    (∃ (s : State) (khz : Nat), 10000 ≤ khz ∧ khz ≤ 80000 ∧ 1200000 ≤ s.frameM * khz ∧ s.frameM * khz ≤ 2200000 ∧
      s.force Rg.FT_CTRL_EVAL_EN = 1 ∧ 512 ≤ s.frameCc ∧ s.budgetW < s.get Rg.FT_BUDGET_PROVED_W) ∧
    (∃ (s : State) (khz : Nat), 10000 ≤ khz ∧ khz ≤ 80000 ∧ 1200000 ≤ s.frameM * khz ∧ s.frameM * khz ≤ 2200000 ∧
      (s.force Rg.FT_CTRL_EVAL_EN ≠ 1 ∨ 512 ≤ s.frameCc ∧ s.get Rg.FT_BUDGET_PROVED_W ≤ s.budgetW)) ∧
    (∃ (s : State), s.held = false ∧ s.get Rg.FT_STATUS_STATE = 2) ∧
    (∃ (s : State) (_ : BitVec 17), s.get Rg.FT_STATUS_STATE ≠ 1) ∧
    (∃ (s : State) (_ : BitVec 17), s.get Rg.FT_STATUS_STATE ≠ 2) ∧
    (∃ (s : State), s.held = false ∧ s.unlocked = false ∧ s.locked = false) ∧
    (∃ (s : State), s.held = false ∧ s.locked = true) ∧
    (∃ (s : State), s.unlocked = true) :=
  ⟨⟨dev [(Rg.FT_CFG_M, 40), (Rg.FT_CFG_F_M1, 3)], 40000, by decide +kernel⟩,
   ⟨dev [(Rg.FT_CFG_M, 40), (Rg.FT_CFG_F_M1, 15), (Rg.FT_BUDGET_PROVED_W, 0xFFFF)], 40000, by decide +kernel⟩,
   ⟨dev [(Rg.FT_CFG_M, 40), (Rg.FT_CFG_F_M1, 15)], 40000, by decide +kernel⟩,
   ⟨{ dev [(Rg.FT_STATUS_STATE, 2)] with held := false }, by decide +kernel⟩,
   ⟨State.reset, 0, by decide +kernel⟩,
   ⟨State.reset, 0, by decide +kernel⟩,
   ⟨{ dev [(Rg.FT_STATUS_STATE, 1)] with held := false }, by decide +kernel⟩,
   ⟨{ dev [(Rg.FT_STATUS_STATE, 4)] with held := false }, by decide +kernel⟩,
   ⟨State.reset, by decide +kernel⟩⟩

/-- The hypotheses of the clauses of `Obligations.MarkersAndCrossingsFollowR39` are met. -/
theorem witness_MarkersAndCrossingsFollowR39 :
    (∃ (s : State) (n : Nat), s.held = false ∧ s.get Rg.FT_STATUS_STATE = 3 ∧ n = (if s.ft.seekCount ≠ 0 ∧ s.ft.seekGap
      = s.markerGap then s.ft.seekCount + 1 else 1) ∧ n < max 2 (s.get Rg.FT_SYNC_LOCK_COUNT)) ∧
    (∃ (s : State) (n : Nat), s.held = false ∧ s.get Rg.FT_STATUS_STATE = 3 ∧ n = (if s.ft.seekCount ≠ 0 ∧ s.ft.seekGap
      = s.markerGap then s.ft.seekCount + 1 else 1) ∧ max 2 (s.get Rg.FT_SYNC_LOCK_COUNT) ≤ n) ∧
    (∃ (s : State) (x : Nat), s.held = false ∧ s.locked = true ∧ x = (if s.ft.crossOpen then s.ft.cross - 1 else
      s.ft.cross) ∧ s.markerDue x = true ∧ s.ft.marker = false) ∧
    (∃ (s : State) (x : Nat), s.held = false ∧ s.locked = true ∧ x = (if s.ft.crossOpen then s.ft.cross - 1 else
      s.ft.cross) ∧ (s.markerDue x = false ∨ s.ft.marker = true)) ∧
    (∃ (s : State), s.locked = false ∧ s.get Rg.FT_STATUS_STATE ≠ 3) ∧
    (∃ (s : State), s.held = false ∧ s.locked = true ∧ s.ft.inFrame < s.frameF ∧ (s.ft.crossOpen = false ∨ s.markerDue
      (s.ft.cross - 1) = false ∨ s.ft.marker = true)) ∧
    (∃ (s : State), s.held = false ∧ s.locked = true ∧ s.frameF ≤ s.ft.inFrame ∧ (s.ft.crossOpen = false ∨ s.markerDue
      (s.ft.cross - 1) = false ∨ s.ft.marker = true)) ∧
    (∃ (s : State), s.held = false ∧ s.locked = true ∧ s.ft.crossOpen = true ∧ s.markerDue (s.ft.cross - 1) = true ∧
      s.ft.marker = false ∧ (s.ft.lostRun = true ∨ s.ft.badRun + 1 < max 1 (s.get Rg.FT_SYNC_MISS_LIMIT))) ∧
    (∃ (s : State), s.held = false ∧ s.locked = true ∧ s.ft.crossOpen = true ∧ s.markerDue (s.ft.cross - 1) = true ∧
      s.ft.marker = false ∧ s.ft.lostRun = false ∧ max 1 (s.get Rg.FT_SYNC_MISS_LIMIT) ≤ s.ft.badRun + 1 ∧ s.flag
      Rg.FT_CTRL_RELOCK_EN = false) ∧
    (∃ (s : State), s.held = false ∧ s.locked = true ∧ s.ft.crossOpen = true ∧ s.markerDue (s.ft.cross - 1) = true ∧
      s.ft.marker = false ∧ s.ft.lostRun = false ∧ max 1 (s.get Rg.FT_SYNC_MISS_LIMIT) ≤ s.ft.badRun + 1 ∧ s.flag
      Rg.FT_CTRL_RELOCK_EN = true) ∧
    (∃ (s : State), s.held = false ∧ s.locked = false) :=
  ⟨⟨{ dev [(Rg.FT_STATUS_STATE, 3), (Rg.FT_CFG_F_M1, 3)] with ft := { seekGap := 4 } }, 1, by decide +kernel⟩,
   ⟨{ dev [(Rg.FT_STATUS_STATE, 3), (Rg.FT_CFG_F_M1, 3), (Rg.FT_SYNC_FSYNC_DIV_M1,
     0)] with ft := { seekCount := 100, seekGap := 4 } }, 101, by decide +kernel⟩,
   ⟨{ dev [(Rg.FT_STATUS_STATE, 4)] with ft := { marker := false } }, 0, by decide +kernel⟩,
   ⟨{ dev [(Rg.FT_STATUS_STATE, 4), (Rg.FT_CFG_F_M1, 3), (Rg.FT_SYNC_FSYNC_DIV_M1, 0)] with ft := { cross := 5 } }, 5,
     by decide +kernel⟩,
   ⟨State.reset, by decide +kernel⟩,
   ⟨{ dev [(Rg.FT_STATUS_STATE, 4)] with ft := { crossOpen := false } }, by decide +kernel⟩,
   ⟨{ dev [(Rg.FT_STATUS_STATE, 4)] with ft := { crossOpen := false, inFrame := 1000 } }, by decide +kernel⟩,
   ⟨{ dev [(Rg.FT_STATUS_STATE, 4), (Rg.FT_CFG_F_M1, 3), (Rg.FT_SYNC_FSYNC_DIV_M1, 0), (Rg.FT_SYNC_MISS_LIMIT,
     5)] with ft := { crossOpen := true, marker := false, lostRun := true, cross := 5, inFrame := 2 } },
     by decide +kernel⟩,
   ⟨{ dev [(Rg.FT_STATUS_STATE, 4), (Rg.FT_CTRL_RELOCK_EN, 0), (Rg.FT_CFG_F_M1, 3), (Rg.FT_SYNC_FSYNC_DIV_M1, 0),
     (Rg.FT_SYNC_MISS_LIMIT,
     1)] with ft := { crossOpen := true, marker := false, lostRun := false, cross := 5, inFrame := 2 } },
     by decide +kernel⟩,
   ⟨{ dev [(Rg.FT_STATUS_STATE, 4), (Rg.FT_CTRL_RELOCK_EN, 1), (Rg.FT_CFG_F_M1, 3), (Rg.FT_SYNC_FSYNC_DIV_M1, 0),
     (Rg.FT_SYNC_MISS_LIMIT,
     1)] with ft := { crossOpen := true, marker := false, lostRun := false, cross := 5, inFrame := 2 } },
     by decide +kernel⟩,
   ⟨State.reset, by decide +kernel⟩⟩

/-- The hypotheses of the clauses of `Obligations.FrameTickRotatesTheBuffers` are met. -/
theorem witness_FrameTickRotatesTheBuffers :
    (∃ (s : State), s.held = false ∧ s.locked = true ∧ FrameOver s ∧ s.ft.unlockReq = false) ∧
    (∃ (s : State), s.held = false ∧ s.locked = true ∧ FrameOver s ∧ s.ft.unlockReq = false ∧ QuietStore s) ∧
    (∃ (s : State), s.held = false ∧ s.locked = true ∧ FrameOver s ∧ s.ft.unlockReq = true) ∧
    (∃ (s : State), s.locked = false) :=
  ⟨⟨{ dev [(Rg.FT_STATUS_STATE, 4), (Rg.FT_CFG_F_M1, 15), (Rg.FT_CFG_M, 100), (Rg.FT_CTRL_EVAL_EN,
     0)] with inForce := [(Rg.FT_CTRL_EVAL_EN.key, 0)], ft := { unlockReq := false, inFrame := 16, phase := 5 } },
     by decide +kernel⟩,
   ⟨{ dev [(Rg.FT_STATUS_STATE, 4), (Rg.FT_CFG_F_M1, 15), (Rg.FT_CFG_M,
     100)] with ft := { unlockReq := false, inFrame := 16, phase := 5 } }, by decide +kernel, by decide +kernel,
     by decide +kernel, by decide +kernel, ⟨by decide, by decide, by decide, by decide, by decide, by decide +kernel⟩⟩,
   ⟨{ dev [(Rg.FT_STATUS_STATE, 4), (Rg.FT_CFG_F_M1, 15), (Rg.FT_CFG_M,
     100)] with ft := { unlockReq := true, inFrame := 16, phase := 5 } }, by decide +kernel⟩,
   ⟨{ dev [(Rg.FT_CFG_F_M1, 15), (Rg.FT_CFG_M, 100)] with ft := { inFrame := 16, phase := 5 } }, by decide +kernel⟩⟩

/-- The hypotheses of clauses 1 to 9 of `Obligations.FramePhasesFollowR21` are met. -/
theorem witness_FramePhasesFollowR21_1 :
    (∃ (s : State) (cc : Nat → Nat), s.held = false ∧ s.locked = true ∧ s.ft.frames = 0 ∧ (∀ x, cc x = max s.ft.cc (if
      s.force Rg.FT_CTRL_EVAL_EN = 0 then 0 else x)) ∧ s.ft.phase = 0) ∧
    (∃ (s : State) (cc : Nat → Nat), s.held = false ∧ s.locked = true ∧ s.ft.frames = 0 ∧ (∀ x, cc x = max s.ft.cc (if
      s.force Rg.FT_CTRL_EVAL_EN = 0 then 0 else x)) ∧ s.ft.phase = 1) ∧
    (∃ (s : State) (cc : Nat → Nat), s.held = false ∧ s.locked = true ∧ s.ft.frames = 0 ∧ (∀ x, cc x = max s.ft.cc (if
      s.force Rg.FT_CTRL_EVAL_EN = 0 then 0 else x)) ∧ s.ft.phase = 2) ∧
    (∃ (s : State) (cc : Nat → Nat), s.held = false ∧ s.locked = true ∧ s.ft.frames = 0 ∧ (∀ x, cc x = max s.ft.cc (if
      s.force Rg.FT_CTRL_EVAL_EN = 0 then 0 else x)) ∧ s.ft.phase = 3) ∧
    (∃ (s : State) (cc : Nat → Nat), s.held = false ∧ s.locked = true ∧ s.ft.frames = 0 ∧ (∀ x, cc x = max s.ft.cc (if
      s.force Rg.FT_CTRL_EVAL_EN = 0 then 0 else x)) ∧ s.ft.phase = 4) ∧
    (∃ (s : State), s.held = false ∧ s.locked = true ∧ s.ft.frames ≠ 0 ∧ s.ft.phase = 0) ∧
    (∃ (s : State) (k : Slot) (n : VE), s.held = false ∧ s.locked = true ∧ s.ft.frames ≠ 0 ∧ s.ft.phase = 0 ∧
      s.ft.evalRun = true ∧ s.ft.baseStop = false ∧ s.copies = [] ∧ k.val ∈ s.ft.starts ∧ s.ft.starts.Nodup ∧ s.veOf k =
      some n.val ∧ (∀ j ∈ s.ft.starts, s.veOf j = some n.val → j = k.val)) ∧
    (∃ (s : State), s.held = false ∧ s.locked = true ∧ s.ft.frames ≠ 0 ∧ s.ft.phase = 1) ∧
    (∃ (s : State) (k : Slot) (n : VE), s.held = false ∧ s.locked = true ∧ s.ft.frames ≠ 0 ∧ s.ft.phase = 1 ∧
      s.ft.evalRun = true ∧ s.ft.baseStop = false ∧ s.veOf k = some n.val ∧ (∀ j : Slot, s.veOf j = some n.val → j = k)) :=
  ⟨⟨{ dev [(Rg.FT_STATUS_STATE, 4)] with ft := { frames := 0, phase := 0 } }, (fun x => max 0 x), by decide +kernel,
     by decide +kernel, by decide +kernel, by intro x; rfl, by decide +kernel⟩,
   ⟨{ dev [(Rg.FT_STATUS_STATE, 4)] with ft := { frames := 0, phase := 1 } }, (fun x => max 0 x), by decide +kernel,
     by decide +kernel, by decide +kernel, by intro x; rfl, by decide +kernel⟩,
   ⟨{ dev [(Rg.FT_STATUS_STATE, 4)] with ft := { frames := 0, phase := 2 } }, (fun x => max 0 x), by decide +kernel,
     by decide +kernel, by decide +kernel, by intro x; rfl, by decide +kernel⟩,
   ⟨{ dev [(Rg.FT_STATUS_STATE, 4)] with ft := { frames := 0, phase := 3 } }, (fun x => max 0 x), by decide +kernel,
     by decide +kernel, by decide +kernel, by intro x; rfl, by decide +kernel⟩,
   ⟨{ dev [(Rg.FT_STATUS_STATE, 4)] with ft := { frames := 0, phase := 4 } }, (fun x => max 0 x), by decide +kernel,
     by decide +kernel, by decide +kernel, by intro x; rfl, by decide +kernel⟩,
   ⟨{ dev [(Rg.FT_STATUS_STATE, 4)] with ft := { phase := 0, frames := 1 } }, by decide +kernel⟩,
   ⟨{ dev [(Rg.FT_STATUS_STATE,
     4)] with copies := [], ft := { phase := 0, evalRun := true, baseStop := false, frames := 1, starts := [2] } }, 2, 2,
     by decide +kernel⟩,
   ⟨{ dev [(Rg.FT_STATUS_STATE, 4)] with ft := { phase := 1, frames := 1 } }, by decide +kernel⟩,
   ⟨{ dev [(Rg.FT_STATUS_STATE, 4)] with ft := { phase := 1, evalRun := true, baseStop := false, frames := 1 } }, 0, 0,
     by decide +kernel⟩⟩

/-- The hypotheses of clauses 10 to 18 of `Obligations.FramePhasesFollowR21` are met. -/
theorem witness_FramePhasesFollowR21_2 :
    (∃ (s : State), s.held = false ∧ s.locked = true ∧ s.ft.frames ≠ 0 ∧ s.ft.phase = 2 ∧ s.allDef = true) ∧
    (∃ (s : State), s.held = false ∧ s.locked = true ∧ s.ft.frames ≠ 0 ∧ s.ft.phase = 2 ∧ s.allDef = false ∧ s.storeErr
      = []) ∧
    (∃ (s : State), s.held = false ∧ s.locked = true ∧ s.ft.frames ≠ 0 ∧ s.ft.phase = 2 ∧ s.allDef = false) ∧
    (∃ (s : State) (f : VFrame), s.held = false ∧ s.locked = true ∧ s.ft.frames ≠ 0 ∧ s.ft.phase = 3 ∧ s.vu.cur = some
      f) ∧
    (∃ (s : State) (f : VFrame), s.held = false ∧ s.locked = true ∧ s.ft.frames ≠ 0 ∧ s.ft.phase = 3 ∧ s.vu.cur = some f
      ∧ s.storeErr = [] ∧ s.flag Rg.VU_CTRL_SIL_EN = true ∧ s.flag Rg.VU_STATUS_FROZEN = false ∧ s.vu.silWait = false ∧
      s.flag Rg.VU_STATUS_CFG_ERR = false ∧ f.words.length ≤ 64 ∧ s.get Rg.VU_SIL_BASE % 4096 = 0 ∧ s.get Rg.VU_SIL_BASE +
      0x48000 ≤ storeTop) ∧
    (∃ (s : State), s.held = false ∧ s.locked = true ∧ s.ft.frames ≠ 0 ∧ s.vu.cur = none ∧ s.ft.phase = 3) ∧
    (∃ (s : State), s.held = false ∧ s.locked = true ∧ s.ft.frames ≠ 0 ∧ s.vu.cur = none ∧ s.ft.phase = 4) ∧
    (∃ (s : State) (f : VFrame) (_ : Lane), s.held = false ∧ s.locked = true ∧ s.ft.frames ≠ 0 ∧ s.ft.phase = 4 ∧
      s.vu.cur = some f) ∧
    (∃ (f : VFrame), 0 < f.words.length ∧ f.words.length ≤ 28) :=
  ⟨⟨{ dev [(Rg.FT_STATUS_STATE, 4)] with ft := { phase := 2, frames := 1 } }, by decide +kernel⟩,
   ⟨{ dev [(Rg.FT_STATUS_STATE,
     4)] with storeErr := [], ft := { phase := 2, anyRun := true, evalRun := true, frames := 1 } }, by decide +kernel⟩,
   ⟨{ dev [(Rg.FT_STATUS_STATE, 4)] with ft := { phase := 2, anyRun := true, evalRun := true, frames := 1 } },
     by decide +kernel⟩,
   ⟨{ dev [(Rg.FT_STATUS_STATE,
     4)] with vu := { cur := some (⟨5, [1, 2, 3], 1, 0, 0⟩) }, ft := { phase := 3, frames := 1 } }, ⟨5, [1, 2, 3], 1, 0,
     0⟩, by decide +kernel⟩,
   ⟨{ dev [(Rg.FT_STATUS_STATE, 4), (Rg.VU_CTRL_SIL_EN, 1), (Rg.VU_STATUS_FROZEN, 0), (Rg.VU_STATUS_CFG_ERR,
     0)] with storeErr := [], vu := { cur := some (⟨5, [1, 2, 3], 1, 0, 0⟩), silWait := false }, ft := { phase := 3, frames := 1 } },
     ⟨5, [1, 2, 3], 1, 0, 0⟩, by decide +kernel⟩,
   ⟨{ dev [(Rg.FT_STATUS_STATE, 4)] with ft := { phase := 3, frames := 1 }, vu := { cur := none } }, by decide +kernel⟩,
   ⟨{ dev [(Rg.FT_STATUS_STATE, 4), (Rg.FT_CFG_F_M1,
     3)] with ft := { phase := 4, frames := 1 }, vu := { cur := none } }, by decide +kernel⟩,
   ⟨{ dev [(Rg.FT_STATUS_STATE, 4), (Rg.VU_LANE_EN 0, 32), (Rg.LN_STATUS_STATE 5,
     2)] with vu := { cur := some (⟨5, [1, 2, 3], 1, 0, 0⟩) }, ft := { phase := 4, frames := 1 } }, ⟨5, [1, 2, 3], 1, 0,
     0⟩, 5, by decide +kernel⟩,
   ⟨⟨5, [1, 2, 3], 1, 0, 0⟩, by decide +kernel⟩⟩

/-- The hypotheses of the clauses of `Obligations.FlitsDeliverFrames` are met. -/
theorem witness_FlitsDeliverFrames :
    (∃ (s : State) (l : Lane) (_ : BitVec 256) (_ : Option (List (BitVec 10))), s.held = false ∧ s.lnState l ≠ 2) ∧
    (∃ (s : State) (l : Lane) (f : BitVec 256), s.held = false ∧ s.lnState l = 2 ∧ flitHdr f % 2 ^ 10 = 0 ∧ (s.lane
      l).badRun < 3) ∧
    (∃ (s : State) (l : Lane) (f : BitVec 256), s.held = false ∧ s.lnState l = 2 ∧ (s.lane l).fseq = none ∧ flitHdr f /
      8 % 4 = 3 ∧ 0 < flitHdr f / 32 % 32 ∧ flitHdr f / 32 % 32 ≤ 30 ∧ Tab.get (s.lane l).prog (flitHdr f % 8) [] = []) ∧
    (∃ (s : State) (l : Lane) (f : BitVec 256) (bs : List Byte) (nb : Nat), s.held = false ∧ s.lnState l = 2 ∧ (s.lane
      l).badRun < 3 ∧ bs = Tab.get (s.lane l).prog (flitHdr f % 8) [] ∧ nb = flitHdr f / 32 % 32 ∧ 0 < nb ∧ flitBad f
      (!bs.isEmpty) = false ∧ (flitHdr f / 8 % 2 = 1 → bs = [])) ∧
    (∃ (s : State) (l : Lane) (f : BitVec 256), s.held = false ∧ s.lnState l = 2 ∧ (s.lane l).prog = [] ∧ flitBad f
      false = true ∧ (s.lane l).badRun < 3) ∧
    (∃ (s : State) (l : Lane) (f : BitVec 256), s.held = false ∧ s.lnState l = 2 ∧ (s.lane l).prog = [] ∧ flitBad f
      false = true ∧ 3 ≤ (s.lane l).badRun) ∧
    (∃ (s : State) (l : Lane) (f : BitVec 256) (_ : List (BitVec 10)), s.held = false ∧ s.lnState l = 2 ∧ flitHdr f % 2
      ^ 10 = 0 ∧ (s.lane l).fseq = none ∧ (s.lane l).prog = [] ∧ s.flag (Rg.LN_CTRL_FEC_EN l) = false) ∧
    (∃ (s : State) (l : Lane) (f : BitVec 256) (w : List (BitVec 10)), s.held = false ∧ s.lnState l = 2 ∧ flitHdr f % 2
      ^ 10 = 0 ∧ (s.lane l).fseq = none ∧ (s.lane l).prog = [] ∧ s.flag (Rg.LN_CTRL_FEC_EN l) = true ∧ rsOutcome w < 16 ∧
      (s.lane l).corr + rsOutcome w < 2 ^ s.get (Rg.LN_CFG_CE_LOG2 l)) ∧
    (∃ (s : State) (l : Lane) (f : BitVec 256) (w : List (BitVec 10)), s.held = false ∧ s.lnState l = 2 ∧ flitHdr f % 2
      ^ 10 = 0 ∧ (s.lane l).fseq = none ∧ (s.lane l).prog = [] ∧ s.flag (Rg.LN_CTRL_FEC_EN l) = true ∧ rsOutcome w = 16 ∧
      s.locked = true) :=
  ⟨⟨State.reset, 0, 0, none, by decide +kernel⟩,
   ⟨{ dev [(Rg.LN_STATUS_STATE 0, 2)] with held := false }, 0, 0, by decide +kernel⟩,
   ⟨{ dev [(Rg.LN_STATUS_STATE 0, 2)] with held := false }, 0, 0x5a000058, by decide +kernel⟩,
   ⟨{ dev [(Rg.LN_STATUS_STATE 0, 2)] with held := false }, 0, 0x5a000058, [], 2, by decide +kernel⟩,
   ⟨{ dev [(Rg.LN_STATUS_STATE 0, 2)] with held := false }, 0, 64, by decide +kernel⟩,
   ⟨{ dev [(Rg.LN_STATUS_STATE 0, 2)] with lanes := [(0, { badRun := 3 })] }, 0, 64, by decide +kernel⟩,
   ⟨{ dev [(Rg.LN_STATUS_STATE 0, 2), (Rg.LN_CTRL_FEC_EN 0, 0)] with held := false }, 0, 0, List.replicate 544 0,
     by decide +kernel⟩,
   ⟨{ dev [(Rg.LN_STATUS_STATE 0, 2), (Rg.LN_CTRL_FEC_EN 0, 1)] with held := false }, 0, 0, List.replicate 543 0 ++ [1],
     by decide +kernel⟩,
   ⟨{ dev [(Rg.LN_STATUS_STATE 0, 2), (Rg.LN_CTRL_FEC_EN 0, 1), (Rg.FT_STATUS_STATE, 4), (Rg.FT_CFG_M,
     100)] with held := false }, 0, 0, List.replicate 528 0 ++ List.replicate 16 1, by decide +kernel⟩⟩

/-- The hypotheses of clauses 1 to 7 of `Obligations.RouterFilesHits` are met. -/
theorem witness_RouterFilesHits_1 :
    (∃ (s : State) (l : Lane) (vc : Fin 8), s.held = false ∧ (s.rxDone.find? (fun f => f.lane == l.val && f.vc ==
      vc.val) = none)) ∧
    (∃ (s : State) (l : Lane) (vc : Fin 8) (f : SFrame), s.held = false ∧ (s.rxDone.find? (fun f => f.lane == l.val &&
      f.vc == vc.val) = some f) ∧ s.flag Rg.IR_CTRL_ENABLE = false) ∧
    (∃ (s : State) (l : Lane) (vc : Fin 8) (f : SFrame), s.held = false ∧ (s.rxDone.find? (fun f => f.lane == l.val &&
      f.vc == vc.val) = some f) ∧ s.flag Rg.IR_CTRL_ENABLE = true ∧ f.whole = true ∧ 2 ≤ f.words.length ∧ f.crcOk = false
      ∧ s.locked = false) ∧
    (∃ (s : State) (l : Lane) (vc : Fin 8) (f : SFrame), s.held = false ∧ (s.rxDone.find? (fun f => f.lane == l.val &&
      f.vc == vc.val) = some f) ∧ s.flag Rg.IR_CTRL_ENABLE = true ∧ f.whole = true ∧ 2 ≤ f.words.length ∧ f.crcOk = true ∧
      f.formOk = true ∧ f.type = 1 ∧ s.flag Rg.IR_CTRL_SEQ_CHECK = false ∧ s.locked = false) ∧
    (∃ (s : State) (l : Lane) (vc : Fin 8) (f : SFrame) (b n : Nat), TakesFrame s l vc f ∧ FilesInto s f b ∧ n < 64 ∧ (∀
      hit ∈ f.payload, HitFor s hit n) ∧ s.hdr b (0x48 + 16 * n) % 2 ^ 32 + f.payload.length ≤ s.hdr b (0x40 + 16 * n) / 2
      ^ 32 ∧ s.hdr b (0x40 + 16 * n) % 2 ^ 32 + s.hdr b (0x40 + 16 * n) / 2 ^ 32 ≤ s.bufSlots) ∧
    (∃ (s : State) (l : Lane) (vc : Fin 8) (f : SFrame) (b hit entry : Nat), TakesFrame s l vc f ∧ FilesInto s f b ∧
      f.payload = [hit] ∧ HitFor s hit entry ∧ entry / 128 % 2 = 1) ∧
    (∃ (s : State) (l : Lane) (vc : Fin 8) (f : SFrame) (b hit entry : Nat), TakesFrame s l vc f ∧ FilesInto s f b ∧
      f.payload = [hit] ∧ HitFor s hit entry ∧ entry < 64 ∧ s.hdr b (0x40 + 16 * entry) / 2 ^ 32 ≤ s.hdr b (0x48 + 16 *
      entry) % 2 ^ 32) :=
  ⟨⟨State.reset, 0, 0, by decide +kernel⟩,
   ⟨{ dev [(Rg.IR_CTRL_ENABLE, 0)] with rxDone := [⟨0, 0, [0, 0], true⟩] }, 0, 0, ⟨0, 0, [0, 0], true⟩,
     by decide +kernel⟩,
   ⟨{ dev [(Rg.IR_CTRL_ENABLE, 1)] with rxDone := [⟨0, 0, [1, 2, 3], true⟩] }, 0, 0, ⟨0, 0, [1, 2, 3], true⟩,
     by decide +kernel⟩,
   ⟨{ dev [(Rg.IR_CTRL_ENABLE, 1), (Rg.IR_CTRL_SEQ_CHECK,
     0)] with rxDone := [⟨0, 0, [0x100000000008000, 0x6100000004d, 0x9cdb7bb50], true⟩] }, 0, 0, ⟨0, 0,
     [0x100000000008000, 0x6100000004d, 0x9cdb7bb50], true⟩, by decide +kernel⟩,
   ⟨{ dev [(Rg.IR_CTRL_ENABLE, 1), (Rg.IR_CTRL_SEQ_CHECK, 0), (Rg.FT_STATUS_STATE, 4), (Rg.IR_CTRL_EARLY_EN,
     1)] with rxDone := [⟨0, 0, [0x100000000010000, 0x180000004d, 0x200000004e, 0x99b32cde4], true⟩], store := [(268435456 + 0x44, 4)] },
     0, 0, ⟨0, 0, [0x100000000010000, 0x180000004d, 0x200000004e, 0x99b32cde4], true⟩, 0, 0, ⟨by decide, by decide, by
     decide, by decide, by decide +kernel, by decide +kernel, by decide⟩, ⟨by decide +kernel, by decide, Or.inl
     ⟨by decide +kernel, by decide⟩, by decide +kernel, by decide⟩, by decide +kernel,
     by intro h hh; simp [SFrame.payload] at hh; rcases hh with rfl | rfl <;> exact ⟨by decide, by decide,
     by decide +kernel⟩, by decide +kernel, by decide +kernel⟩,
   ⟨{ dev [(Rg.IR_CTRL_ENABLE, 1), (Rg.IR_CTRL_SEQ_CHECK, 0), (Rg.FT_STATUS_STATE, 4), (Rg.IR_CTRL_EARLY_EN,
     1)] with rxDone := [⟨0, 0, [0x100000000008000, 0x800180000004d, 0x99a6c3bd4], true⟩], store := [], inForce := [((pmapFld 1).key, 128)] },
     0, 0, ⟨0, 0, [0x100000000008000, 0x800180000004d, 0x99a6c3bd4], true⟩, 0, 2251902892900429, 128, ⟨by decide, by
     decide, by decide, by decide, by decide +kernel, by decide +kernel, by decide⟩, ⟨by decide +kernel, by decide, Or.inl
     ⟨by decide +kernel, by decide⟩, by decide +kernel, by decide⟩, by decide +kernel, ⟨by decide, by decide,
     by decide +kernel⟩, by decide +kernel⟩,
   ⟨{ dev [(Rg.IR_CTRL_ENABLE, 1), (Rg.IR_CTRL_SEQ_CHECK, 0), (Rg.FT_STATUS_STATE, 4), (Rg.IR_CTRL_EARLY_EN,
     1)] with rxDone := [⟨0, 0, [0x100000000008000, 0x180000004d, 0x9fa6a23cb], true⟩], store := [] }, 0, 0, ⟨0, 0,
     [0x100000000008000, 0x180000004d, 0x9fa6a23cb], true⟩, 0, 103079215181, 0, ⟨by decide, by decide, by decide, by
     decide, by decide +kernel, by decide +kernel, by decide⟩, ⟨by decide +kernel, by decide, Or.inl ⟨by decide +kernel,
     by decide⟩, by decide +kernel, by decide⟩, by decide +kernel, ⟨by decide, by decide, by decide +kernel⟩,
     by decide +kernel, by decide +kernel⟩⟩

/-- The hypotheses of clauses 8 to 14 of `Obligations.RouterFilesHits` are met. -/
theorem witness_RouterFilesHits_2 :
    (∃ (s : State) (l : Lane) (vc : Fin 8) (f : SFrame), TakesFrame s l vc f ∧ f.type ≠ 1 ∧ PtrsGood s f.key ∧ RingGood
      s f.key ∧ s.storeErr = [] ∧ s.qFits f.key (f.payload.length + 1) = true) ∧
    (∃ (s : State) (l : Lane) (vc : Fin 8) (f : SFrame), TakesFrame s l vc f ∧ f.type ≠ 1 ∧ PtrsGood s f.key ∧ (s.qOn
      f.key = false ∨ s.qFits f.key (f.payload.length + 1) = false)) ∧
    (∃ (s : State) (m : Master) (_ : Word), MayWrite s m Rg.IR_CTRL_ENABLE.addr 4 ∧ s.bufsPlaced = true) ∧
    (∃ (s : State) (m : Master) (_ : Word), MayWrite s m Rg.IR_CTRL_ENABLE.addr 4 ∧ s.bufsPlaced = false) ∧
    (∃ (s : State) (l : Lane) (vc : Fin 8) (f : SFrame), s.held = false ∧ (s.rxDone.find? (fun f => f.lane == l.val &&
      f.vc == vc.val) = some f)) ∧
    (∃ (s : State) (l : Lane) (vc : Fin 8) (f : SFrame), s.held = false ∧ (s.rxDone.find? (fun f => f.lane == l.val &&
      f.vc == vc.val) = some f) ∧ s.flag Rg.IR_CTRL_ENABLE = true ∧ f.whole = true ∧ 2 ≤ f.words.length ∧ f.crcOk = true ∧
      f.formOk = true ∧ f.type = 1 ∧ s.locked = true ∧ s.frameDiff f = 0xFFFF) ∧
    (∃ (s : State) (l : Lane) (vc : Fin 8) (f : SFrame), s.held = false ∧ (s.rxDone.find? (fun f => f.lane == l.val &&
      f.vc == vc.val) = some f) ∧ s.flag Rg.IR_CTRL_ENABLE = true ∧ f.whole = true ∧ 2 ≤ f.words.length ∧ f.crcOk = true ∧
      f.formOk = true ∧ f.type = 1 ∧ s.locked = true ∧ s.frameDiff f ≠ 0xFFFF ∧ s.frameDiff f ≠ 0 ∧ (s.frameDiff f ≠ 1 ∨
      s.flag Rg.IR_CTRL_EARLY_EN = false)) :=
  ⟨⟨devOn { { dev [(Rg.IR_CTRL_ENABLE, 1), (Rg.IR_CTRL_SEQ_CHECK, 0), (Rg.FT_STATUS_STATE, 4), (Rg.IR_CTRL_EARLY_EN,
     1)] with rxDone := [⟨0, 0, [0x200000000010000, 0x5, 0x6, 0x9a61aa00b], true⟩], store := [] } with queues := [(0, { alloc := 4 })] }
     [(Rg.Q_CFG_ENABLE 0, 1), (Rg.Q_BASE 0, 4096)], 0, 0, ⟨0, 0, [0x200000000010000, 0x5, 0x6, 0x9a61aa00b], true⟩, ⟨by
     decide, by decide, by decide, by decide, by decide +kernel, by decide +kernel, by decide⟩, by decide +kernel,
     by decide +kernel, by decide +kernel, by decide +kernel, by decide +kernel⟩,
   ⟨{ dev [(Rg.IR_CTRL_ENABLE, 1), (Rg.IR_CTRL_SEQ_CHECK, 0), (Rg.FT_STATUS_STATE, 4), (Rg.IR_CTRL_EARLY_EN,
     1)] with rxDone := [⟨0, 0, [0x200000000010000, 0x5, 0x6, 0x9a61aa00b], true⟩], store := [] }, 0, 0, ⟨0, 0,
     [0x200000000010000, 0x5, 0x6, 0x9a61aa00b], true⟩, ⟨by decide, by decide, by decide, by decide, by decide +kernel,
     by decide +kernel, by decide⟩, by decide +kernel, by decide +kernel, by decide +kernel⟩,
   ⟨State.reset, 0, 0, by decide +kernel⟩,
   ⟨dev [(Rg.IR_BUF_BASE_A, 1)], 0, 0, by decide +kernel⟩,
   ⟨{ State.reset with rxDone := [⟨0, 0, [0x10000ffff008000, 0x6100000004d, 0x9da6e5b9a], true⟩] }, 0, 0, ⟨0, 0,
     [0x10000ffff008000, 0x6100000004d, 0x9da6e5b9a], true⟩, by decide +kernel⟩,
   ⟨{ dev [(Rg.IR_CTRL_ENABLE, 1), (Rg.FT_STATUS_STATE,
     4)] with rxDone := [⟨0, 0, [0x10000ffff008000, 0x6100000004d, 0x9da6e5b9a], true⟩] }, 0, 0, ⟨0, 0,
     [0x10000ffff008000, 0x6100000004d, 0x9da6e5b9a], true⟩, by decide +kernel⟩,
   ⟨{ dev [(Rg.IR_CTRL_ENABLE, 1), (Rg.FT_STATUS_STATE,
     4)] with rxDone := [⟨0, 0, [0x100000005008000, 0x6100000004d, 0x9e82c6082], true⟩] }, 0, 0, ⟨0, 0,
     [0x100000005008000, 0x6100000004d, 0x9e82c6082], true⟩, by decide +kernel⟩⟩

/-- The hypotheses of clauses 1 to 10 of `Obligations.LanesTrainAndRetrain` are met. -/
theorem witness_LanesTrainAndRetrain_1 :
    (∃ (s : State) (m : Master) (l : Lane) (v : Word), MayWrite s m (Rg.LN_CTRL_ENABLE l).addr 4 ∧ s.lnState l = 0 ∧
      v.toNat / 4 % 8 < 5 ∧ s.thirdRate l (v.toNat / 4 % 8) = false) ∧
    (∃ (s : State) (m : Master) (l : Lane) (v : Word), MayWrite s m (Rg.LN_CTRL_ENABLE l).addr 4 ∧ (5 ≤ v.toNat / 4 % 8
      ∨ s.thirdRate l (v.toNat / 4 % 8) = true)) ∧
    (∃ (s : State) (l : Lane) (_ : Fin 4), s.held = false ∧ s.lnState l ≠ 2 ∧ s.lnState l ≠ 5) ∧
    (∃ (s : State) (l : Lane) (_ : Fin 4), s.held = false ∧ s.lnState l = 2) ∧
    (∃ (s : State) (l : Lane) (_ : Fin 4), s.held = false ∧ s.lnState l = 5) ∧
    (∃ (s : State) (l : Lane) (_ : BitVec 24) (_ : BitVec 10) (_ : BitVec 16) (_ : Bool) (_ : Bool), s.held = false ∧
      s.lnEvent l = none) ∧
    (∃ (s : State) (l : Lane) (_ : BitVec 24) (_ : BitVec 10) (_ : BitVec 16), s.held = false ∧ s.lnState l = 1 ∧
      (s.lane l).repeatWait = false) ∧
    (∃ (s : State) (l : Lane) (_ : BitVec 24) (_ : BitVec 10) (_ : BitVec 16), s.held = false ∧ s.lnState l = 3) ∧
    (∃ (s : State) (l : Lane) (_ : BitVec 24) (_ : BitVec 10) (_ : BitVec 16) (_ : Bool), s.held = false ∧ s.lnState l =
      2 ∧ (s.lane l).adapting = true) ∧
    (∃ (s : State) (l : Lane), s.held = false ∧ s.lnEvent l = none) :=
  ⟨⟨dev [(Rg.LN_STATUS_STATE 0, 0)], 0, 0, 0, by decide +kernel⟩,
   ⟨State.reset, 0, 0, 20, by decide +kernel⟩,
   ⟨State.reset, 0, 0, by decide +kernel⟩,
   ⟨{ dev [(Rg.LN_STATUS_STATE 0, 2)] with held := false }, 0, 0, by decide +kernel⟩,
   ⟨{ dev [(Rg.LN_STATUS_STATE 0, 5)] with held := false }, 0, 0, by decide +kernel⟩,
   ⟨State.reset, 0, 0, 0, 0, false, false, by decide +kernel⟩,
   ⟨{ dev [(Rg.LN_STATUS_STATE 0, 1)] with held := false }, 0, 0, 0, 0, by decide +kernel⟩,
   ⟨{ dev [(Rg.LN_STATUS_STATE 0, 3)] with held := false }, 0, 0, 0, 0, by decide +kernel⟩,
   ⟨{ dev [(Rg.LN_STATUS_STATE 0, 2)] with lanes := [(0, { adapting := true })] }, 0, 0, 0, 0, false, by decide +kernel⟩,
   ⟨State.reset, 0, by decide +kernel⟩⟩

/-- The hypotheses of clauses 11 to 19 of `Obligations.LanesTrainAndRetrain` are met. -/
theorem witness_LanesTrainAndRetrain_2 :
    (∃ (s : State) (l : Lane), s.held = false ∧ s.lnState l = 1 ∧ (s.lane l).repeatWait = false) ∧
    (∃ (s : State) (l : Lane), s.held = false ∧ s.lnState l = 3) ∧
    (∃ (s : State) (l : Lane), s.held = false ∧ s.lnState l = 2 ∧ (s.lane l).adapting = true) ∧
    (∃ (s : State) (l : Lane), s.held = false ∧ s.inService l = true ∧ s.flag (Rg.LN_ADAPT_ADAPT_EN l) = true) ∧
    (∃ (s : State) (l : Lane), s.held = false ∧ (s.inService l = false ∨ s.flag (Rg.LN_ADAPT_ADAPT_EN l) = false)) ∧
    (∃ (s : State) (l : Lane), s.held = false ∧ s.lnState l = 1 ∧ (s.lane l).repeatWait = true) ∧
    (∃ (s : State) (l : Lane), s.held = false ∧ (s.lnState l ≠ 1 ∨ (s.lane l).repeatWait = false)) ∧
    (∃ (s : State) (m : Master) (l : Lane) (v : Word), MayWrite s m (Rg.LN_CMD_RETIRE l).addr 4 ∧ v.toNat % 4 = 0 ∧
      s.lnState l = 2) ∧
    (∃ (s : State) (m : Master) (l : Lane) (v : Word), MayWrite s m (Rg.LN_CMD_RETIRE l).addr 4 ∧ v.toNat % 4 = 0 ∧
      s.lnState l ≠ 2) :=
  ⟨⟨{ dev [(Rg.LN_STATUS_STATE 0, 1)] with held := false }, 0, by decide +kernel⟩,
   ⟨{ dev [(Rg.LN_STATUS_STATE 0, 3)] with held := false }, 0, by decide +kernel⟩,
   ⟨{ dev [(Rg.LN_STATUS_STATE 0, 2)] with lanes := [(0, { adapting := true })] }, 0, by decide +kernel⟩,
   ⟨{ dev [(Rg.LN_ADAPT_ADAPT_EN 0, 1), (Rg.LN_STATUS_STATE 0, 2)] with held := false }, 0, by decide +kernel⟩,
   ⟨State.reset, 0, by decide +kernel⟩,
   ⟨{ dev [(Rg.LN_STATUS_STATE 0, 1)] with lanes := [(0, { repeatWait := true })] }, 0, by decide +kernel⟩,
   ⟨State.reset, 0, by decide +kernel⟩,
   ⟨dev [(Rg.LN_STATUS_STATE 0, 2)], 0, 0, 0, by decide +kernel⟩,
   ⟨State.reset, 0, 0, 0, by decide +kernel⟩⟩

/-- The hypotheses of the clauses of `Obligations.LanesRetireReturnAndSend` are met. -/
theorem witness_LanesRetireReturnAndSend :
    (∃ (s : State) (m : Master) (l : Lane) (v : Word), MayWrite s m (Rg.LN_CMD_RETIRE l).addr 4 ∧ v.toNat / 2 % 2 = 0 ∧
      s.lnState l = 4) ∧
    (∃ (s : State) (m : Master) (l : Lane) (v : Word), MayWrite s m (Rg.LN_CMD_RETIRE l).addr 4 ∧ v.toNat / 2 % 2 = 0 ∧
      s.lnState l ≠ 4) ∧
    (∃ (s : State) (m : Master) (l : Lane) (v : Word), MayWrite s m (Rg.LN_CMD_RETIRE l).addr 4 ∧ v.toNat / 2 % 2 = 0 ∧
      s.lnState l ≠ 4 ∧ (s.lane l).prog = []) ∧
    (∃ (s : State) (m : Master) (l : Lane) (v : Word), MayWrite s m (Rg.LN_CMD_RETIRE l).addr 4 ∧ v.toNat / 2 % 2 = 1) ∧
    (∃ (s : State) (m : Master) (l : Lane) (v : Word), MayWrite s m (Rg.LN_CMD_RETIRE l).addr 4 ∧ (s.lnState l ≠ 4 ∨
      v.toNat % 2 = 1 ∨ s.lnShed l = true)) ∧
    (∃ (s : State) (m : Master) (l : Lane) (v : Word), MayWrite s m (Rg.LN_CMD_RETIRE l).addr 4 ∧ s.lnState l = 4 ∧
      v.toNat % 2 = 0 ∧ s.lnShed l = false) ∧
    (∃ (s : State) (l : Lane), s.held = false ∧ s.lnState l = 4 ∧ s.flag (Rg.LN_CTRL_AUTO_RETURN l) = true ∧ s.lnShed l
      = false) ∧
    (∃ (s : State) (l : Lane), s.held = false ∧ (s.lnState l ≠ 4 ∨ s.flag (Rg.LN_CTRL_AUTO_RETURN l) = false ∨ s.lnShed
      l = true)) ∧
    (∃ (s : State) (l : Lane), s.held = false ∧ (s.lane l).txBits.1 < 5140 ∧ s.lnState l ≠ 2 ∧ s.lnState l ≠ 3) ∧
    (∃ (s : State) (l : Lane), s.held = false ∧ (s.lane l).txBits.1 < 5140 ∧ (s.lnState l = 3 ∨ s.lnState l = 2 ∧
      (s.lane l).txq = [] ∧ (∀ (r : Fin 16) (i : RdItem), Tab.get s.rdHold r.val none = some i → i.tx.lane ≠ l.val))) ∧
    (∃ (s : State) (l : Lane) (x : TxFrame) (r : List TxFrame), s.held = false ∧ (s.lane l).txBits.1 < 5140 ∧ s.lnState
      l = 2 ∧ (s.lane l).txq = x :: r) ∧
    (∃ (s : State) (l : Lane) (r : Fin 16) (i : RdItem), s.held = false ∧ s.lnState l = 2 ∧ (s.lane l).txq = [] ∧
      (s.lane l).txBits.1 < 5140 ∧ Tab.get s.rdHold r.val none = some i ∧ i.tx.lane = l.val ∧ (∀ (k : Fin 16) (j :
      RdItem), Tab.get s.rdHold k.val none = some j → j.tx.lane = l.val → k = r)) :=
  ⟨⟨dev [(Rg.LN_STATUS_STATE 0, 4)], 0, 0, 0, by decide +kernel⟩,
   ⟨State.reset, 0, 0, 0, by decide +kernel⟩,
   ⟨State.reset, 0, 0, 0, by decide +kernel⟩,
   ⟨State.reset, 0, 0, 2, by decide +kernel⟩,
   ⟨State.reset, 0, 0, 0, by decide +kernel⟩,
   ⟨dev [(Rg.LN_STATUS_STATE 0, 4)], 0, 0, 0, by decide +kernel⟩,
   ⟨{ dev [(Rg.LN_STATUS_STATE 0, 4), (Rg.LN_CTRL_AUTO_RETURN 0, 1)] with held := false }, 0, by decide +kernel⟩,
   ⟨State.reset, 0, by decide +kernel⟩,
   ⟨State.reset, 0, by decide +kernel⟩,
   ⟨{ dev [(Rg.LN_STATUS_STATE 0, 2)] with held := false }, 0, by decide +kernel⟩,
   ⟨{ dev [(Rg.LN_STATUS_STATE 0, 2)] with lanes := [(0, { txq := [⟨0, 1, [5, 6]⟩] })] }, 0, ⟨0, 1, [5, 6]⟩, [],
     by decide +kernel⟩,
   ⟨{ dev [(Rg.LN_STATUS_STATE 0, 2)] with rdHold := [(0, some ⟨⟨0, 0, [5]⟩, 0⟩)] }, 0, 0, ⟨⟨0, 0, [5]⟩, 0⟩,
     by decide +kernel⟩⟩

/-- The hypotheses of the clauses of `Obligations.BankMappingIsModulo` are met. -/
theorem witness_BankMappingIsModulo :
    (∃ (w : _), w < storeWords) ∧
    (∃ (v : _) (w : _), v < storeWords ∧ w < storeWords ∧ bankOf v = bankOf w ∧ rowOf v = rowOf w) ∧
    (∃ (w : _) (i : _) (j : _), i < j ∧ j < 8191 ∧ w + j < storeWords) ∧
    (∃ (w : _) (k : _) (i : _) (j : _), k % 8191 ≠ 0 ∧ i < j ∧ j < 8191 ∧ w + j * k < storeWords) :=
  ⟨⟨8190, by decide +kernel⟩,
   ⟨8190, 8190, by decide +kernel⟩,
   ⟨5, 0, 8190, by decide +kernel⟩,
   ⟨5, 8190, 0, 4095, by decide +kernel⟩⟩

/-- The hypotheses of clauses 1 to 7 of `Obligations.StoreRequestsAccessTheirWord` are met. -/
theorem witness_StoreRequestsAccessTheirWord_1 :
    (∃ (_ : State) (_ : Nat) (reqs : List StoreReq) (_ : Option Upset), (∃ r ∈ reqs, storeTop ≤ r.word * 16)) ∧
    (∃ (s : State) (_ : Nat), s.held = false) ∧
    (∃ (s : State) (_ w : Nat) (_ : StoreAgent) (_ : QWord), s.held = false ∧ s.storeErr = [] ∧ s.bankHeld = [] ∧ w <
      storeWords) ∧
    (∃ (s : State) (_ w : Nat) (_ : VE) (_ : Fin 4), s.held = false ∧ s.storeErr = [] ∧ s.bankHeld = [] ∧ w <
      storeWords) ∧
    (∃ (s : State) (_ w : Nat) (n : VE) (_ : QWord), s.held = false ∧ s.storeErr = [] ∧ s.bankHeld = [] ∧ w < storeWords
      ∧ s.holdsResv n w = true) ∧
    (∃ (s : State) (_ w : Nat) (n : VE) (_ : QWord), s.held = false ∧ s.storeErr = [] ∧ s.bankHeld = [] ∧ w < storeWords
      ∧ s.holdsResv n w = false) ∧
    (∃ (s : State) (_ w : Nat) (_ : StoreAgent) (_ : BitVec 16) (_ : QWord), s.held = false ∧ s.storeErr = [] ∧
      s.bankHeld = [] ∧ w < storeWords) :=
  ⟨⟨State.reset, 0, [⟨.router, 33550336, 0xFFFF, .read, 0⟩], none, by decide +kernel⟩,
   ⟨State.reset, 0, by decide +kernel⟩,
   ⟨{ State.reset with storeErr := [], bankHeld := [] }, 0, 77, (.seq 3), 0x112233445566778899AABBCCDDEEFF00,
     by decide +kernel⟩,
   ⟨{ State.reset with storeErr := [], bankHeld := [] }, 0, 77, 0, 0, by decide +kernel⟩,
   ⟨{ State.reset with storeErr := [], bankHeld := [], resv := [⟨0, 77⟩] }, 0, 77, 0,
     0x112233445566778899AABBCCDDEEFF00, by decide +kernel⟩,
   ⟨{ State.reset with storeErr := [], bankHeld := [] }, 0, 77, 0, 0x112233445566778899AABBCCDDEEFF00,
     by decide +kernel⟩,
   ⟨{ State.reset with storeErr := [], bankHeld := [] }, 0, 77, .router, 0, 0x112233445566778899AABBCCDDEEFF00,
     by decide +kernel⟩⟩

/-- The hypotheses of clauses 8 to 13 of `Obligations.StoreRequestsAccessTheirWord` are met. -/
theorem witness_StoreRequestsAccessTheirWord_2 :
    (∃ (s : State) (bc : Nat) (r : StoreReq), s.held = false ∧ r.word < storeWords ∧ Tab.get s.bankHeld (bankOf r.word)
      (bc + 1) = bc) ∧
    (∃ (s : State) (bc : Nat) (reqs : List StoreReq) (r : _), s.bankChoice bc reqs = some r) ∧
    (∃ (s : State) (bc : Nat) (reqs : List StoreReq) (r : _), s.bankChoice bc reqs = some r ∧ bc % 8 = 7 ∧ (∃ x ∈ reqs,
      agentBackground x.agent = true)) ∧
    (∃ (s : State) (bc : Nat) (reqs : List StoreReq) (r : _), s.bankChoice bc reqs = some r ∧ bc % 8 ≠ 7 ∧ (∃ x ∈ reqs,
      agentBackground x.agent = false)) ∧
    (∃ (s : State) (bc : Nat) (reqs : List StoreReq) (r : _) (x : _), s.bankChoice bc reqs = some r ∧ agentBackground
      r.agent = false ∧ x ∈ reqs ∧ agentBackground x.agent = false) ∧
    (∃ (s : State) (bc : Nat) (reqs : List StoreReq) (r : _) (x : _), s.bankChoice bc reqs = some r ∧ agentBackground
      r.agent = true ∧ x ∈ reqs ∧ agentBackground x.agent = true) :=
  ⟨⟨{ State.reset with bankHeld := [(1, 0)] }, 0, ⟨.router, 1, 0xFFFF, .read, 3⟩, by decide +kernel⟩,
   ⟨State.reset, 0, [⟨.router, 1, 0xFFFF, .read, 3⟩], ⟨.router, 1, 0xFFFF, .read, 3⟩, by decide +kernel⟩,
   ⟨State.reset, 15, [⟨.router, 1, 0xFFFF, .read, 3⟩, ⟨.background false, 2, 0xFFFF, .read, 5⟩], ⟨.background false, 2,
     0xFFFF, .read, 5⟩, by decide +kernel⟩,
   ⟨State.reset, 14, [⟨.background false, 2, 0xFFFF, .read, 3⟩, ⟨.router, 1, 0xFFFF, .read, 5⟩], ⟨.router, 1, 0xFFFF,
     .read, 5⟩, by decide +kernel⟩,
   ⟨State.reset, 0, [⟨.pipe 0 0, 2, 0xFFFF, .read, 8⟩, ⟨.router, 1, 0xFFFF, .read, 5⟩], ⟨.router, 1, 0xFFFF, .read, 5⟩,
     ⟨.pipe 0 0, 2, 0xFFFF, .read, 8⟩, by decide +kernel⟩,
   ⟨State.reset, 0, [⟨.background false, 2, 0xFFFF, .read, 8⟩, ⟨.background false, 1, 0xFFFF, .read, 5⟩], ⟨.background
     false, 1, 0xFFFF, .read, 5⟩, ⟨.background false, 2, 0xFFFF, .read, 8⟩, by decide +kernel⟩⟩

/-- The hypotheses of the clauses of `Obligations.CombinesActElementByElement` are met. -/
theorem witness_CombinesActElementByElement :
    ∃ (s : State) (_ w : Nat) (_ : StoreAgent) (_ : QWord) (_ : Comb) (_ : ElemTy), s.held = false ∧ s.storeErr = [] ∧
      s.bankHeld = [] ∧ w < storeWords :=
  ⟨{ State.reset with storeErr := [], bankHeld := [] }, 0, 0, .router, 0x00010002000300040005000600070008, .add, .u16,
    by decide +kernel⟩

/-- The hypotheses of the clauses of `Obligations.StoreErrorsAreCorrected` are met. -/
theorem witness_StoreErrorsAreCorrected :
    (∃ (s : State), s.held = false ∧ s.writeBacks = []) ∧
    (∃ (s : State) (w : _) (r : _), s.held = false ∧ s.writeBacks = w :: r) ∧
    (∃ (s : State) (_ : Fin 128) (_ : Fin 64) (_ : Fin 4096), s.held = false ∧ s.flag Rg.ST_CTRL_SCRUB_EN = false) ∧
    (∃ (s : State) (g : Fin 128) (b : Fin 64) (_ : Fin 4096) (log : _), s.held = false ∧ s.flag Rg.ST_CTRL_SCRUB_EN =
      true ∧ s.logOf (64 * g + b) = some log ∧ s.storeErr = []) ∧
    (∃ (s : State) (g : Fin 128) (b : Fin 64) (row : Fin 4096) (log : _), s.held = false ∧ s.flag Rg.ST_CTRL_SCRUB_EN =
      true ∧ s.logOf (64 * g + b) = some log ∧ s.storeErr = [(2 * wordAt log row, some .single)]) ∧
    (∃ (s : State) (g : Fin 128) (b : Fin 64) (row : Fin 4096) (log : _), s.held = false ∧ s.flag Rg.ST_CTRL_SCRUB_EN =
      true ∧ s.logOf (64 * g + b) = some log ∧ s.storeErr = [(2 * wordAt log row, some .uncorrectable)]) ∧
    (∃ (s : State) (g : Fin 128) (b : Fin 64) (_ : Fin 4096), s.held = false ∧ s.flag Rg.ST_CTRL_SCRUB_EN = true ∧
      s.logOf (64 * g + b) = none) ∧
    (∃ (s : State) (_ w : Nat) (_ : StoreAgent) (k : Nat), s.held = false ∧ s.bankHeld = [] ∧ w < storeWords ∧ k < 2 ∧
      s.storeErr = [(2 * w + k, some .single)]) ∧
    (∃ (s : State) (_ w : Nat) (_ : StoreAgent) (k : Nat), s.held = false ∧ s.bankHeld = [] ∧ w < storeWords ∧ k < 2 ∧
      s.storeErr = [(2 * w + k, some .uncorrectable)]) ∧
    (∃ (s : State) (_ w : Nat) (_ : StoreAgent) (k : Nat) (_ : QWord), s.held = false ∧ s.bankHeld = [] ∧ w < storeWords
      ∧ k < 2 ∧ s.storeErr = [(2 * w + k, some .uncorrectable)]) ∧
    (∃ (s : State), s.held = false ∧ s.flag Rg.ST_CTRL_SCRUB_EN = true) ∧
    (∃ (s : State), s.held = false ∧ s.flag Rg.ST_CTRL_SCRUB_EN = false) :=
  ⟨⟨{ State.reset with writeBacks := [] }, by decide +kernel⟩,
   ⟨{ State.reset with writeBacks := 9 :: ([]) }, 9, [], by decide +kernel⟩,
   ⟨{ dev [(Rg.ST_CTRL_SCRUB_EN, 0)] with held := false }, 0, 0, 0, by decide +kernel⟩,
   ⟨{ dev [(Rg.ST_CTRL_SCRUB_EN, 1)] with storeErr := [] }, 0, 0, 0, 0, by decide +kernel⟩,
   ⟨{ dev [(Rg.ST_CTRL_SCRUB_EN, 1)] with storeErr := [(2 * wordAt 0 0, some .single)] }, 0, 0, 0, 0, by decide +kernel⟩,
   ⟨{ dev [(Rg.ST_CTRL_SCRUB_EN, 1)] with storeErr := [(2 * wordAt 0 0, some .uncorrectable)] }, 0, 0, 0, 0,
     by decide +kernel⟩,
   ⟨{ dev [(Rg.ST_CTRL_SCRUB_EN, 1)] with held := false }, 127, 63, 0, by decide +kernel⟩,
   ⟨{ State.reset with bankHeld := [], storeErr := [(2 * 9 + 1, some .single)] }, 0, 9, .router, 1, by decide +kernel⟩,
   ⟨{ State.reset with bankHeld := [], storeErr := [(2 * 9 + 1, some .uncorrectable)] }, 0, 9, .router, 1,
     by decide +kernel⟩,
   ⟨{ State.reset with bankHeld := [], storeErr := [(2 * 9 + 1, some .uncorrectable)] }, 0, 9, .router, 1, 0,
     by decide +kernel⟩,
   ⟨{ dev [(Rg.ST_CTRL_SCRUB_EN, 1)] with held := false }, by decide +kernel⟩,
   ⟨{ dev [(Rg.ST_CTRL_SCRUB_EN, 0)] with held := false }, by decide +kernel⟩⟩

/-- The hypotheses of clauses 1 to 10 of `Obligations.RotationMovesABank` are met. -/
theorem witness_RotationMovesABank_1 :
    (∃ (s : State) (m : Master) (_ : Word) (_ : BitVec 13), MayWrite s m Rg.ST_ROT_CMD_GO.addr 4 ∧ s.flag
      Rg.ST_STATUS_NO_SPARE = true) ∧
    (∃ (s : State) (m : Master) (_ : Word) (log : BitVec 13), MayWrite s m Rg.ST_ROT_CMD_GO.addr 4 ∧ s.flag
      Rg.ST_STATUS_NO_SPARE = false ∧ s.get Rg.DD_STATUS_TIER = 0 ∧ s.rot = .idle ∧ s.rotWant = [] ∧ s.marching = false ∧
      log ≠ 8191) ∧
    (∃ (s : State) (m : Master) (_ : Word) (_ : BitVec 13) (b : _), MayWrite s m Rg.ST_ROT_CMD_GO.addr 4 ∧ s.flag
      Rg.ST_STATUS_NO_SPARE = false ∧ s.get Rg.DD_STATUS_TIER = 0 ∧ s.rot = .idle ∧ s.rotWant = [] ∧ s.marching = false ∧
      s.rotNext = some b) ∧
    (∃ (s : State) (m : Master) (_ : Word) (log : BitVec 13), MayWrite s m Rg.ST_ROT_CMD_GO.addr 4 ∧ s.flag
      Rg.ST_STATUS_NO_SPARE = false ∧ (s.get Rg.DD_STATUS_TIER ≠ 0 ∨ s.rot ≠ .idle ∨ s.marching = true) ∧ log ≠ 8191) ∧
    (∃ (s : State) (m : Master) (_ : Word) (_ : BitVec 13), MayWrite s m Rg.ST_ROT_CMD_GO.addr 4 ∧ s.flag
      Rg.ST_STATUS_NO_SPARE = false ∧ (s.get Rg.DD_STATUS_TIER ≠ 0 ∨ s.rot ≠ .idle ∨ s.marching = true)) ∧
    (∃ (s : State) (m : Master) (_ : Word) (log : BitVec 13), MayWrite s m Rg.ST_ROT_CMD_GO.addr 4 ∧ log = 8191) ∧
    (∃ (s : State) (b : _), s.held = false ∧ s.flag Rg.ST_CTRL_ROT_EN = true ∧ s.get Rg.ST_ROT_CFG_STEP_MS ≠ 0 ∧ s.flag
      Rg.ST_STATUS_NO_SPARE = false ∧ s.get Rg.DD_STATUS_TIER = 0 ∧ s.rot = .idle ∧ s.rotWant = [] ∧ s.marching = false ∧
      s.rotNext = some b) ∧
    (∃ (s : State), s.held = false ∧ s.flag Rg.ST_CTRL_ROT_EN = true ∧ s.get Rg.ST_ROT_CFG_STEP_MS ≠ 0 ∧ s.flag
      Rg.ST_STATUS_NO_SPARE = false ∧ (s.get Rg.DD_STATUS_TIER ≠ 0 ∨ s.marching = true) ∧ s.rot = .idle) ∧
    (∃ (s : State), s.held = false ∧ (s.flag Rg.ST_CTRL_ROT_EN = false ∨ s.get Rg.ST_ROT_CFG_STEP_MS = 0 ∨ s.flag
      Rg.ST_STATUS_NO_SPARE = true ∨ s.rot ≠ .idle)) ∧
    (∃ (s : State) (log src : Nat), s.held = false ∧ log < 8191 ∧ s.rot = .copying log src ∧ s.storeErr = [] ∧ s.locked
      = true) :=
  ⟨⟨dev [(Rg.ST_STATUS_NO_SPARE, 1)], 0, 0, 0, by decide +kernel⟩,
   ⟨{ dev [(Rg.ST_STATUS_NO_SPARE, 0), (Rg.DD_STATUS_TIER, 0)] with rot := .idle, rotWant := [] }, 0, 0, 0,
     by decide +kernel⟩,
   ⟨{ dev [(Rg.ST_STATUS_NO_SPARE, 0), (Rg.DD_STATUS_TIER, 0)] with rot := .idle, rotWant := [] }, 0, 0, 0, 0,
     by decide +kernel⟩,
   ⟨dev [(Rg.ST_STATUS_NO_SPARE, 0), (Rg.DD_STATUS_TIER, 1)], 0, 0, 0, by decide +kernel⟩,
   ⟨dev [(Rg.ST_STATUS_NO_SPARE, 0), (Rg.DD_STATUS_TIER, 1)], 0, 0, 0, by decide +kernel⟩,
   ⟨State.reset, 0, 0, 8191, by decide +kernel⟩,
   ⟨{ dev [(Rg.ST_CTRL_ROT_EN, 1), (Rg.ST_STATUS_NO_SPARE, 0), (Rg.DD_STATUS_TIER,
     0)] with rot := .idle, rotWant := [] }, 0, by decide +kernel⟩,
   ⟨{ dev [(Rg.ST_CTRL_ROT_EN, 1), (Rg.ST_STATUS_NO_SPARE, 0), (Rg.DD_STATUS_TIER, 1)] with rot := .idle },
     by decide +kernel⟩,
   ⟨{ dev [(Rg.ST_CTRL_ROT_EN, 0)] with held := false }, by decide +kernel⟩,
   ⟨{ dev [(Rg.FT_STATUS_STATE, 4)] with rot := .copying 0 0, storeErr := [] }, 0, 0, by decide +kernel⟩⟩

/-- The hypotheses of clauses 11 to 20 of `Obligations.RotationMovesABank` are met. -/
theorem witness_RotationMovesABank_2 :
    (∃ (s : State) (log src : Nat), s.held = false ∧ log < 8191 ∧ s.rot = .copying log src ∧ s.storeErr = [] ∧ s.locked
      = false) ∧
    (∃ (s : State) (log src h : Nat), s.held = false ∧ log < 8191 ∧ s.rot = .copying log src ∧ bankOf (h / 2) = log ∧
      s.storeErr = [(h, some .uncorrectable)] ∧ s.rotMarks = [] ∧ s.rotBad = [] ∧ s.locked = false) ∧
    (∃ (s : State) (log src : Nat), s.held = false ∧ src < 8192 ∧ s.rot = .draining log src ∧ s.rotWant = [] ∧ s.flag
      Rg.ST_CTRL_ROT_TEST = true) ∧
    (∃ (s : State) (log src : Nat), s.held = false ∧ src < 8192 ∧ s.rot = .draining log src ∧ s.rotWant = [] ∧ s.flag
      Rg.ST_CTRL_ROT_TEST = false) ∧
    (∃ (s : State) (log src : Nat) (_ : Bool), s.held = false ∧ src < 8192 ∧ s.rot = .testing log src ∧ s.rotWant = [] ∧
      s.blMbist = none ∧ s.get Rg.DD_STATUS_TIER ≠ 0) ∧
    (∃ (s : State) (log src : Nat), s.held = false ∧ src < 8192 ∧ s.rot = .testing log src ∧ s.rotWant = [] ∧ s.blMbist
      = none ∧ s.get Rg.DD_STATUS_TIER = 0) ∧
    (∃ (s : State), s.held = false ∧ s.rot = .idle) ∧
    (∃ (s : State) (_ : Bool), s.held = false ∧ s.rot = .idle) ∧
    (∃ (s : State) (r : RegRef), r.row.base = Rg.ST_ROT_STATUS_SRC_PHYS.addr ∧ s.rotCopying = true) ∧
    (∃ (s : State) (r : RegRef), r.row.base = Rg.ST_ROT_STATUS_SRC_PHYS.addr ∧ s.rotCopying = false) :=
  ⟨⟨{ State.reset with rot := .copying 0 0, storeErr := [] }, 0, 0, by decide +kernel⟩,
   ⟨{ State.reset with rot := .copying 0 0, storeErr := [(0, some .uncorrectable)], rotMarks := [], rotBad := [] }, 0,
     0, 0, by decide +kernel⟩,
   ⟨{ dev [(Rg.ST_CTRL_ROT_TEST, 1)] with rot := .draining 0 0, rotWant := [] }, 0, 0, by decide +kernel⟩,
   ⟨{ dev [(Rg.ST_CTRL_ROT_TEST, 0)] with rot := .draining 0 0, rotWant := [] }, 0, 0, by decide +kernel⟩,
   ⟨{ dev [(Rg.DD_STATUS_TIER, 1)] with rot := .testing 0 0, rotWant := [], blMbist := none }, 0, 0, false,
     by decide +kernel⟩,
   ⟨{ dev [(Rg.DD_STATUS_TIER, 0)] with rot := .testing 0 0, rotWant := [], blMbist := none }, 0, 0, by decide +kernel⟩,
   ⟨{ State.reset with rot := .idle }, by decide +kernel⟩,
   ⟨{ State.reset with rot := .idle }, false, by decide +kernel⟩,
   ⟨{ State.reset with rot := .copying 3 5 }, ((regAt 0x500090014).get (by decide)), by decide +kernel⟩,
   ⟨State.reset, ((regAt 0x500090014).get (by decide)), by decide +kernel⟩⟩

/-- The hypotheses of the clauses of `Obligations.ManagementPushesItems` are met. -/
theorem witness_ManagementPushesItems :
    (∃ (s : State) (m : Master) (n : Queue) (v : Word), MayWrite s m (Rg.Q_PUSH_LEN n).addr 4 ∧ PtrsGood s n ∧ (v.toNat
      % 32 = 0 ∨ 16 < v.toNat % 32 ∨ s.qOn n = false ∨ (s.q n).opn.isSome = true ∨ mgmtMayPush n = false)) ∧
    (∃ (s : State) (m : Master) (n : Queue) (v : Word), MayWrite s m (Rg.Q_PUSH_LEN n).addr 4 ∧ PtrsGood s n ∧ 1 ≤
      v.toNat % 32 ∧ v.toNat % 32 ≤ 16 ∧ mgmtMayPush n = true ∧ (s.q n).opn = none ∧ s.qOn n = true ∧ s.qFits n (v.toNat %
      32) = false) ∧
    (∃ (s : State) (m : Master) (n : Queue) (v : Word), MayWrite s m (Rg.Q_PUSH_LEN n).addr 4 ∧ PtrsGood s n ∧ 1 ≤
      v.toNat % 32 ∧ v.toNat % 32 ≤ 16 ∧ mgmtMayPush n = true ∧ (s.q n).opn = none ∧ RingGood s n ∧ s.storeErr = [] ∧
      s.qFits n (v.toNat % 32) = true) ∧
    (∃ (s : State) (m : Master) (n : Queue) (_ : DWord), MayWrite s m (Rg.Q_PUSH_DATA n).addr 8 ∧ PtrsGood s n ∧ (s.q
      n).opn = none) ∧
    (∃ (s : State) (m : Master) (n : Queue) (_ : DWord) (o : _), MayWrite s m (Rg.Q_PUSH_DATA n).addr 8 ∧ PtrsGood s n ∧
      (s.q n).opn = some o ∧ o.master ≠ m.val) ∧
    (∃ (s : State) (m : Master) (n : Queue) (_ : DWord) (o : _), MayWrite s m (Rg.Q_PUSH_DATA n).addr 8 ∧ PtrsGood s n ∧
      (s.q n).opn = some o ∧ o.master = m.val ∧ o.done + 1 < o.len ∧ s.storeErr = [] ∧ s.get (Rg.Q_BASE n) % 256 = 0) ∧
    (∃ (s : State) (m : Master) (n : Queue) (_ : DWord) (o : _), MayWrite s m (Rg.Q_PUSH_DATA n).addr 8 ∧ PtrsGood s n ∧
      (s.q n).opn = some o ∧ o.master = m.val ∧ o.done + 1 = o.len ∧ s.storeErr = [] ∧ s.get (Rg.Q_BASE n) % 256 = 0) ∧
    (∃ (s : State) (n : Queue), s.held = false ∧ PtrsGood s n ∧ (s.q n).opn = none) ∧
    (∃ (s : State) (n : Queue) (o : _), s.held = false ∧ PtrsGood s n ∧ (s.q n).opn = some o) ∧
    (∃ (s : State) (m : Master) (n : Queue) (v : Word), MayWrite s m (Rg.Q_PUSH_LEN n).addr 4 ∧ PtrsGood s n ∧ s.qOn n =
      true ∧ mgmtMayPush n = true ∧ 1 ≤ v.toNat % 32 ∧ v.toNat % 32 ≤ 16 ∧ 8 ≤ s.get (Rg.Q_CFG_SIZE_LOG2 n)) :=
  ⟨⟨State.reset, 0, 20, 0, by decide +kernel⟩,
   ⟨{ dev [(Rg.Q_CFG_ENABLE 20, 1)] with queues := [(20, { items := [⟨29, true, false⟩] })] }, 0, 20, 16,
     by decide +kernel⟩,
   ⟨{ dev [(Rg.Q_CFG_ENABLE 20, 1), (Rg.Q_BASE 20, 4096)] with storeErr := [] }, 0, 20, 2, by decide +kernel⟩,
   ⟨State.reset, 0, 20, 0, by decide +kernel⟩,
   ⟨{ dev [(Rg.Q_CFG_ENABLE 20, 1), (Rg.Q_BASE 20,
     4096)] with queues := [(20, { alloc := 3, items := [⟨2, false, false⟩], opn := some ⟨3, 0, 2, 0⟩ })] }, 0, 20, 0, ⟨3,
     0, 2, 0⟩, by decide +kernel⟩,
   ⟨{ dev [(Rg.Q_CFG_ENABLE 20, 1), (Rg.Q_BASE 20,
     4096)] with queues := [(20, { alloc := 3, items := [⟨2, false, false⟩], opn := some ⟨0, 0, 2, 0⟩ })] }, 0, 20, 0, ⟨0,
     0, 2, 0⟩, by decide +kernel⟩,
   ⟨{ dev [(Rg.Q_CFG_ENABLE 20, 1), (Rg.Q_BASE 20,
     4096)] with queues := [(20, { alloc := 3, items := [⟨2, false, false⟩], opn := some ⟨0, 0, 2, 1⟩ })] }, 0, 20, 0, ⟨0,
     0, 2, 1⟩, by decide +kernel⟩,
   ⟨State.reset, 20, by decide +kernel⟩,
   ⟨{ dev [(Rg.Q_CFG_ENABLE 20, 1), (Rg.Q_BASE 20,
     4096)] with queues := [(20, { alloc := 3, items := [⟨2, false, false⟩], opn := some ⟨0, 0, 2, 0⟩ })] }, 20, ⟨0, 0, 2,
     0⟩, by decide +kernel⟩,
   ⟨dev [(Rg.Q_CFG_ENABLE 20, 1)], 0, 20, 2, by decide +kernel⟩⟩

/-- The hypotheses of the clauses of `Obligations.QueueControlFollowsR234` are met. -/
theorem witness_QueueControlFollowsR234 :
    (∃ (s : State) (m : Master) (n : Queue) (_ : Word), MayWrite s m (Rg.Q_CMD_POP n).addr 4 ∧ PtrsGood s n ∧ (s.q
      n).ready = []) ∧
    (∃ (s : State) (m : Master) (n : Queue) (v : Word), MayWrite s m (Rg.Q_CMD_POP n).addr 4 ∧ PtrsGood s n ∧ (s.q
      n).ready = [] ∧ v.toNat / 2 % 2 = 1) ∧
    (∃ (s : State) (m : Master) (n : Queue) (v : Word) (i : QItem) (r : List QItem), MayWrite s m (Rg.Q_CMD_POP n).addr
      4 ∧ PtrsGood s n ∧ (s.q n).items = i :: r ∧ (i.committed = true ∨ i.torn = true) ∧ v.toNat % 2 = 0) ∧
    (∃ (s : State) (m : Master) (n : Queue) (v : Word) (i : QItem) (r : List QItem), MayWrite s m (Rg.Q_CMD_POP n).addr
      4 ∧ PtrsGood s n ∧ (s.q n).items = i :: r ∧ i.committed = true ∧ i.torn = false ∧ (r.all (fun j => !j.torn) = true)
      ∧ v.toNat % 2 = 0) ∧
    (∃ (s : State) (m : Master) (n : Queue) (v : Word), MayWrite s m (Rg.Q_CMD_POP n).addr 4 ∧ PtrsGood s n ∧ v.toNat /
      2 % 2 = 0) ∧
    (∃ (s : State) (m : Master) (n : Queue) (v : Word), MayWrite s m (Rg.Q_CFG_ENABLE n).addr 4 ∧ PtrsGood s n ∧
      (v.toNat / 2 % 32 < 8 ∨ 24 < v.toNat / 2 % 32)) ∧
    (∃ (s : State) (m : Master) (n : Queue) (v : Word), MayWrite s m (Rg.Q_CFG_ENABLE n).addr 4 ∧ PtrsGood s n ∧ 8 ≤
      v.toNat / 2 % 32 ∧ v.toNat / 2 % 32 ≤ 24 ∧ s.qOn n = false ∧ s.qPlaced n (v.toNat / 2 % 32) = true) ∧
    (∃ (s : State) (m : Master) (n : Queue) (v : Word), MayWrite s m (Rg.Q_CFG_ENABLE n).addr 4 ∧ PtrsGood s n ∧ 8 ≤
      v.toNat / 2 % 32 ∧ v.toNat / 2 % 32 ≤ 24 ∧ s.qOn n = false ∧ s.qPlaced n (v.toNat / 2 % 32) = false) ∧
    (∃ (s : State) (m : Master) (n : Queue) (v : Word), MayWrite s m (Rg.Q_CFG_ENABLE n).addr 4 ∧ PtrsGood s n ∧ s.qOn n
      = true ∧ v.toNat / 2 % 32 = s.get (Rg.Q_CFG_SIZE_LOG2 n) ∧ 8 ≤ v.toNat / 2 % 32 ∧ v.toNat / 2 % 32 ≤ 24 ∧ v.toNat /
      64 % 16 = s.get (Rg.Q_CFG_ITEM_WORDS n)) ∧
    (∃ (s : State) (m : Master) (n : Queue) (v : Word), MayWrite s m (Rg.Q_CFG_ENABLE n).addr 4 ∧ PtrsGood s n ∧ s.qOn n
      = true ∧ (v.toNat / 2 % 32 ≠ s.get (Rg.Q_CFG_SIZE_LOG2 n) ∨ v.toNat / 64 % 16 ≠ s.get (Rg.Q_CFG_ITEM_WORDS n))) ∧
    (∃ (s : State) (m : Master) (n : Queue) (v : Word), MayWrite s m (Rg.Q_CFG_ENABLE n).addr 4 ∧ PtrsGood s n ∧ s.qOn n
      = false ∧ 8 ≤ v.toNat / 2 % 32 ∧ v.toNat / 2 % 32 ≤ 24) :=
  ⟨⟨State.reset, 0, 0, 0, by decide +kernel⟩,
   ⟨State.reset, 0, 0, 2, by decide +kernel⟩,
   ⟨{ State.reset with queues := [(0, { head := 0, alloc := 4, items := [⟨3, true, false⟩] })] }, 0, 0, 0, ⟨3, true,
     false⟩, [], by decide +kernel⟩,
   ⟨{ State.reset with queues := [(0, { head := 0, alloc := 4, items := [⟨3, true, false⟩] })] }, 0, 0, 0, ⟨3, true,
     false⟩, [], by decide +kernel⟩,
   ⟨State.reset, 0, 0, 0, by decide +kernel⟩,
   ⟨State.reset, 0, 0, 0, by decide +kernel⟩,
   ⟨State.reset, 0, 0, 17, by decide +kernel⟩,
   ⟨dev [(Rg.Q_BASE 0, 8)], 0, 0, 17, by decide +kernel⟩,
   ⟨dev [(Rg.Q_CFG_ENABLE 0, 1)], 0, 0, 16, by decide +kernel⟩,
   ⟨dev [(Rg.Q_CFG_ENABLE 0, 1)], 0, 0, 0, by decide +kernel⟩,
   ⟨State.reset, 0, 0, 16, by decide +kernel⟩⟩

/-- The hypotheses of the clauses of `Obligations.ScalarAluRowsWriteTheirResult` are met. -/
theorem witness_ScalarAluRowsWriteTheirResult :
    (∃ (c : Instr) (s : State) (u : CoreId) (i : RInsn) (f : Word → Word → Word), aluRow c = some (u, i, f) ∧ Ready s u
      ∧ i.z = 0) ∧
    (∃ (c : Instr) (s : State) (u : CoreId) (i : RInsn) (f : Word → Word → Word), aluRow c = some (u, i, f) ∧ Ready s u
      ∧ i.z ≠ 0) ∧
    (∃ (c : Instr) (s : State) (u : CoreId) (i : RInsn) (f : Word → Word), unaryRow c = some (u, i, f) ∧ Ready s u ∧ i.z
      = 0 ∧ i.rb = 0) ∧
    (∃ (c : Instr) (s : State) (u : CoreId) (i : RInsn) (f : Word → Word), unaryRow c = some (u, i, f) ∧ Ready s u ∧
      (i.z ≠ 0 ∨ i.rb ≠ 0)) ∧
    (∃ (c : Instr) (s : State) (u : CoreId) (i : IInsn) (k : Bool) (f : Word → Word), immRow c = some (u, i, k, f) ∧
      Ready s u ∧ (k = false ∨ i.imm.toNat < 32)) ∧
    (∃ (c : Instr) (s : State) (u : CoreId) (i : IInsn) (k : Bool) (f : Word → Word), immRow c = some (u, i, k, f) ∧
      Ready s u ∧ k = true ∧ 32 ≤ i.imm.toNat) ∧
    (∃ (s : State) (u : CoreId) (_ : UInsn), Ready s u) ∧
    (∃ (a : Word), a ≠ 0) :=
  ⟨⟨.adds (.seq 0) ⟨1, 2, 3, 0⟩, seqAt id, (.seq 0), ⟨1, 2, 3, 0⟩, _, rfl, by decide +kernel, by decide +kernel⟩,
   ⟨.sub (.seq 0) ⟨1, 2, 3, 1⟩, seqAt id, (.seq 0), ⟨1, 2, 3, 1⟩, _, rfl, by decide +kernel, by decide +kernel⟩,
   ⟨.clz (.seq 0) ⟨1, 2, 0, 0⟩, seqAt id, (.seq 0), ⟨1, 2, 0, 0⟩, _, rfl, by decide +kernel, by decide +kernel,
     by decide +kernel⟩,
   ⟨.clz (.seq 0) ⟨1, 2, 3, 0⟩, seqAt id, (.seq 0), ⟨1, 2, 3, 0⟩, _, rfl, by decide +kernel, by decide +kernel⟩,
   ⟨.srai (.seq 0) ⟨1, 2, 5⟩, seqAt id, (.seq 0), ⟨1, 2, 5⟩, true, _, rfl, by decide +kernel, by decide +kernel⟩,
   ⟨.shli (.seq 0) ⟨1, 2, 32⟩, seqAt id, (.seq 0), ⟨1, 2, 32⟩, true, _, rfl, by decide +kernel, by decide +kernel,
     by decide +kernel⟩,
   ⟨seqAt id, (.seq 0), ⟨4, 9⟩, by decide +kernel⟩,
   ⟨77, by decide +kernel⟩⟩

/-- The hypotheses of the clauses of `Obligations.LongResultsArriveAsR275Says` are met. -/
theorem witness_LongResultsArriveAsR275Says :
    (∃ (c : Instr) (s : State) (u : CoreId) (i : RInsn) (f : Word → Word → Word), mulRow c = some (u, i, f) ∧ Ready s u
      ∧ i.z = 0) ∧
    (∃ (c : Instr) (s : State) (u : CoreId) (i : RInsn) (f : Word → Word → Word), divRow c = some (u, i, f) ∧ Ready s u
      ∧ i.z = 0) ∧
    (∃ (c : Instr) (s : State) (u : CoreId) (i : RInsn) (f : Word → Word → Word), (mulRow c = some (u, i, f) ∨ divRow c
      = some (u, i, f)) ∧ Ready s u ∧ i.z ≠ 0) ∧
    (∃ (s : State) (u : CoreId), s.held = false ∧ (s.eng (coreNo u)).long = none) ∧
    (∃ (s : State) (u : CoreId) (r : _) (v : _), s.held = false ∧ (s.eng (coreNo u)).long = some (r, v)) ∧
    (∃ (s t : State) (u : CoreId) (i : RInsn) (r : Nat) (v : Word) (back : Bool), Ready t u ∧ r ≠ 0 ∧ r = i.ra.toNat ∧
      i.rb = 0 ∧ i.rd.toNat ≠ r ∧ i.rd ≠ 0 ∧ i.z = 0 ∧ s = t.setEng (coreNo u)
      { t.eng (coreNo u) with lands := [⟨r, v, true, back⟩] } ∧ (t.eng (coreNo u)).mode = false) ∧
    (∃ (s t : State) (u : CoreId) (i : RInsn) (r : Nat) (v : Word) (back : Bool), Ready t u ∧ r ≠ 0 ∧ r = i.ra.toNat ∧
      i.rb = 0 ∧ i.rd.toNat ≠ r ∧ i.rd ≠ 0 ∧ i.z = 0 ∧ s = t.setEng (coreNo u)
      { t.eng (coreNo u) with lands := [⟨r, v, true, back⟩] } ∧ (t.eng (coreNo u)).mode = true) :=
  ⟨⟨.mulhu .triad ⟨1, 2, 3, 0⟩, triAt id, .triad, ⟨1, 2, 3, 0⟩, _, rfl, by decide +kernel, by decide +kernel⟩,
   ⟨.div .triad ⟨1, 2, 3, 0⟩, triAt id, .triad, ⟨1, 2, 3, 0⟩, _, rfl, by decide +kernel, by decide +kernel⟩,
   ⟨.rem .triad ⟨1, 2, 3, 1⟩, triAt id, .triad, ⟨1, 2, 3, 1⟩, _, Or.inr rfl, by decide +kernel, by decide +kernel⟩,
   ⟨triAt id, .triad, by decide +kernel⟩,
   ⟨triAt fun e => { e with long := some (3, 9) }, .triad, 3, 9, by decide +kernel⟩,
   ⟨(seqAt id).setEng 0 { (seqAt id).eng 0 with lands := [⟨3, 9, true, false⟩] }, seqAt id, (.seq 0), ⟨1, 3, 0, 0⟩, 3,
     9, false, by decide +kernel⟩,
   ⟨(seqAt fun e => { e with mode := true }).setEng 0
     { (seqAt fun e => { e with mode := true }).eng 0 with lands := [⟨3, 9, true, false⟩] }, seqAt fun e =>
     { e with mode := true }, (.seq 0), ⟨1, 3, 0, 0⟩, 3, 9, false, by decide +kernel⟩⟩

/-- The hypotheses of the clauses of `Obligations.ScalarLoadsReadMemory` are met. -/
theorem witness_ScalarLoadsReadMemory :
    (∃ (c : Instr) (s : State) (u : CoreId) (i : MInsn) (n : Nat) (f : List Byte → Word), loadRow c = some (u, i, n, f)
      ∧ Ready s u ∧ (mBad i = true ∨ mClash i = true)) ∧
    (∃ (c : Instr) (s : State) (u : CoreId) (i : MInsn) (n : Nat) (f : List Byte → Word) (x : Exc), loadRow c = some (u,
      i, n, f) ∧ Ready s u ∧ mBad i = false ∧ mClash i = false ∧ s.memCheck (coreNo u) (mCap i) permLoad (mAddr (s.eng
      (coreNo u)) i).toNat n n = .error x) ∧
    (∃ (c : Instr) (s : State) (u : CoreId) (i : MInsn) (n : Nat) (f : List Byte → Word) (a : Nat) (bs : List Byte),
      loadRow c = some (u, i, n, f) ∧ Ready s u ∧ mBad i = false ∧ mClash i = false ∧ s.memCheck (coreNo u) (mCap i)
      permLoad (mAddr (s.eng (coreNo u)) i).toNat n n = .ok a ∧ (s.eng (coreNo u)).sb.any (·.meets a n) = false ∧ DataAt s
      u a n bs) ∧
    (∃ (c : Instr) (s : State) (u : CoreId) (i : MInsn) (n : Nat) (f : List Byte → Word) (a : Nat) (bs : List Byte),
      loadRow c = some (u, i, n, f) ∧ Ready s u ∧ mBad i = false ∧ mClash i = false ∧ s.memCheck (coreNo u) (mCap i)
      permLoad (mAddr (s.eng (coreNo u)) i).toNat n n = .ok a ∧ sbForward (s.eng (coreNo u)).sb a n = some bs) ∧
    (∃ (s : State) (u : CoreId) (i : MInsn) (a : Nat) (bs : List Byte), Ready s u ∧ mBad i = false ∧ i.rd.toNat < 16 ∧
      s.memCheck (coreNo u) (mCap i) permLoad (mAddr (s.eng (coreNo u)) i).toNat 16 16 = .ok a ∧ (s.eng (coreNo u)).sb =
      [] ∧ DataAt s u a 16 bs ∧ (s.eng (coreNo u)).mode = true) ∧
    (∃ (s : State) (u : CoreId) (i : MInsn) (a : Nat) (bs : List Byte), Ready s u ∧ mBad i = false ∧ i.rd.toNat < 16 ∧
      s.memCheck (coreNo u) (mCap i) permLoad (mAddr (s.eng (coreNo u)) i).toNat 16 16 = .ok a ∧ (s.eng (coreNo u)).sb =
      [] ∧ DataAt s u a 16 bs ∧ (s.eng (coreNo u)).mode = false) ∧
    (∃ (s t : State) (u : CoreId) (i : SInsn) (v : QWord), Ready t u ∧ (t.eng (coreNo u)).rep = none ∧ i.rd ≠ 0 ∧ s =
      t.setEng (coreNo u) { t.eng (coreNo u) with dland := some (i.imm.toNat / 4 % 16, v, true) }) ∧
    (∃ (s : State) (u : CoreId), s.held = false ∧ (∀ l ∈ (s.eng (coreNo u)).lands, l.back = true)) ∧
    (∃ (s : State) (u : CoreId) (b : List Land) (l : Land) (r : List Land), s.held = false ∧ (s.eng (coreNo u)).lands =
      b ++ l :: r ∧ (∀ x ∈ b, x.back = true) ∧ l.back = false) ∧
    (∃ (_ : State) (_ : CoreId) (_ _ _ n : Nat), 0 < n) ∧
    (∃ (_ : State) (_ : CoreId) (_ _ a n : Nat), 0 < n ∧ a % n ≠ 0) :=
  ⟨⟨.lw (.seq 0) ⟨2, 2, 1, 1, 4⟩, seqAt id, (.seq 0), ⟨2, 2, 1, 1, 4⟩, 4, _, rfl, by decide +kernel, by decide +kernel⟩,
   ⟨.lh (.seq 0) ⟨4, 2, 1, 0, 0⟩, seqAt id, (.seq 0), ⟨4, 2, 1, 0, 0⟩, 2, _, { code := 2, addr := some 7 }, rfl,
     by decide +kernel, by decide +kernel, by decide +kernel, rfl⟩,
   ⟨.lw (.seq 0) ⟨4, 2, 1, 0, 1⟩, seqAt id, (.seq 0), ⟨4, 2, 1, 0, 1⟩, 4, _, 8, [0, 0, 0, 0], rfl, by decide +kernel,
     by decide +kernel, by decide +kernel, rfl, by decide +kernel, by decide +kernel⟩,
   ⟨.lbu (.seq 0) ⟨4, 2, 1, 0, 1⟩, seqAt fun e => { e with sb := [⟨8, [5, 6]⟩] }, (.seq 0), ⟨4, 2, 1, 0, 1⟩, 1, _, 8,
     [5], rfl, by decide +kernel, by decide +kernel, by decide +kernel, rfl, by decide +kernel⟩,
   ⟨seqAt fun e => { e with mode := true }, (.seq 0), ⟨4, 2, 1, 0, 9⟩, 16, List.replicate 16 0, by decide +kernel,
     by decide +kernel, by decide +kernel, rfl, by decide +kernel, by decide +kernel, by decide +kernel⟩,
   ⟨seqAt id, (.seq 0), ⟨4, 2, 1, 0, 9⟩, 16, List.replicate 16 0, by decide +kernel, by decide +kernel,
     by decide +kernel, rfl, by decide +kernel, by decide +kernel, by decide +kernel⟩,
   ⟨(seqAt id).setEng 0 { (seqAt id).eng 0 with dland := some (4, 77, true) }, seqAt id, (.seq 0), ⟨1, 0, 16⟩, 77,
     by decide +kernel⟩,
   ⟨seqAt id, (.seq 0), by decide +kernel⟩,
   ⟨seqAt fun e => { e with lands := [⟨5, 1, true, true⟩, ⟨3, 9, true, false⟩] }, (.seq 0), [⟨5, 1, true, true⟩], ⟨3, 9,
     true, false⟩, [], by decide +kernel⟩,
   ⟨seqAt id, (.seq 0), 1, permLoad, 8, 4, by decide +kernel⟩,
   ⟨seqAt id, (.seq 0), 0, 0, 7, 4, by decide +kernel⟩⟩

/-- The hypotheses of the clauses of `Obligations.ScalarStoresGoThroughTheBuffer` are met. -/
theorem witness_ScalarStoresGoThroughTheBuffer :
    (∃ (c : Instr) (s : State) (u : CoreId) (i : MInsn) (n : Nat) (f : Engine → Nat), storeRow c = some (u, i, n, f) ∧
      Ready s u ∧ mBad i = true) ∧
    (∃ (c : Instr) (s : State) (u : CoreId) (i : MInsn) (n : Nat) (f : Engine → Nat) (x : Exc), storeRow c = some (u, i,
      n, f) ∧ Ready s u ∧ mBad i = false ∧ s.memCheck (coreNo u) (mCap i) permStore (mAddr (s.eng (coreNo u)) i).toNat n n
      = .error x) ∧
    (∃ (c : Instr) (s : State) (u : CoreId) (i : MInsn) (n : Nat) (f : Engine → Nat) (a : Nat), storeRow c = some (u, i,
      n, f) ∧ Ready s u ∧ mBad i = false ∧ s.memCheck (coreNo u) (mCap i) permStore (mAddr (s.eng (coreNo u)) i).toNat n n
      = .ok a ∧ (s.eng (coreNo u)).sb.length < 8) ∧
    (∃ (s : State) (u : CoreId) (i : MInsn), Ready s u ∧ 16 ≤ i.rd.toNat) ∧
    (∃ (s : State) (u : CoreId), s.held = false ∧ (s.eng (coreNo u)).sb = []) ∧
    (∃ (s : State) (n : VE) (x : SbEntry) (r : List SbEntry), s.held = false ∧ (s.eng n).sb = x :: r ∧ s.storeErr = []) ∧
    (∃ (s : State) (a k : Nat) (bs : List Byte) (r : List SbEntry), s.held = false ∧ s.tri.sb = ⟨a, bs⟩ :: r ∧ bs.length
      = k ∧ k ∈ [1, 2, 4, 8, 16] ∧ a % k = 0 ∧ 0x100000000 ≤ a ∧ a + k ≤ 0x100200000 ∧ s.mxCheck 0 a k true false = none ∧
      s.lmErr = []) :=
  ⟨⟨.sw (.seq 0) ⟨4, 2, 1, 3, 0x80⟩, seqAt id, (.seq 0), ⟨4, 2, 1, 3, 0x80⟩, 4, _, rfl, by decide +kernel,
     by decide +kernel⟩,
   ⟨.sh (.seq 0) ⟨4, 2, 1, 0, 0⟩, seqAt id, (.seq 0), ⟨4, 2, 1, 0, 0⟩, 2, _, { code := 2, addr := some 7 }, rfl,
     by decide +kernel, by decide +kernel, rfl⟩,
   ⟨.sw (.seq 0) ⟨4, 2, 1, 0, 1⟩, seqAt id, (.seq 0), ⟨4, 2, 1, 0, 1⟩, 4, _, 8, rfl, by decide +kernel,
     by decide +kernel, rfl, by decide +kernel⟩,
   ⟨seqAt id, (.seq 0), ⟨17, 2, 1, 0, 1⟩, by decide +kernel⟩,
   ⟨seqAt id, (.seq 0), by decide +kernel⟩,
   ⟨seqAt fun e => { e with sb := [⟨8, [5, 6]⟩] }, 0, ⟨8, [5, 6]⟩, [], by decide +kernel⟩,
   ⟨triAt fun e => { e with sb := [⟨0x100000010, [5, 6]⟩] }, 0x100000010, 2, [5, 6], [], by decide +kernel⟩⟩

/-- The hypotheses of the clauses of `Obligations.LinkedPairsFollowR289` are met. -/
theorem witness_LinkedPairsFollowR289 :
    (∃ (s : State) (u : CoreId) (i : MInsn), ReadyPlain s u ∧ i.am ≠ 0) ∧
    (∃ (s : State) (u : CoreId) (i : MInsn) (a : Nat) (bs : List Byte), ReadyPlain s u ∧ i.am = 0 ∧ s.memCheck (coreNo
      u) (mCap i) permLoad (mAddr (s.eng (coreNo u)) i).toNat 4 4 = .ok a ∧ (s.eng (coreNo u)).sb = [] ∧ DataAt s u a 4
      bs) ∧
    (∃ (s : State) (u : CoreId) (i : MInsn) (a : Nat), ReadyPlain s u ∧ i.am = 0 ∧ s.memCheck (coreNo u) (mCap i)
      permStore (mAddr (s.eng (coreNo u)) i).toNat 4 4 = .ok a ∧ (s.eng (coreNo u)).sb = [] ∧ s.holdsResv (coreNo u) (a /
      16) = false) ∧
    (∃ (s : State) (n : VE) (i : MInsn) (a : Nat), ReadyPlain s (.seq n) ∧ i.am = 0 ∧ s.memCheck n (mCap i) permStore
      (mAddr (s.eng n) i).toNat 4 4 = .ok a ∧ (s.eng n).sb = [] ∧ s.holdsResv n (a / 16) = true ∧ s.storeErr = []) ∧
    (∃ (s : State) (_ : CoreId), s.held = false) :=
  ⟨⟨seqAt id, (.seq 0), ⟨4, 2, 1, 1, 1⟩, by decide +kernel⟩,
   ⟨seqAt id, (.seq 0), ⟨4, 2, 1, 0, 1⟩, 8, [0, 0, 0, 0], by decide +kernel, by decide +kernel, rfl, by decide +kernel,
     by decide +kernel⟩,
   ⟨seqAt id, (.seq 0), ⟨4, 2, 1, 0, 1⟩, 8, by decide +kernel, by decide +kernel, rfl, by decide +kernel,
     by decide +kernel⟩,
   ⟨{ seqAt id with resv := [⟨0, 0⟩] }, 0, ⟨4, 2, 1, 0, 1⟩, 8, by decide +kernel, by decide +kernel, rfl,
     by decide +kernel, by decide +kernel, by decide +kernel⟩,
   ⟨seqAt id, (.seq 0), by decide +kernel⟩⟩

/-- The hypotheses of clauses 1 to 11 of `Obligations.TransfersGoToTheirTargets` are met. -/
theorem witness_TransfersGoToTheirTargets_1 :
    (∃ (c : Instr) (s : State) (u : CoreId) (i : BInsn) (f : Word → Word → Bool), branchRow c = some (u, i, f) ∧
      ReadyPlain s u) ∧
    (∃ (s : State) (u : CoreId) (i : JInsn), ReadyPlain s u ∧ i.z = 0) ∧
    (∃ (s : State) (u : CoreId) (i : JInsn), ReadyPlain s u ∧ i.z = 0 ∧ (s.eng (coreNo u)).rstack.held.length < 64) ∧
    (∃ (s : State) (u : CoreId) (i : JInsn), ReadyPlain s u ∧ i.z ≠ 0) ∧
    (∃ (s : State) (u : CoreId) (i : RInsn), ReadyPlain s u ∧ i.z = 0 ∧ i.rd = 0 ∧ i.rb = 0 ∧ (s.coreReg u i.ra).toNat %
      4 ≠ 0) ∧
    (∃ (s : State) (u : CoreId) (i : RInsn), ReadyPlain s u ∧ i.z = 0 ∧ i.rd = 0 ∧ i.rb = 0 ∧ (s.coreReg u i.ra).toNat %
      4 = 0) ∧
    (∃ (s : State) (u : CoreId) (i : RInsn), ReadyPlain s u ∧ i.z = 0 ∧ i.rd = 0 ∧ i.rb = 0 ∧ (s.coreReg u i.ra).toNat %
      4 = 0 ∧ (s.eng (coreNo u)).rstack.held.length < 64) ∧
    (∃ (s : State) (u : CoreId) (i : RInsn), ReadyPlain s u ∧ i.z = 0 ∧ i.rd = 0 ∧ i.rb = 0 ∧ (s.eng (coreNo
      u)).rstack.held = [] ∧ (s.eng (coreNo u)).rstack.spilled = 0) ∧
    (∃ (s : State) (u : CoreId) (i : RInsn) (v : Word) (r : List Word), ReadyPlain s u ∧ i.z = 0 ∧ i.rd = 0 ∧ i.rb = 0 ∧
      (s.eng (coreNo u)).rstack.held = v :: r ∧ v.toNat % 4 ≠ 0) ∧
    (∃ (s : State) (u : CoreId) (i : RInsn) (v : Word) (r : List Word), ReadyPlain s u ∧ i.z = 0 ∧ i.rd = 0 ∧ i.rb = 0 ∧
      (s.eng (coreNo u)).rstack.held = v :: r ∧ v.toNat % 4 = 0) ∧
    (∃ (s : State) (u : CoreId) (i : JInsn) (k : RInsn) (p : Nat) (x : Exc), ReadyPlain s u ∧ i.z = 0 ∧ k.z = 0 ∧ k.rd =
      0 ∧ k.rb = 0 ∧ (s.coreReg u k.ra).toNat % 4 = 0 ∧ (s.eng (coreNo u)).rstack.held.length = 64 ∧ p = spillPtr (coreNo
      u) (s.eng (coreNo u)) ∧ s.spillCheck (coreNo u) permStore p = .error x) :=
  ⟨⟨.blt (.seq 0) ⟨2, 3, 8⟩, seqAt id, (.seq 0), ⟨2, 3, 8⟩, _, rfl, by decide +kernel⟩,
   ⟨seqAt id, (.seq 0), ⟨0, 16⟩, by decide +kernel⟩,
   ⟨seqAt id, (.seq 0), ⟨0, 16⟩, by decide +kernel⟩,
   ⟨seqAt id, (.seq 0), ⟨1, 16⟩, by decide +kernel⟩,
   ⟨seqAt id, (.seq 0), ⟨0, 2, 0, 0⟩, by decide +kernel⟩,
   ⟨seqAt fun e => { e with sregs := [(2, 0x40)] }, (.seq 0), ⟨0, 2, 0, 0⟩, by decide +kernel⟩,
   ⟨seqAt fun e => { e with sregs := [(2, 0x40)] }, (.seq 0), ⟨0, 2, 0, 0⟩, by decide +kernel⟩,
   ⟨seqAt id, (.seq 0), ⟨0, 2, 0, 0⟩, by decide +kernel⟩,
   ⟨seqAt fun e => { e with rstack := { held := [6] } }, (.seq 0), ⟨0, 2, 0, 0⟩, 6, [], by decide +kernel⟩,
   ⟨seqAt fun e => { e with rstack := { held := [8] } }, (.seq 0), ⟨0, 2, 0, 0⟩, 8, [], by decide +kernel⟩,
   ⟨seqAt fun e => { e with sregs := [(2, 0x40)], caps := seqCaps, rstack := { held := List.replicate 64 6 } }, (.seq
     0), ⟨0, 16⟩, ⟨0, 2, 0, 0⟩, 0, { code := 4, sub := some 1, reg := some 7, addr := some 0 }, by decide +kernel,
     by decide +kernel, by decide +kernel, by decide +kernel, by decide +kernel, by decide +kernel, by decide +kernel,
     by decide +kernel, error_of _ _ (by decide +kernel)⟩⟩

/-- The hypotheses of clauses 12 to 21 of `Obligations.TransfersGoToTheirTargets` are met. -/
theorem witness_TransfersGoToTheirTargets_2 :
    (∃ (s : State) (u : CoreId) (i : JInsn) (k : RInsn) (p : Nat) (n : VE) (a : Nat), ReadyPlain s u ∧ i.z = 0 ∧ k.z = 0
      ∧ k.rd = 0 ∧ k.rb = 0 ∧ (s.coreReg u k.ra).toNat % 4 = 0 ∧ (s.eng (coreNo u)).rstack.held.length = 64 ∧ p = spillPtr
      (coreNo u) (s.eng (coreNo u)) ∧ u = .seq n ∧ s.spillCheck n permStore p = .ok a ∧ s.storeErr = []) ∧
    (∃ (s : State) (u : CoreId) (i : RInsn) (p : Nat) (x : Exc), ReadyPlain s u ∧ i.z = 0 ∧ i.rd = 0 ∧ i.rb = 0 ∧ (s.eng
      (coreNo u)).rstack.held = [] ∧ (s.eng (coreNo u)).rstack.spilled ≠ 0 ∧ p = spillPtr (coreNo u) (s.eng (coreNo u)) -
      128 ∧ s.spillCheck (coreNo u) permLoad p = .error x) ∧
    (∃ (s : State) (u : CoreId) (i : RInsn) (p : Nat) (n : VE) (a : Nat), ReadyPlain s u ∧ i.z = 0 ∧ i.rd = 0 ∧ i.rb = 0
      ∧ (s.eng (coreNo u)).rstack.held = [] ∧ (s.eng (coreNo u)).rstack.spilled ≠ 0 ∧ p = spillPtr (coreNo u) (s.eng
      (coreNo u)) - 128 ∧ u = .seq n ∧ s.spillCheck n permLoad p = .ok a ∧ s.storeErr = [] ∧ s.stNat (a + 124) 4 % 4 = 0) ∧
    (∃ (s : State) (u : CoreId) (i : RInsn) (p : Nat) (n : VE) (a : Nat), ReadyPlain s u ∧ i.z = 0 ∧ i.rd = 0 ∧ i.rb = 0
      ∧ (s.eng (coreNo u)).rstack.held = [] ∧ (s.eng (coreNo u)).rstack.spilled ≠ 0 ∧ p = spillPtr (coreNo u) (s.eng
      (coreNo u)) - 128 ∧ u = .seq n ∧ s.spillCheck n permLoad p = .ok a ∧ s.storeErr = [] ∧ s.stNat (a + 124) 4 % 4 ≠ 0) ∧
    (∃ (s : State) (u : CoreId) (i : RInsn) (p : Nat) (n : VE) (a : Nat) (h : Nat), ReadyPlain s u ∧ i.z = 0 ∧ i.rd = 0
      ∧ i.rb = 0 ∧ (s.eng (coreNo u)).rstack.held = [] ∧ (s.eng (coreNo u)).rstack.spilled ≠ 0 ∧ p = spillPtr (coreNo u)
      (s.eng (coreNo u)) - 128 ∧ u = .seq n ∧ s.spillCheck n permLoad p = .ok a ∧ s.storeErr = [(h, some .uncorrectable)]
      ∧ a ≤ 8 * h ∧ 8 * h < a + 128) ∧
    (∃ (c : Instr) (s : State) (u : CoreId), slotless c = some u ∧ ReadyOnce s u ∧ (s.eng (coreNo u)).branch ≠ none) ∧
    (∃ (s : State) (u : CoreId) (i : RInsn), ReadyPlain s u ∧ (i.z ≠ 0 ∨ i.rd ≠ 0 ∨ i.rb ≠ 0)) ∧
    (∃ (e : Engine) (_ _ : Word) (_ : RetStack), e.mode = false) ∧
    (∃ (e : Engine) (_ _ : Word) (_ : RetStack), e.mode = true) ∧
    (∃ (e : Engine) (_ _ : Word) (_ : RetStack) (b : Branch), e.branch = some b) :=
  ⟨⟨seqAt fun e =>
     { e with sregs := [(2, 0x40)], caps := seqCaps ++ [(7, rootCap 0x4000 0x1000 3)], rstack := { held := List.replicate 64 6, ptr := 0x4000 } },
     (.seq 0), ⟨0, 16⟩, ⟨0, 2, 0, 0⟩, 0x4000, 0, 0x4000, by decide +kernel, by decide +kernel, by decide +kernel,
     by decide +kernel, by decide +kernel, by decide +kernel, by decide +kernel, by decide +kernel, by decide +kernel,
     ok_of _ _ (by decide +kernel), by decide +kernel⟩,
   ⟨seqAt fun e =>
     { e with sregs := [(2, 0x40)], caps := seqCaps, rstack := { held := [], spilled := 32, ptr := 128 } }, (.seq 0), ⟨0,
     2, 0, 0⟩, 0, { code := 4, sub := some 1, reg := some 7, addr := some 0 }, by decide +kernel, by decide +kernel,
     by decide +kernel, by decide +kernel, by decide +kernel, by decide +kernel, by decide +kernel, error_of _ _
     (by decide +kernel)⟩,
   ⟨seqAt fun e =>
     { e with sregs := [(2, 0x40)], caps := seqCaps ++ [(7, rootCap 0x4000 0x1000 3)], rstack := { held := [], spilled := 32, ptr := 0x4080 } },
     (.seq 0), ⟨0, 2, 0, 0⟩, 0x4000, 0, 0x4000, by decide +kernel, by decide +kernel, by decide +kernel,
     by decide +kernel, by decide +kernel, by decide +kernel, by decide +kernel, by decide +kernel, ok_of _ _
     (by decide +kernel), by decide +kernel, by decide +kernel⟩,
   ⟨{ (seqAt fun e => { e with sregs := [(2, 0x40)], caps := seqCaps ++ [(7, rootCap 0x4000 0x1000 3)], rstack := { held := [], spilled := 32, ptr := 0x4080 } }) with store := [(0x407C, 2)] },
     (.seq 0), ⟨0, 2, 0, 0⟩, 0x4000, 0, 0x4000, by decide +kernel, by decide +kernel, by decide +kernel,
     by decide +kernel, by decide +kernel, by decide +kernel, by decide +kernel, by decide +kernel, ok_of _ _
     (by decide +kernel), by decide +kernel, by decide +kernel⟩,
   ⟨{ (seqAt fun e => { e with sregs := [(2, 0x40)], caps := seqCaps ++ [(7, rootCap 0x4000 0x1000 3)], rstack := { held := [], spilled := 32, ptr := 0x4080 } }) with storeErr := [(2060, some .uncorrectable)] },
     (.seq 0), ⟨0, 2, 0, 0⟩, 0x4000, 0, 0x4000, 2060, by decide +kernel, by decide +kernel, by decide +kernel,
     by decide +kernel, by decide +kernel, by decide +kernel, by decide +kernel, by decide +kernel, ok_of _ _
     (by decide +kernel), by decide +kernel, by decide +kernel, by decide +kernel⟩,
   ⟨.ret (.seq 0) ⟨0, 0, 0, 0⟩, seqAt fun e => { e with branch := some ⟨0xFC, 0x200, {}⟩ }, (.seq 0), by decide +kernel⟩,
   ⟨seqAt id, (.seq 0), ⟨1, 0, 0, 0⟩, by decide +kernel⟩,
   ⟨{}, 0, 0, {}, by decide +kernel⟩,
   ⟨{ mode := true }, 0, 0, {}, by decide +kernel⟩,
   ⟨{ branch := some ⟨4, 8, {}⟩ }, 0, 0, {}, ⟨4, 8, {}⟩, by decide +kernel⟩⟩

/-- The hypotheses of clauses 1 to 7 of `Obligations.SystemInstructionsActOnTheirCore` are met. -/
theorem witness_SystemInstructionsActOnTheirCore_1 :
    (∃ (s : State) (u : CoreId) (_ : SInsn), Ready s u) ∧
    (∃ (c : Instr) (s : State) (u : CoreId) (g : Engine → Engine), plainSys c = some (u, g) ∧ ReadyOnce s u ∧ (s.eng
      (coreNo u)).sb = []) ∧
    (∃ (s : State) (u : CoreId) (i : SInsn), ReadyPlain s u ∧ i.imm.toNat < 2) ∧
    (∃ (s : State) (u : CoreId) (i : SInsn), ReadyPlain s u ∧ 2 ≤ i.imm.toNat) ∧
    (∃ (s : State) (u : CoreId) (i : SInsn), ReadyOnce s u ∧ i.rd = 0) ∧
    (∃ (s : State) (u : CoreId) (i : SInsn), ReadyOnce s u ∧ i.rd ≠ 0) ∧
    (∃ (s : State) (u : CoreId) (_ : SInsn), ReadyOnce s u) :=
  ⟨⟨seqAt id, (.seq 0), ⟨4, 2, 5⟩, by decide +kernel⟩,
   ⟨.getvl (.seq 0) ⟨4, 2, 5⟩, seqAt id, (.seq 0), _, rfl, by decide +kernel, by decide +kernel⟩,
   ⟨seqAt id, (.seq 0), ⟨4, 2, 1⟩, by decide +kernel⟩,
   ⟨seqAt id, (.seq 0), ⟨4, 2, 5⟩, by decide +kernel⟩,
   ⟨seqAt id, (.seq 0), ⟨0, 2, 5⟩, by decide +kernel⟩,
   ⟨seqAt id, (.seq 0), ⟨4, 2, 5⟩, by decide +kernel⟩,
   ⟨seqAt id, (.seq 0), ⟨4, 2, 5⟩, by decide +kernel⟩⟩

/-- The hypotheses of clauses 8 to 13 of `Obligations.SystemInstructionsActOnTheirCore` are met. -/
theorem witness_SystemInstructionsActOnTheirCore_2 :
    (∃ (s : State) (n : VE) (i : SInsn), ReadyOnce s (.seq n) ∧ i.imm.toNat % 4 = 0 ∧ i.imm.toNat ≤ 0xFC) ∧
    (∃ (s : State) (n : VE) (i : SInsn), ReadyOnce s (.seq n) ∧ (i.imm.toNat % 4 ≠ 0 ∨ 0xFC < i.imm.toNat)) ∧
    (∃ (s : State) (n : VE) (i : SInsn), ReadyOnce s (.seq n) ∧ i.imm = 0x04C ∧ (s.eng n).grants permSys = true) ∧
    (∃ (s : State) (n : VE) (i : SInsn), ReadyOnce s (.seq n) ∧ i.imm = 0x04C ∧ (s.eng n).grants permSys = false) ∧
    (∃ (s : State) (n : VE) (i : SInsn), ReadyOnce s (.seq n) ∧ i.imm ≠ 0x04C) ∧
    (∃ (s : State) (_ : SInsn), ReadyOnce s .triad) :=
  ⟨⟨seqAt id, 0, ⟨4, 2, 8⟩, by decide +kernel⟩,
   ⟨seqAt id, 0, ⟨4, 2, 5⟩, by decide +kernel⟩,
   ⟨seqAt id, 0, ⟨4, 2, 0x4C⟩, by decide +kernel⟩,
   ⟨seqAt fun e => { e with caps := [(0, rootCap 0 0x1FFF0000 4)] }, 0, ⟨4, 2, 0x4C⟩, by decide +kernel⟩,
   ⟨seqAt id, 0, ⟨4, 2, 5⟩, by decide +kernel⟩,
   ⟨triAt id, ⟨4, 2, 5⟩, by decide +kernel⟩⟩

/-- The hypotheses of the clauses of `Obligations.FendTrapAndReleaseFollowTheSpec` are met. -/
theorem witness_FendTrapAndReleaseFollowTheSpec :
    (∃ (s : State) (n : VE) (_ : SInsn) (cc : BitVec 16), ReadyPlain s (.seq n) ∧ (s.eng n).sb = [] ∧ (s.eng n).helda =
      none ∧ cc.toNat < s.budgetW) ∧
    (∃ (s : State) (n : VE) (_ : SInsn) (cc : BitVec 16), ReadyPlain s (.seq n) ∧ (s.eng n).sb = [] ∧ (s.eng n).helda =
      none ∧ s.budgetW ≤ cc.toNat) ∧
    (∃ (s : State) (_ : SInsn) (_ : BitVec 16), ReadyPlain s .triad ∧ s.tri.sb = [] ∧ s.tri.helda = none) ∧
    (∃ (s : State) (u : CoreId) (_ : SInsn), ReadyPlain s u) ∧
    (∃ (s : State) (u : CoreId) (_ : SInsn), ReadyPlain s u ∧ (s.eng (coreNo u)).sb = [] ∧ s.attached (coreNo u) =
      false) ∧
    (∃ (s : State) (u : CoreId) (_ : SInsn), ReadyPlain s u ∧ (s.eng (coreNo u)).sb = [] ∧ s.attached (coreNo u) = true) ∧
    (∃ (s : State) (u : CoreId) (_ : SInsn), ReadyOnce s u ∧ (s.eng (coreNo u)).grants permSys = true) ∧
    (∃ (s : State) (u : CoreId) (_ : SInsn), ReadyOnce s u ∧ (s.eng (coreNo u)).grants permSys = false) :=
  ⟨⟨devOn (seqAt id) [(Rg.FT_CFG_M, 100)], 0, ⟨4, 2, 5⟩, 50, by decide +kernel⟩,
   ⟨seqAt id, 0, ⟨4, 2, 5⟩, 0xFFFF, by decide +kernel⟩,
   ⟨triAt id, ⟨4, 2, 5⟩, 0, by decide +kernel⟩,
   ⟨seqAt id, (.seq 0), ⟨4, 2, 5⟩, by decide +kernel⟩,
   ⟨seqAt id, (.seq 0), ⟨4, 2, 5⟩, by decide +kernel⟩,
   ⟨devOn (seqAt id) [(Rg.DBG_CTRL_ATTACH 0, 1)], (.seq 0), ⟨4, 2, 5⟩, by decide +kernel⟩,
   ⟨seqAt id, (.seq 0), ⟨4, 2, 5⟩, by decide +kernel⟩,
   ⟨seqAt fun e => { e with caps := [(0, rootCap 0 0x1FFF0000 4)] }, (.seq 0), ⟨4, 2, 5⟩, by decide +kernel⟩⟩

/-- The hypotheses of the clauses of `Obligations.PrefixesAndCacheFillsFollowR273` are met. -/
theorem witness_PrefixesAndCacheFillsFollowR273 :
    (∃ (s : State) (u : CoreId) (i : PInsn) (c : Nat), ReadyPlain s u ∧ i.next = true ∧ i.z = 0 ∧ (i.reg = true →
      i.count.toNat < 32) ∧ c = (if (s.eng (coreNo u)).repAct then (s.eng (coreNo u)).repCnt else if i.reg then ((s.eng
      (coreNo u)).sreg (i.count.toNat % 32)).toNat % 65536 else i.count.toNat) ∧ c = 0) ∧
    (∃ (s : State) (u : CoreId) (i : PInsn) (c : Nat), ReadyPlain s u ∧ i.next = true ∧ i.z = 0 ∧ (i.reg = true →
      i.count.toNat < 32) ∧ c = (if (s.eng (coreNo u)).repAct then (s.eng (coreNo u)).repCnt else if i.reg then ((s.eng
      (coreNo u)).sreg (i.count.toNat % 32)).toNat % 65536 else i.count.toNat) ∧ c ≠ 0) ∧
    (∃ (s : State) (u : CoreId) (i : PInsn), ReadyPlain s u ∧ (i.next = false ∨ i.z ≠ 0 ∨ (i.reg = true ∧ 32 ≤
      i.count.toNat))) ∧
    (∃ (e : Engine) (_ : Word) (r : Rep), e.branch = none ∧ e.rep = some r ∧ 1 < r.left) ∧
    (∃ (e : Engine) (_ : Word) (r : Rep), e.branch = none ∧ e.rep = some r ∧ r.left ≤ 1) ∧
    (∃ (e : Engine) (_ : Word) (r : Rep), e.branch = none ∧ e.rep = some r ∧ r.left ≤ 1 ∧ r.inter = false) ∧
    (∃ (s : State) (u : CoreId) (f : Form) (_ : Bool) (_ : List Nat) (_ : State → Nat → SRes), (s.eng (coreNo u)).rep ≠
      none ∧ f.rept = false) ∧
    (∃ (s : State) (u : CoreId), Ready s u) ∧
    (∃ (s : State) (n : VE), s.mayIssue n = true ∧ s.pcAddr n % 4 = 0 ∧ ((s.eng n).cap 0).unusable permExec (s.pcAddr n)
      4 = none ∧ s.pcAddr n / 64 * 64 + 64 ≤ storeTop ∧ s.storeErr = [] ∧ (s.eng n).lineBuf ≠ some (s.pcAddr n / 64) ∧
      (s.eng n).lines = []) ∧
    (∃ (s : State) (u : CoreId) (i : SInsn), ReadyOnce s u ∧ (∀ k d, k ≤ i.imm.toNat % 512 → Tab.get (s.eng (coreNo
      u)).lines ((((s.eng (coreNo u)).cap 0).addr (s.coreReg u i.ra).toNat / 64 + k) % 512) d = ((s.eng (coreNo u)).cap
      0).addr (s.coreReg u i.ra).toNat / 64 + k)) :=
  ⟨⟨seqAt id, (.seq 0), ⟨false, 0, 0, true⟩, 0, by decide +kernel⟩,
   ⟨seqAt id, (.seq 0), ⟨false, 3, 0, true⟩, 3, by decide +kernel⟩,
   ⟨seqAt id, (.seq 0), ⟨false, 3, 0, false⟩, by decide +kernel⟩,
   ⟨{ rep := some ⟨8, 3, false⟩ }, 12, ⟨8, 3, false⟩, by decide +kernel⟩,
   ⟨{ rep := some ⟨8, 1, false⟩ }, 12, ⟨8, 1, false⟩, by decide +kernel⟩,
   ⟨{ rep := some ⟨8, 1, false⟩, locked := true }, 12, ⟨8, 1, false⟩, by decide +kernel⟩,
   ⟨seqAt fun e => { e with rep := some ⟨8, 3, false⟩ }, (.seq 0), {}, false, [], fun s _ => .done s, by decide +kernel⟩,
   ⟨seqAt id, (.seq 0), by decide +kernel⟩,
   ⟨seqAt fun e => { e with lineBuf := none }, 0, by decide +kernel⟩,
   ⟨seqAt fun e => { e with lines := [(0, 0)] }, (.seq 0), ⟨0, 2, 0⟩, by decide +kernel,
     by intro k d h; have e : (0 : BitVec 12).toNat % 512 = 0 := (by decide); have h := Nat.le_trans h (Nat.le_of_eq e); obtain rfl := Nat.le_zero.mp h; exact Eq.trans (congrArg (fun z => Tab.get _ z d) (by decide +kernel : _ = 0)) (Eq.trans rfl (by decide +kernel : 0 = _))⟩⟩

/-- The hypotheses of clauses 1 to 7 of `Obligations.CapabilityInstructionsNarrowAuthority` are met. -/
theorem witness_CapabilityInstructionsNarrowAuthority_1 :
    (∃ (c : Instr) (s : State) (u : CoreId) (i : RInsn) (ok : Bool) (g : Engine → Engine), capRow c = some (u, i, ok, g)
      ∧ ReadyOnce s u ∧ i.z = 0 ∧ ok = true) ∧
    (∃ (c : Instr) (s : State) (u : CoreId) (i : RInsn) (ok : Bool) (g : Engine → Engine), capRow c = some (u, i, ok, g)
      ∧ ReadyOnce s u ∧ (i.z ≠ 0 ∨ ok = false)) ∧
    (∃ (s : State) (u : CoreId) (i : RInsn) (a : Cap), ReadyOnce s u ∧ i.z = 0 ∧ i.rd.toNat < 8 ∧ i.ra.toNat < 8 ∧ a =
      (s.eng (coreNo u)).cap i.ra.toNat ∧ a.tag = false) ∧
    (∃ (s : State) (u : CoreId) (i : RInsn) (a : Cap), ReadyOnce s u ∧ i.z = 0 ∧ i.rd.toNat < 8 ∧ i.ra.toNat < 8 ∧ a =
      (s.eng (coreNo u)).cap i.ra.toNat ∧ a.tag = false ∧ i.rb.getLsbD 0 = false) ∧
    (∃ (s : State) (u : CoreId) (i : RInsn) (a : Cap), ReadyOnce s u ∧ i.z = 0 ∧ i.rd.toNat < 8 ∧ i.ra.toNat < 8 ∧ a =
      (s.eng (coreNo u)).cap i.ra.toNat ∧ a.tag = false ∧ i.rb.toNat < 8) ∧
    (∃ (s : State) (u : CoreId) (i : RInsn) (a : Cap), ReadyOnce s u ∧ i.z = 0 ∧ i.rd.toNat < 8 ∧ i.ra.toNat < 8 ∧ a =
      (s.eng (coreNo u)).cap i.ra.toNat ∧ a.tag = true ∧ a.sealed = false) ∧
    (∃ (s : State) (u : CoreId) (i : RInsn) (a : Cap) (lo hi : Word), ReadyOnce s u ∧ i.z = 0 ∧ i.rd.toNat < 8 ∧
      i.ra.toNat < 8 ∧ a = (s.eng (coreNo u)).cap i.ra.toNat ∧ a.tag = true ∧ a.sealed = false ∧ i.rb.getLsbD 0 = false ∧
      lo = s.coreReg u i.rb ∧ hi = (s.eng (coreNo u)).sreg (i.rb.toNat + 1) ∧ (hi.toNat < lo.toNat ∨ a.addr lo.toNat <
      a.base ∨ a.base + a.len < a.addr lo.toNat + (hi.toNat + 1 - lo.toNat))) :=
  ⟨⟨.cget (.seq 0) ⟨1, 2, 3, 0⟩, seqAt id, (.seq 0), ⟨1, 2, 3, 0⟩, true, _, rfl, by decide +kernel, by decide +kernel,
     by decide +kernel⟩,
   ⟨.cclr (.seq 0) ⟨9, 2, 3, 0⟩, seqAt id, (.seq 0), ⟨9, 2, 3, 0⟩, false, _, rfl, by decide +kernel, by decide +kernel⟩,
   ⟨seqAt id, (.seq 0), ⟨1, 2, 3, 0⟩, ⟨false, 0⟩, by decide +kernel⟩,
   ⟨seqAt id, (.seq 0), ⟨1, 2, 4, 0⟩, ⟨false, 0⟩, by decide +kernel⟩,
   ⟨seqAt id, (.seq 0), ⟨1, 2, 3, 0⟩, ⟨false, 0⟩, by decide +kernel⟩,
   ⟨seqAt id, (.seq 0), ⟨1, 6, 3, 0⟩, rootCap 0 0x1FFF0000 3, by decide +kernel⟩,
   ⟨seqAt id, (.seq 0), ⟨1, 6, 2, 0⟩, rootCap 0 0x1FFF0000 3, 7, 5, by decide +kernel⟩⟩

/-- The hypotheses of clauses 8 to 13 of `Obligations.CapabilityInstructionsNarrowAuthority` are met. -/
theorem witness_CapabilityInstructionsNarrowAuthority_2 :
    (∃ (s : State) (u : CoreId) (i : RInsn) (a : Cap) (lo hi : Word), ReadyOnce s u ∧ i.z = 0 ∧ i.rd.toNat < 8 ∧
      i.ra.toNat < 8 ∧ a = (s.eng (coreNo u)).cap i.ra.toNat ∧ a.tag = true ∧ a.sealed = false ∧ i.rb.getLsbD 0 = false ∧
      lo = s.coreReg u i.rb ∧ hi = (s.eng (coreNo u)).sreg (i.rb.toNat + 1) ∧ lo.toNat ≤ hi.toNat ∧ a.base ≤ a.addr
      lo.toNat ∧ a.addr lo.toNat + (hi.toNat + 1 - lo.toNat) ≤ a.base + a.len) ∧
    (∃ (s : State) (u : CoreId) (i : RInsn) (a : Cap), ReadyOnce s u ∧ i.z = 0 ∧ i.rd.toNat < 8 ∧ i.ra.toNat < 8 ∧ a =
      (s.eng (coreNo u)).cap i.ra.toNat ∧ a.tag = true ∧ a.sealed = false ∧ a.seals = true ∧ a.otype = 0 ∧ (s.coreReg u
      i.rb).toNat % 256 ≠ 0) ∧
    (∃ (s : State) (u : CoreId) (i : RInsn) (a : Cap), ReadyOnce s u ∧ i.z = 0 ∧ i.rd.toNat < 8 ∧ i.ra.toNat < 8 ∧ a =
      (s.eng (coreNo u)).cap i.ra.toNat ∧ a.tag = true ∧ a.sealed = false ∧ (a.seals = false ∨ a.otype ≠ 0 ∨ (s.coreReg u
      i.rb).toNat % 256 = 0)) ∧
    (∃ (s : State) (u : CoreId) (i : RInsn) (a b : Cap), ReadyOnce s u ∧ i.z = 0 ∧ i.rd.toNat < 8 ∧ i.ra.toNat < 8 ∧
      i.rb.toNat < 8 ∧ a = (s.eng (coreNo u)).cap i.ra.toNat ∧ b = (s.eng (coreNo u)).cap i.rb.toNat ∧ a.tag = true ∧
      b.tag = true ∧ b.sealed = false ∧ a.sealed = false ∧ a.seals = false ∧ b.holds permSeal = true ∧ b.otype ≠ 0) ∧
    (∃ (s : State) (u : CoreId) (i : RInsn) (a b : Cap), ReadyOnce s u ∧ i.z = 0 ∧ i.rd.toNat < 8 ∧ i.ra.toNat < 8 ∧
      i.rb.toNat < 8 ∧ a = (s.eng (coreNo u)).cap i.ra.toNat ∧ b = (s.eng (coreNo u)).cap i.rb.toNat ∧ a.tag = true ∧
      b.tag = true ∧ b.sealed = false ∧ a.sealed = true ∧ b.holds permUnseal = true ∧ b.otype = a.otype) ∧
    (∃ (s : State) (u : CoreId) (i : RInsn) (a b : Cap), ReadyOnce s u ∧ i.z = 0 ∧ i.rd.toNat < 8 ∧ i.ra.toNat < 8 ∧
      i.rb.toNat < 8 ∧ a = (s.eng (coreNo u)).cap i.ra.toNat ∧ b = (s.eng (coreNo u)).cap i.rb.toNat ∧ a.tag = true ∧
      b.tag = true ∧ b.sealed = false ∧ a.sealed = true ∧ b.holds permUnseal = true ∧ b.otype ≠ a.otype) :=
  ⟨⟨seqAt id, (.seq 0), ⟨1, 6, 4, 0⟩, rootCap 0 0x1FFF0000 3, 0, 0, by decide +kernel⟩,
   ⟨seqAt fun e => { e with caps := (0, rootCap 0 0x1FFF0000 0x3F9F) :: [(2, rootCap 0 0 0x60)] }, (.seq 0), ⟨1, 2, 3,
     0⟩, rootCap 0 0 0x60, by decide +kernel⟩,
   ⟨seqAt id, (.seq 0), ⟨1, 6, 3, 0⟩, rootCap 0 0x1FFF0000 3, by decide +kernel⟩,
   ⟨seqAt fun e =>
     { e with caps := (0, rootCap 0 0x1FFF0000 0x3F9F) :: [(2, rootCap 0 64 3), (3, Cap.make 0 0 0x60 5 false 0)] }, (.seq
     0), ⟨1, 2, 3, 0⟩, rootCap 0 64 3, Cap.make 0 0 0x60 5 false 0, by decide +kernel⟩,
   ⟨seqAt fun e =>
     { e with caps := (0, rootCap 0 0x1FFF0000 0x3F9F) :: [(2, Cap.make 0 64 3 5 true 0), (3, Cap.make 0 0 0x60 5 false 0)] },
     (.seq 0), ⟨1, 2, 3, 0⟩, Cap.make 0 64 3 5 true 0, Cap.make 0 0 0x60 5 false 0, by decide +kernel⟩,
   ⟨seqAt fun e =>
     { e with caps := (0, rootCap 0 0x1FFF0000 0x3F9F) :: [(2, Cap.make 0 64 3 4 true 0), (3, Cap.make 0 0 0x60 5 false 0)] },
     (.seq 0), ⟨1, 2, 3, 0⟩, Cap.make 0 64 3 4 true 0, Cap.make 0 0 0x60 5 false 0, by decide +kernel⟩⟩

/-- The hypotheses of the clauses of `Obligations.VectorRowsJoinTheirAccord` are met. -/
theorem witness_VectorRowsJoinTheirAccord :
    (∃ (c : Instr) (s : State) (n : VE) (o : VOp) (f : VFields), vecRow c = some (n, o, f) ∧ VReady s n ∧ f.chain =
      true) ∧
    (∃ (c : Instr) (s : State) (n : VE) (o : VOp) (f : VFields), vecRow c = some (n, o, f) ∧ VReady s n ∧ f.chain =
      false) :=
  ⟨⟨.vAdd 0 ⟨true, 0, 4, 0, 0, 2, 3, 0, 5, 0, true, false, 7⟩, seqAt id, 0, .add, ⟨true, 0, 4, 0, 0, 2, 3, 0, 5, 0,
     true, false, 7⟩, by decide +kernel⟩,
   ⟨.vAdd 0 ⟨false, 0, 4, 0, 0, 2, 3, 0, 5, 0, true, false, 7⟩, seqAt id, 0, .add, ⟨false, 0, 4, 0, 0, 2, 3, 0, 5, 0,
     true, false, 7⟩, by decide +kernel⟩⟩

/-- The hypotheses of the clauses of `Obligations.AccordsBeginAndFinish` are met. -/
theorem witness_AccordsBeginAndFinish :
    (∃ (s : State) (n : VE), s.held = false ∧ ((s.eng n).wait = none ∨ (s.eng n).exe.isSome = true ∨ s.excDue n = true ∨
      (s.eng n).vfBusy = true ∨ (s.eng n).helda.isSome = true)) ∧
    (∃ (s : State) (n : VE) (a : Accord), MayBegin s n a ∧ (s.issueFault n (fun d => Tab.get (s.eng n).descs d 0) (s.eng
      n).vl.toNat a = none) ∧ (∀ v ∈ a.insns, v.op = .ld → dQueue ((s.eng n).desc (v.f.dreg.toNat % 16)) = false)) ∧
    (∃ (s : State) (n : VE) (a : Accord) (v : VInsn) (q : Nat), MayBegin s n a ∧ (s.issueFault n (fun d => Tab.get
      (s.eng n).descs d 0) (s.eng n).vl.toNat a = none) ∧ 0 < (s.eng n).vl.toNat ∧ a.insns = [v] ∧ v.op = .ld ∧ dQueue
      ((s.eng n).desc (v.f.dreg.toNat % 16)) = true ∧ q = dBase ((s.eng n).desc (v.f.dreg.toNat % 16)) % 8192 ∧ PtrsGood s
      q ∧ (s.q q).ready = []) ∧
    (∃ (s : State) (n : VE) (a : Accord) (v : VInsn) (q : Nat) (k : Nat), MayBegin s n a ∧ (s.issueFault n (fun d =>
      Tab.get (s.eng n).descs d 0) (s.eng n).vl.toNat a = none) ∧ 0 < (s.eng n).vl.toNat ∧ a.insns = [v] ∧ v.op = .ld ∧
      dQueue ((s.eng n).desc (v.f.dreg.toNat % 16)) = true ∧ q = dBase ((s.eng n).desc (v.f.dreg.toNat % 16)) % 8192 ∧
      PtrsGood s q ∧ (s.q q).items = [⟨k, true, false⟩] ∧ 8 * k ≤ (s.eng n).vl.toNat * ((vty v).getD .u32).size ∧
      s.storeErr = []) ∧
    (∃ (s : State) (n : VE) (a : Accord) (cause : Nat) (k : Nat), MayBegin s n a ∧ (s.issueFault n (fun d => Tab.get
      (s.eng n).descs d 0) (s.eng n).vl.toNat a = some (cause, k)) ∧ cause < 16 ∧ k < 8) ∧
    (∃ (s : State) (n : VE), s.held = false ∧ (s.eng n).exe = none) ∧
    (∃ (s : State) (n : VE) (a : Accord) (ds : Tab QWord), s.held = false ∧ (s.eng n).exe = some (begunExec a 0 ds)) ∧
    (∃ (s : State) (n : VE) (v : VInsn) (ds : Tab QWord) (vl : Nat), s.held = false ∧ v.op = .mfill ∧ v.f.mask = 0 ∧ 1 ≤
      v.f.dreg.toNat ∧ v.f.dreg.toNat ≤ 7 ∧ 0 < vl ∧ vl ≤ 65536 ∧ (s.eng n).stErr = [] ∧ (s.eng n).exe = some (begunExec
      ⟨[v], false⟩ vl ds)) :=
  ⟨⟨State.reset, 0, by decide +kernel⟩,
   ⟨seqAt fun e =>
     { e with vl := 5, wait := some ⟨[⟨.mfill, ⟨false, 0, 1, 0, 0, 0, 0, 1, 2, 0, false, false, 7⟩, 0, 0, 0, 0x100⟩], false⟩ },
     0, ⟨[⟨.mfill, ⟨false, 0, 1, 0, 0, 0, 0, 1, 2, 0, false, false, 7⟩, 0, 0, 0, 0x100⟩], false⟩, by decide +kernel⟩,
   ⟨devOn
     { (seqAt fun e => { e with vl := 8, descs := [(3, (1 : QWord) <<< 60 ||| (1 : QWord) <<< 32 ||| (5 : QWord) <<< 56 ||| 20)], wait := some ⟨[⟨.ld, ⟨false, 0, 5, 0, 0, 0, 0, 0, 3, 0, false, false, 9⟩, 0, 0, 0, 0x100⟩], false⟩ }) with queues := [(20, { alloc := 4, items := [] })] }
     [(Rg.Q_CFG_ENABLE 20, 1), (Rg.Q_BASE 20, 4096)], 0, ⟨[⟨.ld, ⟨false, 0, 5, 0, 0, 0, 0, 0, 3, 0, false, false, 9⟩, 0,
     0, 0, 0x100⟩], false⟩, ⟨.ld, ⟨false, 0, 5, 0, 0, 0, 0, 0, 3, 0, false, false, 9⟩, 0, 0, 0, 0x100⟩, 20,
     by decide +kernel⟩,
   ⟨devOn
     { (seqAt fun e => { e with vl := 8, descs := [(3, (1 : QWord) <<< 60 ||| (1 : QWord) <<< 32 ||| (5 : QWord) <<< 56 ||| 20)], wait := some ⟨[⟨.ld, ⟨false, 0, 5, 0, 0, 0, 0, 0, 3, 0, false, false, 9⟩, 0, 0, 0, 0x100⟩], false⟩ }) with queues := [(20, { alloc := 4, items := [⟨3, true, false⟩] })] }
     [(Rg.Q_CFG_ENABLE 20, 1), (Rg.Q_BASE 20, 4096)], 0, ⟨[⟨.ld, ⟨false, 0, 5, 0, 0, 0, 0, 0, 3, 0, false, false, 9⟩, 0,
     0, 0, 0x100⟩], false⟩, ⟨.ld, ⟨false, 0, 5, 0, 0, 0, 0, 0, 3, 0, false, false, 9⟩, 0, 0, 0, 0x100⟩, 20, 3,
     by decide +kernel⟩,
   ⟨seqAt fun e =>
     { e with vl := 0x20000, wait := some ⟨[⟨.mfill, ⟨false, 0, 1, 0, 0, 0, 0, 1, 2, 0, false, false, 7⟩, 0, 0, 0, 0x100⟩], false⟩ },
     0, ⟨[⟨.mfill, ⟨false, 0, 1, 0, 0, 0, 0, 1, 2, 0, false, false, 7⟩, 0, 0, 0, 0x100⟩], false⟩, 2, 0, by decide +kernel⟩,
   ⟨State.reset, 0, by decide +kernel⟩,
   ⟨seqAt fun e =>
     { e with exe := some (begunExec ⟨[⟨.mfill, ⟨false, 0, 1, 0, 0, 0, 0, 1, 2, 0, false, false, 7⟩, 0, 0, 0, 0x100⟩], false⟩ 0 []) },
     0, ⟨[⟨.mfill, ⟨false, 0, 1, 0, 0, 0, 0, 1, 2, 0, false, false, 7⟩, 0, 0, 0, 0x100⟩], false⟩, [], by decide +kernel⟩,
   ⟨seqAt fun e =>
     { e with exe := some (begunExec ⟨[⟨.mfill, ⟨false, 0, 1, 0, 0, 0, 0, 1, 2, 0, false, false, 7⟩, 0, 0, 0, 0x100⟩], false⟩ 3 []) },
     0, ⟨.mfill, ⟨false, 0, 1, 0, 0, 0, 0, 1, 2, 0, false, false, 7⟩, 0, 0, 0, 0x100⟩, [], 3, by decide +kernel⟩⟩

/-- The hypotheses of the clauses of `Obligations.StreamingStopsAndAllocates` are met. -/
theorem witness_StreamingStopsAndAllocates :
    (∃ (s : State) (n : VE), s.held = false ∧ s.accordFaults n = false) ∧
    (∃ (s : State) (n : VE) (u : EngUpset), s.held = false ∧ (s.engUpset n u).accordFaults n = false) ∧
    (∃ (s : State) (n : VE) (x : Exec) (f : Found), s.held = false ∧ (s.eng n).exe = some x ∧ x.attempt ≤ 3 ∧ x.pos <
      x.vl ∧ f ∈ ((s.run x).elem n).faults) ∧
    (∃ (s : State) (n : VE) (x : Exec) (v : VInsn) (vs : List VInsn) (cause : Nat), s.held = false ∧ (s.eng n).exe =
      some x ∧ x.attempt ≤ 3 ∧ x.pos = 0 ∧ 0 < x.vl ∧ x.rdc = [] ∧ x.acc.insns = v :: vs ∧ FirstStops s n x v cause) ∧
    (∃ (s : State) (n : VE) (v : VInsn) (ds : Tab QWord) (vl a : Nat) (off ovl : Bool) (x : Exec) (cause : Nat), s.held
      = false ∧ x = { begunExec ⟨[v], false⟩ vl ds with attempt := a, off := off, overlap := ovl } ∧ (s.eng n).exe = some
      x ∧ a ≤ 3 ∧ 0 < vl ∧ (s.storeErr = [] ∧ (∀ e ∈ (s.eng n).stErr, e.2 = false) ∨ cause = 9 ∨ cause = 7 ∧ (∀ e ∈ (s.eng
      n).stErr, e.2 = false)) ∧ FirstStops s n x v cause) ∧
    (∃ (s : State) (n : VE) (_ : Option Bool), s.held = false ∧ (∀ x, (s.eng n).exe = some x → storeQueue x = none)) ∧
    (∃ (s : State) (n : VE) (v : VInsn) (y : ElemTy) (x : Exec) (ovl : Bool) (vl p e q w : Nat) (es : List Nat), s.held
      = false ∧ v.op = .st ∧ v.f.src1 = 7 ∧ vty v = some y ∧ y.isIntQ = true ∧ y.isQ = false ∧ x =
      { begunExec ⟨[v], false⟩ vl x.descs with pos := p, qelems := e, overlap := ovl } ∧ (s.eng n).exe = some x ∧ dQueue
      (vdesc x.desc v) = true ∧ dBase (vdesc x.desc v) % 8192 = q ∧ w = s.itemWords q ∧ (∀ g ∈ (s.eng n).stErr, g.2 =
      false) ∧ es = (s.activeFrom n v.f.mask p vl).take (8 * w / y.size) ∧ es.length = 8 * w / y.size ∧ PtrsGood s q ∧
      RingGood s q ∧ s.storeErr = [] ∧ s.qOn q = true ∧ s.qFits q w = true) ∧
    (∃ (s : State) (n : VE) (v : VInsn) (y : ElemTy) (x : Exec) (ovl : Bool) (vl p e q w : Nat) (es : List Nat), s.held
      = false ∧ v.op = .st ∧ v.f.src1 = 7 ∧ vty v = some y ∧ y.isIntQ = true ∧ y.isQ = false ∧ x =
      { begunExec ⟨[v], false⟩ vl x.descs with pos := p, qelems := e, overlap := ovl } ∧ (s.eng n).exe = some x ∧ dQueue
      (vdesc x.desc v) = true ∧ dBase (vdesc x.desc v) % 8192 = q ∧ w = s.itemWords q ∧ (∀ g ∈ (s.eng n).stErr, g.2 =
      false) ∧ es = (s.activeFrom n v.f.mask p vl).take (8 * w / y.size) ∧ es.length = 8 * w / y.size ∧ PtrsGood s q ∧
      s.qFits q w = false) :=
  ⟨⟨State.reset, 0, by decide +kernel⟩,
   ⟨State.reset, 0, .mask 3 0 .single, by decide +kernel⟩,
   ⟨seqAt fun e =>
     { e with exe := some (begunExec ⟨[⟨.mfill, ⟨false, 0, 1, 0, 3, 0, 0, 1, 2, 0, false, false, 7⟩, 0, 0, 0, 0x100⟩], false⟩ 4 []), stErr := [(3072, true)] },
     0, (begunExec ⟨[⟨.mfill, ⟨false, 0, 1, 0, 3, 0, 0, 1, 2, 0, false, false, 7⟩, 0, 0, 0, 0x100⟩], false⟩ 4 []), ⟨9, 0,
     0, 0⟩, by decide +kernel⟩,
   ⟨seqAt fun e =>
     { e with exe := some (begunExec ⟨[⟨.div, ⟨false, 3, 4, 0, 0, 7, 6, 0, 0, 0, false, true, 0⟩, 7, 5, 0, 0x100⟩, ⟨.mfill, ⟨false, 0, 1, 0, 3, 0, 0, 1, 2, 0, false, false, 7⟩, 0, 0, 0, 0x100⟩], false⟩ 4 []) },
     0, (begunExec ⟨[⟨.div, ⟨false, 3, 4, 0, 0, 7, 6, 0, 0, 0, false, true, 0⟩, 7, 5, 0, 0x100⟩, ⟨.mfill, ⟨false, 0, 1, 0,
     3, 0, 0, 1, 2, 0, false, false, 7⟩, 0, 0, 0, 0x100⟩], false⟩ 4 []), ⟨.div, ⟨false, 3, 4, 0, 0, 7, 6, 0, 0, 0, false,
     true, 0⟩, 7, 5, 0, 0x100⟩, [⟨.mfill, ⟨false, 0, 1, 0, 3, 0, 0, 1, 2, 0, false, false, 7⟩, 0, 0, 0, 0x100⟩], 6,
     by decide +kernel, by decide +kernel, by decide +kernel, by decide +kernel, by decide +kernel, by decide +kernel,
     by decide +kernel, (by unfold FirstStops; decide +kernel)⟩,
   ⟨seqAt fun e =>
     { e with exe := some (begunExec ⟨[⟨.div, ⟨false, 3, 4, 0, 0, 7, 6, 0, 0, 0, false, true, 0⟩, 7, 5, 0, 0x100⟩], false⟩ 4 []) },
     0, ⟨.div, ⟨false, 3, 4, 0, 0, 7, 6, 0, 0, 0, false, true, 0⟩, 7, 5, 0, 0x100⟩, [], 4, 1, false, false, (begunExec
     ⟨[⟨.div, ⟨false, 3, 4, 0, 0, 7, 6, 0, 0, 0, false, true, 0⟩, 7, 5, 0, 0x100⟩], false⟩ 4 []), 6, by decide +kernel,
     rfl, by decide +kernel, by decide +kernel, by decide +kernel, Or.inl ⟨rfl, by decide⟩,
     (by unfold FirstStops; decide +kernel)⟩,
   ⟨State.reset, 0, none, by decide +kernel⟩,
   ⟨devOn (seqAt fun e =>
     { e with exe := some (begunExec ⟨[⟨.st, ⟨false, 0, 5, 0, 0, 7, 0, 0, 3, 0, false, false, 9⟩, 0, 0, 0, 0x100⟩], false⟩ 3 [(3, (1 : QWord) <<< 60 ||| 20)]) })
     [(Rg.Q_CFG_ENABLE 20, 1), (Rg.Q_CFG_ITEM_WORDS 20, 1), (Rg.Q_BASE 20, 4096)], 0, ⟨.st, ⟨false, 0, 5, 0, 0, 7, 0, 0,
     3, 0, false, false, 9⟩, 0, 0, 0, 0x100⟩, .u32, begunExec ⟨[⟨.st, ⟨false, 0, 5, 0, 0, 7, 0, 0, 3, 0, false, false, 9⟩,
     0, 0, 0, 0x100⟩], false⟩ 3 [(3, (1 : QWord) <<< 60 ||| 20)], false, 3, 0, 0, 20, 1, [0, 1], by decide +kernel⟩,
   ⟨{ (devOn (seqAt fun e => { e with exe := some (begunExec ⟨[⟨.st, ⟨false, 0, 5, 0, 0, 7, 0, 0, 3, 0, false, false, 9⟩, 0, 0, 0, 0x100⟩], false⟩ 3 [(3, (1 : QWord) <<< 60 ||| 20)]) }) [(Rg.Q_CFG_ITEM_WORDS 20, 1), (Rg.Q_CFG_SIZE_LOG2 20, 12)]) with queues := [(20, { alloc := 512, items := [⟨511, true, false⟩] })] },
     0, ⟨.st, ⟨false, 0, 5, 0, 0, 7, 0, 0, 3, 0, false, false, 9⟩, 0, 0, 0, 0x100⟩, .u32, begunExec ⟨[⟨.st, ⟨false, 0, 5,
     0, 0, 7, 0, 0, 3, 0, false, false, 9⟩, 0, 0, 0, 0x100⟩], false⟩ 3 [(3, (1 : QWord) <<< 60 ||| 20)], false, 3, 0, 0,
     20, 1, [0, 1], by decide +kernel⟩⟩

/-- The hypotheses of the clauses of `Obligations.ElementArithmeticFollowsR144` are met. -/
theorem witness_ElementArithmeticFollowsR144 :
    (∃ (t : ElemTy) (x : Int) (_ : Bool), t.isIntQ = true ∧ t.rmin ≤ x ∧ x ≤ t.rmax) ∧
    (∃ (t : ElemTy) (x : Int) (sat : Bool), t.isIntQ = true ∧ x < t.rmin ∧ (sat || t.isQ) = true) ∧
    (∃ (t : ElemTy) (x : Int) (sat : Bool), t.isIntQ = true ∧ t.rmax < x ∧ (sat || t.isQ) = true) ∧
    (∃ (t : ElemTy) (x : Int) (sat : Bool), t.isIntQ = true ∧ (x < t.rmin ∨ t.rmax < x) ∧ (sat || t.isQ) = false) ∧
    (∃ (t _ : ElemTy) (_ _ _ _ _ : Nat) (_ : Bool), t.isIntQ = true) ∧
    (∃ (t _ : ElemTy) (_ _ _ _ _ : Nat) (_ : Bool), t.isIntQ = true ∧ t.isQ = false) ∧
    (∃ (t _ : ElemTy) (_ _ _ b _ : Nat) (_ : Bool), t.isIntQ = true ∧ t.raw b = 0) ∧
    (∃ (t : ElemTy) (_ : Nat) (_ : Int), t.isIntQ = true) :=
  ⟨⟨.i8, 100, true, by decide +kernel⟩,
   ⟨.i8, (-200), true, by decide +kernel⟩,
   ⟨.i8, 300, true, by decide +kernel⟩,
   ⟨.i8, 300, false, by decide +kernel⟩,
   ⟨.i8, .i8, 0, 0, 200, 100, 3, true, by decide +kernel⟩,
   ⟨.i8, .i8, 0, 0, 200, 100, 3, true, by decide +kernel⟩,
   ⟨.i8, .i8, 0, 0, 200, 0, 3, true, by decide +kernel⟩,
   ⟨.i8, 100, 90, by decide +kernel⟩⟩

/-- The hypotheses of clauses 1 to 8 of `Obligations.DomainCallsAndSlotsFollowR301` are met. -/
theorem witness_DomainCallsAndSlotsFollowR301_1 :
    (∃ (s : State) (u : CoreId) (i : RInsn) (sub : Nat), ReadyPlain s u ∧ i.z = 0 ∧ i.rd = 0 ∧ i.rb = 0 ∧ i.ra.toNat < 8
      ∧ ((s.eng (coreNo u)).cap i.ra.toNat).notPortal ((s.eng (coreNo u)).cap 0) = some sub) ∧
    (∃ (s : State) (u : CoreId) (i : RInsn), ReadyPlain s u ∧ i.z = 0 ∧ i.rd = 0 ∧ i.rb = 0 ∧ i.ra.toNat < 8 ∧ ((s.eng
      (coreNo u)).cap i.ra.toNat).notPortal ((s.eng (coreNo u)).cap 0) = none ∧ (s.eng (coreNo u)).rstack.held.length <
      64) ∧
    (∃ (s : State) (u : CoreId) (i : RInsn) (sub : Nat), ReadyPlain s u ∧ i.z = 0 ∧ i.rd = 0 ∧ i.rb = 0 ∧ i.ra.toNat < 8
      ∧ ((s.eng (coreNo u)).cap i.ra.toNat).notReturn ((s.eng (coreNo u)).cap 0) = some sub) ∧
    (∃ (s : State) (u : CoreId) (i : RInsn) (v : Word) (r : List Word), ReadyPlain s u ∧ i.z = 0 ∧ i.rd = 0 ∧ i.rb = 0 ∧
      i.ra.toNat < 8 ∧ ((s.eng (coreNo u)).cap i.ra.toNat).notReturn ((s.eng (coreNo u)).cap 0) = none ∧ (s.eng (coreNo
      u)).rstack.held = v :: r) ∧
    (∃ (s : State) (u : CoreId) (i : RInsn), ReadyPlain s u ∧ i.z = 0 ∧ i.rd = 0 ∧ i.rb = 0 ∧ i.ra.toNat < 8 ∧ ((s.eng
      (coreNo u)).cap i.ra.toNat).notReturn ((s.eng (coreNo u)).cap 0) = none ∧ (s.eng (coreNo u)).rstack.held = [] ∧
      (s.eng (coreNo u)).rstack.spilled = 0) ∧
    (∃ (s : State) (u : CoreId) (i : RInsn) (p : Nat) (x : Exc), ReadyPlain s u ∧ i.z = 0 ∧ i.rd = 0 ∧ i.rb = 0 ∧
      i.ra.toNat < 8 ∧ ((s.eng (coreNo u)).cap i.ra.toNat).notPortal ((s.eng (coreNo u)).cap 0) = none ∧ (s.eng (coreNo
      u)).rstack.held.length = 64 ∧ p = spillPtr (coreNo u) (s.eng (coreNo u)) ∧ s.spillCheck (coreNo u) permStore p =
      .error x) ∧
    (∃ (s : State) (u : CoreId) (i : RInsn) (p : Nat) (n : VE) (a : Nat), ReadyPlain s u ∧ i.z = 0 ∧ i.rd = 0 ∧ i.rb = 0
      ∧ i.ra.toNat < 8 ∧ ((s.eng (coreNo u)).cap i.ra.toNat).notPortal ((s.eng (coreNo u)).cap 0) = none ∧ (s.eng (coreNo
      u)).rstack.held.length = 64 ∧ p = spillPtr (coreNo u) (s.eng (coreNo u)) ∧ u = .seq n ∧ s.spillCheck n permStore p =
      .ok a ∧ s.storeErr = []) ∧
    (∃ (s : State) (u : CoreId) (i : RInsn) (p : Nat) (x : Exc), ReadyPlain s u ∧ i.z = 0 ∧ i.rd = 0 ∧ i.rb = 0 ∧
      i.ra.toNat < 8 ∧ ((s.eng (coreNo u)).cap i.ra.toNat).notReturn ((s.eng (coreNo u)).cap 0) = none ∧ (s.eng (coreNo
      u)).rstack.held = [] ∧ (s.eng (coreNo u)).rstack.spilled ≠ 0 ∧ p = spillPtr (coreNo u) (s.eng (coreNo u)) - 128 ∧
      s.spillCheck (coreNo u) permLoad p = .error x) :=
  ⟨⟨seqAt id, (.seq 0), ⟨0, 2, 0, 0⟩, 1, by decide +kernel⟩,
   ⟨seqAt fun e =>
     { e with caps := [(0, Cap.make 0 0x1FFF0000 0x87 5 false 3), (2, Cap.make 0x400 64 7 5 true 9)], rstack := { held := [6] } },
     (.seq 0), ⟨0, 2, 0, 0⟩, by decide +kernel⟩,
   ⟨seqAt id, (.seq 0), ⟨0, 2, 0, 0⟩, 1, by decide +kernel⟩,
   ⟨seqAt fun e =>
     { e with caps := [(0, Cap.make 0 0x1FFF0000 0x87 5 false 3), (2, Cap.make 0x400 64 7 5 true 9)], rstack := { held := [6] } },
     (.seq 0), ⟨0, 2, 0, 0⟩, 6, [], by decide +kernel⟩,
   ⟨seqAt fun e =>
     { e with caps := [(0, Cap.make 0 0x1FFF0000 0x87 5 false 3), (2, Cap.make 0x400 64 7 5 true 9)], rstack := { held := [] } },
     (.seq 0), ⟨0, 2, 0, 0⟩, by decide +kernel⟩,
   ⟨seqAt fun e =>
     { e with caps := [(0, Cap.make 0 0x1FFF0000 0x87 5 false 3), (2, Cap.make 0x400 64 7 5 true 9)], rstack := { held := List.replicate 64 6 } },
     (.seq 0), ⟨0, 2, 0, 0⟩, 0, { code := 4, sub := some 1, reg := some 7, addr := some 0 }, by decide +kernel,
     by decide +kernel, by decide +kernel, by decide +kernel, by decide +kernel, by decide +kernel, by decide +kernel,
     by decide +kernel, error_of _ _ (by decide +kernel)⟩,
   ⟨seqAt fun e =>
     { e with caps := [(0, Cap.make 0 0x1FFF0000 0x87 5 false 3), (2, Cap.make 0x400 64 7 5 true 9), (7, rootCap 0x4000 0x1000 3)], rstack := { held := List.replicate 64 6, ptr := 0x4000 } },
     (.seq 0), ⟨0, 2, 0, 0⟩, 0x4000, 0, 0x4000, by decide +kernel, by decide +kernel, by decide +kernel,
     by decide +kernel, by decide +kernel, by decide +kernel, by decide +kernel, by decide +kernel, by decide +kernel,
     ok_of _ _ (by decide +kernel), by decide +kernel⟩,
   ⟨seqAt fun e =>
     { e with caps := [(0, Cap.make 0 0x1FFF0000 0x87 5 false 3), (2, Cap.make 0x400 64 7 5 true 9)], rstack := { held := [], spilled := 32, ptr := 128 } },
     (.seq 0), ⟨0, 2, 0, 0⟩, 0, { code := 4, sub := some 1, reg := some 7, addr := some 0 }, by decide +kernel,
     by decide +kernel, by decide +kernel, by decide +kernel, by decide +kernel, by decide +kernel, by decide +kernel,
     by decide +kernel, by decide +kernel, error_of _ _ (by decide +kernel)⟩⟩

/-- The hypotheses of clauses 9 to 16 of `Obligations.DomainCallsAndSlotsFollowR301` are met. -/
theorem witness_DomainCallsAndSlotsFollowR301_2 :
    (∃ (s : State) (u : CoreId) (i : RInsn) (p : Nat) (n : VE) (a : Nat), ReadyPlain s u ∧ i.z = 0 ∧ i.rd = 0 ∧ i.rb = 0
      ∧ i.ra.toNat < 8 ∧ ((s.eng (coreNo u)).cap i.ra.toNat).notReturn ((s.eng (coreNo u)).cap 0) = none ∧ (s.eng (coreNo
      u)).rstack.held = [] ∧ (s.eng (coreNo u)).rstack.spilled ≠ 0 ∧ p = spillPtr (coreNo u) (s.eng (coreNo u)) - 128 ∧ u
      = .seq n ∧ s.spillCheck n permLoad p = .ok a ∧ s.storeErr = []) ∧
    (∃ (s : State) (u : CoreId) (_ : RInsn), ReadyOnce s u ∧ (s.eng (coreNo u)).branch ≠ none) ∧
    (∃ (s : State) (n : VE) (_ : RInsn), ReadyOnce s (.seq n)) ∧
    (∃ (s : State) (i : RInsn) (_ : Nat) (x : Exc), ReadyOnce s .triad ∧ i.z = 0 ∧ i.rd.toNat < 8 ∧ i.ra.toNat < 8 ∧
      s.tri.sb = [] ∧ s.lmErr = [] ∧ s.slotCheck triadNo i.ra.toNat permLoad permLoadCap (s.coreReg .triad i.rb) = .error
      x) ∧
    (∃ (s : State) (i : RInsn) (_ : Nat) (x : Exc), ReadyOnce s .triad ∧ i.z = 0 ∧ i.rd.toNat < 8 ∧ i.ra.toNat < 8 ∧
      s.tri.sb = [] ∧ s.lmErr = [] ∧ s.slotCheck triadNo i.ra.toNat permStore permStoreCap (s.coreReg .triad i.rb) =
      .error x) ∧
    (∃ (s : State) (i : RInsn) (a : Nat), ReadyOnce s .triad ∧ i.z = 0 ∧ i.rd.toNat < 8 ∧ i.ra.toNat < 8 ∧ s.tri.sb = []
      ∧ s.lmErr = [] ∧ s.slotCheck triadNo i.ra.toNat permLoad permLoadCap (s.coreReg .triad i.rb) = .ok a ∧ s.mxCheck 0 a
      16 false false = none) ∧
    (∃ (s : State) (i : RInsn) (a : Nat), ReadyOnce s .triad ∧ i.z = 0 ∧ i.rd.toNat < 8 ∧ i.ra.toNat < 8 ∧ s.tri.sb = []
      ∧ s.lmErr = [] ∧ s.slotCheck triadNo i.ra.toNat permStore permStoreCap (s.coreReg .triad i.rb) = .ok a ∧ s.mxCheck 0
      a 16 true false = none) ∧
    (∃ (s : State) (n c _ _ : Nat) (a : Word), (s.capOf n c).addr a.toNat % 16 ≠ 0) :=
  ⟨⟨seqAt fun e =>
     { e with caps := [(0, Cap.make 0 0x1FFF0000 0x87 5 false 3), (2, Cap.make 0x400 64 7 5 true 9), (7, rootCap 0x4000 0x1000 3)], rstack := { held := [], spilled := 32, ptr := 0x4080 } },
     (.seq 0), ⟨0, 2, 0, 0⟩, 0x4000, 0, 0x4000, by decide +kernel, by decide +kernel, by decide +kernel,
     by decide +kernel, by decide +kernel, by decide +kernel, by decide +kernel, by decide +kernel, by decide +kernel,
     by decide +kernel, ok_of _ _ (by decide +kernel), by decide +kernel⟩,
   ⟨seqAt fun e => { e with branch := some ⟨0xFC, 0x200, {}⟩ }, (.seq 0), ⟨0, 2, 0, 0⟩, by decide +kernel⟩,
   ⟨seqAt id, 0, ⟨0, 2, 0, 0⟩, by decide +kernel⟩,
   ⟨triAt id, ⟨1, 2, 3, 0⟩, 0, { code := 2, addr := some 5 }, by decide +kernel, by decide +kernel, by decide +kernel,
     by decide +kernel, by decide +kernel, by decide +kernel, error_of _ _ (by decide +kernel)⟩,
   ⟨triAt id, ⟨1, 2, 3, 0⟩, 0, { code := 2, addr := some 5 }, by decide +kernel, by decide +kernel, by decide +kernel,
     by decide +kernel, by decide +kernel, by decide +kernel, error_of _ _ (by decide +kernel)⟩,
   ⟨triAt fun e =>
     { e with caps := [(0, rootCap 0x100000000 0x100000000 0x3F9F), (3, rootCap 0x100000000 0x200000 0x1B)], sregs := [(2, 0x40)] },
     ⟨1, 3, 2, 0⟩, 0x100000040, by decide +kernel, by decide +kernel, by decide +kernel, by decide +kernel,
     by decide +kernel, by decide +kernel, ok_of _ _ (by decide +kernel), by decide +kernel⟩,
   ⟨triAt fun e =>
     { e with caps := [(0, rootCap 0x100000000 0x100000000 0x3F9F), (3, rootCap 0x100000000 0x200000 0x1B)], sregs := [(2, 0x40)] },
     ⟨3, 3, 2, 0⟩, 0x100000040, by decide +kernel, by decide +kernel, by decide +kernel, by decide +kernel,
     by decide +kernel, by decide +kernel, ok_of _ _ (by decide +kernel), by decide +kernel⟩,
   ⟨seqAt id, 0, 1, 0, 0, 7, by decide +kernel⟩⟩

/-- The hypotheses of clauses 1 to 7 of `Obligations.ExceptionRegistersNeedTheirPermission` are met. -/
theorem witness_ExceptionRegistersNeedTheirPermission_1 :
    (∃ (s : State) (u : CoreId) (i : RInsn), ReadyOnce s u ∧ i.z = 0 ∧ exSel u i.rb = true) ∧
    (∃ (s : State) (u : CoreId) (i : RInsn), ReadyOnce s u ∧ (i.z ≠ 0 ∨ exSel u i.rb = false)) ∧
    (∃ (s : State) (u : CoreId) (i : RInsn), ReadyOnce s u ∧ (i.z ≠ 0 ∨ exSel u i.rd = false)) ∧
    (∃ (s : State) (u : CoreId) (i : RInsn), ReadyOnce s u ∧ i.z = 0 ∧ exSel u i.rd = true ∧ (s.eng (coreNo u)).grants
      permSys = false) ∧
    (∃ (s : State) (n : VE) (i : RInsn), ReadyOnce s (.seq n) ∧ i.z = 0 ∧ i.rd.toNat < 4 ∧ (s.eng n).grants permSys =
      true) ∧
    (∃ (s : State) (i : RInsn), ReadyOnce s .triad ∧ i.z = 0 ∧ exSel .triad i.rd = true ∧ s.tri.grants permSys = true) ∧
    (∃ (s : State) (i : RInsn), ReadyOnce s .triad ∧ i.z = 0 ∧ s.tri.grants permIrq = true) :=
  ⟨⟨seqAt id, (.seq 0), ⟨3, 2, 1, 0⟩, by decide +kernel⟩,
   ⟨seqAt id, (.seq 0), ⟨1, 2, 9, 0⟩, by decide +kernel⟩,
   ⟨seqAt id, (.seq 0), ⟨9, 2, 1, 0⟩, by decide +kernel⟩,
   ⟨seqAt fun e => { e with caps := [(0, rootCap 0 0x1FFF0000 4)] }, (.seq 0), ⟨3, 2, 1, 0⟩, by decide +kernel⟩,
   ⟨seqAt id, 0, ⟨3, 2, 1, 0⟩, by decide +kernel⟩,
   ⟨triAt id, ⟨9, 2, 1, 0⟩, by decide +kernel⟩,
   ⟨triAt id, ⟨3, 2, 1, 0⟩, by decide +kernel⟩⟩

/-- The hypotheses of clauses 8 to 13 of `Obligations.ExceptionRegistersNeedTheirPermission` are met. -/
theorem witness_ExceptionRegistersNeedTheirPermission_2 :
    (∃ (s : State) (i : RInsn), ReadyOnce s .triad ∧ i.z = 0 ∧ s.tri.grants permIrq = false) ∧
    (∃ (s : State) (n : VE) (_ : RInsn), ReadyOnce s (.seq n)) ∧
    (∃ (s : State) (i : RInsn), ReadyOnce s .triad ∧ i.z = 0 ∧ i.rd.toNat < 8 ∧ 2 ≤ i.rb.toNat ∧ i.rb.toNat < 8 ∧
      s.tri.grants permSys = true) ∧
    (∃ (s : State) (i : RInsn), ReadyOnce s .triad ∧ i.z = 0 ∧ i.rd.toNat < 8 ∧ 2 ≤ i.rb.toNat ∧ i.rb.toNat < 8 ∧
      s.tri.grants permSys = false) ∧
    (∃ (s : State) (i : RInsn), ReadyOnce s .triad ∧ i.z = 0 ∧ i.ra.toNat < 8 ∧ 2 ≤ i.rd.toNat ∧ i.rd.toNat < 8 ∧
      s.tri.grants permSys = true) ∧
    (∃ (s : State) (i : RInsn), ReadyOnce s .triad ∧ i.z = 0 ∧ i.ra.toNat < 8 ∧ 2 ≤ i.rd.toNat ∧ i.rd.toNat < 8 ∧
      s.tri.grants permSys = false) :=
  ⟨⟨triAt fun e => { e with caps := [(0, rootCap 0x100000000 0x100000000 0x1F)] }, ⟨3, 2, 1, 0⟩, by decide +kernel⟩,
   ⟨seqAt id, 0, ⟨3, 2, 1, 0⟩, by decide +kernel⟩,
   ⟨triAt id, ⟨1, 2, 3, 0⟩, by decide +kernel⟩,
   ⟨triAt fun e => { e with caps := [(0, rootCap 0x100000000 0x100000000 0x1F)] }, ⟨1, 2, 3, 0⟩, by decide +kernel⟩,
   ⟨triAt id, ⟨3, 2, 1, 0⟩, by decide +kernel⟩,
   ⟨triAt fun e => { e with caps := [(0, rootCap 0x100000000 0x100000000 0x1F)] }, ⟨3, 2, 1, 0⟩, by decide +kernel⟩⟩

/-- The hypotheses of the clauses of `Obligations.SequencerExceptionsSaveAndReturn` are met. -/
theorem witness_SequencerExceptionsSaveAndReturn :
    (∃ (s : State) (m : Master) (n : VE) (_ : Word), MayWrite s m (Rg.VE_IRQ_PEND n).addr 4 ∧ s.get (Rg.VE_IRQ_PEND n) <
      2 ^ 32) ∧
    (∃ (s : State) (n : VE), s.held = false ∧ s.excDue n = false ∧ s.seqIrq n = none) ∧
    (∃ (s : State) (n : VE) (x : Exc) (slot : Bool) (e : Engine) (d : Desc), s.mayEnter n = true ∧ (s.eng n).sb = [] ∧
      (s.eng n).haltReq = none ∧ (s.eng n).stepping = false ∧ (s.eng n).due = some (x, slot, e) ∧ s.lmErr = [] ∧ x.code <
      32 ∧ (s.readDesc n (s.seqDesc n x.code) none).1 = some d ∧ (s.eng n).hold = false ∧ d.ok = true) ∧
    (∃ (s : State) (n : VE) (x : Exc) (slot : Bool) (e : Engine) (d : Desc), s.mayEnter n = true ∧ (s.eng n).sb = [] ∧
      (s.eng n).haltReq = none ∧ (s.eng n).stepping = false ∧ (s.eng n).due = some (x, slot, e) ∧ s.lmErr = [] ∧ x.code <
      32 ∧ (s.readDesc n (s.seqDesc n x.code) none).1 = some d ∧ (s.eng n).hold = false ∧ d.ok = false) ∧
    (∃ (s : State) (n : VE) (x : Exc) (slot : Bool) (e : Engine) (d : Desc), s.mayEnter n = true ∧ (s.eng n).sb = [] ∧
      (s.eng n).haltReq = none ∧ (s.eng n).stepping = false ∧ (s.eng n).due = some (x, slot, e) ∧ s.lmErr = [] ∧ x.code <
      32 ∧ (s.readDesc n (s.seqDesc n x.code) none).1 = some d ∧ (s.eng n).hold = true) ∧
    (∃ (s : State) (n : VE) (i : Nat) (d : Desc), s.mayEnter n = true ∧ (s.eng n).sb = [] ∧ (s.eng n).haltReq = none ∧
      (s.eng n).stepping = false ∧ (s.eng n).halted = false ∧ s.excDue n = false ∧ s.seqIrq n = some i ∧ s.lmErr = [] ∧
      (s.readDesc n (s.seqDesc n (32 + i)) none).1 = some d ∧ d.ok = true) ∧
    (∃ (s : State) (n : VE) (_ : SInsn) (frm era : Nat) (c0 c6 : Cap), ReadyPlain s (.seq n) ∧ frm = s.get (Rg.VE_ECTX
      n) / 64 % 64 ∧ era = s.get (Rg.VE_ERA n) / 4 * 4 ∧ s.lmErr = [] ∧ (s.eretCaps n frm).1 = some (c0, c6) ∧ (s.eng
      n).grants permSys = false) ∧
    (∃ (s : State) (n : VE) (_ : SInsn) (frm era : Nat) (c0 c6 : Cap), ReadyPlain s (.seq n) ∧ frm = s.get (Rg.VE_ECTX
      n) / 64 % 64 ∧ era = s.get (Rg.VE_ERA n) / 4 * 4 ∧ s.lmErr = [] ∧ (s.eretCaps n frm).1 = some (c0, c6) ∧ (s.eng
      n).grants permSys = true ∧ c0.codeOk era = true ∧ c6.stackOk = true ∧ ((s.eng n).fromV ≠ 10 ∨ (s.eng n).helda =
      none)) ∧
    (∃ (s : State) (n : VE) (_ : SInsn) (frm era : Nat) (c0 c6 : Cap) (h : Exec) (a : Nat), ReadyPlain s (.seq n) ∧ frm
      = s.get (Rg.VE_ECTX n) / 64 % 64 ∧ era = s.get (Rg.VE_ERA n) / 4 * 4 ∧ s.lmErr = [] ∧ (s.eretCaps n frm).1 = some
      (c0, c6) ∧ (s.eng n).grants permSys = true ∧ c0.codeOk era = true ∧ c6.stackOk = true ∧ (s.eng n).fromV = 10 ∧
      (s.eng n).helda = some h ∧ a = s.get (Rg.VE_VFCTL_ACTION n) ∧ a = 3) ∧
    (∃ (s : State) (n : VE) (_ : SInsn) (frm era : Nat) (c0 c6 : Cap) (h : Exec) (a : Nat), ReadyPlain s (.seq n) ∧ frm
      = s.get (Rg.VE_ECTX n) / 64 % 64 ∧ era = s.get (Rg.VE_ERA n) / 4 * 4 ∧ s.lmErr = [] ∧ (s.eretCaps n frm).1 = some
      (c0, c6) ∧ (s.eng n).grants permSys = true ∧ c0.codeOk era = true ∧ c6.stackOk = true ∧ (s.eng n).fromV = 10 ∧
      (s.eng n).helda = some h ∧ a = s.get (Rg.VE_VFCTL_ACTION n) ∧ a ≠ 3 ∧ (s.restored n frm c0 c6).issueFault n h.desc
      h.vl h.acc = none ∧ (∀ v ∈ h.acc.insns, v.op = .ld → dQueue (h.desc (v.f.dreg.toNat % 16)) = false)) ∧
    (∃ (s : State) (n : VE) (_ : SInsn) (frm era : Nat) (c0 c6 : Cap), ReadyPlain s (.seq n) ∧ frm = s.get (Rg.VE_ECTX
      n) / 64 % 64 ∧ era = s.get (Rg.VE_ERA n) / 4 * 4 ∧ s.lmErr = [] ∧ (s.eretCaps n frm).1 = some (c0, c6) ∧ (s.eng
      n).grants permSys = true ∧ (c0.codeOk era = false ∨ c6.stackOk = false)) :=
  ⟨⟨State.reset, 0, 0, 0, by decide +kernel⟩,
   ⟨seqAt id, 0, by decide +kernel⟩,
   ⟨withDesc (seqAt fun e => { e with exc := some { code := 3, sub := some 2, reg := some 1, addr := some 5 } }) (512000
     + 192) codeCap stackCap, 0, { code := 3, sub := some 2, reg := some 1, addr := some 5 }, false, (seqAt id).eng 0,
     ⟨codeCap, stackCap, 0x800, true⟩, by decide +kernel⟩,
   ⟨withDesc (seqAt fun e => { e with exc := some { code := 3, sub := some 2, reg := some 1, addr := some 5 } }) (512000
     + 192) stackCap stackCap, 0, { code := 3, sub := some 2, reg := some 1, addr := some 5 }, false, (seqAt id).eng 0,
     ⟨stackCap, stackCap, 0x800, true⟩, by decide +kernel⟩,
   ⟨withDesc (seqAt fun e =>
     { e with exc := some { code := 3, sub := some 2, reg := some 1, addr := some 5 }, hold := true }) (512000 + 192)
     codeCap stackCap, 0, { code := 3, sub := some 2, reg := some 1, addr := some 5 }, false,
     { (seqAt id).eng 0 with hold := true }, ⟨codeCap, stackCap, 0x800, true⟩, by decide +kernel⟩,
   ⟨withDesc (devOn (seqAt id) [(Rg.VE_IRQ_PEND 0, 32), (Rg.VE_IRQ_EN 0, 32)]) (512000 + 64 * 37) codeCap stackCap, 0,
     5, ⟨codeCap, stackCap, 0x800, true⟩, by decide +kernel⟩,
   ⟨seqAt fun e => { e with caps := [(0, rootCap 0 0x1FFF0000 4)] }, 0, ⟨4, 2, 5⟩, 0, 0, ⟨false, 0⟩, ⟨false, 0⟩,
     by decide +kernel⟩,
   ⟨withDesc (devOn (seqAt id) [(Rg.VE_ECTX 0, 192), (Rg.VE_ERA 0, 0x800)]) (512000 + 192) codeCap stackCap, 0, ⟨4, 2,
     5⟩, 3, 0x800, codeCap, stackCap, by decide +kernel⟩,
   ⟨withDesc (devOn (seqAt fun e =>
     { e with fromV := 10, vfBusy := true, helda := some (begunExec ⟨[⟨.mfill, ⟨false, 0, 1, 0, 0, 0, 0, 1, 2, 0, false, false, 7⟩, 0, 0, 0, 0x100⟩], false⟩ 4 []) })
     [(Rg.VE_ECTX 0, 192), (Rg.VE_ERA 0, 0x800), (Rg.VE_VFCTL_ACTION 0, 3)]) (512000 + 192) codeCap stackCap, 0, ⟨4, 2,
     5⟩, 3, 0x800, codeCap, stackCap, (begunExec ⟨[⟨.mfill, ⟨false, 0, 1, 0, 0, 0, 0, 1, 2, 0, false, false, 7⟩, 0, 0, 0,
     0x100⟩], false⟩ 4 []), 3, by decide +kernel⟩,
   ⟨withDesc (devOn (seqAt fun e =>
     { e with fromV := 10, vfBusy := true, helda := some (begunExec ⟨[⟨.mfill, ⟨false, 0, 1, 0, 0, 0, 0, 1, 2, 0, false, false, 7⟩, 0, 0, 0, 0x100⟩], false⟩ 4 []) })
     [(Rg.VE_ECTX 0, 192), (Rg.VE_ERA 0, 0x800), (Rg.VE_VFCTL_ACTION 0, 1)]) (512000 + 192) codeCap stackCap, 0, ⟨4, 2,
     5⟩, 3, 0x800, codeCap, stackCap, (begunExec ⟨[⟨.mfill, ⟨false, 0, 1, 0, 0, 0, 0, 1, 2, 0, false, false, 7⟩, 0, 0, 0,
     0x100⟩], false⟩ 4 []), 1, by decide +kernel⟩,
   ⟨seqAt id, 0, ⟨4, 2, 5⟩, 0, 0, ⟨false, 0⟩, ⟨false, 0⟩, by decide +kernel⟩⟩

/-- The hypotheses of clauses 1 to 9 of `Obligations.TriadEntriesFollowTheLevels` are met. -/
theorem witness_TriadEntriesFollowTheLevels_1 :
    (∃ (s : State) (m : Master) (n : BitVec 8) (_ : Word), MayWrite s m (Rg.IC_SRC_SW n.toNat).addr 4) ∧
    (∃ (s : State) (x : Exc) (slot : Bool) (e : Engine) (d : Desc), s.mayEnter triadNo = true ∧ s.tri.sb = [] ∧
      s.tri.haltReq = none ∧ s.tri.stepping = false ∧ s.tri.vfDue = false ∧ s.tri.due = some (x, slot, e) ∧ s.lmErr = [] ∧
      (s.tri.level = 0 ∨ s.tri.level = 1) ∧ (s.readDesc triadNo (s.triDesc x.code) (some faultStack)).1 = some d ∧ d.ok =
      true) ∧
    (∃ (s : State) (x : Exc) (slot : Bool) (e : Engine) (d : Desc), s.mayEnter triadNo = true ∧ s.tri.sb = [] ∧
      s.tri.haltReq = none ∧ s.tri.stepping = false ∧ s.tri.vfDue = false ∧ s.tri.due = some (x, slot, e) ∧ s.lmErr = [] ∧
      (s.tri.level = 2 ∨ (s.tri.level < 2 ∧ ∃ b, (s.readDesc triadNo (s.triDesc x.code) (some faultStack)).1 = some b ∧
      b.ok = false)) ∧ (s.readDesc triadNo (s.triDesc 16) (some faultStack)).1 = some d ∧ d.ok = true) ∧
    (∃ (s : State) (x : Exc) (slot : Bool) (e : Engine) (d : Desc), s.mayEnter triadNo = true ∧ s.tri.sb = [] ∧
      s.tri.haltReq = none ∧ s.tri.stepping = false ∧ s.tri.vfDue = false ∧ s.tri.due = some (x, slot, e) ∧ s.lmErr = [] ∧
      (s.tri.level = 2 ∨ (s.tri.level < 2 ∧ ∃ b, (s.readDesc triadNo (s.triDesc x.code) (some faultStack)).1 = some b ∧
      b.ok = false)) ∧ (s.readDesc triadNo (s.triDesc 16) (some faultStack)).1 = some d ∧ d.ok = false) ∧
    (∃ (s : State) (x : Exc) (slot : Bool) (e : Engine), s.mayEnter triadNo = true ∧ s.tri.sb = [] ∧ s.tri.haltReq =
      none ∧ s.tri.stepping = false ∧ s.tri.vfDue = false ∧ s.tri.due = some (x, slot, e) ∧ s.lmErr = [] ∧ s.tri.level =
      3) ∧
    (∃ (s : State), s.held = false ∧ s.excDue triadNo = false) ∧
    (∃ (s : State) (d : Desc) (pin : Option (BitVec 8)), s.mayEnter triadNo = true ∧ s.tri.sb = [] ∧ s.tri.halted =
      false ∧ s.excDue triadNo = false ∧ s.tri.branch = none ∧ s.lmErr = [] ∧ s.tri.level < 3 ∧ (s.readDesc triadNo
      (s.triDesc 16) (some faultStack)).1 = some d ∧ (∀ mc, pin = some mc → max (s.get Rg.PAD_FILT_NMI_FILT) 1 + 1 ≤
      s.sinceFilt mc.toNat) ∧ (pin = none → s.get Rg.IC_NMI_CAUSE_PENDING = 1) ∧ d.ok = true) ∧
    (∃ (s : State) (d : Desc) (pin : Option (BitVec 8)), s.mayEnter triadNo = true ∧ s.tri.sb = [] ∧ s.tri.halted =
      false ∧ s.excDue triadNo = false ∧ s.tri.branch = none ∧ s.lmErr = [] ∧ s.tri.level < 3 ∧ (s.readDesc triadNo
      (s.triDesc 16) (some faultStack)).1 = some d ∧ (∀ mc, pin = some mc → max (s.get Rg.PAD_FILT_NMI_FILT) 1 + 1 ≤
      s.sinceFilt mc.toNat) ∧ (pin = none → s.get Rg.IC_NMI_CAUSE_PENDING = 1) ∧ d.ok = false) ∧
    (∃ (s : State) (_ : Desc) (mc : BitVec 8), s.mayEnter triadNo = true ∧ s.tri.sb = [] ∧ s.tri.halted = false ∧
      s.excDue triadNo = false ∧ s.tri.branch = none ∧ s.lmErr = [] ∧ max (s.get Rg.PAD_FILT_NMI_FILT) 1 + 1 ≤ s.sinceFilt
      mc.toNat ∧ s.tri.level = 3) :=
  ⟨⟨State.reset, 0, 200, 0x157, by decide +kernel⟩,
   ⟨withDesc (triAt fun e => { e with exc := some { code := 3, sub := some 2, reg := some 1, addr := some 5 } }) (507904
     + 64 * 3) codeCap stackCap, { code := 3, sub := some 2, reg := some 1, addr := some 5 }, false,
     { (triAt id).tri with level := 0 }, ⟨codeCap, faultStack, 0x800, true⟩, by decide +kernel⟩,
   ⟨withDesc (triAt fun e =>
     { e with exc := some { code := 3, sub := some 2, reg := some 1, addr := some 5 }, level := 2 }) (507904 + 64 * 16)
     codeCap stackCap, { code := 3, sub := some 2, reg := some 1, addr := some 5 }, false,
     { (triAt id).tri with level := 2 }, ⟨codeCap, faultStack, 0x800, true⟩, by decide +kernel⟩,
   ⟨triAt fun e => { e with exc := some { code := 3, sub := some 2, reg := some 1, addr := some 5 }, level := 2 },
     { code := 3, sub := some 2, reg := some 1, addr := some 5 }, false, { (triAt id).tri with level := 2 }, ⟨⟨false, 0⟩,
     faultStack, 0, false⟩, by decide +kernel⟩,
   ⟨triAt fun e => { e with exc := some { code := 3, sub := some 2, reg := some 1, addr := some 5 }, level := 3 },
     { code := 3, sub := some 2, reg := some 1, addr := some 5 }, false, { (triAt id).tri with level := 3 },
     by decide +kernel⟩,
   ⟨State.reset, by decide +kernel⟩,
   ⟨withDesc (triAt id) (507904 + 64 * 16) codeCap stackCap, ⟨codeCap, faultStack, 0x800, true⟩, some 200,
     by decide +kernel⟩,
   ⟨triAt id, ⟨⟨false, 0⟩, faultStack, 0, false⟩, some 200, by decide +kernel⟩,
   ⟨triAt fun e => { e with level := 3 }, ⟨codeCap, stackCap, 0x800, true⟩, 200, by decide +kernel⟩⟩

/-- The hypotheses of clauses 10 to 18 of `Obligations.TriadEntriesFollowTheLevels` are met. -/
theorem witness_TriadEntriesFollowTheLevels_2 :
    (∃ (s : State) (_ : Desc) (mc : BitVec 8), s.mayEnter triadNo = true ∧ s.tri.sb = [] ∧ s.tri.halted = false ∧
      s.excDue triadNo = false ∧ s.tri.branch = none ∧ s.lmErr = [] ∧ s.sinceFilt mc.toNat < max (s.get
      Rg.PAD_FILT_NMI_FILT) 1 ∧ s.get Rg.IC_NMI_CAUSE_PENDING = 0) ∧
    (∃ (s : State) (_ : Desc), s.mayEnter triadNo = true ∧ s.tri.sb = [] ∧ s.tri.halted = false ∧ s.excDue triadNo =
      false ∧ s.tri.branch = none ∧ s.lmErr = [] ∧ s.get Rg.IC_NMI_CAUSE_PENDING = 0) ∧
    (∃ (s : State) (late : List (BitVec 8)) (first v a : Nat) (c6 : Cap) (e : Desc) (s29 : Word), s.mayEnter triadNo =
      true ∧ s.tri.sb = [] ∧ s.tri.halted = false ∧ s.excDue triadNo = false ∧ s.nmiDue = false ∧ (s.before late).triIrq =
      some first ∧ v = (s.takenOver first late).1 ∧ s.lmErr = [] ∧ s.get Rg.IC_DTOFF % 64 = 0 ∧ (s.descCap triadNo
      (s.triDesc 17 + 0x10)).1 = some c6 ∧ (s.readDesc triadNo (s.triDesc (s.get (Rg.IC_SRC_VECTOR v))) (some c6)).1 =
      some e ∧ s29 = BitVec.ofNat 32 (c6.base + c6.len) - 32 ∧ a = c6.addr s29.toNat ∧ a % 16 = 0 ∧ 0x100000000 ≤ a ∧ a +
      32 ≤ 0x100200000 ∧ c6.unusable permStore a 32 = none ∧ s.mxCheck 0 a 16 true false = none ∧ s.mxCheck 0 (a + 16) 16
      true false = none ∧ e.ok = true ∧ (s.triDesc (s.get (Rg.IC_SRC_VECTOR v)) + 64 ≤ a - 0x100000000 ∨ a - 0x100000000 +
      32 ≤ s.triDesc (s.get (Rg.IC_SRC_VECTOR v)))) ∧
    (∃ (s : State), s.held = false ∧ s.triIrq = none) ∧
    (∃ (s : State) (_ : SInsn), ReadyPlain s .triad ∧ s.tri.sb = [] ∧ s.tri.grants permSys = false) ∧
    (∃ (s : State) (_ : SInsn), ReadyPlain s .triad ∧ s.tri.sb = [] ∧ s.tri.grants permSys = true ∧ s.tri.level = 0) ∧
    (∃ (s : State) (_ : SInsn) (a : Nat) (sub : Nat), ReadyPlain s .triad ∧ s.tri.sb = [] ∧ s.tri.grants permSys = true
      ∧ s.tri.level = 1 ∧ s.lmErr = [] ∧ a = (s.tri.cap 6).addr (s.tri.sreg 29).toNat ∧ (s.tri.cap 6).unusable permLoad a
      32 = some sub) ∧
    (∃ (s : State) (_ : SInsn) (a : Nat), ReadyPlain s .triad ∧ s.tri.sb = [] ∧ s.tri.grants permSys = true ∧
      s.tri.level = 1 ∧ s.lmErr = [] ∧ a = (s.tri.cap 6).addr (s.tri.sreg 29).toNat ∧ (s.tri.cap 6).unusable permLoad a 32
      = none ∧ a % 16 = 0 ∧ 0x100000000 ≤ a ∧ a + 32 ≤ 0x100200000 ∧ s.mxCheck 0 a 16 false false = none ∧ s.mxCheck 0 (a
      + 16) 16 false false = none) ∧
    (∃ (s : State) (_ : SInsn), ReadyPlain s .triad ∧ s.tri.sb = [] ∧ s.tri.grants permSys = true ∧ (s.tri.level = 2 ∨
      s.tri.level = 3)) :=
  ⟨⟨devOn (triAt id) [(Rg.PAD_FILT_NMI_FILT, 9)], ⟨codeCap, stackCap, 0x800, true⟩, 2, by decide +kernel⟩,
   ⟨triAt id, ⟨codeCap, stackCap, 0x800, true⟩, by decide +kernel⟩,
   ⟨withDesc (withDesc (devOn (triAt fun e => { e with ie := true }) [(Rg.IC_SRC_PRIO 200, 3), (Rg.IC_SRC_VECTOR 200,
     20), (Rg.IC_SRC_SW 200, 1)]) (507904 + 64 * 17) codeCap stackCap) (507904 + 64 * 20) codeCap stackCap, [7], 200, 200,
     0x1001FFFE0, stackCap, ⟨codeCap, stackCap, 0x800, true⟩, 0x1FFFE0, by decide +kernel⟩,
   ⟨State.reset, by decide +kernel⟩,
   ⟨triAt fun e => { e with caps := [(0, rootCap 0x100000000 0x100000000 0x1F)] }, ⟨4, 2, 5⟩, by decide +kernel⟩,
   ⟨triAt id, ⟨4, 2, 5⟩, by decide +kernel⟩,
   ⟨triAt fun e =>
     { e with level := 1, caps := [(0, rootCap 0x100000000 0x100000000 0x3f9f), (6, ⟨false, 0⟩)], sregs := [(2, 7), (3, 5), (29, 0x100)] },
     ⟨4, 2, 5⟩, 0x100, 1, by decide +kernel⟩,
   ⟨triAt fun e =>
     { e with level := 1, caps := [(0, rootCap 0x100000000 0x100000000 0x3f9f), (6, stackCap)], sregs := [(2, 7), (3, 5), (29, 0x100)] },
     ⟨4, 2, 5⟩, 0x100000100, by decide +kernel⟩,
   ⟨triAt fun e => { e with level := 2 }, ⟨4, 2, 5⟩, by decide +kernel⟩⟩

/-- The hypotheses of clauses 1 to 9 of `Obligations.VotesFenceAndResyncFollowsR329` are met. -/
theorem witness_VotesFenceAndResyncFollowsR329_1 :
    (∃ (s : State) (w : VoteWrite), Voting s ∧ vote w.vals = .agree) ∧
    (∃ (s : State) (w : VoteWrite) (c : Nat), Voting s ∧ vote w.vals = .dissent c) ∧
    (∃ (s : State) (w : VoteWrite), Voting s ∧ vote w.vals = .none) ∧
    (∃ (s : State) (_ : Votes (List SigWrite)), Voting s ∧ s.windowEnds = false) ∧
    (∃ (s : State) (v : Votes (List SigWrite)), Voting s ∧ s.windowEnds = true ∧ vote (sigsOf v) = .agree) ∧
    (∃ (s : State) (v : Votes (List SigWrite)) (c : Nat), Voting s ∧ s.windowEnds = true ∧ vote (sigsOf v) = .dissent c) ∧
    (∃ (s : State) (v : Votes (List SigWrite)) (k : Nat), s.held = false ∧ s.triad.resync = .probation (k + 1) ∧
      s.windowEnds = true ∧ vote (sigsOf v) = .agree) ∧
    (∃ (s : State) (v : Votes (List SigWrite)) (k : Nat), s.held = false ∧ s.triad.resync = .probation (k + 1) ∧
      s.windowEnds = true ∧ vote (sigsOf v) = .agree ∧ s.lastResort = false ∧ s.triad.inject = []) ∧
    (∃ (s : State) (v : Votes CoreReq) (r : CoreReq), Voting s ∧ r.write = (v.v0.write && v.v1.write || v.v0.write &&
      v.v2.write || v.v1.write && v.v2.write) ∧ (∀ i, r.addr.getLsbD i = TwoOf (v.v0.addr.getLsbD i) (v.v1.addr.getLsbD i)
      (v.v2.addr.getLsbD i)) ∧ (∀ i, r.data.getLsbD i = TwoOf (v.v0.data.getLsbD i) (v.v1.data.getLsbD i)
      (v.v2.data.getLsbD i)) ∧ (∀ i, r.en.getLsbD i = TwoOf (v.v0.en.getLsbD i) (v.v1.en.getLsbD i) (v.v2.en.getLsbD i))) :=
  ⟨⟨State.reset, ⟨4, ⟨5, 5, 5⟩⟩, by decide +kernel⟩,
   ⟨State.reset, ⟨4, ⟨5, 6, 5⟩⟩, 1, by decide +kernel⟩,
   ⟨State.reset, ⟨4, ⟨5, 6, 7⟩⟩, by decide +kernel⟩,
   ⟨State.reset, ⟨[⟨0x100, 5, 15, 3⟩], [⟨0x100, 5, 15, 3⟩], [⟨0x100, 5, 15, 3⟩]⟩, by decide +kernel⟩,
   ⟨dev [(Rg.TMR_MC_LO, 64)], ⟨[⟨0x100, 5, 15, 3⟩], [⟨0x100, 5, 15, 3⟩], [⟨0x100, 5, 15, 3⟩]⟩, by decide +kernel⟩,
   ⟨dev [(Rg.TMR_MC_LO, 64)], ⟨[⟨0x100, 5, 15, 3⟩], [⟨0x100, 6, 15, 3⟩], [⟨0x100, 5, 15, 3⟩]⟩, 1, by decide +kernel⟩,
   ⟨{ dev [(Rg.TMR_MC_LO, 64)] with triad := { resync := .probation 3 } }, ⟨[⟨0x100, 5, 15, 3⟩], [⟨0x100, 5, 15, 3⟩],
     [⟨0x100, 5, 15, 3⟩]⟩, 2, by decide +kernel⟩,
   ⟨{ dev [(Rg.TMR_MC_LO, 64)] with triad := { resync := .probation 3 } }, ⟨[⟨0x100, 5, 15, 3⟩], [⟨0x100, 5, 15, 3⟩],
     [⟨0x100, 5, 15, 3⟩]⟩, 2, by decide +kernel⟩,
   ⟨State.reset, ⟨⟨true, 0x100, 5, 15⟩, ⟨true, 0x104, 12, 15⟩, ⟨true, 0x104, 9, 15⟩⟩, ⟨true, 0x104, 13, 15⟩,
     by decide +kernel, by decide +kernel, majority_of _ _ _ _ (by decide), majority_of _ _ _ _ (by decide), majority_of _
     _ _ _ (by decide)⟩⟩

/-- The hypotheses of clauses 10 to 18 of `Obligations.VotesFenceAndResyncFollowsR329` are met. -/
theorem witness_VotesFenceAndResyncFollowsR329_2 :
    (∃ (s : State) (w : VoteWrite) (_ : Votes (List SigWrite)) (_ : Votes CoreReq) (c : Nat), s.held = false ∧ s.get
      Rg.VT_STATUS_STATE = 3 ∧ s.get Rg.VT_STATUS_OUT_VALID = 1 ∧ s.get Rg.VT_STATUS_OUT_CORE = c ∧ s.triad.resync = .idle
      ∧ s.triad.inject = [] ∧ pairAgrees w.vals c = true) ∧
    (∃ (s : State) (w : VoteWrite) (_ : Votes (List SigWrite)) (_ : Votes CoreReq) (c : Nat), s.held = false ∧ s.get
      Rg.VT_STATUS_STATE = 3 ∧ s.get Rg.VT_STATUS_OUT_VALID = 1 ∧ s.get Rg.VT_STATUS_OUT_CORE = c ∧ s.triad.resync = .idle
      ∧ s.triad.inject = [] ∧ pairAgrees w.vals c = false) ∧
    (∃ (s : State) (_ : VoteWrite) (v : Votes (List SigWrite)) (_ : Votes CoreReq) (c : Nat), s.held = false ∧ s.get
      Rg.VT_STATUS_STATE = 3 ∧ s.get Rg.VT_STATUS_OUT_VALID = 1 ∧ s.get Rg.VT_STATUS_OUT_CORE = c ∧ s.triad.resync = .idle
      ∧ s.triad.inject = [] ∧ s.windowEnds = true ∧ pairAgrees (sigsOf v) c = false) ∧
    (∃ (s : State) (_ : VoteWrite) (_ : Votes (List SigWrite)) (q : Votes CoreReq) (c : Nat), s.held = false ∧ s.get
      Rg.VT_STATUS_STATE = 3 ∧ s.get Rg.VT_STATUS_OUT_VALID = 1 ∧ s.get Rg.VT_STATUS_OUT_CORE = c ∧ s.triad.resync = .idle
      ∧ s.triad.inject = [] ∧ pairAgrees q c = true) ∧
    (∃ (s : State) (_ : VoteWrite) (_ : Votes (List SigWrite)) (q : Votes CoreReq) (c : Nat), s.held = false ∧ s.get
      Rg.VT_STATUS_STATE = 3 ∧ s.get Rg.VT_STATUS_OUT_VALID = 1 ∧ s.get Rg.VT_STATUS_OUT_CORE = c ∧ s.triad.resync = .idle
      ∧ s.triad.inject = [] ∧ pairAgrees q c = false) ∧
    (∃ (s : State) (m : Master) (v : Word), MayWrite s m Rg.VT_CMD_INJECT.addr 4 ∧ v.toNat % 4 = 3) ∧
    (∃ (s : State) (m : Master) (v : Word), MayWrite s m Rg.VT_CMD_INJECT.addr 4 ∧ v.toNat % 4 < 3 ∧ s.triad.inject =
      []) ∧
    (∃ (s : State), s.held = false ∧ s.get Rg.VT_STATUS_STATE = 1 ∧ s.get Rg.VT_CFG_RESYNC_EN = 1 ∧ s.tri.halted = false
      ∧ (s.locked = true → s.triad.tick ≠ 0) ∧ (s.locked = false → s.mc % 2048 = 0 ∧ s.triad.fenceAt ≠ some s.mc)) ∧
    (∃ (s : State), s.held = false ∧ (s.get Rg.VT_STATUS_STATE ≠ 1 ∨ s.tri.halted = true ∨ (s.locked = true ∧
      s.triad.tick = 0) ∨ (s.locked = false ∧ (s.mc % 2048 ≠ 0 ∨ s.triad.fenceAt = some s.mc)))) :=
  ⟨⟨{ dev [(Rg.VT_STATUS_STATE, 3), (Rg.VT_STATUS_OUT_VALID, 1), (Rg.VT_STATUS_OUT_CORE, 1)] with held := false }, ⟨4,
     ⟨5, 5, 5⟩⟩, ⟨[], [], []⟩, ⟨⟨true, 0x100, 5, 15⟩, ⟨true, 0x100, 5, 15⟩, ⟨true, 0x100, 5, 15⟩⟩, 1, by decide +kernel⟩,
   ⟨{ dev [(Rg.VT_STATUS_STATE, 3), (Rg.VT_STATUS_OUT_VALID, 1), (Rg.VT_STATUS_OUT_CORE, 1)] with held := false }, ⟨4,
     ⟨5, 6, 7⟩⟩, ⟨[], [], []⟩, ⟨⟨true, 0x100, 5, 15⟩, ⟨true, 0x100, 5, 15⟩, ⟨true, 0x100, 5, 15⟩⟩, 1, by decide +kernel⟩,
   ⟨{ dev [(Rg.VT_STATUS_STATE, 3), (Rg.VT_STATUS_OUT_VALID, 1), (Rg.VT_STATUS_OUT_CORE, 1), (Rg.TMR_MC_LO,
     64)] with held := false }, ⟨4, ⟨5, 5, 5⟩⟩, ⟨[⟨0x100, 5, 15, 3⟩], [⟨0x100, 6, 15, 3⟩], [⟨0x100, 7, 15, 3⟩]⟩, ⟨⟨true,
     0x100, 5, 15⟩, ⟨true, 0x100, 5, 15⟩, ⟨true, 0x100, 5, 15⟩⟩, 1, by decide +kernel⟩,
   ⟨{ dev [(Rg.VT_STATUS_STATE, 3), (Rg.VT_STATUS_OUT_VALID, 1), (Rg.VT_STATUS_OUT_CORE, 1)] with held := false }, ⟨4,
     ⟨5, 5, 5⟩⟩, ⟨[], [], []⟩, ⟨⟨true, 0x100, 5, 15⟩, ⟨true, 0x100, 5, 15⟩, ⟨true, 0x100, 5, 15⟩⟩, 1, by decide +kernel⟩,
   ⟨{ dev [(Rg.VT_STATUS_STATE, 3), (Rg.VT_STATUS_OUT_VALID, 1), (Rg.VT_STATUS_OUT_CORE, 1)] with held := false }, ⟨4,
     ⟨5, 5, 5⟩⟩, ⟨[], [], []⟩, ⟨⟨true, 0x100, 5, 15⟩, ⟨true, 0x104, 12, 15⟩, ⟨true, 0x104, 9, 15⟩⟩, 1, by decide +kernel⟩,
   ⟨State.reset, 0, 3, by decide +kernel⟩,
   ⟨State.reset, 0, 1, by decide +kernel⟩,
   ⟨{ dev [(Rg.VT_STATUS_STATE, 1), (Rg.VT_CFG_RESYNC_EN, 1)] with held := false }, by decide +kernel⟩,
   ⟨State.reset, by decide +kernel⟩⟩

/-- The hypotheses of clauses 19 to 27 of `Obligations.VotesFenceAndResyncFollowsR329` are met. -/
theorem witness_VotesFenceAndResyncFollowsR329_3 :
    (∃ (s : State), s.held = false ∧ s.triad.resync = .quiesce ∧ s.tri.sb = []) ∧
    (∃ (s : State) (c : Nat), s.held = false ∧ s.triad.resync = .quiesce ∧ c < 3 ∧ s.get Rg.VT_STATUS_FENCED_CORE = c ∧
      s.get (failsFld c) < 2 ∧ s.get Rg.VT_CFG_RESYNC_EN = 1) ∧
    (∃ (s : State), s.held = false ∧ s.triad.resync = .copy) ∧
    (∃ (s : State), s.held = false ∧ s.triad.resync = .probation 0) ∧
    (∃ (s : State), s.held = false ∧ s.triad.resync = .idle) ∧
    (∃ (s : State) (_ : Votes Word), s.held = false ∧ s.triad.resync = .idle) ∧
    (∃ (s : State) (crc : Votes Word) (c : Nat), s.held = false ∧ s.triad.resync = .check ∧ c < 3 ∧ s.get
      Rg.VT_STATUS_FENCED_CORE = c ∧ vote crc = .agree) ∧
    (∃ (s : State) (crc : Votes Word) (c : Nat), s.held = false ∧ s.triad.resync = .check ∧ c < 3 ∧ s.get
      Rg.VT_STATUS_FENCED_CORE = c ∧ vote crc = .dissent c ∧ s.get (failsFld c) < 2 ∧ s.get Rg.VT_CFG_RESYNC_EN = 1) ∧
    (∃ (s : State) (crc : Votes Word) (c : Nat), s.held = false ∧ s.triad.resync = .check ∧ c < 3 ∧ s.get
      Rg.VT_STATUS_FENCED_CORE = c ∧ pairAgrees crc c = false ∧ s.lastResort = false) :=
  ⟨⟨{ State.reset with triad := { resync := .quiesce } }, by decide +kernel⟩,
   ⟨{ dev [(Rg.VT_STATUS_FENCED_CORE, 1), (Rg.VT_CFG_RESYNC_EN, 1)] with triad := { resync := .quiesce } }, 1,
     by decide +kernel⟩,
   ⟨{ State.reset with triad := { resync := .copy } }, by decide +kernel⟩,
   ⟨{ State.reset with triad := { resync := .probation 0 } }, by decide +kernel⟩,
   ⟨State.reset, by decide +kernel⟩,
   ⟨State.reset, ⟨5, 5, 5⟩, by decide +kernel⟩,
   ⟨{ dev [(Rg.VT_STATUS_FENCED_CORE, 1)] with triad := { resync := .check } }, ⟨5, 5, 5⟩, 1, by decide +kernel⟩,
   ⟨{ dev [(Rg.VT_STATUS_FENCED_CORE, 1), (Rg.VT_CFG_RESYNC_EN, 1)] with triad := { resync := .check } }, ⟨5, 6, 5⟩, 1,
     by decide +kernel⟩,
   ⟨{ dev [(Rg.VT_STATUS_FENCED_CORE, 1)] with triad := { resync := .check } }, ⟨5, 6, 7⟩, 1, by decide +kernel⟩⟩

/-- The hypotheses of clauses 1 to 11 of `Obligations.VaultPairsAndFusesFollowTheSpec` are met. -/
theorem witness_VaultPairsAndFusesFollowTheSpec_1 :
    (∃ (s : State) (m : Master) (_ : Word), MayWrite s m Rg.VAULT_CMD_WIPE.addr 4) ∧
    (∃ (s : State) (_ : Fin 3), s.held = false) ∧
    (∃ (s : State), s.held = false) ∧
    (∃ (s : State) (m : Master) (p : Pair) (_ : Word), MayWrite s m (pairFlds p).1.addr 4) ∧
    (∃ (s : State) (m : Master) (_ : Word) (n : Fin 8) (_ : Fin 16) (x : Nat), s.held = false ∧ (∀ q : Pair,
      s.writeCheck m (pairFlds q).2.addr 4 = none) ∧ x = s.loHeld m (Rg.TMR_CMP_LO n) ∧ x < 2 ^ 32 ∧ s.get
      (Rg.TMR_CTRL_MODE n) = 0) ∧
    (∃ (s : State) (m : Master) (_ : Word) (_ : Fin 8) (u : Fin 16) (x : Nat), s.held = false ∧ (∀ q : Pair,
      s.writeCheck m (pairFlds q).2.addr 4 = none) ∧ x = s.loHeld m (Rg.CRC_EXPECT_LO u) ∧ x < 2 ^ 32) ∧
    (∃ (s : State) (m : Master) (_ : Word) (n : Fin 8) (_ : Fin 16) (x : Nat), s.held = false ∧ (∀ q : Pair,
      s.writeCheck m (pairFlds q).2.addr 4 = none) ∧ x = s.loHeld m (Rg.TMR_TOP_LO n) ∧ x < 2 ^ 32 ∧ s.get
      (Rg.TMR_CTRL_MODE n) = 0) ∧
    (∃ (s : State) (m : Master) (_ : Word) (n : Fin 8) (_ : Fin 16) (_ : Nat) (p : Pair), s.held = false ∧ (∀ q : Pair,
      s.writeCheck m (pairFlds q).2.addr 4 = none) ∧ s.get (Rg.TMR_CTRL_MODE n) = 1 ∧ (p = .tmrCmp n ∨ p = .tmrTop n)) ∧
    (∃ (s : State) (m : Master) (_ : Word) (_ : Fin 8) (_ : Fin 16) (_ : Nat) (p : Pair), s.held = false ∧ (∀ q : Pair,
      s.writeCheck m (pairFlds q).2.addr 4 = none) ∧ s.pairFixed p = true) ∧
    (∃ (s : State) (m : Master) (_ : Word) (_ : Fin 8) (_ : Fin 16) (_ : Nat) (p : Pair), s.held = false ∧ (∀ q : Pair,
      s.writeCheck m (pairFlds q).2.addr 4 = none) ∧ s.pairFixed p = false ∧ p ≠ .calSet ∧ (∀ k, p ≠ .crcValue k)) ∧
    (∃ (s : State) (m : Master) (_ : Word) (_ : Fin 8) (u : Fin 16) (x : Nat), s.held = false ∧ (∀ q : Pair,
      s.writeCheck m (pairFlds q).2.addr 4 = none) ∧ x = s.loHeld m (Rg.CRC_VALUE_LO u) ∧ x < 2 ^ 32) :=
  ⟨⟨State.reset, 0, 7, by decide +kernel⟩,
   ⟨State.reset, 1, by decide +kernel⟩,
   ⟨State.reset, by decide +kernel⟩,
   ⟨State.reset, 0, .calSet, 7, by decide +kernel⟩,
   ⟨{ dev [(Rg.TMR_CTRL_MODE 0, 0)] with held := false }, 0, 7, 0, 0, 2 ^ 32 - 1, by decide +kernel,
     by intro q; cases q <;> first | decide | (rename_i n; revert n; decide), by decide +kernel, by decide +kernel,
     by decide +kernel⟩,
   ⟨State.reset, 0, 7, 0, 0, 0, by decide +kernel,
     by intro q; cases q <;> first | decide | (rename_i n; revert n; decide), by decide +kernel, by decide +kernel⟩,
   ⟨{ dev [(Rg.TMR_CTRL_MODE 0, 0)] with held := false }, 0, 7, 0, 0, ((State.reset).loHeld 0 (Rg.TMR_TOP_LO 0)),
     by decide +kernel, by intro q; cases q <;> first | decide | (rename_i n; revert n; decide), by decide +kernel,
     by decide +kernel, by decide +kernel⟩,
   ⟨{ dev [(Rg.TMR_CTRL_MODE 0, 1)] with held := false }, 0, 7, 0, 0, 0, .tmrTop 0, by decide +kernel,
     by intro q; cases q <;> first | decide | (rename_i n; revert n; decide), by decide +kernel, Or.inr rfl⟩,
   ⟨{ dev [(Rg.CRC_CFG_PRESET 0, 1)] with held := false }, 0, 7, 0, 0, 0, .crcPoly 0, by decide +kernel,
     by intro q; cases q <;> first | decide | (rename_i n; revert n; decide), by decide +kernel⟩,
   ⟨State.reset, 0, 7, 0, 0, 0, .tmrCmp 0, by decide +kernel,
     by intro q; cases q <;> first | decide | (rename_i n; revert n; decide), by decide +kernel, by decide +kernel,
     by intro k h; cases h⟩,
   ⟨State.reset, 0, 7, 0, 0, ((State.reset).loHeld 0 (Rg.CRC_VALUE_LO 0)), by decide +kernel,
     by intro q; cases q <;> first | decide | (rename_i n; revert n; decide), by decide +kernel, by decide +kernel⟩⟩

/-- The hypotheses of clauses 12 to 21 of `Obligations.VaultPairsAndFusesFollowTheSpec` are met. -/
theorem witness_VaultPairsAndFusesFollowTheSpec_2 :
    (∃ (s : State) (m : Master) (v : Word) (_ : Fin 8) (_ : Fin 16) (_ : Nat), s.held = false ∧ (∀ q : Pair,
      s.writeCheck m (pairFlds q).2.addr 4 = none) ∧ (s.flag Rg.CAL_STATUS_BUSY = true ∨ 2 ^ 31 ≤ v.toNat)) ∧
    (∃ (s : State) (m : Master) (v : Word) (_ : Fin 8) (_ : Fin 16) (_ : Nat), s.held = false ∧ (∀ q : Pair,
      s.writeCheck m (pairFlds q).2.addr 4 = none) ∧ s.flag Rg.CAL_STATUS_BUSY = false ∧ v.toNat < 2 ^ 31 ∧ s.loHeld m
      Rg.CAL_SET_LO < 2 ^ 32) ∧
    (∃ (c : Instr) (s : State) (m : Master) (v : Word) (op : Nat), lcRow c = some (m, v, op) ∧ MayWrite s m
      Rg.LC_CMD_OP.addr 4 ∧ LcAccepts s op v) ∧
    (∃ (c : Instr) (s : State) (m : Master) (v : Word) (op : Nat), lcRow c = some (m, v, op) ∧ MayWrite s m
      Rg.LC_CMD_OP.addr 4 ∧ ¬ LcAccepts s op v ∧ s.get Rg.LC_STATUS_BUSY < 2) ∧
    (∃ (s : State), s.held = false ∧ s.fuseOp = none) ∧
    (∃ (s : State) (k : Nat), s.held = false ∧ s.fuseOp = some (1, k) ∧ s.get Rg.LC_STATE_STATE < 2) ∧
    (∃ (s : State) (k : Nat), s.held = false ∧ s.fuseOp = some (2, k)) ∧
    (∃ (s : State) (k : Nat), s.held = false ∧ s.fuseOp = some (3, k) ∧ k < 4 ∧ s.get Rg.LC_STATE_KEY_REVOKED < 16) ∧
    (∃ (s : State) (k : Nat), s.held = false ∧ s.fuseOp = some (4, k) ∧ k < 4 ∧ s.get Rg.LC_STATE_KEY_VALID < 16 ∧
      s.lmErr = []) ∧
    (∃ (s : State) (k : Nat), s.held = false ∧ s.fuseOp = some (5, k) ∧ s.get Rg.LC_SVN < 63) :=
  ⟨⟨{ dev [(Rg.CAL_STATUS_BUSY, 1)] with held := false }, 0, 7, 0, 0, 0, by decide +kernel,
     by intro q; cases q <;> first | decide | (rename_i n; revert n; decide), by decide +kernel⟩,
   ⟨{ dev [(Rg.CAL_STATUS_BUSY, 0)] with held := false }, 0, 7, 0, 0, 0, by decide +kernel,
     by intro q; cases q <;> first | decide | (rename_i n; revert n; decide), by decide +kernel, by decide +kernel,
     by decide +kernel⟩,
   ⟨.advance 0 0x4C430000, dev [(Rg.LC_STATE_KEY_VALID, 1)], 0, 0x4C430000, 1, by decide +kernel⟩,
   ⟨.advance 0 7, State.reset, 0, 7, 1, by decide +kernel⟩,
   ⟨{ State.reset with fuseOp := none }, by decide +kernel⟩,
   ⟨{ State.reset with fuseOp := some (1, 1) }, 1, by decide +kernel⟩,
   ⟨{ State.reset with fuseOp := some (2, 1) }, 1, by decide +kernel⟩,
   ⟨{ State.reset with fuseOp := some (3, 1) }, 1, by decide +kernel⟩,
   ⟨{ State.reset with fuseOp := some (4, 1), lmErr := [] }, 1, by decide +kernel⟩,
   ⟨{ State.reset with fuseOp := some (5, 1) }, 1, by decide +kernel⟩⟩

/-- The hypotheses of clauses 1 to 12 of `Obligations.TimersAndCalendarCount` are met. -/
theorem witness_TimersAndCalendarCount_1 :
    (∃ (s : State), s.held = false ∧ s.tmrFire = [] ∧ (∀ n : Fin 8, s.get (Rg.TMR_CTRL_SRC n) ≠ 0) ∧ (s.locked = true ∨
      (s.mc + 1) % 2048 ≠ 0)) ∧
    (∃ (s : State), s.held = false ∧ s.tmrFire = [] ∧ (∀ n : Fin 8, s.get (Rg.TMR_CTRL_SRC n) ≠ 0) ∧ s.locked = false ∧
      (s.mc + 1) % 2048 = 0) ∧
    (∃ (s : State) (n : Fin 8), s.held = false ∧ s.tmrFire = [] ∧ OnlyTimer s n 0 ∧ s.tmrZero = [] ∧ s.tmrTop n ≤
      s.tmrCount n) ∧
    (∃ (s : State) (n : Fin 8), s.held = false ∧ s.tmrFire = [] ∧ OnlyTimer s n 0 ∧ s.tmrZero = [] ∧ s.tmrCount n <
      s.tmrTop n) ∧
    (∃ (s : State) (n : Fin 8), s.held = false ∧ s.tmrFire = [] ∧ OnlyTimer s n 0 ∧ s.tmrZero = [n.val]) ∧
    (∃ (s : State) (m : Master) (n : Fin 8) (v : Word), MayWrite s m (Rg.TMR_CMD_RESTART n).addr 4 ∧ v.toNat / 2 % 8 = 0
      ∧ s.tmrZero = []) ∧
    (∃ (s : State) (m : Master) (n : Fin 8) (v : Word) (c : Nat) (r : List Nat), MayWrite s m (Rg.TMR_CMD_RESTART
      n).addr 4 ∧ v.toNat % 2 = 0 ∧ v.toNat / 4 % 4 = 0 ∧ Tab.get s.tmrCaps n [] = c :: r ∧ r.length < 8) ∧
    (∃ (s : State) (m : Master) (n : Fin 8) (v : Word), MayWrite s m (Rg.TMR_CMD_RESTART n).addr 4 ∧ v.toNat % 4 = 0 ∧
      v.toNat / 8 % 2 = 0) ∧
    (∃ (s : State) (m : Master) (n : Fin 8) (v : Word), MayWrite s m (Rg.TMR_CMD_RESTART n).addr 4 ∧ v.toNat % 8 = 0) ∧
    (∃ (s : State) (pin : Fin 4) (rising : Bool) (mc : BitVec 8), s.held = false ∧ (s.sinceFilt mc.toNat < max (s.get
      Rg.PAD_FILT_TMR_FILT) 1 ∨ Tab.get s.tmrIn pin true = rising)) ∧
    (∃ (s : State) (n : Fin 8) (pin : Fin 4) (rising : Bool) (mc : BitVec 8), s.held = false ∧ Watches s n pin rising ∧
      max (s.get Rg.PAD_FILT_TMR_FILT) 1 + 1 ≤ s.sinceFilt mc.toNat ∧ Tab.get s.tmrIn pin true ≠ rising ∧ (∀ k : Fin 8, k
      ≠ n → ¬ Watches s k pin rising) ∧ (Tab.get s.tmrCaps n []).length < 4) ∧
    (∃ (s : State) (n : Fin 8) (pin : Fin 4) (rising : Bool) (mc : BitVec 8), s.held = false ∧ Watches s n pin rising ∧
      max (s.get Rg.PAD_FILT_TMR_FILT) 1 + 1 ≤ s.sinceFilt mc.toNat ∧ Tab.get s.tmrIn pin true ≠ rising ∧ (∀ k : Fin 8, k
      ≠ n → ¬ Watches s k pin rising) ∧ 4 ≤ (Tab.get s.tmrCaps n []).length) :=
  ⟨⟨{ dev [(Rg.FT_STATUS_STATE, 4), (Rg.TMR_CTRL_SRC 0, 3), (Rg.TMR_CTRL_SRC 1, 3), (Rg.TMR_CTRL_SRC 2, 3),
     (Rg.TMR_CTRL_SRC 3, 3), (Rg.TMR_CTRL_SRC 4, 3), (Rg.TMR_CTRL_SRC 5, 3), (Rg.TMR_CTRL_SRC 6, 3), (Rg.TMR_CTRL_SRC 7,
     3)] with tmrFire := [] }, by decide +kernel⟩,
   ⟨{ dev [(Rg.TMR_MC_LO, 2047), (Rg.TMR_CTRL_SRC 0, 1), (Rg.TMR_CTRL_SRC 1, 1), (Rg.TMR_CTRL_SRC 2, 1),
     (Rg.TMR_CTRL_SRC 3, 1), (Rg.TMR_CTRL_SRC 4, 1), (Rg.TMR_CTRL_SRC 5, 1), (Rg.TMR_CTRL_SRC 6, 1), (Rg.TMR_CTRL_SRC 7,
     1)] with tmrFire := [] }, by decide +kernel⟩,
   ⟨{ dev [(Rg.TMR_CTRL_SRC 0, 3), (Rg.TMR_CTRL_SRC 1, 3), (Rg.TMR_CTRL_SRC 3, 3), (Rg.TMR_CTRL_SRC 4, 3),
     (Rg.TMR_CTRL_SRC 5, 3), (Rg.TMR_CTRL_SRC 6, 3), (Rg.TMR_CTRL_SRC 7, 3), (Rg.TMR_COUNT_LO 2,
     3)] with tmrFire := [], tmrZero := [], inForce := [((Rg.TMR_TOP_LO 2).key, 3), ((Rg.TMR_TOP_HI 2).key, 0)] }, 2,
     by decide +kernel⟩,
   ⟨{ dev [(Rg.TMR_CTRL_SRC 0, 3), (Rg.TMR_CTRL_SRC 1, 3), (Rg.TMR_CTRL_SRC 3, 3), (Rg.TMR_CTRL_SRC 4, 3),
     (Rg.TMR_CTRL_SRC 5, 3), (Rg.TMR_CTRL_SRC 6, 3), (Rg.TMR_CTRL_SRC 7, 3)] with tmrFire := [], tmrZero := [] }, 2,
     by decide +kernel⟩,
   ⟨{ dev [(Rg.TMR_CTRL_SRC 0, 3), (Rg.TMR_CTRL_SRC 1, 3), (Rg.TMR_CTRL_SRC 3, 3), (Rg.TMR_CTRL_SRC 4, 3),
     (Rg.TMR_CTRL_SRC 5, 3), (Rg.TMR_CTRL_SRC 6, 3), (Rg.TMR_CTRL_SRC 7, 3)] with tmrFire := [], tmrZero := [2] }, 2,
     by decide +kernel⟩,
   ⟨{ State.reset with tmrZero := [] }, 0, 2, 0, by decide +kernel⟩,
   ⟨{ State.reset with tmrCaps := [(2, [5, 6])] }, 0, 2, 0, 5, [6], by decide +kernel⟩,
   ⟨State.reset, 0, 2, 0, by decide +kernel⟩,
   ⟨State.reset, 0, 2, 0, by decide +kernel⟩,
   ⟨State.reset, 0, false, 0, by decide +kernel⟩,
   ⟨{ dev [(Rg.TMR_CTRL_CAP_PIN 2, 1), (Rg.TMR_CTRL_CAP_EDGE 2, 3), (Rg.TMR_COUNT_LO 2, 9)] with held := false }, 2, 1,
     false, 200, by decide +kernel⟩,
   ⟨{ dev [(Rg.TMR_CTRL_CAP_PIN 2, 1), (Rg.TMR_CTRL_CAP_EDGE 2, 3)] with tmrCaps := [(2, [5, 6, 7, 8])] }, 2, 1, false,
     200, by decide +kernel⟩⟩

/-- The hypotheses of clauses 13 to 23 of `Obligations.TimersAndCalendarCount` are met. -/
theorem witness_TimersAndCalendarCount_2 :
    (∃ (s : State), s.calSkip = 0) ∧
    (∃ (s : State), s.calSkip ≠ 0) ∧
    (∃ (s : State), s.calCount < 64 * 2 ^ 15) ∧
    (∃ (s : State) (k : Nat), 64 * 2 ^ 15 ≤ s.calCount ∧ s.calTime < 2 ^ 63 ∧ s.get Rg.CAL_CTRL_TRIM = k ∧ k < 128) ∧
    (∃ (s : State) (k : Nat), 64 * 2 ^ 15 ≤ s.calCount ∧ s.calTime < 2 ^ 63 ∧ s.get Rg.CAL_CTRL_TRIM = k ∧ 128 ≤ k ∧ k <
      256) ∧
    (∃ (s : State), s.get Rg.CAL_STATUS_BUSY = 1) ∧
    (∃ (s : State), s.get Rg.CAL_STATUS_BUSY ≠ 1) ∧
    (∃ (s : State), s.held = false) ∧
    (∃ (s : State) (temps : Vector (BitVec 16) 8), s.held = false ∧ (∃ x ∈ temps.toList, x.toInt < -320 ∨ 1000 <
      x.toInt)) ∧
    (∃ (s : State) (temps : Vector (BitVec 16) 8), s.held = false ∧ (∀ x ∈ temps.toList, -320 ≤ x.toInt ∧ x.toInt ≤
      1000) ∧ (∃ x ∈ temps.toList, sext 11 (s.get Rg.PAD_THERM_ALERT) ≤ x.toInt)) ∧
    (∃ (s : State) (temps : Vector (BitVec 16) 8), s.held = false ∧ (∀ x ∈ temps.toList, -320 ≤ x.toInt ∧ x.toInt ≤
      1000) ∧ (∀ x ∈ temps.toList, x.toInt < sext 11 (s.get Rg.PAD_THERM_ALERT))) :=
  ⟨⟨{ State.reset with calSkip := 0 }, by decide +kernel⟩,
   ⟨{ State.reset with calSkip := 3 }, by decide +kernel⟩,
   ⟨State.reset, by decide +kernel⟩,
   ⟨{ dev [(Rg.CAL_CTRL_TRIM, 5)] with calCount := 2097152 + 7 }, 5, by decide +kernel⟩,
   ⟨{ dev [(Rg.CAL_CTRL_TRIM, 253)] with calCount := 2097152 + 7 }, 253, by decide +kernel⟩,
   ⟨dev [(Rg.CAL_STATUS_BUSY, 1)], by decide +kernel⟩,
   ⟨State.reset, by decide +kernel⟩,
   ⟨State.reset, by decide +kernel⟩,
   ⟨State.reset, #v[8, 16, 24, 2000, 40, 48, 56, 64], by decide +kernel, ⟨2000, by simp, Or.inr (by decide)⟩⟩,
   ⟨State.reset, Vector.replicate 8 900, by decide +kernel, by simp, ⟨900, by simp, by decide +kernel⟩⟩,
   ⟨State.reset, Vector.replicate 8 32, by decide +kernel, by simp, fun x hx => by simp at hx; subst hx; decide +kernel⟩⟩

/-- The hypotheses of clauses 1 to 7 of `Obligations.CrcUnitsAndCountersCount` are met. -/
theorem witness_CrcUnitsAndCountersCount_1 :
    (∃ (c : Instr) (s : State) (m : Master) (u : Fin 16) (v : Word) (k : Nat), crcRow c = some (m, u, v, k) ∧ (∀ f ∈
      [Rg.CRC_DATA8 u, Rg.CRC_DATA16 u, Rg.CRC_DATA32 u], MayWrite s m f.addr 4) ∧ 1 ≤ (s.crcParams u).width ∧
      (s.crcParams u).width ≤ 64) ∧
    (∃ (s : State) (_ : Fin 16), s.held = false) ∧
    (∃ (s : State) (m : Master) (u : Fin 16) (v : Word), MayWrite s m (Rg.CRC_CMD_START u).addr 4 ∧ 1 ≤ (s.crcParams
      u).width ∧ (s.crcParams u).width ≤ 64 ∧ v.toNat / 2 % 2 = 0) ∧
    (∃ (s : State) (m : Master) (u : Fin 16) (v : Word), MayWrite s m (Rg.CRC_CMD_START u).addr 4 ∧ 1 ≤ (s.crcParams
      u).width ∧ (s.crcParams u).width ≤ 64 ∧ v.toNat % 2 = 0 ∧ s.crcRes u = s.get2 (Rg.CRC_EXPECT_LO u) (Rg.CRC_EXPECT_HI
      u) % 2 ^ (s.crcParams u).width) ∧
    (∃ (s : State) (m : Master) (u : Fin 16) (v : Word), MayWrite s m (Rg.CRC_CMD_START u).addr 4 ∧ 1 ≤ (s.crcParams
      u).width ∧ (s.crcParams u).width ≤ 64 ∧ v.toNat % 2 = 0 ∧ s.crcRes u ≠ s.get2 (Rg.CRC_EXPECT_LO u) (Rg.CRC_EXPECT_HI
      u) % 2 ^ (s.crcParams u).width) ∧
    (∃ (s : State) (n : VE) (code c k : Nat), k < 128 ∧ 0 < c ∧ s.get (Rg.EC_SEL n k) = code) ∧
    (∃ (s : State) (n : VE) (code c k : Nat), k < 128 ∧ 0 < c ∧ s.get (Rg.EC_SEL n k) = code ∧ 2 ^ 48 ≤ s.get2 (Rg.EC_LO
      n k) (Rg.EC_HI_COUNT n k) + c) :=
  ⟨⟨.crcData8 0 3 0x31, State.reset, 0, 3, 0x31, 1, by decide +kernel⟩,
   ⟨State.reset, 3, by decide +kernel⟩,
   ⟨State.reset, 0, 3, 0x31, by decide +kernel⟩,
   ⟨State.reset, 0, 3, 2, by decide +kernel⟩,
   ⟨dev [(Rg.CRC_EXPECT_LO 3, 5)], 0, 3, 2, by decide +kernel⟩,
   ⟨dev [(Rg.EC_SEL 3 1, 5)], 3, 5, 2, 1, by decide +kernel⟩,
   ⟨dev [(Rg.EC_SEL 3 1, 5), (Rg.EC_LO 3 1, 0xFFFFFFFF), (Rg.EC_HI_COUNT 3 1, 0xFFFF)], 3, 5, 2, 1, by decide +kernel⟩⟩

/-- The hypotheses of clauses 8 to 13 of `Obligations.CrcUnitsAndCountersCount` are met. -/
theorem witness_CrcUnitsAndCountersCount_2 :
    (∃ (s : State) (n : VE) (code c k : Nat), k < 128 ∧ 0 < c ∧ s.get (Rg.EC_SEL n k) ≠ code) ∧
    (∃ (s : State) (m : Master) (n : VE) (_ : Word), MayWrite s m (Rg.EC_CTRL_CLEAR_ALL n).addr 4) ∧
    (∃ (s : State) (n : VE) (_ : TagInfo), s.held = false ∧ (s.get (Rg.TAG_CFG_N n) = 0 ∨ s.get Rg.DD_STATUS_TIER ≠ 0 ∨
      Tab.get s.tagWait n 0 ≠ 0)) ∧
    (∃ (s : State) (n : VE) (_ : TagInfo) (q : Nat), s.held = false ∧ s.get (Rg.TAG_CFG_N n) ≠ 0 ∧ s.get
      Rg.DD_STATUS_TIER = 0 ∧ Tab.get s.tagWait n 0 = 0 ∧ q = s.get (Rg.TAG_CFG_QUEUE n) ∧ q ≠ 0 ∧ PtrsGood s q ∧ RingGood
      s q ∧ s.storeErr = [] ∧ s.qFits q 2 = true) ∧
    (∃ (s : State) (n : VE) (_ : TagInfo) (q : Nat), s.held = false ∧ s.get (Rg.TAG_CFG_N n) ≠ 0 ∧ s.get
      Rg.DD_STATUS_TIER = 0 ∧ Tab.get s.tagWait n 0 = 0 ∧ q = s.get (Rg.TAG_CFG_QUEUE n) ∧ q ≠ 0 ∧ PtrsGood s q ∧ (s.qOn q
      = false ∨ s.qFits q 2 = false)) ∧
    (∃ (s : State) (n : VE) (_ : TagInfo), s.held = false ∧ s.get (Rg.TAG_CFG_N n) ≠ 0 ∧ s.get Rg.DD_STATUS_TIER = 0 ∧
      Tab.get s.tagWait n 0 = 0 ∧ s.get (Rg.TAG_CFG_QUEUE n) = 0) :=
  ⟨⟨State.reset, 3, 5, 2, 1, by decide +kernel⟩,
   ⟨State.reset, 0, 3, 0x31, by decide +kernel⟩,
   ⟨{ dev [(Rg.TAG_CFG_N 3, 0)] with held := false }, 3, ⟨1, 2, 3, 4, 5, true⟩, by decide +kernel⟩,
   ⟨{ dev [(Rg.DD_STATUS_TIER, 0), (Rg.TAG_CFG_N 3, 4), (Rg.TAG_CFG_QUEUE 3, 20), (Rg.Q_CFG_ENABLE 20, 1),
     (Rg.Q_BASE 20, 4096)] with storeErr := [] }, 3, ⟨1, 2, 3, 4, 5, true⟩, 20, by decide +kernel⟩,
   ⟨{ dev [(Rg.DD_STATUS_TIER, 0), (Rg.TAG_CFG_N 3, 4), (Rg.TAG_CFG_QUEUE 3, 20)] with held := false }, 3, ⟨1, 2, 3, 4,
     5, true⟩, 20, by decide +kernel⟩,
   ⟨{ dev [(Rg.DD_STATUS_TIER, 0), (Rg.TAG_CFG_QUEUE 3, 0), (Rg.TAG_CFG_N 3, 4)] with held := false }, 3, ⟨1, 2, 3, 4,
     5, true⟩, by decide +kernel⟩⟩

/-- The hypotheses of the clauses of `Obligations.ChannelTasksWriteTheirRecords` are met. -/
theorem witness_ChannelTasksWriteTheirRecords :
    (∃ (s : State) (ch : BitVec 23) (k : CtKind) (rs : List (Nat × Nat)) (dn : List Nat), RecordsOpen s ∧ s.ctTasks =
      [⟨k, rs, dn⟩] ∧ covered rs ch.toNat = true ∧ ch.toNat < s.ctCount ∧ ch.toNat ∉ dn ∧ s.ctRoom ch.toNat = true ∧ (∀ l,
      k = .reinstate l → s.otherRetired l ch.toNat = false)) ∧
    (∃ (s : State) (ch : BitVec 23) (k : CtKind) (rs : List (Nat × Nat)) (dn : List Nat) (l : Nat), RecordsOpen s ∧
      s.ctTasks = [⟨k, rs, dn⟩] ∧ covered rs ch.toNat = true ∧ ch.toNat < s.ctCount ∧ ch.toNat ∉ dn ∧ s.ctRoom ch.toNat =
      true ∧ k = .reinstate l ∧ s.otherRetired l ch.toNat = true) ∧
    (∃ (s : State) (ch : BitVec 23), s.held = false ∧ (s.ctOpen = false ∨ s.ctTasks = [] ∨ s.ctCount ≤ ch.toNat ∨
      (s.ctFenced = true ∧ 40 ≤ Tab.get s.ctUsed (s.ctBank ch.toNat) 0))) ∧
    (∃ (s : State) (l : Nat) (rs : List (Nat × Nat)) (dn : List Nat), s.held = false ∧ s.ctTasks = [⟨.orphan l, rs,
      dn⟩]) ∧
    (∃ (s : State) (l : Nat) (rs : List (Nat × Nat)) (dn : List Nat), s.held = false ∧ s.ctTasks = [⟨.orphan l, rs, dn⟩]
      ∧ s.taskLeft ⟨.orphan l, rs, dn⟩ ≠ [] ∧ s.ctOpen = false) ∧
    (∃ (s : State) (l : Nat) (rs : List (Nat × Nat)) (dn : List Nat), s.held = false ∧ s.ctTasks = [⟨.orphan l, rs, dn⟩]
      ∧ (s.taskLeft ⟨.orphan l, rs, dn⟩ = [] ∨ s.ctFenced = false)) ∧
    (∃ (s : State) (l : Nat) (rs : List (Nat × Nat)) (dn : List Nat), s.held = false ∧ s.ctTasks = [⟨.reinstate l, rs,
      dn⟩] ∧ (s.taskLeft ⟨.reinstate l, rs, dn⟩ = [] ∨ s.ctFenced = false) ∧ (s.lane l).ret = some .reinstate ∧ s.flag
      (Rg.LN_CTRL_ENABLE l) = true ∧ s.locked = false ∧ l < 128) ∧
    (∃ (s : State) (a : Nat) (b : Nat) (rs : List (Nat × Nat)) (dn : List Nat), s.held = false ∧ s.ctTasks = [⟨.command
      a b, rs, dn⟩] ∧ (s.taskLeft ⟨.command a b, rs, dn⟩ = [] ∨ s.ctFenced = false)) ∧
    (∃ (s : State) (m : Master) (v : Word), MayWrite s m Rg.CT_CMD_LAST.addr 4 ∧ (s.flag Rg.CT_STATUS_CMD_BUSY = true ∨
      v.toNat % 2 ^ 23 < s.get Rg.CT_CMD_FIRST_FIRST)) ∧
    (∃ (s : State) (m : Master) (v : Word), MayWrite s m Rg.CT_CMD_LAST.addr 4 ∧ s.flag Rg.CT_STATUS_CMD_BUSY = false ∧
      s.get Rg.CT_CMD_FIRST_FIRST ≤ v.toNat % 2 ^ 23) :=
  ⟨⟨{ dev [(Rg.CT_SIZE_COUNT_K, 1)] with ctTasks := [⟨.orphan 3, [(5, 6)], []⟩] }, 5, .orphan 3, [(5, 6)], [],
     by decide +kernel, by decide +kernel, by decide +kernel, by decide +kernel, by decide +kernel, by decide,
     by intro l h; cases h⟩,
   ⟨{ dev [(Rg.CT_SIZE_COUNT_K, 1), (Rg.LN_STATUS_STATE 9, 4), (Rg.CT_RANGE_LANE 0, 9), (Rg.CT_RANGE_VALID 0, 1),
     (Rg.CT_RANGE_LAST 0, 9)] with ctTasks := [⟨.reinstate 3, [(5, 6)], []⟩] }, 5, .reinstate 3, [(5, 6)], [], 3,
     by decide +kernel⟩,
   ⟨{ dev [(Rg.CT_SIZE_COUNT_K, 1)] with ctTasks := [] }, 5, by decide +kernel⟩,
   ⟨{ dev [(Rg.CT_SIZE_COUNT_K, 1)] with ctTasks := [⟨.orphan 3, ([(5, 6)]), ([])⟩] }, 3, [(5, 6)], [],
     by decide +kernel⟩,
   ⟨{ dev [(Rg.CT_SIZE_COUNT_K, 1), (Rg.FT_STATUS_STATE, 4), (Rg.FT_CFG_M,
     100)] with ctTasks := [⟨.orphan 3, [(5, 6)], []⟩] }, 3, [(5, 6)], [], by decide +kernel⟩,
   ⟨{ dev [(Rg.CT_SIZE_COUNT_K, 1)] with ctTasks := [⟨.orphan 3, [(5, 6)], [5, 6]⟩] }, 3, [(5, 6)], [5, 6],
     by decide +kernel⟩,
   ⟨{ dev [(Rg.LN_CTRL_ENABLE 3, 1), (Rg.CT_SIZE_COUNT_K,
     1)] with ctTasks := [⟨.reinstate 3, [(5, 6)], [5, 6]⟩], lanes := [(3, { ret := some .reinstate })] }, 3, [(5, 6)],
     [5, 6], by decide +kernel⟩,
   ⟨{ dev [(Rg.CT_SIZE_COUNT_K, 1)] with ctTasks := [⟨.command 5 6, [(5, 6)], [5, 6]⟩] }, 5, 6, [(5, 6)], [5, 6],
     by decide +kernel⟩,
   ⟨dev [(Rg.CT_STATUS_CMD_BUSY, 1), (Rg.CT_SIZE_COUNT_K, 1), (Rg.CT_CMD_FIRST_FIRST, 7)], 0, 3, by decide +kernel⟩,
   ⟨dev [(Rg.CT_STATUS_CMD_BUSY, 0), (Rg.CT_SIZE_COUNT_K, 1)], 0, 7, by decide +kernel⟩⟩

/-- The hypotheses of clauses 1 to 7 of `Obligations.LoaderAndSweepFollowR212` are met. -/
theorem witness_LoaderAndSweepFollowR212_1 :
    (∃ (s : State), s.held = false ∧ PtrsGood s (s.get Rg.CT_LOADER_QUEUE) ∧ (s.flag Rg.CT_CTRL_LOADER_EN = false ∨ 2 ≤
      s.get Rg.DD_STATUS_TIER ∨ s.ctOpen = false ∨ s.loaderRoom = false ∨ (s.ctFenced = true ∧ 80 ≤ s.ctItems))) ∧
    (∃ (s : State) (q w0 w1 : Nat) (r : List QItem), s.held = false ∧ PtrsGood s (s.get Rg.CT_LOADER_QUEUE) ∧
      RecordsOpen s ∧ s.flag Rg.CT_CTRL_LOADER_EN = true ∧ s.get Rg.DD_STATUS_TIER < 2 ∧ s.get Rg.CT_LOADER_QUEUE = q ∧
      HeadPair s q w0 w1 r ∧ s.loaderRoom = true ∧ (s.ctFenced = true → s.ctItems < 80) ∧ s.loadOk [w0, w1] = true) ∧
    (∃ (s : State) (q w0 w1 : Nat) (r : List QItem), s.held = false ∧ PtrsGood s (s.get Rg.CT_LOADER_QUEUE) ∧
      RecordsOpen s ∧ s.flag Rg.CT_CTRL_LOADER_EN = true ∧ s.get Rg.DD_STATUS_TIER < 2 ∧ s.get Rg.CT_LOADER_QUEUE = q ∧
      HeadPair s q w0 w1 r ∧ s.loaderRoom = true ∧ (s.ctFenced = true → s.ctItems < 80) ∧ s.loadOk [w0, w1] = false) ∧
    (∃ (s : State), s.held = false ∧ (s.flag Rg.CT_CTRL_SWEEP_EN = false ∨ s.get Rg.DD_STATUS_TIER ≠ 0 ∨ s.ctOn =
      false)) ∧
    (∃ (s : State) (_ : BitVec 23), s.held = false ∧ (s.flag Rg.CT_CTRL_SWEEP_EN = false ∨ s.get Rg.DD_STATUS_TIER ≠ 0 ∨
      s.ctOn = false)) ∧
    (∃ (s : State), s.held = false ∧ s.flag Rg.CT_CTRL_SWEEP_EN = true ∧ s.get Rg.DD_STATUS_TIER = 0 ∧ s.ctOn = true ∧
      s.ctSweep = none) ∧
    (∃ (s : State) (p : Sweep), s.held = false ∧ s.flag Rg.CT_CTRL_SWEEP_EN = true ∧ s.get Rg.DD_STATUS_TIER = 0 ∧
      s.ctOn = true ∧ s.ctSweep = some p ∧ p.cut = false) :=
  ⟨⟨{ dev [(Rg.CT_CTRL_LOADER_EN, 0), (Rg.CT_SIZE_COUNT_K, 1)] with held := false }, by decide +kernel⟩,
   ⟨{ dev [(Rg.CT_SIZE_COUNT_K, 1), (Rg.CT_CTRL_LOADER_EN, 1), (Rg.Q_BASE 2688,
     4096)] with queues := [(2688, { alloc := 3, items := [⟨2, true, false⟩] })], store := [(4104, 5), (4107, 2), (4112, 9)] },
     2688, 5 + 2 * 2 ^ 24, 9, [], by decide +kernel⟩,
   ⟨{ dev [(Rg.CT_SIZE_COUNT_K, 1), (Rg.CT_CTRL_LOADER_EN, 1), (Rg.Q_BASE 2688,
     4096)] with queues := [(2688, { alloc := 3, items := [⟨2, true, false⟩] })], store := [] }, 2688, 0, 0, [],
     by decide +kernel⟩,
   ⟨{ dev [(Rg.CT_CTRL_SWEEP_EN, 0), (Rg.CT_SIZE_COUNT_K, 1)] with held := false }, by decide +kernel⟩,
   ⟨{ dev [(Rg.CT_CTRL_SWEEP_EN, 0), (Rg.CT_SIZE_COUNT_K, 1)] with held := false }, 5, by decide +kernel⟩,
   ⟨{ dev [(Rg.CT_CTRL_SWEEP_EN, 1), (Rg.DD_STATUS_TIER, 0), (Rg.CT_SIZE_COUNT_K, 1)] with ctSweep := none },
     by decide +kernel⟩,
   ⟨{ dev [(Rg.CT_CTRL_SWEEP_EN, 1), (Rg.DD_STATUS_TIER, 0), (Rg.CT_SIZE_COUNT_K,
     1)] with ctSweep := some (⟨[], 0, false, false, false⟩) }, ⟨[], 0, false, false, false⟩, by decide +kernel⟩⟩

/-- The hypotheses of clauses 8 to 13 of `Obligations.LoaderAndSweepFollowR212` are met. -/
theorem witness_LoaderAndSweepFollowR212_2 :
    (∃ (s : State) (p : Sweep), s.held = false ∧ s.flag Rg.CT_CTRL_SWEEP_EN = true ∧ s.get Rg.DD_STATUS_TIER = 0 ∧
      s.ctOn = true ∧ s.ctSweep = some p ∧ p.cut = true) ∧
    (∃ (s : State) (ch : BitVec 23) (p : Sweep) (old : List Byte), RecordsOpen s ∧ s.flag Rg.CT_CTRL_SWEEP_EN = true ∧
      s.get Rg.DD_STATUS_TIER = 0 ∧ s.ctSweep = some p ∧ ch.toNat < s.ctCount ∧ ch.toNat ∉ p.visited ∧ old = s.stBytes
      (s.ctAddr ch.toNat) 16 ∧ s.sweepRoom ch.toNat = true ∧ visitedOf s p + 1 < s.ctCount ∧ (s.tested old = false ∨
      s.overLimit old = false)) ∧
    (∃ (s : State) (ch : BitVec 23) (p : Sweep) (old : List Byte), RecordsOpen s ∧ s.flag Rg.CT_CTRL_SWEEP_EN = true ∧
      s.get Rg.DD_STATUS_TIER = 0 ∧ s.ctSweep = some p ∧ ch.toNat < s.ctCount ∧ ch.toNat ∉ p.visited ∧ old = s.stBytes
      (s.ctAddr ch.toNat) 16 ∧ s.sweepRoom ch.toNat = true ∧ visitedOf s p + 1 < s.ctCount ∧ s.tested old = true ∧
      s.overLimit old = true ∧ strikesOf old + 1 < max (s.get Rg.CT_SWEEP_STRIKE_LIMIT) 1) ∧
    (∃ (s : State) (ch : BitVec 23) (p : Sweep) (old : List Byte), RecordsOpen s ∧ s.flag Rg.CT_CTRL_SWEEP_EN = true ∧
      s.get Rg.DD_STATUS_TIER = 0 ∧ s.ctSweep = some p ∧ ch.toNat < s.ctCount ∧ ch.toNat ∉ p.visited ∧ old = s.stBytes
      (s.ctAddr ch.toNat) 16 ∧ s.sweepRoom ch.toNat = true ∧ visitedOf s p + 1 < s.ctCount ∧ s.tested old = true ∧
      s.overLimit old = true ∧ max (s.get Rg.CT_SWEEP_STRIKE_LIMIT) 1 ≤ strikesOf old + 1 ∧ p.retired < s.get
      Rg.CT_CAP_RETIRE_CAP) ∧
    (∃ (s : State) (ch : BitVec 23) (p : Sweep) (old : List Byte), RecordsOpen s ∧ s.flag Rg.CT_CTRL_SWEEP_EN = true ∧
      s.get Rg.DD_STATUS_TIER = 0 ∧ s.ctSweep = some p ∧ ch.toNat < s.ctCount ∧ ch.toNat ∉ p.visited ∧ old = s.stBytes
      (s.ctAddr ch.toNat) 16 ∧ s.sweepRoom ch.toNat = true ∧ visitedOf s p + 1 < s.ctCount ∧ s.tested old = true ∧
      s.overLimit old = true ∧ max (s.get Rg.CT_SWEEP_STRIKE_LIMIT) 1 ≤ strikesOf old + 1 ∧ s.get Rg.CT_CAP_RETIRE_CAP ≤
      p.retired) ∧
    (∃ (s : State) (ch : BitVec 23) (p : Sweep) (old : List Byte), RecordsOpen s ∧ s.flag Rg.CT_CTRL_SWEEP_EN = true ∧
      s.get Rg.DD_STATUS_TIER = 0 ∧ s.ctSweep = some p ∧ ch.toNat < s.ctCount ∧ ch.toNat ∉ p.visited ∧ old = s.stBytes
      (s.ctAddr ch.toNat) 16 ∧ s.sweepRoom ch.toNat = true ∧ s.ctCount ≤ visitedOf s p + 1 ∧ s.tested old = false) :=
  ⟨⟨{ dev [(Rg.CT_CTRL_SWEEP_EN, 1), (Rg.DD_STATUS_TIER, 0), (Rg.CT_SIZE_COUNT_K,
     1)] with ctSweep := some (⟨[], 0, false, false, true⟩) }, ⟨[], 0, false, false, true⟩, by decide +kernel⟩,
   ⟨{ dev [(Rg.CT_CTRL_SWEEP_EN, 1), (Rg.DD_STATUS_TIER, 0), (Rg.CT_SIZE_COUNT_K,
     1)] with ctSweep := some (⟨[], 0, false, false, false⟩) }, 5, ⟨[], 0, false, false, false⟩, List.replicate 16 0,
     by decide +kernel⟩,
   ⟨{ dev [(Rg.CT_CTRL_SWEEP_EN, 1), (Rg.DD_STATUS_TIER, 0), (Rg.CT_SIZE_COUNT_K, 1), (Rg.CT_LIMIT_MEAN_LIMIT,
     3)] with ctSweep := some (⟨[], 0, false, false, false⟩), store := [(168, 9)] }, 5, ⟨[], 0, false, false, false⟩,
     (List.replicate 16 0).set 8 9, by decide +kernel⟩,
   ⟨{ dev [(Rg.CT_CTRL_SWEEP_EN, 1), (Rg.DD_STATUS_TIER, 0), (Rg.CT_SIZE_COUNT_K, 1), (Rg.CT_LIMIT_MEAN_LIMIT, 3),
     (Rg.CT_SWEEP_STRIKE_LIMIT, 1)] with ctSweep := some (⟨[], 0, false, false, false⟩), store := [(168, 9)] }, 5, ⟨[], 0,
     false, false, false⟩, (List.replicate 16 0).set 8 9, by decide +kernel⟩,
   ⟨{ dev [(Rg.CT_CTRL_SWEEP_EN, 1), (Rg.DD_STATUS_TIER, 0), (Rg.CT_SIZE_COUNT_K, 1), (Rg.CT_LIMIT_MEAN_LIMIT, 3),
     (Rg.CT_SWEEP_STRIKE_LIMIT, 1), (Rg.CT_CAP_RETIRE_CAP,
     100)] with ctSweep := some (⟨[], 7000, false, false, false⟩), store := [(168, 9)] }, 5, ⟨[], 7000, false, false,
     false⟩, (List.replicate 16 0).set 8 9, by decide +kernel⟩,
   ⟨{ dev [(Rg.CT_CTRL_SWEEP_EN, 1), (Rg.DD_STATUS_TIER, 0), (Rg.CT_SIZE_COUNT_K,
     1)] with ctSweep := some (⟨List.range 1023, 0, false, false, false⟩) }, 1023, ⟨List.range 1023, 0, false, false,
     false⟩, List.replicate 16 0, by decide +kernel⟩⟩

/-- The hypotheses of clauses 1 to 10 of `Obligations.SillageAndReadoutFollowR254` are met. -/
theorem witness_SillageAndReadoutFollowR254_1 :
    (∃ (s : State) (m : Master) (_ : Word), MayWrite s m Rg.VU_SIL_CFG_FREEZE_ON.addr 4) ∧
    (∃ (s : State) (m : Master) (_ : Word), MayWrite s m Rg.VU_STATUS_FROZEN.addr 4 ∧ s.flag Rg.VU_STATUS_FROZEN = true) ∧
    (∃ (s : State) (m : Master) (_ : Word), MayWrite s m Rg.VU_STATUS_FROZEN.addr 4 ∧ s.flag Rg.VU_STATUS_FROZEN =
      false) ∧
    (∃ (s : State) (m : Master) (r : Fin 16) (v : Word), MayWrite s m (Rg.RD_CFG_ENABLE r).addr 4 ∧ s.flag
      (Rg.RD_CFG_ENABLE r) = false ∧ s.rdQueueOk r (v.toNat / 4 % 2 ^ 13) = false) ∧
    (∃ (s : State) (m : Master) (r : Fin 16) (v : Word), MayWrite s m (Rg.RD_CFG_ENABLE r).addr 4 ∧ s.flag
      (Rg.RD_CFG_ENABLE r) = false ∧ s.rdQueueOk r (v.toNat / 4 % 2 ^ 13) = true) ∧
    (∃ (s : State) (m : Master) (r : Fin 16) (v : Word), MayWrite s m (Rg.RD_CFG_ENABLE r).addr 4 ∧ s.flag
      (Rg.RD_CFG_ENABLE r) = true ∧ v.toNat / 4 % 2 ^ 13 ≠ s.get (Rg.RD_CFG_QUEUE r)) ∧
    (∃ (s : State) (m : Master) (r : Fin 16) (_ : Word), MayWrite s m (Rg.RD_CMD_RESUME r).addr 4 ∧ s.flag
      (Rg.RD_STATUS_HALTED r) = false) ∧
    (∃ (s : State) (m : Master) (r : Fin 16) (_ : Word), MayWrite s m (Rg.RD_CMD_RESUME r).addr 4 ∧ s.flag
      (Rg.RD_STATUS_HALTED r) = true) ∧
    (∃ (s : State) (m : Master) (r : Fin 16) (_ : Word) (q n : Nat) (rest : List QItem), ChannelAt s r q n rest true ∧
      MayWrite s m (Rg.RD_CMD_RESUME r).addr 4 ∧ s.flag (Rg.RD_CFG_DEST r) = false ∧ (n < 16 ∨ s.get (Rg.RD_TYPE_TYPE r) =
      1)) ∧
    (∃ (s : State) (m : Master) (r : Fin 16) (_ : Word) (q n : Nat) (rest : List QItem), ChannelAt s r q n rest true ∧
      MayWrite s m (Rg.RD_CMD_RESUME r).addr 4 ∧ s.flag (Rg.RD_CFG_DEST r) = false ∧ n = 16 ∧ s.get (Rg.RD_TYPE_TYPE r) ≠
      1) :=
  ⟨⟨State.reset, 0, 0, by decide +kernel⟩,
   ⟨dev [(Rg.VU_STATUS_FROZEN, 1)], 0, 0, by decide +kernel⟩,
   ⟨dev [(Rg.VU_STATUS_FROZEN, 0)], 0, 0, by decide +kernel⟩,
   ⟨dev [(Rg.RD_CFG_ENABLE 2, 0)], 0, 2, 0, by decide +kernel⟩,
   ⟨dev [(Rg.RD_CFG_ENABLE 2, 0)], 0, 2, 8204, by decide +kernel⟩,
   ⟨dev [(Rg.RD_CFG_ENABLE 2, 1)], 0, 2, 7, by decide +kernel⟩,
   ⟨dev [(Rg.RD_STATUS_HALTED 2, 0)], 0, 2, 0, by decide +kernel⟩,
   ⟨dev [(Rg.RD_STATUS_HALTED 2, 1)], 0, 2, 0, by decide +kernel⟩,
   ⟨{ dev [(Rg.RD_CFG_ENABLE 2, 1), (Rg.Q_BASE 2050, 4096), (Rg.Q_CFG_ENABLE 2050, 1), (Rg.RD_STATUS_HALTED 2,
     1)] with queues := [(2050, { alloc := 3, items := [⟨2, true, false⟩] })] }, 0, 2, 0, 2050, 2, [], by decide +kernel⟩,
   ⟨{ dev [(Rg.RD_CFG_ENABLE 2, 1), (Rg.Q_BASE 2050, 4096), (Rg.Q_CFG_ENABLE 2050, 1), (Rg.RD_STATUS_HALTED 2,
     1)] with queues := [(2050, { alloc := 17, items := [⟨16, true, false⟩] })] }, 0, 2, 0, 2050, 16, [],
     by decide +kernel⟩⟩

/-- The hypotheses of clauses 11 to 19 of `Obligations.SillageAndReadoutFollowR254` are met. -/
theorem witness_SillageAndReadoutFollowR254_2 :
    (∃ (s : State) (m : Master) (r : Fin 16) (_ : Word) (q n : Nat) (rest : List QItem), ChannelAt s r q n rest true ∧
      MayWrite s m (Rg.RD_CMD_RESUME r).addr 4 ∧ s.flag (Rg.RD_CFG_DEST r) = true ∧ s.hostReady = true ∧ s.rdUsed r + 8 *
      (n + 1) ≤ 2 ^ s.get (Rg.RD_HOST_SIZE_LOG2 r)) ∧
    (∃ (s : State) (m : Master) (r : Fin 16) (_ : Word) (q n : Nat) (rest : List QItem), ChannelAt s r q n rest true ∧
      MayWrite s m (Rg.RD_CMD_RESUME r).addr 4 ∧ s.flag (Rg.RD_CFG_DEST r) = true ∧ (s.hostReady = false ∨ 2 ^ s.get
      (Rg.RD_HOST_SIZE_LOG2 r) < s.rdUsed r + 8 * (n + 1))) ∧
    (∃ (s : State) (r : Fin 16), s.held = false ∧ PtrsGood s (s.get (Rg.RD_CFG_QUEUE r)) ∧ (s.flag (Rg.RD_CFG_ENABLE r)
      = false ∨ s.flag (Rg.RD_STATUS_HALTED r) = true ∨ s.get Rg.DD_STATUS_TIER ≠ 0 ∨ s.lastResort = true ∨ (s.q (s.get
      (Rg.RD_CFG_QUEUE r))).ready = [] ∨ Tab.get s.rdHold r none ≠ none)) ∧
    (∃ (s : State) (r : Fin 16) (q n : Nat) (rest : List QItem), s.held = false ∧ s.flag (Rg.RD_CFG_ENABLE r) = true ∧
      s.flag (Rg.RD_STATUS_HALTED r) = false ∧ s.get Rg.DD_STATUS_TIER = 0 ∧ s.lastResort = false ∧ Tab.get s.rdHold r
      none = none ∧ s.get (Rg.RD_CFG_QUEUE r) = q ∧ PtrsGood s q ∧ (s.q q).items = ⟨n, true, false⟩ :: rest ∧ s.qAddr q
      (s.q q).head % 8 = 0 ∧ s.halfBad (s.qAddr q (s.q q).head / 8) = true) ∧
    (∃ (s : State) (r : Fin 16) (q n : Nat) (rest : List QItem), ChannelAt s r q n rest false ∧ s.flag (Rg.RD_CFG_DEST
      r) = false ∧ (n < 16 ∨ s.get (Rg.RD_TYPE_TYPE r) = 1)) ∧
    (∃ (s : State) (r : Fin 16) (q n : Nat) (rest : List QItem), ChannelAt s r q n rest false ∧ s.flag (Rg.RD_CFG_DEST
      r) = false ∧ n = 16 ∧ s.get (Rg.RD_TYPE_TYPE r) ≠ 1) ∧
    (∃ (s : State) (r : Fin 16) (q n : Nat) (rest : List QItem), ChannelAt s r q n rest false ∧ s.flag (Rg.RD_CFG_DEST
      r) = true ∧ s.hostReady = true ∧ 2 ^ s.get (Rg.RD_HOST_SIZE_LOG2 r) < s.rdUsed r + 8 * (n + 1)) ∧
    (∃ (s : State) (r : Fin 16) (q n : Nat) (rest : List QItem), ChannelAt s r q n rest false ∧ s.flag (Rg.RD_CFG_DEST
      r) = true ∧ s.hostReady = false) ∧
    (∃ (s : State) (r : Fin 16) (q n : Nat) (rest : List QItem), ChannelAt s r q n rest false ∧ s.flag (Rg.RD_CFG_DEST
      r) = true ∧ s.hostReady = true ∧ s.rdUsed r + 8 * (n + 1) ≤ 2 ^ s.get (Rg.RD_HOST_SIZE_LOG2 r)) :=
  ⟨⟨{ dev [(Rg.RD_CFG_ENABLE 2, 1), (Rg.Q_BASE 2050, 4096), (Rg.Q_CFG_ENABLE 2050, 1), (Rg.RD_STATUS_HALTED 2, 1),
     (Rg.RD_CFG_DEST 2, 1), (Rg.HB_STATUS_LSTATE, 0), (Rg.HB_STATUS_PERST,
     0)] with queues := [(2050, { alloc := 3, items := [⟨2, true, false⟩] })] }, 0, 2, 0, 2050, 2, [], by decide +kernel⟩,
   ⟨{ dev [(Rg.RD_CFG_ENABLE 2, 1), (Rg.Q_BASE 2050, 4096), (Rg.Q_CFG_ENABLE 2050, 1), (Rg.RD_STATUS_HALTED 2, 1),
     (Rg.RD_CFG_DEST 2, 1), (Rg.HB_STATUS_LSTATE,
     5)] with queues := [(2050, { alloc := 3, items := [⟨2, true, false⟩] })] }, 0, 2, 0, 2050, 2, [], by decide +kernel⟩,
   ⟨{ dev [(Rg.RD_CFG_ENABLE 2, 0)] with held := false }, 2, by decide +kernel⟩,
   ⟨{ dev [(Rg.RD_CFG_ENABLE 2, 1), (Rg.Q_BASE 2050, 4096), (Rg.Q_CFG_ENABLE 2050, 1), (Rg.RD_STATUS_HALTED 2,
     0)] with queues := [(2050, { alloc := 3, items := [⟨2, true, false⟩] })], storeErr := [(512, some .uncorrectable)] },
     2, 2050, 2, [], by decide +kernel⟩,
   ⟨{ dev [(Rg.RD_CFG_ENABLE 2, 1), (Rg.Q_BASE 2050, 4096), (Rg.Q_CFG_ENABLE 2050, 1), (Rg.RD_STATUS_HALTED 2,
     0)] with queues := [(2050, { alloc := 3, items := [⟨2, true, false⟩] })] }, 2, 2050, 2, [], by decide +kernel⟩,
   ⟨{ dev [(Rg.RD_CFG_ENABLE 2, 1), (Rg.Q_BASE 2050, 4096), (Rg.Q_CFG_ENABLE 2050, 1), (Rg.RD_STATUS_HALTED 2,
     0)] with queues := [(2050, { alloc := 17, items := [⟨16, true, false⟩] })] }, 2, 2050, 16, [], by decide +kernel⟩,
   ⟨{ dev [(Rg.RD_CFG_ENABLE 2, 1), (Rg.Q_BASE 2050, 4096), (Rg.Q_CFG_ENABLE 2050, 1), (Rg.RD_STATUS_HALTED 2, 0),
     (Rg.RD_CFG_DEST 2, 1), (Rg.HB_STATUS_LSTATE, 0), (Rg.HB_STATUS_PERST, 0), (Rg.RD_HOST_SIZE_LOG2 2,
     4)] with queues := [(2050, { alloc := 3, items := [⟨2, true, false⟩] })] }, 2, 2050, 2, [], by decide +kernel⟩,
   ⟨{ dev [(Rg.RD_CFG_ENABLE 2, 1), (Rg.Q_BASE 2050, 4096), (Rg.Q_CFG_ENABLE 2050, 1), (Rg.RD_STATUS_HALTED 2, 0),
     (Rg.RD_CFG_DEST 2, 1), (Rg.HB_STATUS_LSTATE,
     5)] with queues := [(2050, { alloc := 3, items := [⟨2, true, false⟩] })] }, 2, 2050, 2, [], by decide +kernel⟩,
   ⟨{ dev [(Rg.RD_CFG_ENABLE 2, 1), (Rg.Q_BASE 2050, 4096), (Rg.Q_CFG_ENABLE 2050, 1), (Rg.RD_STATUS_HALTED 2, 0),
     (Rg.RD_CFG_DEST 2, 1), (Rg.HB_STATUS_LSTATE, 0), (Rg.HB_STATUS_PERST,
     0)] with queues := [(2050, { alloc := 3, items := [⟨2, true, false⟩] })] }, 2, 2050, 2, [], by decide +kernel⟩⟩

/-- The hypotheses of the clauses of `Obligations.JournalStartsAndStages` are met. -/
theorem witness_JournalStartsAndStages :
    (∃ (s : State) (m : Master) (_ : Word) (i : FlashInfo), MayWrite s m Rg.JNL_CTRL_ENABLE.addr 4 ∧ s.flag
      Rg.JNL_CTRL_ENABLE = false ∧ i.size < s.get Rg.JNL_BASE + 2 ^ 20 ∧ i.suspend = true) ∧
    (∃ (s : State) (m : Master) (_ : Word) (i : FlashInfo), MayWrite s m Rg.JNL_CTRL_ENABLE.addr 4 ∧ s.flag
      Rg.JNL_CTRL_ENABLE = false ∧ i.suspend = false) ∧
    (∃ (s : State) (m : Master) (_ : Word) (i : FlashInfo), MayWrite s m Rg.JNL_CTRL_ENABLE.addr 4 ∧ s.flag
      Rg.JNL_CTRL_ENABLE = false ∧ s.get Rg.JNL_BASE + 2 ^ 20 ≤ i.size ∧ i.suspend = true) ∧
    (∃ (s : State), s.held = false ∧ s.jnl.scanning = false) ∧
    (∃ (s : State), s.held = false ∧ s.jnl.scanning = true) ∧
    (∃ (s : State) (m : Master) (_ : Word), MayWrite s m Rg.JNL_PUSH_GO.addr 4 ∧ 63 ≤ s.jPending) ∧
    (∃ (s : State) (m : Master) (_ : Word), MayWrite s m Rg.JNL_PUSH_GO.addr 4 ∧ s.jPending < 63) :=
  ⟨⟨dev [(Rg.JNL_CTRL_ENABLE, 0)], 0, 0, ⟨2 ^ 19, true, 1000, 1000, true, true, true⟩, by decide +kernel⟩,
   ⟨dev [(Rg.JNL_CTRL_ENABLE, 0)], 0, 0, ⟨2 ^ 24, false, 1000, 1000, true, true, true⟩, by decide +kernel⟩,
   ⟨dev [(Rg.JNL_CTRL_ENABLE, 0)], 0, 0, ⟨2 ^ 24, true, 1000, 1000, true, true, true⟩, by decide +kernel⟩,
   ⟨{ State.reset with jnl := { scanning := false } }, by decide +kernel⟩,
   ⟨{ State.reset with jnl := { scanning := true } }, by decide +kernel⟩,
   ⟨dev [(Rg.JNL_STAGE_PTR_TAIL, 63)], 0, 0, by decide +kernel⟩,
   ⟨State.reset, 0, 0, by decide +kernel⟩⟩

/-- The hypotheses of clauses 1 to 9 of `Obligations.JournalWritesRecordsInOrder` are met. -/
theorem witness_JournalWritesRecordsInOrder_1 :
    (∃ (s : State), s.held = false ∧ (s.jMayWrite = false ∨ s.jnl.urgent = [] ∧ s.jPending = 0)) ∧
    (∃ (s : State), s.held = false ∧ s.jMayWrite = true ∧ s.jnl.urgent = [] ∧ s.jPending ≠ 0 ∧ s.jnl.op = none ∧ s.get
      Rg.JNL_STATUS_SLOT ≤ 61 ∧ s.jnl.next = none) ∧
    (∃ (s : State) (k : Nat), s.held = false ∧ s.jMayWrite = true ∧ s.jnl.urgent = [] ∧ s.jPending ≠ 0 ∧ s.jnl.op = none
      ∧ 61 < s.get Rg.JNL_STATUS_SLOT ∧ s.jnl.next = some k ∧ k < 256) ∧
    (∃ (s : State), s.held = false ∧ s.jMayWrite = true ∧ s.jnl.urgent = [] ∧ s.jPending ≠ 0 ∧ s.jnl.op = none ∧ s.get
      Rg.JNL_STATUS_SLOT ≤ 61 ∧ s.jnl.next ≠ none ∧ s.lmErr = [] ∧ s.windowOk 8 (0x100000000 + (s.get Rg.JNL_STAGE_OFF +
      64 * s.get Rg.JNL_STAGE_PTR_HEAD)) 0x38 false false = true) ∧
    (∃ (s : State) (b : List Byte) (r : List (List Byte)) (k : Nat) (slot : Nat), s.held = false ∧ s.jMayWrite = true ∧
      s.jnl.urgent = b :: r ∧ s.jUrgentPlace = some (k, slot) ∧ s.jnl.op = none) ∧
    (∃ (s : State) (b : List Byte) (r : List (List Byte)) (k : Nat) (slot : Nat) (a : Nat) (c : Nat), s.held = false ∧
      s.jMayWrite = true ∧ s.jnl.urgent = b :: r ∧ s.jUrgentPlace = some (k, slot) ∧ s.jnl.op = some (.erase a c)) ∧
    (∃ (s : State), s.held = false ∧ s.jMayWrite = true ∧ s.jnl.urgent ≠ [] ∧ s.jUrgentPlace = none) ∧
    (∃ (s : State), s.held = false ∧ (s.jMayWrite = false ∨ s.jnl.op ≠ none ∨ s.jnl.next ≠ none ∨ s.jNext (s.get
      Rg.JNL_STATUS_SECTOR) = none)) ∧
    (∃ (s : State) (k : Nat), s.held = false ∧ s.jMayWrite = true ∧ s.jnl.op = none ∧ s.jnl.next = none ∧ s.jNext (s.get
      Rg.JNL_STATUS_SECTOR) = some k) :=
  ⟨⟨State.reset, by decide +kernel⟩,
   ⟨{ dev [(Rg.JNL_CTRL_ENABLE, 1), (Rg.JNL_STATUS_READY, 1), (Rg.JNL_STAGE_PTR_TAIL,
     1)] with jnl := { urgent := [], op := none, next := none } }, by decide +kernel⟩,
   ⟨{ dev [(Rg.JNL_CTRL_ENABLE, 1), (Rg.JNL_STATUS_READY, 1), (Rg.JNL_STAGE_PTR_TAIL, 1), (Rg.JNL_STATUS_SLOT,
     62)] with jnl := { urgent := [], op := none, next := some 3 } }, 3, by decide +kernel⟩,
   ⟨{ dev [(Rg.JNL_CTRL_ENABLE, 1), (Rg.JNL_STATUS_READY, 1), (Rg.JNL_STAGE_PTR_TAIL,
     1)] with lmErr := [], jnl := { urgent := [], op := none, next := some 3 } }, by decide +kernel⟩,
   ⟨{ devOn (((State.reset.flProgram 0x1000 (jHeader 5 0)).flProgram 0x103F [0x3F])) [(Rg.JNL_CTRL_ENABLE, 1),
     (Rg.JNL_STATUS_READY, 1)] with jnl := { urgent := [(List.replicate 60 7)], op := none, next := some 1 } },
     (List.replicate 60 7), [], 1, 62, by decide +kernel⟩,
   ⟨{ devOn (((State.reset.flProgram 0x1000 (jHeader 5 0)).flProgram 0x103F [0x3F])) [(Rg.JNL_CTRL_ENABLE, 1),
     (Rg.JNL_STATUS_READY,
     1)] with jnl := { urgent := [(List.replicate 60 7)], op := some (.erase 5 2), next := some 1 } }, (List.replicate 60
     7), [], 1, 62, 5, 2, by decide +kernel⟩,
   ⟨{ dev [(Rg.JNL_CTRL_ENABLE, 1), (Rg.JNL_STATUS_READY, 1)] with jnl := { urgent := [(List.replicate 60 7)] } },
     by decide +kernel⟩,
   ⟨State.reset, by decide +kernel⟩,
   ⟨{ dev [(Rg.JNL_CTRL_ENABLE, 1), (Rg.JNL_STATUS_READY, 1)] with jnl := { op := none, next := none } }, 1,
     by decide +kernel⟩⟩

/-- The hypotheses of clauses 10 to 18 of `Obligations.JournalWritesRecordsInOrder` are met. -/
theorem witness_JournalWritesRecordsInOrder_2 :
    (∃ (s : State) (n : Nat) (r : JRec), RecordUnderWay s n r ∧ n = 1 ∧ s.flag Rg.JNL_STATUS_FAILED = false) ∧
    (∃ (s : State) (n : Nat) (r : JRec), RecordUnderWay s n r ∧ n = 2 ∧ s.flag Rg.JNL_STATUS_FAILED = false) ∧
    (∃ (s : State) (n : Nat) (r : JRec), RecordUnderWay s n r ∧ n = 3 ∧ s.jnl.susp = none) ∧
    (∃ (s : State) (n : Nat) (r : JRec), RecordUnderWay s n r ∧ s.jnl.susp = none) ∧
    (∃ (s : State) (_ _ : Nat) (_ : Bool), s.held = false ∧ s.jnl.op = none) ∧
    (∃ (s : State) (k c : Nat), s.held = false ∧ s.jnl.op = some (.erase k c) ∧ s.jnl.susp = none) ∧
    (∃ (s : State) (k c : Nat), s.held = false ∧ s.jnl.op = some (.erase k c) ∧ s.flag Rg.JNL_STATUS_FAILED = false) ∧
    (∃ (s : State) (k c : Nat), s.held = false ∧ s.jnl.op = some (.header k c) ∧ s.flag Rg.JNL_STATUS_FAILED = false) ∧
    (∃ (s : State) (k _ : Nat), s.held = false ∧ s.jnl.op = some (.hstate k) ∧ s.jnl.susp = none) :=
  ⟨⟨{ dev [(Rg.JNL_STATUS_FAILED,
     0)] with jnl := { hand := some ⟨(List.replicate 60 7), 1, 3, false⟩, op := some (.record 1) } }, 1, ⟨(List.replicate
     60 7), 1, 3, false⟩, by decide +kernel⟩,
   ⟨{ dev [(Rg.JNL_STATUS_FAILED,
     0)] with jnl := { hand := some ⟨(List.replicate 60 7), 1, 3, false⟩, op := some (.record 2) } }, 2, ⟨(List.replicate
     60 7), 1, 3, false⟩, by decide +kernel⟩,
   ⟨{ State.reset with jnl := { susp := none, hand := some ⟨(List.replicate 60 7), 1, 3, false⟩, op := some (.record 3) } },
     3, ⟨(List.replicate 60 7), 1, 3, false⟩, by decide +kernel⟩,
   ⟨{ State.reset with jnl := { susp := none, hand := some ⟨(List.replicate 60 7), 1, 3, false⟩, op := some (.record 2) } },
     2, ⟨(List.replicate 60 7), 1, 3, false⟩, by decide +kernel⟩,
   ⟨{ State.reset with jnl := { op := none } }, 1, 2, false, by decide +kernel⟩,
   ⟨{ State.reset with jnl := { op := some (.erase 1 2), susp := none } }, 1, 2, by decide +kernel⟩,
   ⟨{ dev [(Rg.JNL_STATUS_FAILED, 0)] with jnl := { op := some (.erase 1 2) } }, 1, 2, by decide +kernel⟩,
   ⟨{ dev [(Rg.JNL_STATUS_FAILED, 0)] with jnl := { op := some (.header 1 2) } }, 1, 2, by decide +kernel⟩,
   ⟨{ State.reset with jnl := { op := some (.hstate 1), susp := none } }, 1, 2, by decide +kernel⟩⟩

/-- The hypotheses of clauses 1 to 10 of `Obligations.CheckpointsAndMigrationsFollowR120` are met. -/
theorem witness_CheckpointsAndMigrationsFollowR120_1 :
    (∃ (s : State) (m : Master) (v : Word), MayWrite s m Rg.EM_CMD_OP.addr 4 ∧ s.flag (Rg.EM_MAP_VALID (v.toNat % 64)) =
      false) ∧
    (∃ (s : State) (m : Master) (v : Word), MayWrite s m Rg.EM_CMD_OP.addr 4 ∧ v.toNat / 2 ^ 15 % 2 = 0 ∧ (68 ≤ v.toNat
      / 256 % 128 ∨ s.veState (v.toNat / 256 % 128) ≠ 1)) ∧
    (∃ (s : State) (m : Master) (v : Word), MayWrite s m Rg.EM_CMD_OP.addr 4 ∧ s.flag (Rg.EM_MAP_VALID (v.toNat % 64)) =
      true ∧ v.toNat / 2 ^ 15 % 2 = 1 ∧ s.locked = true) ∧
    (∃ (s : State) (m : Master) (v : Word) (n : VE), MayWrite s m Rg.EM_CMD_OP.addr 4 ∧ s.veOf (v.toNat % 64) = some
      n.val ∧ v.toNat / 2 ^ 15 % 2 = 0 ∧ v.toNat / 256 % 128 < 68 ∧ s.veState (v.toNat / 256 % 128) = 1 ∧ s.veState n = 2
      ∧ s.locked = false ∧ NoMigration s ∧ s.lmErr = [] ∧ (s.eng n).stErr = []) ∧
    (∃ (s : State) (m : Master) (v : Word), MayWrite s m Rg.EM_CMD_OP.addr 4 ∧ v.toNat / 256 % 128 < 68 ∧ s.veState
      (v.toNat / 256 % 128) = 1 ∧ s.untaken (v.toNat / 256 % 128) = true) ∧
    (∃ (s : State) (m : Master) (v : Word), MayWrite s m Rg.EM_CMD_OP.addr 4 ∧ (s.veState (v.toNat / 256 % 128) ≠ 1 ∨
      s.untaken (v.toNat / 256 % 128) = false)) ∧
    (∃ (s : State) (m : Master) (v : Word), MayWrite s m Rg.EM_CMD_OP.addr 4 ∧ v.toNat / 256 % 128 < 68 ∧ s.veState
      (v.toNat / 256 % 128) = 4 ∧ s.get (Rg.BL_VE_RESULT (v.toNat / 256 % 128)) = 1 ∧ NoneServed s) ∧
    (∃ (s : State) (m : Master) (v : Word), MayWrite s m Rg.EM_CMD_OP.addr 4 ∧ (s.veState (v.toNat / 256 % 128) ≠ 4 ∨
      s.get (Rg.BL_VE_RESULT (v.toNat / 256 % 128)) ≠ 1)) ∧
    (∃ (s : State) (_ : Slot) (_ : BitVec 13) (_ : Bool), s.held = false ∧ s.copies = [] ∧ NoneServed s) ∧
    (∃ (s : State) (k : Slot) (_ : BitVec 13) (a b : VE) (why : MigWhy), s.held = false ∧ s.copies = [⟨k.val, a.val,
      b.val, why⟩] ∧ s.locked = true) :=
  ⟨⟨dev [(Rg.EM_MAP_VALID (0 % 64), 0)], 0, 0, by decide +kernel⟩,
   ⟨State.reset, 0, 512, by decide +kernel⟩,
   ⟨dev [(Rg.EM_MAP_VALID (32770 % 64), 1), (Rg.FT_STATUS_STATE, 4)], 0, 32770, by decide +kernel⟩,
   ⟨{ dev [(Rg.EM_VE_STATE_STATE (4098 / 256 % 128), 1), (Rg.EM_VE_STATE_STATE 2, 2)] with lmErr := [] }, 0, 4098, 2,
     by decide +kernel⟩,
   ⟨dev [(Rg.EM_VE_STATE_STATE (4096 / 256 % 128), 1)], 0, 4096, by decide +kernel⟩,
   ⟨State.reset, 0, 512, by decide +kernel⟩,
   ⟨dev [(Rg.EM_VE_STATE_STATE (4096 / 256 % 128), 4), (Rg.BL_VE_RESULT (4096 / 256 % 128), 1), (Rg.EM_VE_STATE_STATE
     16, 4)], 0, 4096, by decide +kernel⟩,
   ⟨State.reset, 0, 4096, by decide +kernel⟩,
   ⟨{ State.reset with copies := [] }, 2, 3, true, by decide +kernel⟩,
   ⟨{ dev [(Rg.FT_STATUS_STATE, 4)] with copies := [⟨2, 2, 16, .command⟩] }, 2, 3, 2, 16, .command, by decide +kernel⟩⟩

/-- The hypotheses of clauses 11 to 20 of `Obligations.CheckpointsAndMigrationsFollowR120` are met. -/
theorem witness_CheckpointsAndMigrationsFollowR120_2 :
    (∃ (s : State) (k : Slot) (_ : BitVec 13) (a b : VE) (why : MigWhy), s.held = false ∧ s.copies = [⟨k.val, a.val,
      b.val, why⟩] ∧ s.locked = true ∧ a ≠ b ∧ Tab.get s.chks a.val none = none ∧ StrikeIsTransient s a ∧ s.lmErr = [] ∧
      s.restores = [] ∧ s.storeErr = [] ∧ s.halfValid (s.chkHalf k ((s.frameNo + 2 ^ 64 - 1) % 2 ^ 64 + 1)) k = true) ∧
    (∃ (s : State) (k : Slot) (_ : BitVec 13) (a b : VE) (why : MigWhy), s.held = false ∧ s.copies = [⟨k.val, a.val,
      b.val, why⟩] ∧ s.locked = true ∧ a ≠ b ∧ Tab.get s.chks a.val none = none ∧ StrikeIsTransient s a ∧ s.lmErr = [] ∧
      s.restores = [] ∧ s.halfValid (s.chkHalf k ((s.frameNo + 2 ^ 64 - 1) % 2 ^ 64 + 1)) k = false ∧ s.flag
      Rg.EM_CTRL_COLD_EN = true) ∧
    (∃ (s : State) (k : Slot) (_ : BitVec 13) (a b : VE) (why : MigWhy), s.held = false ∧ s.copies = [⟨k.val, a.val,
      b.val, why⟩] ∧ s.locked = true ∧ a ≠ b ∧ Tab.get s.chks a.val none = none ∧ StrikeIsTransient s a ∧ s.lmErr = [] ∧
      s.restores = [] ∧ s.halfValid (s.chkHalf k ((s.frameNo + 2 ^ 64 - 1) % 2 ^ 64 + 1)) k = false ∧ s.flag
      Rg.EM_CTRL_COLD_EN = false) ∧
    (∃ (s : State) (_ : Slot), s.held = false ∧ s.restores = []) ∧
    (∃ (s : State) (k : Slot) (b : VE) (half : Nat) (sag : Bool), s.held = false ∧ s.restores = [⟨k.val, b.val, half,
      sag⟩] ∧ s.lmErr = [] ∧ NoneServed s) ∧
    (∃ (s : State) (m : Master) (n : VE) (_ : Word), MayWrite s m (Rg.VE_CTRL_SRESET n).addr 4 ∧ (s.veState n = 1 ∨
      s.veState n = 4)) ∧
    (∃ (s : State) (m : Master) (n : VE) (_ : Word), MayWrite s m (Rg.VE_CTRL_SRESET n).addr 4 ∧ s.veState n ≠ 1 ∧
      s.veState n ≠ 4) ∧
    (∃ (s : State) (n : VE) (c : Chk), s.held = false ∧ s.storeErr = [] ∧ NoneServed s ∧ Tab.get s.chks n.val none =
      some c ∧ c.sent = true ∧ c.poison = false ∧ s.get Rg.EM_CHK_BASE % 4096 = 0 ∧ c.frame < 2 ^ 64) ∧
    (∃ (s : State) (n : VE) (c : Chk), s.held = false ∧ NoneServed s ∧ Tab.get s.chks n.val none = some c ∧ c.sent =
      true ∧ c.poison = true) ∧
    (∃ (s : State) (n : VE), s.held = false ∧ NoneServed s ∧ Tab.get s.chks n.val none = none) :=
  ⟨⟨{ devOn (State.reset) [(Rg.FT_STATUS_STATE,
     4)] with copies := [⟨2, 2, 16, .command⟩], lmErr := [], restores := [], storeErr := [], store := halfStore 0x12048000 },
     2, 3, 2, 16, .command, by decide +kernel, by decide +kernel, by decide +kernel, by decide +kernel, by decide +kernel,
     by decide +kernel, by decide +kernel, by decide +kernel, by decide +kernel,
     (by refine Eq.trans (congrArg (fun h => State.halfValid _ h _) (show _ = 0x12048000 from by decide +kernel)) (half_valid _ _ rfl rfl))⟩,
   ⟨{ dev [(Rg.FT_STATUS_STATE, 4), (Rg.EM_CTRL_COLD_EN,
     1)] with copies := [⟨2, 2, 16, .command⟩], lmErr := [], restores := [] }, 2, 3, 2, 16, .command, by decide +kernel⟩,
   ⟨{ dev [(Rg.FT_STATUS_STATE, 4), (Rg.EM_CTRL_COLD_EN,
     0)] with copies := [⟨2, 2, 16, .command⟩], lmErr := [], restores := [] }, 2, 3, 2, 16, .command, by decide +kernel⟩,
   ⟨{ State.reset with restores := [] }, 2, by decide +kernel⟩,
   ⟨{ State.reset with restores := [⟨2, 16, 0x12F00000, false⟩], lmErr := [] }, 2, 16, 0x12F00000, false,
     by decide +kernel⟩,
   ⟨dev [(Rg.EM_VE_STATE_STATE 16, 1)], 0, 16, 0, by decide +kernel⟩,
   ⟨State.reset, 0, 2, 0, by decide +kernel⟩,
   ⟨{ State.reset with storeErr := [], chks := [(2, some ⟨2, 5, true, 77, false⟩)] }, 2, ⟨2, 5, true, 77, false⟩,
     by decide +kernel⟩,
   ⟨{ State.reset with chks := [(2, some ⟨2, 5, true, 77, true⟩)] }, 2, ⟨2, 5, true, 77, true⟩, by decide +kernel⟩,
   ⟨State.reset, 0, by decide +kernel⟩⟩

/-- The hypotheses of clauses 1 to 9 of `Obligations.SelfTestsReportTheirResult` are met. -/
theorem witness_SelfTestsReportTheirResult_1 :
    (∃ (s : State), s.held = false ∧ s.polLeak < max (s.get Rg.RL_CFG_LEAK_FRAMES) 1) ∧
    (∃ (s : State), s.held = false ∧ max (s.get Rg.RL_CFG_LEAK_FRAMES) 1 ≤ s.polLeak) ∧
    (∃ (s : State) (m : Master) (x : BitVec 13), MayWrite s m Rg.BL_CMD_OP.addr 4 ∧ (68 ≤ x.toNat ∨ s.get
      Rg.BL_STATUS_LBIST = 1 ∨ s.veState x.toNat = 0)) ∧
    (∃ (s : State) (m : Master) (x : BitVec 13), MayWrite s m Rg.BL_CMD_OP.addr 4 ∧ x.toNat < 68 ∧ s.get
      Rg.BL_STATUS_LBIST ≠ 1 ∧ s.veState x.toNat = 1 ∧ s.untaken x.toNat = true) ∧
    (∃ (s : State) (m : Master) (x : BitVec 13), MayWrite s m Rg.BL_CMD_OP.addr 4 ∧ x.toNat < 68 ∧ s.get
      Rg.BL_STATUS_LBIST ≠ 1 ∧ s.veState x.toNat = 4) ∧
    (∃ (s : State) (m : Master) (x : BitVec 13) (k : Nat), MayWrite s m Rg.BL_CMD_OP.addr 4 ∧ x.toNat < 68 ∧ s.get
      Rg.BL_STATUS_LBIST ≠ 1 ∧ (s.veState x.toNat = 2 ∨ s.veState x.toNat = 1 ∧ s.untaken x.toNat = false) ∧ s.slotOf
      x.toNat = some k ∧ s.locked = true ∧ s.restores = [] ∧ s.migReqs = []) ∧
    (∃ (s : State) (m : Master) (x : BitVec 13), MayWrite s m Rg.BL_CMD_OP.addr 4 ∧ x.toNat = 8191) ∧
    (∃ (s : State) (m : Master) (_ : BitVec 13), MayWrite s m Rg.BL_CMD_OP.addr 4 ∧ (s.flag Rg.ST_STATUS_NO_SPARE = true
      ∨ s.get Rg.BL_STATUS_MBIST = 1)) ∧
    (∃ (s : State) (m : Master) (_ : BitVec 13), MayWrite s m Rg.BL_CMD_OP.addr 4 ∧ s.flag Rg.ST_STATUS_NO_SPARE = false
      ∧ s.get Rg.BL_STATUS_MBIST ≠ 1 ∧ s.blMbist = none ∧ s.rot = .idle) :=
  ⟨⟨State.reset, by decide +kernel⟩,
   ⟨{ State.reset with polLeak := 700000 }, by decide +kernel⟩,
   ⟨State.reset, 0, 77, by decide +kernel⟩,
   ⟨State.reset, 0, 16, by decide +kernel⟩,
   ⟨dev [(Rg.EM_VE_STATE_STATE 16, 4)], 0, 16, by decide +kernel⟩,
   ⟨{ dev [(Rg.FT_STATUS_STATE, 4)] with restores := [], migReqs := [] }, 0, 0, 0, by decide +kernel⟩,
   ⟨State.reset, 0, 8191, by decide +kernel⟩,
   ⟨dev [(Rg.ST_STATUS_NO_SPARE, 1)], 0, 16, by decide +kernel⟩,
   ⟨{ dev [(Rg.ST_STATUS_NO_SPARE, 0)] with blMbist := none, rot := .idle }, 0, 16, by decide +kernel⟩⟩

/-- The hypotheses of clauses 10 to 18 of `Obligations.SelfTestsReportTheirResult` are met. -/
theorem witness_SelfTestsReportTheirResult_2 :
    (∃ (s : State) (m : Master) (_ : BitVec 13), MayWrite s m Rg.BL_CMD_OP.addr 4 ∧ s.flag Rg.ST_STATUS_NO_SPARE = false
      ∧ s.get Rg.BL_STATUS_MBIST ≠ 1 ∧ s.rot ≠ .idle) ∧
    (∃ (s : State) (m : Master) (x : BitVec 13), MayWrite s m Rg.BL_CMD_OP.addr 4 ∧ s.flag Rg.ST_STATUS_NO_SPARE = false
      ∧ s.get Rg.BL_STATUS_MBIST ≠ 1 ∧ x ≠ 8191 ∧ s.rot = .idle ∧ s.rotWant = [] ∧ s.get Rg.DD_STATUS_TIER = 0) ∧
    (∃ (s : State) (m : Master) (x : BitVec 13), MayWrite s m Rg.BL_CMD_OP.addr 4 ∧ (128 ≤ x.toNat ∨ s.get
      Rg.BL_STATUS_LOOP = 1 ∨ s.lnState x.toNat ∉ [0, 4, 5])) ∧
    (∃ (s : State) (m : Master) (x : BitVec 13), MayWrite s m Rg.BL_CMD_OP.addr 4 ∧ x.toNat < 128 ∧ s.get
      Rg.BL_STATUS_LOOP ≠ 1 ∧ s.lnState x.toNat ∈ [0, 4, 5]) ∧
    (∃ (s : State) (_ : DWord), s.held = false ∧ s.blLbist = none) ∧
    (∃ (s : State) (sig : DWord) (n : VE), s.held = false ∧ s.blLbist = some n.val ∧ s.veState n = 3 ∧ NoneServed s ∧
      sig.toNat = s.get2 Rg.BL_LBIST_EXP_LO Rg.BL_LBIST_EXP_HI) ∧
    (∃ (s : State) (sig : DWord) (n : VE), s.held = false ∧ s.blLbist = some n.val ∧ (s.veState n = 3 ∨ s.veState n = 4)
      ∧ NoneServed s ∧ sig.toNat ≠ s.get2 Rg.BL_LBIST_EXP_LO Rg.BL_LBIST_EXP_HI) ∧
    (∃ (s : State) (_ : Bool), s.held = false ∧ (s.get Rg.BL_STATUS_MBIST ≠ 1 ∨ s.blMbist ≠ none ∨ s.rot ≠ .idle)) ∧
    (∃ (s : State), s.held = false ∧ s.get Rg.BL_STATUS_MBIST = 1 ∧ s.blMbist = none ∧ s.rot = .idle ∧ s.rotWant = []) :=
  ⟨⟨{ dev [(Rg.ST_STATUS_NO_SPARE, 0)] with rot := .copying 3 5 }, 0, 16, by decide +kernel⟩,
   ⟨{ dev [(Rg.ST_STATUS_NO_SPARE, 0), (Rg.DD_STATUS_TIER, 0)] with rot := .idle, rotWant := [] }, 0, 16,
     by decide +kernel⟩,
   ⟨State.reset, 0, 200, by decide +kernel⟩,
   ⟨State.reset, 0, 16, by decide +kernel⟩,
   ⟨{ State.reset with blLbist := none }, 0, by decide +kernel⟩,
   ⟨{ dev [(Rg.EM_VE_STATE_STATE 16, 3)] with blLbist := some 16 }, 0, 16, by decide +kernel⟩,
   ⟨{ dev [(Rg.EM_VE_STATE_STATE 16, 3)] with blLbist := some 16 }, 9, 16, by decide +kernel⟩,
   ⟨State.reset, false, by decide +kernel⟩,
   ⟨{ dev [(Rg.BL_STATUS_MBIST, 1)] with blMbist := none, rot := .idle, rotWant := [] }, by decide +kernel⟩⟩

/-- The hypotheses of clauses 19 to 27 of `Obligations.SelfTestsReportTheirResult` are met. -/
theorem witness_SelfTestsReportTheirResult_3 :
    (∃ (s : State) (b : Nat) (r : List (Option Nat)), s.held = false ∧ s.get Rg.BL_STATUS_MBIST = 1 ∧ s.blMbist = none ∧
      s.rot = .idle ∧ s.rotWant = some b :: r ∧ s.flag Rg.ST_STATUS_NO_SPARE = false ∧ s.get Rg.DD_STATUS_TIER = 0) ∧
    (∃ (s : State), s.held = false ∧ s.get Rg.BL_STATUS_MBIST = 1 ∧ s.blMbist = none ∧ s.rot = .idle) ∧
    (∃ (s : State) (_ : Word), s.held = false ∧ s.get Rg.BL_STATUS_LOOP ≠ 1) ∧
    (∃ (s : State) (_ : Word), s.held = false ∧ s.get Rg.BL_STATUS_LOOP = 1 ∧ NoLoopWait s ∧ (s.lane (s.get
      Rg.BL_LOOP_LANE)).ret ≠ some .loopback) ∧
    (∃ (s : State), s.held = false ∧ (s.flag Rg.BL_CTRL_AUTO_EN = false ∨ s.get Rg.DD_STATUS_TIER ≠ 0 ∨ s.get
      Rg.BL_STATUS_LBIST = 1 ∨ s.nextSpare s.blLast = none)) ∧
    (∃ (s : State) (n : Nat), s.held = false ∧ s.flag Rg.BL_CTRL_AUTO_EN = true ∧ s.get Rg.DD_STATUS_TIER = 0 ∧ s.get
      Rg.BL_STATUS_LBIST ≠ 1 ∧ s.nextSpare s.blLast = some n) ∧
    (∃ (s : State), s.held = false ∧ s.get Rg.DD_STATUS_TIER = 0 ∧ s.migReqs = []) ∧
    (∃ (s : State) (n : VE) (k : Nat) (w : Bool), s.held = false ∧ s.get Rg.DD_STATUS_TIER = 0 ∧ s.migReqs = [⟨k, none,
      .policy, 1, w⟩] ∧ (∀ j, j < 68 → s.veState j ≠ 1) ∧ s.blLbist = some n.val ∧ s.veState n = 3) ∧
    (∃ (s : State) (n : VE), s.held = false ∧ s.get Rg.DD_STATUS_TIER ≠ 0 ∧ s.blLbist = some n.val ∧ s.veState n = 3 ∧
      s.get Rg.BL_STATUS_MBIST ≠ 1 ∧ s.get Rg.BL_STATUS_LOOP ≠ 1) :=
  ⟨⟨{ dev [(Rg.BL_STATUS_MBIST, 1), (Rg.ST_STATUS_NO_SPARE, 0), (Rg.DD_STATUS_TIER,
     0)] with blMbist := none, rot := .idle, rotWant := some 5 :: ([]) }, 5, [], by decide +kernel⟩,
   ⟨{ dev [(Rg.BL_STATUS_MBIST, 1)] with blMbist := none, rot := .idle }, by decide +kernel⟩,
   ⟨State.reset, 0, by decide +kernel⟩,
   ⟨{ dev [(Rg.BL_STATUS_LOOP, 1)] with held := false }, 0, by decide +kernel⟩,
   ⟨{ dev [(Rg.BL_CTRL_AUTO_EN, 0)] with held := false }, by decide +kernel⟩,
   ⟨{ dev [(Rg.BL_CTRL_AUTO_EN, 1), (Rg.DD_STATUS_TIER, 0)] with held := false }, 16, by decide +kernel⟩,
   ⟨{ dev [(Rg.DD_STATUS_TIER, 0)] with migReqs := [] }, by decide +kernel⟩,
   ⟨{ dev [(Rg.DD_STATUS_TIER, 0), (Rg.EM_VE_STATE_STATE 16, 3), (Rg.EM_VE_STATE_STATE 33, 4), (Rg.EM_VE_STATE_STATE 50,
     4), (Rg.EM_VE_STATE_STATE 67, 4)] with migReqs := [⟨0, none, .policy, 1, false⟩], blLbist := some 16 }, 16, 0, false,
     by decide +kernel⟩,
   ⟨{ dev [(Rg.EM_VE_STATE_STATE 16, 3), (Rg.DD_STATUS_TIER, 1)] with blLbist := some 16 }, 16, by decide +kernel⟩⟩

/-- The hypotheses of clauses 1 to 10 of `Obligations.DrydownTiersFollowR440` are met. -/
theorem witness_DrydownTiersFollowR440_1 :
    (∃ (s : State) (_ : SampleRun) (_ : List SampleRun), s.held = false) ∧
    (∃ (c : Instr) (s : State) (r : SampleRun), (c = .drydownTierEnter [r] ∨ c = .drydownTierLeave [r]) ∧ s.held = false
      ∧ r.n = 0) ∧
    (∃ (c : Instr) (s : State) (r : SampleRun), (c = .drydownTierEnter [r] ∨ c = .drydownTierLeave [r]) ∧ s.held = false
      ∧ r.n ≠ 0) ∧
    (∃ (c : Instr) (s : State) (r : SampleRun), (c = .drydownTierEnter [r] ∨ c = .drydownTierLeave [r]) ∧ s.held = false
      ∧ r.n ≠ 0 ∧ (s.flag Rg.DD_CTRL_EN = false ∨ (∀ k, s.get Rg.DD_STATUS_TIER < k → k ≤ 3 → crosses s r k = false))) ∧
    (∃ (c : Instr) (s : State) (r : SampleRun), (c = .drydownTierEnter [r] ∨ c = .drydownTierLeave [r]) ∧ s.held = false
      ∧ r.n ≠ 0 ∧ s.flag Rg.DD_CTRL_EN = true ∧ s.get Rg.DD_STATUS_TIER = 0 ∧ crosses s r 1 = true ∧ crosses s r 2 = false
      ∧ crosses s r 3 = false ∧ NoTest s) ∧
    (∃ (c : Instr) (s : State) (r : SampleRun), (c = .drydownTierEnter [r] ∨ c = .drydownTierLeave [r]) ∧ s.held = false
      ∧ r.n ≠ 0 ∧ s.flag Rg.DD_CTRL_EN = true ∧ s.get Rg.DD_STATUS_TIER = 1 ∧ crosses s r 2 = true ∧ crosses s r 3 = false
      ∧ s.locked = true) ∧
    (∃ (c : Instr) (s : State) (r : SampleRun), (c = .drydownTierEnter [r] ∨ c = .drydownTierLeave [r]) ∧ s.held = false
      ∧ r.n ≠ 0 ∧ s.flag Rg.DD_CTRL_EN = true ∧ s.get Rg.DD_STATUS_TIER = 0 ∧ crosses s r 2 = true ∧ crosses s r 3 = false
      ∧ s.locked = true ∧ NoTest s) ∧
    (∃ (c : Instr) (s : State) (r : SampleRun), (c = .drydownTierEnter [r] ∨ c = .drydownTierLeave [r]) ∧ s.held = false
      ∧ r.n ≠ 0 ∧ s.flag Rg.DD_CTRL_EN = true ∧ s.get Rg.DD_STATUS_TIER = 2 ∧ crosses s r 3 = true ∧ s.locked = true ∧
      (s.ft.evalRun = false ∨ 3 ≤ s.ft.phase)) ∧
    (∃ (c : Instr) (s : State) (r : SampleRun), (c = .drydownTierEnter [r] ∨ c = .drydownTierLeave [r]) ∧ s.held = false
      ∧ r.n ≠ 0 ∧ s.flag Rg.DD_CTRL_EN = true ∧ s.get Rg.DD_STATUS_TIER = 2 ∧ crosses s r 3 = true ∧ s.locked = true ∧
      s.ft.evalRun = true ∧ s.ft.phase < 3) ∧
    (∃ (s : State) (o : Nat), s.get Rg.DD_STATUS_TIER = o ∧ o ≠ 0 ∧ s.held = false ∧ s.tmrFire = [] ∧ (∀ n : Fin 8,
      s.get (Rg.TMR_CTRL_SRC n) ≠ 0) ∧ s.locked = false ∧ (s.mc + 1) % 2048 = 0 ∧ goodFrame s = false) :=
  ⟨⟨State.reset, ⟨700, 3⟩, [], by decide +kernel⟩,
   ⟨.drydownTierEnter [⟨700, 0⟩], State.reset, ⟨700, 0⟩, by decide +kernel⟩,
   ⟨.drydownTierEnter [⟨700, 500⟩], State.reset, ⟨700, 500⟩, by decide +kernel⟩,
   ⟨.drydownTierEnter [⟨700, 500⟩], { dev [(Rg.DD_CTRL_EN, 0)] with held := false }, ⟨700, 500⟩, Or.inl rfl,
     by decide +kernel, by decide +kernel, Or.inl (by decide)⟩,
   ⟨.drydownTierEnter [⟨720, 500⟩], { dev [(Rg.DD_CTRL_EN, 1), (Rg.DD_STATUS_TIER, 0)] with held := false }, ⟨720, 500⟩,
     by decide +kernel⟩,
   ⟨.drydownTierEnter [⟨700, 500⟩], { dev [(Rg.DD_CTRL_EN, 1), (Rg.DD_STATUS_TIER, 1), (Rg.FT_STATUS_STATE,
     4)] with held := false }, ⟨700, 500⟩, by decide +kernel⟩,
   ⟨.drydownTierEnter [⟨700, 500⟩], { dev [(Rg.DD_CTRL_EN, 1), (Rg.DD_STATUS_TIER, 0), (Rg.FT_STATUS_STATE,
     4)] with held := false }, ⟨700, 500⟩, by decide +kernel⟩,
   ⟨.drydownTierEnter [⟨680, 500⟩], { dev [(Rg.DD_CTRL_EN, 1), (Rg.DD_STATUS_TIER, 2), (Rg.FT_STATUS_STATE,
     4)] with ft := { evalRun := false } }, ⟨680, 500⟩, by decide +kernel⟩,
   ⟨.drydownTierEnter [⟨680, 500⟩], { dev [(Rg.DD_CTRL_EN, 1), (Rg.DD_STATUS_TIER, 2), (Rg.FT_STATUS_STATE,
     4)] with ft := { evalRun := true } }, ⟨680, 500⟩, by decide +kernel⟩,
   ⟨{ dev [(Rg.DD_STATUS_TIER, 1), (Rg.TMR_MC_LO, 2047), (Rg.TMR_CTRL_SRC 0, 1), (Rg.TMR_CTRL_SRC 1, 1),
     (Rg.TMR_CTRL_SRC 2, 1), (Rg.TMR_CTRL_SRC 3, 1), (Rg.TMR_CTRL_SRC 4, 1), (Rg.TMR_CTRL_SRC 5, 1), (Rg.TMR_CTRL_SRC 6,
     1), (Rg.TMR_CTRL_SRC 7, 1)] with tmrFire := [] }, 1, by decide +kernel⟩⟩

/-- The hypotheses of clauses 11 to 20 of `Obligations.DrydownTiersFollowR440` are met. -/
theorem witness_DrydownTiersFollowR440_2 :
    (∃ (s : State) (o : Nat), s.get Rg.DD_STATUS_TIER = o ∧ o ≠ 0 ∧ s.held = false ∧ s.tmrFire = [] ∧ (∀ n : Fin 8,
      s.get (Rg.TMR_CTRL_SRC n) ≠ 0) ∧ s.locked = false ∧ (s.mc + 1) % 2048 = 0 ∧ goodFrame s = true ∧ s.get
      Rg.DD_STATUS_GOOD + 1 < max 1 (s.get Rg.DD_CFG_GOOD_FRAMES) ∧ s.get Rg.DD_STATUS_GOOD < 255) ∧
    (∃ (s : State) (o : Nat), s.get Rg.DD_STATUS_TIER = o ∧ o ≠ 0 ∧ s.held = false ∧ s.tmrFire = [] ∧ (∀ n : Fin 8,
      s.get (Rg.TMR_CTRL_SRC n) ≠ 0) ∧ s.locked = false ∧ (s.mc + 1) % 2048 = 0 ∧ goodFrame s = true ∧ s.get
      Rg.DD_STATUS_GOOD + 1 = max 1 (s.get Rg.DD_CFG_GOOD_FRAMES) ∧ s.get Rg.DD_STATUS_GOOD < 255) ∧
    (∃ (s : State) (o : Nat), s.get Rg.DD_STATUS_TIER = o ∧ o ≠ 0 ∧ s.held = false ∧ s.locked = true ∧ s.ft.phase = 5 ∧
      s.ft.inFrame = s.frameF ∧ s.ft.crossOpen = false ∧ s.ft.unlockReq = false ∧ s.staged = [] ∧ s.migReqs = [] ∧
      s.copies = [] ∧ s.restores = [] ∧ goodFrame s = false) ∧
    (∃ (s : State) (o : Nat), s.get Rg.DD_STATUS_TIER = o ∧ o ≠ 0 ∧ s.held = false ∧ s.locked = true ∧ s.ft.phase = 5 ∧
      s.ft.inFrame = s.frameF ∧ s.ft.crossOpen = false ∧ s.ft.unlockReq = false ∧ s.staged = [] ∧ s.migReqs = [] ∧
      s.copies = [] ∧ s.restores = [] ∧ goodFrame s = true ∧ s.get Rg.DD_STATUS_GOOD + 1 = max 1 (s.get
      Rg.DD_CFG_GOOD_FRAMES) ∧ s.get Rg.DD_STATUS_GOOD < 255) ∧
    (∃ (s : State) (m : Master) (tier : BitVec 2) (_ : Word), MayWrite s m Rg.DD_CTRL_EN.addr 4 ∧ tier.toNat < s.get
      Rg.DD_STATUS_TIER) ∧
    (∃ (s : State) (m : Master) (tier : BitVec 2) (_ : Word), MayWrite s m Rg.DD_CTRL_EN.addr 4 ∧ tier.toNat = s.get
      Rg.DD_STATUS_TIER) ∧
    (∃ (s : State) (m : Master) (tier : BitVec 2) (_ : Word), MayWrite s m Rg.DD_CTRL_EN.addr 4 ∧ s.get
      Rg.DD_STATUS_TIER = 0 ∧ tier = 1 ∧ NoTest s) ∧
    (∃ (s : State), s.held = false ∧ s.dd.power = []) ∧
    (∃ (s : State), s.held = false ∧ s.dd.power ≠ [] ∧ s.locked = true) ∧
    (∃ (s : State) (n : VE), s.held = false ∧ s.dd.power = [n.val] ∧ s.locked = false ∧ s.slotOf n = none ∧ s.copies =
      [] ∧ s.restores = []) :=
  ⟨⟨{ dev [(Rg.DD_STATUS_TIER, 1), (Rg.TMR_MC_LO, 2047), (Rg.TMR_CTRL_SRC 0, 1), (Rg.TMR_CTRL_SRC 1, 1),
     (Rg.TMR_CTRL_SRC 2, 1), (Rg.TMR_CTRL_SRC 3, 1), (Rg.TMR_CTRL_SRC 4, 1), (Rg.TMR_CTRL_SRC 5, 1), (Rg.TMR_CTRL_SRC 6,
     1), (Rg.TMR_CTRL_SRC 7, 1), (Rg.DD_VCORE_MV, 1000), (Rg.DD_STATUS_GOOD,
     98)] with tmrFire := [], dd := { since := 1 } }, 1, by decide +kernel⟩,
   ⟨{ dev [(Rg.DD_STATUS_TIER, 1), (Rg.TMR_MC_LO, 2047), (Rg.TMR_CTRL_SRC 0, 1), (Rg.TMR_CTRL_SRC 1, 1),
     (Rg.TMR_CTRL_SRC 2, 1), (Rg.TMR_CTRL_SRC 3, 1), (Rg.TMR_CTRL_SRC 4, 1), (Rg.TMR_CTRL_SRC 5, 1), (Rg.TMR_CTRL_SRC 6,
     1), (Rg.TMR_CTRL_SRC 7, 1), (Rg.DD_VCORE_MV, 1000), (Rg.DD_STATUS_GOOD,
     99)] with tmrFire := [], dd := { since := 1 } }, 1, by decide +kernel⟩,
   ⟨{ dev [(Rg.DD_STATUS_TIER, 1), (Rg.FT_STATUS_STATE,
     4)] with staged := [], migReqs := [], copies := [], restores := [], ft := { phase := 5, inFrame := 64, crossOpen := false, unlockReq := false } },
     1, by decide +kernel⟩,
   ⟨{ dev [(Rg.DD_STATUS_TIER, 1), (Rg.FT_STATUS_STATE, 4), (Rg.DD_VCORE_MV, 1000), (Rg.DD_STATUS_GOOD,
     99)] with staged := [], migReqs := [], copies := [], restores := [], ft := { phase := 5, inFrame := 64, crossOpen := false, unlockReq := false }, dd := { since := 1 } },
     1, by decide +kernel⟩,
   ⟨dev [(Rg.DD_STATUS_TIER, 2)], 0, 1, 0, by decide +kernel⟩,
   ⟨State.reset, 0, 0, 0, by decide +kernel⟩,
   ⟨dev [(Rg.DD_STATUS_TIER, 0)], 0, 1, 1, by decide +kernel⟩,
   ⟨{ State.reset with dd := { power := [] } }, by decide +kernel⟩,
   ⟨{ dev [(Rg.FT_STATUS_STATE, 4)] with dd := { power := [5] } }, by decide +kernel⟩,
   ⟨{ State.reset with copies := [], restores := [], dd := { power := [16] } }, 16, by decide +kernel⟩⟩

/-- The hypotheses of clauses 1 to 7 of `Obligations.ResetsFollowR448` are met. -/
theorem witness_ResetsFollowR448_1 :
    (∃ (_ : State) (ns : Word), ns.toNat < 1000) ∧
    (∃ (_ : State) (ns : Word), 5000 ≤ ns.toNat) ∧
    (∃ (_ : State) (k : Fin 6) (mv : BitVec 12), supplyThr k ≤ mv.toNat ∧ mv.toNat < supplyThr k + 15) ∧
    (∃ (_ : State) (k : Fin 6) (mv : BitVec 12), supplyThr k + 15 ≤ mv.toNat) ∧
    (∃ (_ : State) (k : Fin 6) (mv : BitVec 12), mv.toNat < supplyThr k ∧ k ≠ 5) ∧
    (∃ (_ : State) (k : Fin 6) (mv : BitVec 12), mv.toNat < supplyThr k ∧ k = 5) ∧
    (∃ (s : State) (mv : BitVec 10) (_ : Word) (_ : BitVec 4), (s.held = true ∨ s.get Rg.DD_THR1_FINAL_MV ≤ mv.toNat)) :=
  ⟨⟨State.reset, 500, by decide +kernel⟩,
   ⟨State.reset, 5000, by decide +kernel⟩,
   ⟨State.reset, 0, 730, by decide +kernel⟩,
   ⟨State.reset, 0, 1000, by decide +kernel⟩,
   ⟨State.reset, 0, 500, by decide +kernel⟩,
   ⟨State.reset, 5, 600, by decide +kernel⟩,
   ⟨{ State.reset with held := true }, 700, 0, 0, by decide +kernel⟩⟩

/-- The hypotheses of clauses 8 to 13 of `Obligations.ResetsFollowR448` are met. -/
theorem witness_ResetsFollowR448_2 :
    (∃ (s : State) (mv : BitVec 10) (_ : Word) (_ : BitVec 4), s.held = false ∧ mv.toNat < s.get Rg.DD_THR1_FINAL_MV) ∧
    (∃ (s : State) (m : Master) (i : BitVec 7) (c : _) (k : Nat), MayWrite s m Rg.RST_BLK_KIND.addr 4 ∧ (c, k) ∈
      [(Instr.laneBlockReset m i, 1), (.readoutBlockReset m i, 2), (.crcBlockReset m i, 3), (.flashBlockReset m i, 4)] ∧
      s.blockIdle k i.toNat = false) ∧
    (∃ (s : State) (m : Master) (i : BitVec 7), MayWrite s m Rg.RST_BLK_KIND.addr 4 ∧ s.blockIdle 1 i.toNat = true) ∧
    (∃ (s : State) (m : Master) (i : BitVec 7), MayWrite s m Rg.RST_BLK_KIND.addr 4 ∧ s.blockIdle 2 i.toNat = true) ∧
    (∃ (s : State) (m : Master) (i : BitVec 7), MayWrite s m Rg.RST_BLK_KIND.addr 4 ∧ s.blockIdle 3 i.toNat = true) ∧
    (∃ (s : State) (m : Master) (i : BitVec 7), MayWrite s m Rg.RST_BLK_KIND.addr 4 ∧ s.blockIdle 4 i.toNat = true) :=
  ⟨⟨State.reset, 600, 0, 0, by decide +kernel⟩,
   ⟨dev [(Rg.LN_STATUS_STATE 5, 2)], 0, 5, .laneBlockReset 0 5, 1, by decide +kernel⟩,
   ⟨State.reset, 0, 0, by decide +kernel⟩,
   ⟨State.reset, 0, 0, by decide +kernel⟩,
   ⟨State.reset, 0, 0, by decide +kernel⟩,
   ⟨State.reset, 0, 0, by decide +kernel⟩⟩

/-- The hypotheses of the clauses of `Obligations.BootFollowsR453` are met. -/
theorem witness_BootFollowsR453 :
    (∃ (s : State) (_ : BootIn), (s.boot ≠ none ∨ s.supplyLow ≠ [])) ∧
    (∃ (s : State) (b : BootIn), s.boot = none ∧ s.supplyLow = [] ∧ (s.get Rg.LC_STATE_STATE = 3 ∨ b.code.toNat / 4 =
      0)) ∧
    (∃ (s : State) (_ : BootIn), s.boot = none ∧ s.supplyLow = [] ∧ s.get Rg.LC_STATE_STATE = 3) ∧
    (∃ (s : State) (b : BootIn), s.boot = none ∧ s.supplyLow = [] ∧ s.get Rg.LC_STATE_STATE ≠ 3 ∧ (b.code.toNat / 4 = 0
      ∨ b.code.toNat / 4 = 7)) ∧
    (∃ (s : State) (b : BootIn), s.boot = none ∧ s.supplyLow = [] ∧ s.get Rg.LC_STATE_STATE ≠ 3 ∧ 1 ≤ b.code.toNat / 4 ∧
      b.code.toNat / 4 ≤ 6 ∧ (∀ i, b.sfdp = some i → i.usable = false)) ∧
    (∃ (s : State) (b : BootIn) (i : FlashInfo), s.boot = none ∧ s.supplyLow = [] ∧ s.get Rg.LC_STATE_STATE ≠ 3 ∧ 1 ≤
      b.code.toNat / 4 ∧ b.code.toNat / 4 ≤ 6 ∧ b.sfdp = some i ∧ i.usable = true ∧ s.flashDir = none) ∧
    (∃ (s : State) (m : Master) (_ : Word), MayWrite s m Rg.BOOT_CONFIRM.addr 4) ∧
    (∃ (s : State) (m : Master) (_ : Word) (b : BootIn), MayWrite s m Rg.BOOT_GO.addr 4 ∧ s.romGo = none ∧ s.boot = some
      b ∧ (hostSide m = false ∨ s.rom = .none ∨ s.rom = .load)) ∧
    (∃ (s : State) (m : Master) (_ : Word) (b : BootIn) (entry : Nat), MayWrite s m Rg.BOOT_GO.addr 4 ∧ s.romGo = none ∧
      s.boot = some b ∧ s.rom = .go entry false ∧ hostSide m = true) ∧
    (∃ (s : State) (m : Master) (_ : Word) (b : BootIn), MayWrite s m Rg.HB_LOAD_GO.addr 4 ∧ s.romGo = none ∧ s.boot =
      some b ∧ s.storeErr = [] ∧ (s.rom = .none ∨ s.flag Rg.HB_LOAD_READY = false)) ∧
    (∃ (s : State) (m : Master) (_ : Word) (b : BootIn), MayWrite s m Rg.HB_LOAD_GO.addr 4 ∧ s.romGo = none ∧ s.boot =
      some b ∧ s.storeErr = [] ∧ s.rom = .load ∧ s.flag Rg.HB_LOAD_READY = true) :=
  ⟨⟨{ State.reset with boot := some ⟨0, none, false, false, 0, 0, 1000⟩ }, ⟨0, none, false, false, 0, 0, 1000⟩,
     by decide +kernel⟩,
   ⟨{ dev [(Rg.LC_STATE_STATE, 3)] with boot := none, supplyLow := [] }, ⟨0, none, false, false, 0, 0, 1000⟩,
     by decide +kernel⟩,
   ⟨{ dev [(Rg.LC_STATE_STATE, 3)] with boot := none, supplyLow := [] }, ⟨0, none, false, false, 0, 0, 1000⟩,
     by decide +kernel⟩,
   ⟨{ State.reset with boot := none, supplyLow := [] }, ⟨0, none, false, false, 0, 0, 1000⟩, by decide +kernel⟩,
   ⟨{ State.reset with boot := none, supplyLow := [] }, ⟨4, none, false, false, 0, 0, 1000⟩, by decide +kernel⟩,
   ⟨{ State.reset with boot := none, supplyLow := [] }, ⟨4, some ⟨2 ^ 24, true, 1000, 1000, true, true, true⟩, false,
     false, 0, 0, 1000⟩, ⟨2 ^ 24, true, 1000, 1000, true, true, true⟩, by decide +kernel⟩,
   ⟨State.reset, 0, 0, by decide +kernel⟩,
   ⟨{ State.reset with romGo := none, boot := some (⟨0, none, false, false, 0, 0, 1000⟩), rom := .none }, 0, 0, ⟨0,
     none, false, false, 0, 0, 1000⟩, by decide +kernel⟩,
   ⟨{ dev [(Rg.MX_WIN_BASE_LO 1 0, 0), (Rg.MX_WIN_BASE_HI 1 0, 0), (Rg.MX_WIN_LIMIT_LO 1 0, 0xFFFFF),
     (Rg.MX_WIN_LIMIT_HI 1 0, 0xFFFF), (Rg.OWN_CLASS_OWNER 6,
     2)] with romGo := none, boot := some (⟨0, none, false, false, 0, 0, 1000⟩), rom := .go 0x40 false }, 1, 0, ⟨0, none,
     false, false, 0, 0, 1000⟩, 0x40, by decide +kernel⟩,
   ⟨{ State.reset with romGo := none, boot := some (⟨0, none, false, false, 0, 0, 1000⟩), storeErr := [], rom := .none },
     0, 0, ⟨0, none, false, false, 0, 0, 1000⟩, by decide +kernel⟩,
   ⟨{ dev [(Rg.HB_LOAD_READY,
     1)] with romGo := none, boot := some (⟨0, none, false, false, 0, 0, 1000⟩), storeErr := [], rom := .load }, 0, 0, ⟨0,
     none, false, false, 0, 0, 1000⟩, by decide +kernel⟩⟩

/-- The hypotheses of clauses 1 to 10 of `Obligations.HostPortsFollowR467` are met. -/
theorem witness_HostPortsFollowR467_1 :
    (∃ (s : State) (r : BarReq) (c : CfgReg), s.held = false ∧ s.romGo = none ∧ r.up = none ∧ r.cfg = some c ∧ (s.flag
      Rg.HB_STATUS_PERST = true ∨ 4 ≤ s.get Rg.HB_STATUS_LSTATE ∨ s.get Rg.HB_STATUS_DSTATE = 2)) ∧
    (∃ (s : State) (r : BarReq) (c : CfgReg) (d : Nat), s.held = false ∧ s.romGo = none ∧ r.up = none ∧ r.cfg = some c ∧
      BarOpen s d ∧ d ≠ 2 ∧ r.write = none) ∧
    (∃ (s : State) (r : BarReq) (c : CfgReg) (d : Nat) (w : BitVec 4096), s.held = false ∧ s.romGo = none ∧ r.up = none
      ∧ r.cfg = some c ∧ BarOpen s d ∧ d ≠ 2 ∧ r.write = some w ∧ c = .linkControl) ∧
    (∃ (s : State) (r : BarReq) (c : CfgReg) (d : Nat) (w : BitVec 4096), s.held = false ∧ s.romGo = none ∧ r.up = none
      ∧ r.cfg = some c ∧ BarOpen s d ∧ d ≠ 2 ∧ r.write = some w ∧ c ≠ .linkControl ∧ c ≠ .aerCorrectable) ∧
    (∃ (s : State) (r : BarReq) (c : CfgReg), s.held = false ∧ s.romGo = none ∧ r.up = none ∧ r.cfg = some c) ∧
    (∃ (s : State) (r : BarReq), s.held = false ∧ s.romGo = none ∧ r.up = none ∧ r.cfg = none ∧ (s.flag
      Rg.HB_STATUS_PERST = true ∨ 4 ≤ s.get Rg.HB_STATUS_LSTATE ∨ s.get Rg.HB_STATUS_DSTATE = 2)) ∧
    (∃ (s : State) (r : BarReq), s.held = false ∧ s.romGo = none ∧ r.up = none ∧ r.cfg = none ∧ BarOpen s 1 ∧ r.write =
      none) ∧
    (∃ (s : State) (r : BarReq), s.held = false ∧ s.romGo = none ∧ r.up = none ∧ r.cfg = none ∧ BarOpen s 1 ∧ r.write ≠
      none) ∧
    (∃ (s : State) (r : BarReq), s.held = false ∧ s.romGo = none ∧ r.up = none ∧ r.cfg = none ∧ BarOpen s 0 ∧
      s.barTarget r.bar2 r.addr.toNat = .nothing ∧ r.write = none) ∧
    (∃ (s : State) (r : BarReq), s.held = false ∧ s.romGo = none ∧ r.up = none ∧ r.cfg = none ∧ BarOpen s 0 ∧
      s.barTarget r.bar2 r.addr.toNat = .nothing ∧ r.write ≠ none) :=
  ⟨⟨{ dev [(Rg.HB_STATUS_LSTATE, 5)] with romGo := none }, ⟨false, 0x4, 3, none, none, some .ids⟩, .ids,
     by decide +kernel⟩,
   ⟨{ dev [(Rg.HB_STATUS_LSTATE, 0), (Rg.HB_STATUS_DSTATE, 1)] with romGo := none }, ⟨false, 0x4, 3, none, none, some
     .ids⟩, .ids, 1, by decide +kernel⟩,
   ⟨{ dev [(Rg.HB_STATUS_LSTATE, 0)] with romGo := none }, ⟨false, 0x4, 3, some 2, none, some .linkControl⟩,
     .linkControl, 0, 2, by decide +kernel⟩,
   ⟨{ dev [(Rg.HB_STATUS_LSTATE, 0)] with romGo := none }, ⟨false, 0x4, 3, some 2, none, some .serial⟩, .serial, 0, 2,
     by decide +kernel⟩,
   ⟨{ State.reset with romGo := none }, ⟨false, 0x4, 3, none, none, some .ids⟩, .ids, by decide +kernel⟩,
   ⟨{ dev [(Rg.HB_STATUS_LSTATE, 5)] with romGo := none }, ⟨false, 0x4, 3, none, none, none⟩, by decide +kernel⟩,
   ⟨{ dev [(Rg.HB_STATUS_LSTATE, 0), (Rg.HB_STATUS_DSTATE, 1)] with romGo := none }, ⟨false, 0x4, 3, none, none, none⟩,
     by decide +kernel⟩,
   ⟨{ dev [(Rg.HB_STATUS_LSTATE, 0), (Rg.HB_STATUS_DSTATE, 1)] with romGo := none }, ⟨false, 0x4, 3, some 7, none,
     none⟩, by decide +kernel⟩,
   ⟨{ dev [(Rg.HB_STATUS_LSTATE, 0)] with romGo := none }, ⟨false, 0x20000, 3, none, none, none⟩, by decide +kernel,
     by decide +kernel, by decide +kernel, by decide +kernel, by decide +kernel, rfl, by decide +kernel⟩,
   ⟨{ dev [(Rg.HB_STATUS_LSTATE, 0)] with romGo := none }, ⟨false, 0x20000, 3, some 7, none, none⟩, by decide +kernel,
     by decide +kernel, by decide +kernel, by decide +kernel, by decide +kernel, rfl, by decide +kernel⟩⟩

/-- The hypotheses of clauses 11 to 20 of `Obligations.HostPortsFollowR467` are met. -/
theorem witness_HostPortsFollowR467_2 :
    (∃ (s : State) (r : BarReq) (o : Nat), s.held = false ∧ s.romGo = none ∧ r.up = none ∧ r.cfg = none ∧ BarOpen s 0 ∧
      s.barTarget r.bar2 r.addr.toNat = .msix o ∧ r.write = none) ∧
    (∃ (s : State) (r : BarReq) (o : Nat), s.held = false ∧ s.romGo = none ∧ r.up = none ∧ r.cfg = none ∧ BarOpen s 0 ∧
      s.barTarget r.bar2 r.addr.toNat = .pba o ∧ r.write = none) ∧
    (∃ (s : State) (r : BarReq) (a : Nat) (peek : Bool) (bs : List Byte) (t : State), s.held = false ∧ s.romGo = none ∧
      r.up = none ∧ r.cfg = none ∧ BarOpen s 0 ∧ s.barTarget r.bar2 r.addr.toNat = .mgmt a peek ∧ r.write = none ∧
      tlpSplit a (r.last.toNat + 1) = some [(a, r.last.toNat + 1)] ∧ s.busGet 1 a (r.last.toNat + 1) peek = (.ok bs, t) ∧
      t.romGo = none) ∧
    (∃ (s : State) (r : BarReq) (a : Nat) (peek : Bool) (c : Nat) (t : State), s.held = false ∧ s.romGo = none ∧ r.up =
      none ∧ r.cfg = none ∧ BarOpen s 0 ∧ s.barTarget r.bar2 r.addr.toNat = .mgmt a peek ∧ r.write = none ∧ tlpSplit a
      (r.last.toNat + 1) = some [(a, r.last.toNat + 1)] ∧ s.busGet 1 a (r.last.toNat + 1) peek = (.error c, t) ∧ t.romGo =
      none) ∧
    (∃ (s : State) (r : BarReq) (a : Nat) (peek : Bool) (d : BitVec 4096) (c : Nat) (t : State), s.held = false ∧
      s.romGo = none ∧ r.up = none ∧ r.cfg = none ∧ BarOpen s 0 ∧ s.barTarget r.bar2 r.addr.toNat = .mgmt a peek ∧ r.write
      = some d ∧ r.last.toNat < 512 ∧ tlpSplit a (r.last.toNat + 1) = some [(a, r.last.toNat + 1)] ∧ s.busPut 1 a (leBytes
      (r.last.toNat + 1) d.toNat) = (c, t) ∧ t.romGo = none) ∧
    (∃ (s : State), s.held = false ∧ s.sinceFilt s.perstMc < max (s.get Rg.PAD_FILT_PERST_FILT) 1) ∧
    (∃ (s : State), s.held = false ∧ max (s.get Rg.PAD_FILT_PERST_FILT) 1 + 1 ≤ s.sinceFilt s.perstMc) ∧
    (∃ (s : State) (mc : BitVec 8), s.held = false ∧ (s.flag Rg.HB_STATUS_PERST = false ∨ s.sinceFilt mc.toNat < max
      (s.get Rg.PAD_FILT_PERST_FILT) 1)) ∧
    (∃ (s : State), s.held = false ∧ (s.get Rg.HB_STATUS_LSTATE = 0 ∨ 5 ≤ s.get Rg.HB_STATUS_LSTATE)) ∧
    (∃ (s : State) (mc : BitVec 8), s.held = false ∧ s.flag Rg.HB_STATUS_WAKE_PENDING = false ∧ s.flag
      Rg.HB_STATUS_PERST = true ∧ max (s.get Rg.PAD_FILT_PERST_FILT) 1 + 1 ≤ s.sinceFilt mc.toNat) :=
  ⟨⟨{ dev [(Rg.HB_STATUS_LSTATE, 0)] with romGo := none }, ⟨false, 0x10008, 3, none, none, none⟩, 8, by decide +kernel,
     by decide +kernel, by decide +kernel, by decide +kernel, by decide +kernel, rfl, by decide +kernel⟩,
   ⟨{ dev [(Rg.HB_STATUS_LSTATE, 0), (Rg.HB_STATUS_PERST, 0)] with romGo := none, msixPend := [33, 40] }, ⟨false,
     0x11004, 3, none, none, none⟩, 4, by decide +kernel, by decide +kernel, by decide +kernel, rfl, by decide, rfl,
     by decide +kernel⟩,
   ⟨{ dev [(Rg.HB_STATUS_LSTATE, 0)] with romGo := none }, ⟨true, 0x10, 3, none, none, none⟩, 0x100000010, false, [0, 0,
     0, 0], dev [(Rg.HB_STATUS_LSTATE, 0)], by decide +kernel, by decide +kernel, by decide +kernel, by decide +kernel,
     by decide +kernel, rfl, by decide +kernel, by decide +kernel, rfl, by decide +kernel⟩,
   ⟨dev [(Rg.HB_STATUS_LSTATE, 0), (Rg.HB_AP_BASE_HI 0, 7)], ⟨true, 0x10, 3, none, none, none⟩, 0x700000010, false, 1,
     ((dev [(Rg.HB_STATUS_LSTATE, 0), (Rg.HB_AP_BASE_HI 0, 7)]).busGet 1 0x700000010 4 false).2, by decide +kernel,
     by decide +kernel, by decide +kernel, by decide +kernel, by decide +kernel, rfl, by decide +kernel,
     by decide +kernel, rfl, by decide +kernel⟩,
   ⟨dev [(Rg.HB_STATUS_LSTATE, 0)], ⟨true, 0x80010, 3, some 7, none, none⟩, 0x100080010, false, 7, 0, ((dev
     [(Rg.HB_STATUS_LSTATE, 0)]).busPut 1 0x100080010 (leBytes 4 7)).2, by decide +kernel, by decide +kernel,
     by decide +kernel, by decide +kernel, by decide +kernel, rfl, by decide +kernel, by decide +kernel,
     by decide +kernel, by decide +kernel, by decide +kernel⟩,
   ⟨{ State.reset with perstMc := 0 }, by decide +kernel⟩,
   ⟨State.reset, by decide +kernel⟩,
   ⟨{ dev [(Rg.HB_STATUS_PERST, 0)] with perstMc := 0 }, 0, by decide +kernel⟩,
   ⟨{ dev [(Rg.HB_STATUS_LSTATE, 0)] with held := false }, by decide +kernel⟩,
   ⟨{ dev [(Rg.HB_STATUS_WAKE_PENDING, 0), (Rg.HB_STATUS_PERST, 1)] with held := false }, 255, by decide +kernel⟩⟩

/-- The hypotheses of clauses 21 to 30 of `Obligations.HostPortsFollowR467` are met. -/
theorem witness_HostPortsFollowR467_3 :
    (∃ (s : State), s.held = false ∧ s.flag Rg.HB_STATUS_WAKE_PENDING = false ∧ 1 ≤ s.get Rg.HB_STATUS_LSTATE ∧ s.get
      Rg.HB_STATUS_LSTATE ≤ 4) ∧
    (∃ (s : State) (e : HostExit), s.held = false ∧ s.flag Rg.HB_STATUS_WAKE_PENDING = true ∧ (∀ mc, e = .perst mc →
      s.flag Rg.HB_STATUS_PERST = true ∧ max (s.get Rg.PAD_FILT_PERST_FILT) 1 + 1 ≤ s.sinceFilt mc.toNat) ∧ (e = .link → 1
      ≤ s.get Rg.HB_STATUS_LSTATE ∧ s.get Rg.HB_STATUS_LSTATE ≤ 4)) ∧
    (∃ (s : State) (d : Fin 3), s.held = false ∧ s.get Rg.HB_STATUS_DSTATE = d.val) ∧
    (∃ (s : State) (d : Fin 3), s.held = false ∧ s.get Rg.HB_STATUS_DSTATE ≠ d.val ∧ d = 0 ∧ s.msixPend = []) ∧
    (∃ (s : State) (d : Fin 3), s.held = false ∧ s.get Rg.HB_STATUS_DSTATE ≠ d.val ∧ d ≠ 0 ∧ ((∀ r ∈ s.hostWaits, r ∈
      s.woken) ∨ s.flag Rg.HB_CTRL_WAKE_EN = false)) ∧
    (∃ (s : State) (d : Fin 3) (r : Nat), s.held = false ∧ s.get Rg.HB_STATUS_DSTATE ≠ d.val ∧ d ≠ 0 ∧ s.hostWaits = [r]
      ∧ r ∉ s.woken ∧ s.flag Rg.HB_CTRL_WAKE_EN = true) ∧
    (∃ (s : State) (l : Fin 6) (_ : Fin 3) (_ : Fin 4), s.held = false ∧ 1 ≤ l.val ∧ l.val ≤ 3 ∧ s.get
      Rg.HB_STATUS_DSTATE = 0 ∧ s.aspm = false) ∧
    (∃ (s : State) (l : Fin 6) (_ : Fin 3) (_ : Fin 4) (h : Bool), s.held = false ∧ s.msixPend = [] ∧ (l.val = 0 ∨ 3 <
      l.val ∨ s.get Rg.HB_STATUS_DSTATE ≠ 0 ∨ h = true ∨ s.aspm = true)) ∧
    (∃ (s : State) (m : Master) (_ : Word), MayWrite s m Rg.HB_WAKE_REQ.addr 4 ∧ (s.flag Rg.HB_CTRL_WAKE_EN = false ∨
      s.get Rg.HB_STATUS_DSTATE = 0)) ∧
    (∃ (s : State) (m : Master) (_ : Word), MayWrite s m Rg.HB_WAKE_REQ.addr 4 ∧ s.flag Rg.HB_CTRL_WAKE_EN = true ∧
      s.get Rg.HB_STATUS_DSTATE ≠ 0 ∧ s.hostExit = false) :=
  ⟨⟨{ dev [(Rg.HB_STATUS_WAKE_PENDING, 0), (Rg.HB_STATUS_LSTATE, 2)] with held := false }, by decide +kernel⟩,
   ⟨{ dev [(Rg.HB_STATUS_WAKE_PENDING, 1), (Rg.HB_STATUS_LSTATE, 2)] with held := false }, .link, by decide +kernel,
     by decide +kernel, (by intro mc h; cases h), (by intro _; decide +kernel)⟩,
   ⟨{ dev [(Rg.HB_STATUS_DSTATE, 0)] with held := false }, 0, by decide +kernel⟩,
   ⟨{ dev [(Rg.HB_STATUS_DSTATE, 1)] with msixPend := [] }, 0, by decide +kernel⟩,
   ⟨State.reset, 1, by decide +kernel⟩,
   ⟨dev [(Rg.RD_CFG_ENABLE 2, 1), (Rg.RD_CFG_DEST 2, 1), (Rg.RD_STATUS_WAITING 2, 1), (Rg.HB_CTRL_WAKE_EN, 1)], 1, 2,
     by decide +kernel⟩,
   ⟨{ dev [(Rg.HB_STATUS_DSTATE, 0)] with aspm := false }, 1, 0, 0, by decide +kernel⟩,
   ⟨{ State.reset with msixPend := [] }, 0, 0, 0, false, by decide +kernel⟩,
   ⟨dev [(Rg.HB_CTRL_WAKE_EN, 0)], 0, 0, by decide +kernel⟩,
   ⟨{ dev [(Rg.HB_CTRL_WAKE_EN, 1), (Rg.HB_STATUS_DSTATE, 1)] with hostExit := false }, 0, 0, by decide +kernel⟩⟩

/-- The hypotheses of clauses 31 to 37 of `Obligations.HostPortsFollowR467` are met. -/
theorem witness_HostPortsFollowR467_4 :
    (∃ (s : State) (m : Master) (_ : Word), MayWrite s m Rg.HB_WAKE_REQ.addr 4 ∧ s.flag Rg.HB_CTRL_WAKE_EN = true ∧
      s.get Rg.HB_STATUS_DSTATE ≠ 0 ∧ s.hostExit = true) ∧
    (∃ (s : State) (m : Master) (_ : Word), MayWrite s m Rg.HB_MSI_TRIG_GO.addr 4 ∧ hostSide m = true) ∧
    (∃ (s : State) (m : Master) (v : Word), MayWrite s m Rg.HB_MSI_TRIG_GO.addr 4 ∧ hostSide m = false ∧ s.hostReady =
      true ∧ s.msixByte (16 * (v.toNat % 64) + 12) % 2 = 0) ∧
    (∃ (s : State) (m : Master) (v : Word), MayWrite s m Rg.HB_MSI_TRIG_GO.addr 4 ∧ hostSide m = false ∧ (s.hostReady =
      false ∨ s.msixByte (16 * (v.toNat % 64) + 12) % 2 = 1)) ∧
    (∃ (s : State) (_ : SmbReq) (_ : Telemetry), s.held = false) ∧
    (∃ (s : State) (r : SmbReq) (_ : Telemetry), s.held = false ∧ (s.flag Rg.TM_SMB_EN = false ∨ r.addr.toNat ≠ s.get
      Rg.TM_SMB_ADDR)) ∧
    (∃ (s : State) (r : SmbReq) (_ : Telemetry), s.held = false ∧ s.flag Rg.TM_SMB_EN = true ∧ r.addr.toNat = s.get
      Rg.TM_SMB_ADDR) :=
  ⟨⟨{ dev [(Rg.HB_CTRL_WAKE_EN, 1), (Rg.HB_STATUS_DSTATE, 1)] with hostExit := true }, 0, 0, by decide +kernel⟩,
   ⟨State.reset, 2, 0, by decide +kernel⟩,
   ⟨{ dev [(Rg.HB_STATUS_LSTATE, 0)] with msix := [(12, 0)] }, 0, 0, by decide +kernel⟩,
   ⟨State.reset, 0, 0, by decide +kernel⟩,
   ⟨State.reset, ⟨0x20, 1, .readWord, .good⟩, ⟨#v[8, 16, 24, 32, 40, 48, 56, 64], #v[700, 701, 702, 703, 704, 705, 706],
     55⟩, by decide +kernel⟩,
   ⟨{ dev [(Rg.TM_SMB_EN, 0)] with held := false }, ⟨0x20, 1, .readWord, .good⟩, ⟨#v[8, 16, 24, 32, 40, 48, 56, 64],
     #v[700, 701, 702, 703, 704, 705, 706], 55⟩, by decide +kernel⟩,
   ⟨{ dev [(Rg.TM_SMB_EN, 1)] with held := false }, ⟨92, 1, .readWord, .good⟩, ⟨#v[8, 16, 24, 32, 40, 48, 56, 64],
     #v[700, 701, 702, 703, 704, 705, 706], 55⟩, by decide +kernel⟩⟩

/-- The hypotheses of clauses 1 to 7 of `Obligations.HaltsFollowR480` are met. -/
theorem witness_HaltsFollowR480_1 :
    (∃ (s : State) (m : Master) (n : VE) (_ : Word), MayWrite s m (Rg.DBG_CTRL_HALT n).addr 4 ∧ s.inField = true) ∧
    (∃ (s : State) (m : Master) (n : VE) (v : Word), MayWrite s m (Rg.DBG_CTRL_HALT n).addr 4 ∧ s.inField = false ∧
      v.toNat % 8 = 0) ∧
    (∃ (s : State) (m : Master) (n : VE) (v : Word), MayWrite s m (Rg.DBG_CTRL_HALT n).addr 4 ∧ s.inField = false ∧
      v.toNat % 8 = 0 ∧ (s.eng n).halted = true) ∧
    (∃ (s : State) (m : Master) (_ : Word), MayWrite s m Rg.TD_CTRL_HALT.addr 4 ∧ s.inField = true) ∧
    (∃ (s : State) (m : Master) (v : Word), MayWrite s m Rg.TD_CTRL_HALT.addr 4 ∧ s.inField = false ∧ v.toNat % 8 = 0) ∧
    (∃ (s : State) (m : Master) (v : Word), MayWrite s m Rg.TD_CTRL_HALT.addr 4 ∧ s.inField = false ∧ v.toNat % 8 = 0 ∧
      s.tri.halted = true) ∧
    (∃ (s : State) (u : CoreId), s.held = false ∧ (s.eng (coreNo u)).haltReq = none) :=
  ⟨⟨{ State.reset with lcForce := 2 }, 0, 0, 0, by decide +kernel⟩,
   ⟨State.reset, 0, 0, 0, by decide +kernel⟩,
   ⟨seqAt fun e => { e with halted := true }, 0, 0, 0, by decide +kernel⟩,
   ⟨{ State.reset with lcForce := 2 }, 0, 0, by decide +kernel⟩,
   ⟨State.reset, 0, 0, by decide +kernel⟩,
   ⟨triAt fun e => { e with halted := true }, 0, 0, by decide +kernel⟩,
   ⟨State.reset, (.seq 0), by decide +kernel⟩⟩

/-- The hypotheses of clauses 8 to 13 of `Obligations.HaltsFollowR480` are met. -/
theorem witness_HaltsFollowR480_2 :
    (∃ (s : State) (u : CoreId), s.held = false ∧ s.openBoundary (coreNo u) = false) ∧
    (∃ (s : State) (u : CoreId), s.held = false ∧ (s.eng (coreNo u)).lockHolds = false) ∧
    (∃ (s : State) (u : CoreId) (cause : Nat), s.held = false ∧ (s.eng (coreNo u)).haltReq = some cause ∧ s.runsOn
      (coreNo u) = true ∧ NothingUnderWay s (coreNo u) ∧ s.openBoundary (coreNo u) = true) ∧
    (∃ (s : State) (u : CoreId) (cause : Nat), s.held = false ∧ (s.eng (coreNo u)).haltReq = some cause ∧ s.runsOn
      (coreNo u) = true ∧ NothingUnderWay s (coreNo u) ∧ (s.eng (coreNo u)).lockHolds = true ∧ (s.eng (coreNo u)).branch =
      none ∧ (s.eng (coreNo u)).coll = [] ∧ (∀ n, u = .seq n → (s.eng n).hold = false) ∧ (u = .triad → s.tri.level = 0 ∧
      s.tri.ie = true ∧ s.flag Rg.IC_CTRL_ENABLE = true)) ∧
    (∃ (s : State) (n : VE), (s.mayIssue n = false ∨ s.atBreakpoint n = false)) ∧
    (∃ (s : State) (n : VE), s.mayIssue n = true ∧ s.atBreakpoint n = true ∧ NothingUnderWay s n) :=
  ⟨⟨State.reset, .triad, by decide +kernel⟩,
   ⟨State.reset, (.seq 0), by decide +kernel⟩,
   ⟨seqAt fun e => { e with haltReq := some 1 }, (.seq 0), 1, by decide +kernel⟩,
   ⟨seqAt fun e => { e with haltReq := some 1, locked := true, llAge := some 3 }, (.seq 0), 1, by decide +kernel⟩,
   ⟨State.reset, 0, by decide +kernel⟩,
   ⟨devOn (seqAt id) [(Rg.DBG_CTRL_ATTACH 0, 1), (Rg.DBG_BP_EN 0 0, 1), (Rg.DBG_BP_ADDR 0 0, 64)], 0, by decide +kernel⟩⟩

/-- The hypotheses of the clauses of `Obligations.TestPortFollowsR477` are met. -/
theorem witness_TestPortFollowsR477 :
    (∃ (s : State), 5 ≤ s.trstMc) ∧
    (∃ (s : State), s.trstMc < 4) ∧
    (∃ (_ : State) (c : BitVec 8), c.toNat ∉ [0x01, 0x02, 0x03, 0x04, 0x05, 0x06, 0x07, 0x20]) ∧
    (∃ (_ : State) (c : BitVec 8), c.toNat ∈ [0x01, 0x02, 0x03, 0x04, 0x05, 0x06, 0x07, 0x20]) ∧
    (∃ (s : State) (_ : DbgReq), s.romGo = none ∧ s.lcForce = 3) ∧
    (∃ (s : State) (_ : DbgReq), s.romGo = none ∧ s.lcForce ≠ 3 ∧ s.held = true) ∧
    (∃ (s : State) (r : DbgReq), s.romGo = none ∧ s.lcForce = 2 ∧ s.held = false ∧ r.up = none ∧ (r.write = true ∨
      r.effect = true)) ∧
    (∃ (s : State) (r : DbgReq) (c : Nat) (t : State), s.romGo = none ∧ s.lcForce ≠ 2 ∧ s.lcForce ≠ 3 ∧ s.held = false ∧
      r.up = none ∧ r.write = true ∧ s.dbgStart.busPut 2 r.addr.toNat (leBytes (if r.size8 then 8 else 4) r.data.toNat) =
      (c, t) ∧ t.romGo = none) ∧
    (∃ (s : State) (r : DbgReq) (bs : List Byte) (t : State), s.romGo = none ∧ (s.lcForce ≠ 2 ∨ r.effect = false) ∧
      s.lcForce ≠ 3 ∧ s.held = false ∧ r.up = none ∧ r.write = false ∧ s.dbgStart.busGet 2 r.addr.toNat (if r.size8 then 8
      else 4) (!r.effect) = (.ok bs, t) ∧ t.romGo = none) :=
  ⟨⟨State.reset, by decide +kernel⟩,
   ⟨{ State.reset with trstMc := 1 }, by decide +kernel⟩,
   ⟨State.reset, 0, by decide +kernel⟩,
   ⟨State.reset, 0x20, by decide +kernel⟩,
   ⟨{ State.reset with romGo := none, lcForce := 3 }, ⟨0x100000010, true, false, false, 7, none⟩, by decide +kernel⟩,
   ⟨{ State.reset with romGo := none, held := true }, ⟨0x100000010, true, false, false, 7, none⟩, by decide +kernel⟩,
   ⟨{ State.reset with romGo := none, lcForce := 2, held := false }, ⟨0x100000010, true, false, false, 7, none⟩,
     by decide +kernel⟩,
   ⟨{ State.reset with romGo := none, held := false }, ⟨0x100000010, true, false, false, 7, none⟩, 0,
     (State.reset.dbgStart.busPut 2 0x100000010 (leBytes 4 7)).2, by decide +kernel⟩,
   ⟨{ State.reset with romGo := none, held := false }, ⟨0x100000010, false, false, false, 7, none⟩, [0, 0, 0, 0],
     (State.reset.dbgStart.busGet 2 0x100000010 4 true).2, by decide +kernel, by decide +kernel, by decide +kernel,
     by decide +kernel, by decide +kernel, by decide +kernel, rfl, by decide +kernel⟩⟩

end Sys2Proof.Tests
end

section
/-! The register layer of the model (R4, R7, R11): what the access codes make of a write and of a read, and what the device
holds right after reset. -/

namespace Sys2Proof.Machine

/-! ### Writes by access code (R7) -/

/-- Clearing one bit of a number that has it leaves exactly its other bits. -/
theorem testBit_sub_two_pow {b i : Nat} (h : b.testBit i = true) (k : Nat) :
    (b - 2 ^ i).testBit k = (b.testBit k && k != i) := by
  induction i generalizing b k with
  | zero =>
    have hb : b % 2 = 1 := by simpa [Nat.testBit_zero] using h
    cases k with
    | zero => have : (b - 1) % 2 = 0 := by omega
              simp [Nat.testBit_zero, this]
    | succ k => have : (b - 1) / 2 = b / 2 := by omega
                simp [Nat.testBit_add_one, this]
  | succ i ih =>
    have hb : 2 ^ (i + 1) ≤ b := Nat.ge_two_pow_of_testBit h
    rw [Nat.pow_succ] at hb ⊢
    cases k with
    | zero => have : (b - 2 ^ i * 2) % 2 = b % 2 := by omega
              simp [Nat.testBit_zero, this]
    | succ k => have : (b - 2 ^ i * 2) / 2 = b / 2 - 2 ^ i := by omega
                rw [Nat.testBit_add_one, this, ih (Nat.testBit_add_one b i ▸ h), Nat.testBit_add_one]
                simp

/-- The fold of a W1C write over the lowest `n` bits clears those of them where 1 is written. -/
theorem testBit_w1cFold (x b n k : Nat) :
    ((List.range n).foldl (fun b i => if x.testBit i && b.testBit i then b - 2 ^ i else b) b).testBit k =
      (b.testBit k && !(decide (k < n) && x.testBit k)) := by
  induction n generalizing k with
  | zero => simp
  | succ n ih =>
    rw [List.range_succ, List.foldl_append, List.foldl_cons, List.foldl_nil]
    split
    next h =>
      rw [testBit_sub_two_pow (Bool.and_eq_true_iff.mp h).2, ih]
      by_cases e : k = n <;> grind
    next h =>
      rw [ih] at h ⊢
      by_cases e : k = n <;> grind

theorem State.get_writeFld_rw (s : State) (f : Fld) (v : Nat) :
    (s.writeFld v (f, .rw)).get f = v / 2 ^ f.lo % 2 ^ f.w := State.get_set_self ..

theorem State.get_writeFld_wo (s : State) (f : Fld) (v : Nat) :
    (s.writeFld v (f, .wo)).get f = v / 2 ^ f.lo % 2 ^ f.w := State.get_set_self ..

theorem State.testBit_get_writeFld_w1c (s : State) (f : Fld) (v : Nat) {i : Nat} (hi : i < f.w) :
    ((s.writeFld v (f, .w1c)).get f).testBit i = ((s.get f).testBit i && !v.testBit (f.lo + i)) := by
  have h : ((s.writeFld v (f, .w1c)).get f) = _ % 2 ^ f.w := State.get_set_self ..
  rw [h, Nat.testBit_mod_two_pow, testBit_w1cFold, Nat.testBit_div_two_pow]
  simp [hi, Nat.add_comm]

theorem State.testBit_get_writeFld_w1s (s : State) (f : Fld) (v : Nat) {i : Nat} (hi : i < f.w) :
    ((s.writeFld v (f, .w1s)).get f).testBit i = ((s.get f).testBit i || v.testBit (f.lo + i)) := by
  have h : ((s.writeFld v (f, .w1s)).get f) = ((s.get f) ||| (v / 2 ^ f.lo % 2 ^ f.w)) % 2 ^ f.w := State.get_set_self ..
  rw [h]
  simp [Nat.testBit_mod_two_pow, Nat.testBit_div_two_pow, hi, Nat.add_comm]

/-- The write of a field changes no other register field and nothing but register fields. -/
theorem State.onlyFields_set (s : State) (f : Fld) (v : Nat) : OnlyFields [f] s (s.set f v) :=
  ⟨rfl, fun g hg => State.get_set_ne s f g v (by simpa using hg)⟩

theorem State.onlyFields_writeFld (s : State) (f : Fld) (v : Nat) (a : Acc) : OnlyFields [f] s (s.writeFld v (f, a)) := by
  cases a with
  | ro | rc => exact ⟨rfl, fun _ _ => rfl⟩
  | rw | wo | w1c | w1s => exact State.onlyFields_set ..

/-! ### Reads by access code (R7) -/

/-- The value that fields show is built up field by field. -/
theorem State.fldsNat_foldl (s : State) (fs : List (Fld × Acc)) (x : Nat) :
    fs.foldl (fun x p => if p.2 = .wo then x else x + s.get p.1 * 2 ^ p.1.lo) x = x + s.fldsNat fs := by
  unfold State.fldsNat
  induction fs generalizing x with
  | nil => rfl
  | cons p fs ih =>
    rw [List.foldl_cons, List.foldl_cons, ih, ih (if p.2 = .wo then 0 else _)]
    split <;> omega

theorem State.fldsNat_cons (s : State) (f : Fld) (a : Acc) (fs : List (Fld × Acc)) :
    s.fldsNat ((f, a) :: fs) = (if a = .wo then 0 else s.get f * 2 ^ f.lo) + s.fldsNat fs := by
  rw [← State.fldsNat_foldl]
  simp [State.fldsNat]

/-- What a read makes of the RC fields of a list of fields. -/
def State.resetRc (s : State) (fs : List (Fld × Acc)) : State :=
  fs.foldl (fun s p => if p.2 = .rc then s.resetFld p.1 else s) s

theorem State.resetRc_cons (s : State) (p : Fld × Acc) (fs : List (Fld × Acc)) :
    s.resetRc (p :: fs) = (if p.2 = .rc then s.resetFld p.1 else s).resetRc fs := rfl

/-- Resetting RC fields changes nothing but register fields. -/
theorem State.resetRc_frame (s : State) (fs : List (Fld × Acc)) : s.resetRc fs = { s with regs := (s.resetRc fs).regs } := by
  induction fs generalizing s with
  | nil => rfl
  | cons p fs ih =>
    rw [State.resetRc_cons, ih]
    split <;> rfl

/-- A field of another place than every RC field of the list reads as before. -/
theorem State.get_resetRc_other (s : State) (fs : List (Fld × Acc)) (g : Fld)
    (h : g.key ∉ (fs.filter (fun p => p.2 = .rc)).map (·.1.key)) : (s.resetRc fs).get g = s.get g := by
  induction fs generalizing s with
  | nil => rfl
  | cons p fs ih =>
    rw [State.resetRc_cons]
    by_cases hp : p.2 = .rc
    · simp [hp] at h
      rw [ih _ (by simpa using h.2), if_pos hp, State.resetFld_eq, State.get_set_ne _ _ _ _ h.1]
    · simp [hp] at h
      rw [ih _ (by simpa using h), if_neg hp]

/-- Of fields in places of their own, each RC field takes its reset value. -/
theorem State.get_resetRc_rc (s : State) (fs : List (Fld × Acc)) (hd : (fs.map (fun p => p.1.key)).Nodup)
    (hr : ∀ p ∈ fs, p.1.rst < 2 ^ p.1.w) (f : Fld) (hf : (f, Acc.rc) ∈ fs) : (s.resetRc fs).get f = f.rst := by
  induction fs generalizing s with
  | nil => cases hf
  | cons p fs ih =>
    obtain ⟨hp, hd⟩ := List.nodup_cons.mp hd
    rw [State.resetRc_cons]
    rcases List.mem_cons.mp hf with rfl | hf
    · rw [State.get_resetRc_other _ _ _ fun h => hp (by
        obtain ⟨q, hq, e⟩ := List.mem_map.mp h
        exact List.mem_map.mpr ⟨q, (List.mem_filter.mp hq).1, e⟩)]
      simp [Nat.mod_eq_of_lt (hr _ List.mem_cons_self)]
    · exact ih _ hd (fun q hq => hr q (List.mem_cons_of_mem _ hq)) hf

/-- A read of a register other than the VALUE and RESULT rows of a CRC unit resets its RC fields, and uses up a free value where
it shows how far a rotation has come. -/
theorem State.readEffect_of_not_crc (s : State) (r : RegRef)
    (h : r.row.base < (Rg.CRC_VALUE_LO 0).addr ∨ (Rg.CRC_RESULT_HI 0).addr < r.row.base) :
    s.readEffect r =
      if r.row.base = Rg.ST_ROT_STATUS_SRC_PHYS.addr ∧ (s.resetRc (r.row.flds r.n r.k)).rotCopying
      then ((s.resetRc (r.row.flds r.n r.k)).fresh 4096).2 else s.resetRc (r.row.flds r.n r.k) := by
  have hc : ¬ ((Rg.CRC_VALUE_LO 0).addr ≤ r.row.base ∧ r.row.base ≤ (Rg.CRC_RESULT_HI 0).addr) := by omega
  unfold State.readEffect
  simp only [if_neg hc]
  rfl

/-- What the fields read as after a read is what the reset of its RC fields makes of them. -/
theorem State.get_readEffect (s : State) (r : RegRef)
    (h : r.row.base < (Rg.CRC_VALUE_LO 0).addr ∨ (Rg.CRC_RESULT_HI 0).addr < r.row.base) (g : Fld) :
    (s.readEffect r).get g = (s.resetRc (r.row.flds r.n r.k)).get g := by
  rw [State.readEffect_of_not_crc s r h]
  split
  · exact State.fresh_get ..
  · rfl

/-- A read changes nothing but register fields, and uses up no free value, at any row but `ST_ROT_STATUS`. -/
theorem State.readEffect_frame (s : State) (r : RegRef)
    (h : r.row.base < (Rg.CRC_VALUE_LO 0).addr ∨ (Rg.CRC_RESULT_HI 0).addr < r.row.base)
    (hrot : r.row.base ≠ Rg.ST_ROT_STATUS_SRC_PHYS.addr) : s.readEffect r = { s with regs := (s.readEffect r).regs } := by
  rw [State.readEffect_of_not_crc s r h, if_neg (fun c => hrot c.1)]
  exact State.resetRc_frame ..

/-- A read through the peek alias changes nothing (R479). -/
theorem State.regRead_peek (s : State) (r : RegRef) (n : Nat) : (s.regRead r n true).2 = s := by
  unfold State.regRead
  split
  · rfl
  · split
    · rfl
    · split
      · split <;> rfl
      · rfl

/-- Settles O8: each access code by its own row of R7, the effect of a read by the reset of the RC fields in turn. -/
theorem accessCodesFollowR7 : Obligations.AccessCodesFollowR7 := by
  unfold Obligations.AccessCodesFollowR7
  refine ⟨fun s f v _ => ?write, State.fldsNat_cons, fun s r hcrc hkeys hrst => ?read⟩
  case write =>
    exact ⟨s.get_writeFld_rw f v, s.get_writeFld_wo f v, fun _ hi => s.testBit_get_writeFld_w1c f v hi,
      fun _ hi => s.testBit_get_writeFld_w1s f v hi, rfl, rfl, s.onlyFields_writeFld f v⟩
  case read =>
    refine ⟨fun f hf => ?_, s.readEffect_frame r hcrc, fun g hg => ?_, s.regRead_peek r⟩
    · rw [s.get_readEffect r hcrc, s.get_resetRc_rc _ hkeys hrst f hf]
    · rw [s.get_readEffect r hcrc, s.get_resetRc_other _ g hg]

/-! ### Right after reset (R11, R297) -/

/-- The scalar registers of an engine read as 0 right after reset. -/
theorem sreg_reset (n : VE) (r : Nat) : (State.reset.eng n).sreg r = 0 := by
  have hn : State.reset.eng n = {} := by
    have : 68 ≠ n.val := by omega
    simp [State.eng, State.reset, Tab.get, this]
  simp [hn, Engine.sreg]

/-- Settles O2: the state after reset lists nothing but the seven roots of the Triad. -/
theorem resetHoldsResetValues : Obligations.ResetHoldsResetValues := by
  unfold Obligations.ResetHoldsResetValues
  exact ⟨rfl, fun _ => rfl, by decide, Memory.wf_reset, fun _ => rfl, fun _ => rfl, fun _ => rfl, by decide, by decide,
    sreg_reset⟩

end Sys2Proof.Machine
end

section
/-! The queue of commands. No register access touches the commands that wait: every operation that the write or the read
of a register can set off leaves `State.pending` as it is. One lemma for each such operation, in the order of the model. -/

namespace Sys2Proof.Machine

/-! ### Results that hold a state -/

/-- The state that a register write leaves, whether the register took the value or refused it. -/
def WRes.state : WRes → State
  | .ok s => s
  | .refused s => s

@[simp] theorem WRes.state_ok (s : State) : (WRes.ok s).state = s := rfl
@[simp] theorem WRes.state_refused (s : State) : (WRes.refused s).state = s := rfl

@[simp] theorem State.pending_ite (c : Prop) {_ : Decidable c} (s t : State) :
    (if c then s else t).pending = if c then s.pending else t.pending := apply_ite ..

@[simp] theorem WRes.state_ite (c : Prop) {_ : Decidable c} (s t : WRes) :
    (if c then s else t).state = if c then s.state else t.state := apply_ite ..

@[simp] theorem Run.s_ite (c : Prop) {_ : Decidable c} (r q : Run) :
    (if c then r else q).s = if c then r.s else q.s := apply_ite ..

theorem pending_of_eq {α : Type} {p : α × State} {a : α} {t : State} (h : p = (a, t)) : t.pending = p.2.pending := by
  rw [h]

theorem pending_of_eq₂ {α β : Type} {p : α × β × State} {a : α} {b : β} {t : State} (h : p = (a, b, t)) :
    t.pending = p.2.2.pending := by
  rw [h]

theorem pending_of_run {α : Type} {p : α × Run} {a : α} {q : Run} (h : p = (a, q)) : q.s.pending = p.2.s.pending := by
  rw [h]

theorem pending_of_ok {w : WRes} {t : State} (h : w = .ok t) : t.pending = w.state.pending := by
  rw [h, WRes.state_ok]

theorem pending_of_refused {w : WRes} {t : State} (h : w = .refused t) : t.pending = w.state.pending := by
  rw [h, WRes.state_refused]

/-- What no step of a fold changes, the fold does not change. -/
theorem foldl_keeps {α β γ : Type} {g : β → γ} {f : β → α → β} (h : ∀ b a, g (f b a) = g b) (b : β) (l : List α) :
    g (l.foldl f b) = g b := by
  induction l generalizing b with
  | nil => rfl
  | cons a l ih => exact (ih _).trans (h b a)

theorem foldl_pending {α : Type} {f : State → α → State} (h : ∀ s a, (f s a).pending = s.pending)
    (s : State) (l : List α) : (l.foldl f s).pending = s.pending :=
  foldl_keeps h s l

variable (s : State) (r : Run)

/-! ### Fields and store bytes -/

@[simp] theorem State.set2_pending (lo hi : Fld) (v : Nat) : (s.set2 lo hi v).pending = s.pending := rfl
@[simp] theorem State.applyStaged_pending (e : Staged) : (s.applyStaged e).pending = s.pending := rfl
@[simp] theorem State.stage_pending (f : Fld) (v : Nat) : (s.stage f v).pending = s.pending := by simp [State.stage]

@[simp] theorem State.stPuts_pending (a : Nat) (l : List Byte) : (s.stPuts a l).pending = s.pending := by
  induction l generalizing s a with
  | nil => rfl
  | cons a l ih => simp [State.stPuts, ih]

/-! ### Strikes, spares and rotation -/

@[simp] theorem State.rotBegin_pending (log : Nat) : (s.rotBegin log).pending = s.pending := rfl
@[simp] theorem State.mbistAbort_pending : s.mbistAbort.pending = s.pending := rfl
@[simp] theorem State.marchNext_pending : s.marchNext.pending = s.pending := by simp [State.marchNext]

@[simp] theorem State.rotService_pending : s.rotService.pending = s.pending := by
  simp only [State.rotService]
  repeat' split
  all_goals simp

@[simp] theorem State.rotRequest_pending (target : Option Nat) : (s.rotRequest target).pending = s.pending := by
  simp [State.rotRequest]

@[simp] theorem State.trackBank_pending (log : Nat) : (s.trackBank log).pending = s.pending := by
  simp only [State.trackBank]
  repeat' split
  all_goals simp

@[simp] theorem State.strike_pending (cls unit : Nat) (immediate : Bool) :
    (s.strike cls unit immediate).2.pending = s.pending := by
  simp [State.strike, apply_ite Prod.snd]

@[simp] theorem State.strikeBank_pending (log : Nat) (immediate : Bool) :
    (s.strikeBank log immediate).pending = s.pending := by
  unfold State.strikeBank
  split <;> (rename_i h; simp [pending_of_eq h])

@[simp] theorem State.setVeState_pending (ve st : Nat) : (s.setVeState ve st).pending = s.pending := rfl

@[simp] theorem State.migRequest_pending (slot : Nat) (target : Option Nat) (why : MigWhy) :
    (s.migRequest slot target why).pending = s.pending := by
  simp [State.migRequest]

@[simp] theorem State.permEngine_pending (ve : Nat) : (s.permEngine ve).pending = s.pending := by
  simp only [State.permEngine]
  repeat' split
  all_goals simp

@[simp] theorem State.strikeEngine_pending (ve : Nat) (immediate : Bool) :
    (s.strikeEngine ve immediate).pending = s.pending := by
  unfold State.strikeEngine
  split <;> (rename_i h; simp [pending_of_eq h])

@[simp] theorem State.bucketAdd_pending (b : Nat) : (s.bucketAdd b).2.pending = s.pending := by
  simp [State.bucketAdd, apply_ite Prod.snd]

@[simp] theorem State.ceEngine_pending (ve : Nat) : (s.ceEngine ve).pending = s.pending := by
  unfold State.ceEngine
  split <;> (rename_i h; simp [pending_of_eq h])

@[simp] theorem State.ceStore_pending (w : Nat) : (s.ceStore w).pending = s.pending := by
  simp only [State.ceStore]
  split <;> (rename_i h; simp [pending_of_eq h])

@[simp] theorem State.cePlain_pending (b : Nat) : (s.cePlain b).pending = s.pending := by simp [State.cePlain]

/-! ### The store -/

@[simp] theorem State.decodeHalf_pending (h src : Nat) : (s.decodeHalf h src).2.pending = s.pending := by
  unfold State.decodeHalf
  split <;> simp

@[simp] theorem State.decodeHalves_pending (src : Nat) (l : List Nat) : (s.decodeHalves src l).2.pending = s.pending := by
  induction l generalizing s with
  | nil => rfl
  | cons a l ih =>
    simp only [State.decodeHalves]
    split <;> (rename_i h; simp [ih, pending_of_eq h])

@[simp] theorem State.stRead_pending (a n src : Nat) : (s.stRead a n src).2.pending = s.pending := by
  unfold State.stRead
  split <;> (rename_i h; simp [pending_of_eq h])

@[simp] theorem State.clearErr_pending (h : Nat) : (s.clearErr h).pending = s.pending := rfl

@[simp] theorem State.breakResv_pending (word : Nat) (writer : Option Nat) :
    (s.breakResv word writer).pending = s.pending :=
  rfl

@[simp] theorem State.stPutAll_pending (l : List (Nat × Byte)) : (s.stPutAll l).pending = s.pending := by
  induction l generalizing s with
  | nil => rfl
  | cons a l ih => simp [State.stPutAll, ih]

@[simp] theorem State.mirror_pending (w : Nat) (hs : List Nat) : (s.mirror w hs).pending = s.pending := by
  unfold State.mirror
  split <;> simp

@[simp] theorem State.putWord_pending (w : Nat) (ps : List (Nat × Byte)) (writer : Option Nat) :
    (s.putWord w ps writer).pending = s.pending := by
  simp [State.putWord, foldl_pending State.clearErr_pending]

@[simp] theorem State.wordWrite_pending (w : Nat) (ps : List (Nat × Byte)) (src : Nat) (writer : Option Nat) :
    (s.wordWrite w ps src writer).2.pending = s.pending := by
  unfold State.wordWrite
  split <;> (rename_i h; simp [pending_of_eq h])

@[simp] theorem State.writeWords_pending (ps : List (Nat × Byte)) (src : Nat) (writer : Option Nat) (l : List Nat) :
    (s.writeWords ps src writer l).2.pending = s.pending := by
  induction l generalizing s with
  | nil => rfl
  | cons a l ih =>
    simp only [State.writeWords]
    split <;> (rename_i h; simp [ih, pending_of_eq h])

@[simp] theorem State.stWrite_pending (a : Nat) (bs : List Byte) (src : Nat) (writer : Option Nat) :
    (s.stWrite a bs src writer).2.pending = s.pending := by
  simp [State.stWrite]

@[simp] theorem State.devWrite_pending (a : Nat) (bs : List Byte) (src : Nat) :
    (s.devWrite a bs src).pending = s.pending := by
  simp [State.devWrite]

@[simp] theorem State.devWrite64_pending (a v src : Nat) : (s.devWrite64 a v src).pending = s.pending := by
  simp [State.devWrite64]

@[simp] theorem State.combineEls_pending (o : Comb) (t : ElemTy) (l : List (Nat × Int)) :
    (s.combineEls o t l).2.pending = s.pending := by
  induction l generalizing s with
  | nil => rfl
  | cons a l ih => simp [State.combineEls, ih]

@[simp] theorem State.wordCombine_pending (w : Nat) (o : Comb) (t : ElemTy) (es : List (Nat × Int)) (src : Nat) :
    (s.wordCombine w o t es src).2.2.pending = s.pending := by
  simp only [State.wordCombine]
  split <;> (rename_i h; simp [pending_of_eq h, foldl_pending State.clearErr_pending])

@[simp] theorem State.dropResvOf_pending (seq : Nat) : (s.dropResvOf seq).pending = s.pending := rfl

@[simp] theorem State.poisonHalf_pending (h : Nat) : (s.poisonHalf h).pending = s.pending := by
  simp only [State.poisonHalf]
  repeat' split
  all_goals simp

@[simp] theorem State.rotAbandon_pending : s.rotAbandon.pending = s.pending := by
  unfold State.rotAbandon
  split <;> simp

/-! ### Queues -/

@[simp] theorem State.setQ_pending (n : Nat) (q : QState) : (s.setQ n q).pending = s.pending := rfl

@[simp] theorem State.qUse_pending (n : Nat) : (s.qUse n).pending = s.pending := by
  unfold State.qUse
  split <;> simp

@[simp] theorem State.qEvent_pending (n : Nat) (f : Fld) : (s.qEvent n f).pending = s.pending := by
  simp only [State.qEvent]
  repeat' split
  all_goals simp

@[simp] theorem State.qMark_pending (n before : Nat) : (s.qMark n before).pending = s.pending := by simp [State.qMark]
@[simp] theorem State.qDrop_pending (n : Nat) : (s.qDrop n).pending = s.pending := by simp [State.qDrop]
@[simp] theorem State.qTorn_pending (n : Nat) : (s.qTorn n).pending = s.pending := by simp [State.qTorn]
@[simp] theorem State.qSettle_pending (n : Nat) : (s.qSettle n).pending = s.pending := rfl

@[simp] theorem State.qRelease_pending (n : Nat) : (s.qRelease n).pending = s.pending := by
  simp only [State.qRelease]
  split <;> simp

@[simp] theorem State.qWriteWords_pending (n : Nat) (c : Nat) (l : List Nat) :
    (s.qWriteWords n c l).pending = s.pending := by
  induction l generalizing s c with
  | nil => rfl
  | cons a l ih => simp [State.qWriteWords, ih]

@[simp] theorem State.qAllocate_pending (n len : Nat) (src : QSrc) (committed : Bool) :
    (s.qAllocate n len src committed).pending = s.pending := by
  simp [State.qAllocate]

@[simp] theorem State.qPush_pending (n : Nat) (src : QSrc) (words : List Nat) :
    (s.qPush n src words).2.pending = s.pending := by
  simp [State.qPush, apply_ite Prod.snd]

@[simp] theorem State.qPushLen_pending (n m len : Nat) : (s.qPushLen n m len).state.pending = s.pending := by
  simp [State.qPushLen]

@[simp] theorem State.qPushData_pending (n m v : Nat) : (s.qPushData n m v).state.pending = s.pending := by
  simp only [State.qPushData]
  split <;> simp

@[simp] theorem State.qPop_pending (n : Nat) : (s.qPop n).state.pending = s.pending := by
  simp only [State.qPop]
  split <;> simp

@[simp] theorem State.qFlush_pending (n : Nat) : (s.qFlush n).pending = s.pending := by simp [State.qFlush]
@[simp] theorem State.qZero_pending (n : Nat) : (s.qZero n).pending = s.pending := rfl
@[simp] theorem State.qCfg_pending (n v : Nat) : (s.qCfg n v).state.pending = s.pending := by simp [State.qCfg]
@[simp] theorem State.qBase_pending (n v : Nat) : (s.qBase n v).state.pending = s.pending := by simp [State.qBase]

@[simp] theorem State.qCmd_pending (n v : Nat) : (s.qCmd n v).state.pending = s.pending := by
  simp only [State.qCmd]
  split
  · split
    next h => simp [pending_of_ok h]
    next h => simp [pending_of_refused h]
  · simp

@[simp] theorem State.qPopHdr_pending (n : Nat) : (s.qPopHdr n).2.pending = s.pending := by
  simp only [State.qPopHdr]
  split
  · simp
  · split <;> (rename_i h; simp [pending_of_eq h])

/-! ### Ingress of frames -/

@[simp] theorem State.setHdr_pending (buf off v : Nat) : (s.setHdr buf off v).pending = s.pending := by simp [State.setHdr]

@[simp] theorem State.addHdr_pending (buf off lo w n : Nat) : (s.addHdr buf off lo w n).pending = s.pending := by
  simp [State.addHdr]

@[simp] theorem State.orHdr_pending (buf off bit : Nat) : (s.orHdr buf off bit).pending = s.pending := by simp [State.orHdr]
@[simp] theorem State.hitLoss_pending (buf : Nat) : (s.hitLoss buf).pending = s.pending := by simp [State.hitLoss]
@[simp] theorem State.errLane_pending (lane : Nat) : (s.errLane lane).pending = s.pending := rfl

@[simp] theorem State.fileHit_pending (buf lane hit : Nat) : (s.fileHit buf lane hit).pending = s.pending := by
  simp [State.fileHit]

@[simp] theorem State.fileHits_pending (buf lane : Nat) (l : List Nat) : (s.fileHits buf lane l).pending = s.pending := by
  induction l generalizing s with
  | nil => rfl
  | cons a l ih => simp [State.fileHits, ih]

@[simp] theorem State.frameLost_pending (f : SFrame) (buf n : Nat) : (s.frameLost f buf n).pending = s.pending := by
  simp [State.frameLost]

@[simp] theorem State.frameFmtErr_pending (f : SFrame) (buf n : Nat) : (s.frameFmtErr f buf n).pending = s.pending := by
  simp [State.frameFmtErr]

@[simp] theorem State.seqCheck_pending (f : SFrame) : (s.seqCheck f).pending = s.pending := by simp [State.seqCheck]

@[simp] theorem State.routeHits_pending (f : SFrame) : (s.routeHits f).pending = s.pending := by
  simp only [State.routeHits]
  repeat' split
  all_goals simp

@[simp] theorem State.routeOther_pending (f : SFrame) : (s.routeOther f).pending = s.pending := by
  unfold State.routeOther
  split <;> (rename_i h; simp [pending_of_eq h])

@[simp] theorem State.routeFrame_pending (f : SFrame) : (s.routeFrame f).pending = s.pending := by simp [State.routeFrame]
@[simp] theorem State.irCtrl_pending (v : Nat) : (s.irCtrl v).state.pending = s.pending := by simp [State.irCtrl]

@[simp] theorem State.irPmap_pending (j v : Nat) : (s.irPmap j v).pending = s.pending := by
  refine foldl_pending (fun s k => ?_) ..
  simp

@[simp] theorem State.irWeight_pending (i v : Nat) : (s.irWeight i v).pending = s.pending := by simp [State.irWeight]
@[simp] theorem State.irBufCfg_pending (v : Nat) : (s.irBufCfg v).state.pending = s.pending := by simp [State.irBufCfg]

/-! ### Local memories and the vault -/

@[simp] theorem State.holdLo_pending (m a v : Nat) : (s.holdLo m a v).pending = s.pending := rfl

@[simp] theorem State.lmDecode_pending (l : List Nat) : (s.lmDecode l).2.pending = s.pending := by
  induction l generalizing s with
  | nil => rfl
  | cons a l ih =>
    unfold State.lmDecode
    split <;> simp [ih]

@[simp] theorem State.lmRead_pending (a n : Nat) : (s.lmRead a n).2.pending = s.pending := by
  unfold State.lmRead
  split <;> (rename_i h; simp [pending_of_eq h])

@[simp] theorem State.vaultWipe_pending : s.vaultWipe.pending = s.pending := rfl
@[simp] theorem State.vaultWipeCounted_pending : s.vaultWipeCounted.pending = s.pending := rfl

@[simp] theorem State.loadCap_pending (off : Nat) : (s.loadCap off).2.pending = s.pending := by
  unfold State.loadCap
  split <;> (rename_i h; simp [pending_of_eq h])

/-! ### An engine's registers -/

@[simp] theorem State.modEng_pending (n : Nat) (f : Engine → Engine) : (s.modEng n f).pending = s.pending := rfl
@[simp] theorem State.setS_pending (n r : Nat) (v : Word) : (s.setS n r v).pending = s.pending := rfl

@[simp] theorem State.ecBump_pending (n k c : Nat) : (s.ecBump n k c).pending = s.pending := by
  rw [State.ecBump, State.pending_ite, State.raise_eq, State.set_pending, ite_self, State.set2_pending]

@[simp] theorem State.ecAdd_pending (n code c : Nat) : (s.ecAdd n code c).pending = s.pending := by
  rw [State.ecAdd]
  split
  · rfl
  · generalize List.filter _ _ = l
    induction l generalizing s with
    | nil => rfl
    | cons k l ih => rw [List.foldl_cons, ih, State.ecBump_pending]

@[simp] theorem State.engDecode_pending (n k : Nat) : (s.engDecode n k).2.pending = s.pending := by
  unfold State.engDecode
  split <;> simp

@[simp] theorem State.maskDecode_pending (n m i : Nat) : (s.maskDecode n m i).2.pending = s.pending := by
  unfold State.maskDecode
  split <;> simp

/-! ### Vector accords -/

@[simp] theorem State.chooseBytes_pending (x : Exec) (l : List (Nat × Byte)) :
    (s.chooseBytes x l).2.pending = s.pending := by
  induction l generalizing s with
  | nil => rfl
  | cons a l ih =>
    rw [State.chooseBytes]
    dsimp only
    rw [ih]
    split <;> rfl

@[simp] theorem Run.failAt_pending (cause k elem : Nat) : (r.failAt cause k elem).s.pending = r.s.pending := rfl
@[simp] theorem Run.fail_pending (cause k : Nat) : (r.fail cause k).s.pending = r.s.pending := rfl

@[simp] theorem Run.readHalf_pending (n pipe h : Nat) : (r.readHalf n pipe h).2.s.pending = r.s.pending := by
  simp only [Run.readHalf]
  split
  · rfl
  · split <;> (rename_i h; simp [pending_of_eq h])

@[simp] theorem Run.load_pending (n k pipe a size : Nat) (gather : Bool) :
    (r.load n k pipe a size gather).s.pending = r.s.pending := by
  unfold Run.load
  split <;> (rename_i h; simp [pending_of_run h])
  split <;> simp [pending_of_run h]

@[simp] theorem Run.loadQueue_pending (k pipe i size : Nat) (on : Bool) :
    (r.loadQueue k pipe i size on).s.pending = r.s.pending := by
  simp only [Run.loadQueue]
  repeat' split
  all_goals simp

@[simp] theorem Run.miss_pending (n k elem idx : Nat) (f : VFields) : (r.miss n k elem idx f).s.pending = r.s.pending := by
  simp [Run.miss]

@[simp] theorem Run.putStrided_pending (i a : Nat) (bs : List Byte) : (r.putStrided i a bs).s.pending = r.s.pending := rfl

@[simp] theorem State.tearLast_pending (q : Nat) : (s.tearLast q).pending = s.pending := by
  unfold State.tearLast
  split <;> simp

@[simp] theorem State.qPushTorn_pending (n q : Nat) (words : List Nat) : (s.qPushTorn n q words).pending = s.pending := by
  simp [State.qPushTorn]

@[simp] theorem Run.putItem_pending (n q : Nat) (elems : Nat) : (r.putItem n q elems).s.pending = r.s.pending := by
  unfold Run.putItem
  dsimp only
  split
  · simp
  · split
    · simp
    · split <;> (rename_i h; simp [pending_of_eq h])

@[simp] theorem Run.putQueue_pending (n q size v : Nat) : (r.putQueue n q size v).s.pending = r.s.pending := by
  simp [Run.putQueue]

@[simp] theorem Run.putIndexed_pending (n k pos : Nat) (v : VInsn) (data idx : Nat) :
    (r.putIndexed n k pos v data idx).s.pending = r.s.pending := by
  simp only [Run.putIndexed]
  split <;> simp

@[simp] theorem Run.storeElem_pending (i : Nat) (v : VInsn) (comp : Bool) :
    (r.storeElem i v comp).2.s.pending = r.s.pending := by
  simp only [Run.storeElem]
  repeat' split
  all_goals simp

@[simp] theorem Run.store_pending (n k i : Nat) (v : VInsn) (comp : Bool) :
    (r.store n k i v comp).s.pending = r.s.pending := by
  unfold Run.store
  dsimp only
  split <;> (rename_i h; simp [pending_of_run h])

@[simp] theorem Run.outcome_pending (k : Nat) (f : VFields) (o : OpOut) : (r.outcome k f o).s.pending = r.s.pending := by
  simp [Run.outcome]

@[simp] theorem Run.putMask_pending (n k i : Nat) (v : VInsn) (b : Bool) :
    (r.putMask n k i v b).s.pending = r.s.pending := by
  simp [Run.putMask]

@[simp] theorem Run.putRed_pending (k i v : Nat) : (r.putRed k i v).s.pending = r.s.pending := rfl

@[simp] theorem Run.maskOp_pending (n k m i : Nat) : (r.maskOp n k m i).2.s.pending = r.s.pending := by
  unfold Run.maskOp
  split <;> (rename_i h; simp [pending_of_eq h])

@[simp] theorem Run.maskOps_pending (n k i : Nat) (f : VFields) : (r.maskOps n k i f).2.s.pending = r.s.pending := by
  unfold Run.maskOps
  split
  next h => simp [pending_of_run h]
  next h => split <;> (rename_i h'; simp [pending_of_run h', pending_of_run h])

@[simp] theorem Run.operate_pending (n k i : Nat) (v : VInsn) (a b c : Nat) :
    (r.operate n k i v a b c).s.pending = r.s.pending := by
  unfold Run.operate
  dsimp only
  split
  case h_1 | h_2 | h_3 | h_4 | h_5 | h_6 | h_8 | h_9 => split <;> (rename_i h; simp [pending_of_run h])
  case h_7 | h_10 | h_11 | h_12 | h_13 | h_14 | h_16 => simp
  case h_15 | h_18 => split <;> simp
  case h_17 => rfl

@[simp] theorem Run.insn_pending (n i : Nat) (comp : Bool) (v : VInsn) (k : Nat) :
    (r.insn n i comp v k).s.pending = r.s.pending := by
  unfold Run.insn
  dsimp only
  split
  · simp
  · split
    · simp
    · split
      case h_1 => simp
      case h_2 =>
        repeat' split
        all_goals simp
      case h_3 | h_4 => split <;> simp

@[simp] theorem Run.insns_pending (n i : Nat) (comp : Bool) (l : List VInsn) (c : Nat) :
    (r.insns n i comp l c).s.pending = r.s.pending := by
  induction l generalizing r c with
  | nil => rfl
  | cons a l ih => simp [Run.insns, ih]

@[simp] theorem Run.lost_pending (n k elem : Nat) : (r.lost n k elem).s.pending = r.s.pending := rfl

@[simp] theorem Run.sendWords_pending (n k : Nat) (ps : List PendByte) (l : List Nat) :
    (r.sendWords n k ps l).s.pending = r.s.pending := by
  induction l generalizing r with
  | nil => rfl
  | cons a l ih =>
    refine (ih _).trans ?_
    split <;> (rename_i h; simp [pending_of_eq h])

@[simp] theorem Run.sendBytes_pending (n k : Nat) (ps : List PendByte) : (r.sendBytes n k ps).s.pending = r.s.pending := by
  simp [Run.sendBytes]

@[simp] theorem Run.sendCombines_pending (n k : Nat) (c : Comb) (t : ElemTy) (es : List PendElem) (l : List Nat) :
    (r.sendCombines n k c t es l).s.pending = r.s.pending := by
  induction l generalizing r with
  | nil => rfl
  | cons a l ih =>
    refine (ih _).trans ?_
    split <;> (rename_i h; simp [pending_of_eq₂ h])

@[simp] theorem Run.sendGroup_pending (n : Nat) : (r.sendGroup n).s.pending = r.s.pending := by
  simp only [Run.sendGroup]
  repeat' split
  all_goals simp

@[simp] theorem Run.sendStrided_pending (n : Nat) : (r.sendStrided n).s.pending = r.s.pending := by
  unfold Run.sendStrided
  split <;> simp

@[simp] theorem Run.countReads_pending (n : Nat) : (r.countReads n).s.pending = r.s.pending := by simp [Run.countReads]
@[simp] theorem Run.endGroup_pending (n : Nat) : (r.endGroup n).s.pending = r.s.pending := by simp [Run.endGroup]
@[simp] theorem Run.elem_pending (n : Nat) : (r.elem n).s.pending = r.s.pending := by simp [Run.elem]

@[simp] theorem Run.elems_pending (n : Nat) (l : Nat) : (r.elems n l).s.pending = r.s.pending := by
  induction l generalizing r with
  | zero => rfl
  | succ k ih => simp [Run.elems, ih]

@[simp] theorem State.run_pending (x : Exec) : (s.run x).s.pending = s.pending := rfl

@[simp] theorem State.runCut_pending (n : Nat) (x : Exec) (look : Nat) : (s.runCut n x look).s.pending = s.pending := by
  unfold State.runCut
  dsimp only
  refine (foldl_pending (fun s m => ?_) ..).trans ?_
  · rfl
  · split
    · split <;> simp
    · simp

@[simp] theorem State.abandonAccord_pending (n : Nat) : (s.abandonAccord n).pending = s.pending := by
  rw [State.abandonAccord]
  split
  · rfl
  · dsimp only
    rw [State.modEng_eq, State.setEng_pending, State.runCut_pending, State.fresh_pending]

/-! ### Stopping an engine -/

@[simp] theorem State.sbIssue_pending (n : Nat) : (s.sbIssue n).pending = s.pending := by
  unfold State.sbIssue
  split
  · rfl
  · split <;> (rename_i h; simp [pending_of_eq h])

@[simp] theorem State.sbDrain_pending (n : Nat) : (s.sbDrain n).pending = s.pending :=
  foldl_pending (fun s _ => s.sbIssue_pending n) ..

@[simp] theorem State.stopEngine_pending (n : Nat) : (s.stopEngine n).pending = s.pending := by simp [State.stopEngine]

@[simp] theorem State.stopRunning_pending : s.stopRunning.pending = s.pending := by
  refine foldl_pending (fun s n => ?_) ..
  split <;> simp

/-! ### Slots, checkpoints and migration -/

@[simp] theorem State.ctxWrite_pending (n half words : Nat) : (s.ctxWrite n half words).pending = s.pending := by
  unfold State.ctxWrite
  dsimp only
  rw [foldl_pending fun s h => s.poisonHalf_pending _]
  dsimp only
  split
  · rfl
  · rw [foldl_pending fun s j => s.mirror_pending _ _]

@[simp] theorem State.ctxSend_pending (n : Nat) : (s.ctxSend n).pending = s.pending := by
  unfold State.ctxSend
  split
  · rfl
  · split
    · rfl
    · simp [foldl_pending fun s k => s.engDecode_pending n k]

@[simp] theorem State.trailer_pending (n : Nat) : (s.trailer n).pending = s.pending := by
  rw [State.trailer]
  dsimp only
  split
  · exact s.ctxSend_pending n
  · split
    · exact s.ctxSend_pending n
    · rw [State.set2_pending, State.devWrite_pending]
      exact s.ctxSend_pending n

@[simp] theorem State.chkRead_pending (n half : Nat) : (s.chkRead n half).pending = s.pending := by simp [State.chkRead]

@[simp] theorem State.loadCaps_pending (slot n : Nat) : (s.loadCaps slot n).pending = s.pending := by
  refine foldl_pending (fun s i => ?_) ..
  split <;> (rename_i h; simp [pending_of_eq h])

@[simp] theorem State.leaveFrame_pending (n : Nat) : (s.leaveFrame n).pending = s.pending := rfl
@[simp] theorem State.migResult_pending (slot r : Nat) : (s.migResult slot r).pending = s.pending := rfl
@[simp] theorem State.serveSlot_pending (slot n : Nat) : (s.serveSlot slot n).pending = s.pending := rfl
@[simp] theorem State.releaseSource_pending (c : Copy) : (s.releaseSource c).pending = s.pending := rfl
@[simp] theorem State.copyDone_pending (c : Copy) : (s.copyDone c).pending = s.pending := by simp [State.copyDone]
@[simp] theorem State.coldCount_pending : s.coldCount.pending = s.pending := rfl

@[simp] theorem State.coldStart_pending (slot target : Nat) : (s.coldStart slot target).pending = s.pending := by
  simp [State.coldStart]

@[simp] theorem State.restoreSlot_pending (slot target : Nat) (half : Option Nat) (sag : Bool) :
    (s.restoreSlot slot target half sag).pending = s.pending := by
  unfold State.restoreSlot
  split <;> simp

@[simp] theorem State.restoreNewer_pending (slot target : Nat) (sag : Bool) :
    (s.restoreNewer slot target sag).pending = s.pending := by
  simp [State.restoreNewer]

@[simp] theorem State.restoreDone_pending (r : Restore) : (s.restoreDone r).pending = s.pending := by
  simp [State.restoreDone]

@[simp] theorem State.migPending_pending : s.migPending.pending = s.pending := rfl

@[simp] theorem State.lbistAbort_pending : s.lbistAbort.pending = s.pending := by
  unfold State.lbistAbort
  split <;> simp

@[simp] theorem State.leaveMap_pending (slot n : Nat) (why : MigWhy) : (s.leaveMap slot n why).pending = s.pending := rfl

@[simp] theorem State.heldSource_pending (r : MigReq) : (s.heldSource r).pending = s.pending := by
  unfold State.heldSource
  split <;> simp

@[simp] theorem State.serveMig_pending (r : MigReq) : (s.serveMig r).pending = s.pending := by
  simp only [State.serveMig]
  split <;> simp

@[simp] theorem State.serveMigs_pending : s.serveMigs.pending = s.pending := by
  simp [State.serveMigs, foldl_pending State.serveMig_pending]

@[simp] theorem State.copyAbandon_pending (slot : Nat) (byTarget : Bool) (sent : Nat) :
    (s.copyAbandon slot byTarget sent).pending = s.pending := by
  rw [State.copyAbandon.eq_def]
  generalize (2 : Nat) ^ 64 = top
  split
  · rfl
  · dsimp only
    split
    · rfl
    · rw [State.restoreSlot_pending, State.chkRead_pending, State.strikeEngine_pending, State.releaseSource_pending]
      split
      · exact State.ctxWrite_pending ..
      · rfl

@[simp] theorem State.copyEnd_pending (c : Copy) : (s.copyEnd c).pending = s.pending := by
  unfold State.copyEnd
  split <;> simp

@[simp] theorem State.settleMigs_pending : s.settleMigs.pending = s.pending := by
  simp [State.settleMigs, foldl_pending State.copyEnd_pending, foldl_pending State.restoreDone_pending]

@[simp] theorem State.migsNow_pending : s.migsNow.pending = s.pending := by simp [State.migsNow]
@[simp] theorem State.migsDue_pending : s.migsDue.pending = s.pending := by simp [State.migsDue]

@[simp] theorem State.lbistStart_pending (n : Nat) : (s.lbistStart n).pending = s.pending := by
  simp only [State.lbistStart]
  repeat' split
  all_goals simp

@[simp] theorem State.emMigrate_pending (slot ve : Nat) (any : Bool) :
    (s.emMigrate slot ve any).state.pending = s.pending := by
  simp [State.emMigrate]

@[simp] theorem State.emRetire_pending (ve : Nat) : (s.emRetire ve).state.pending = s.pending := by simp [State.emRetire]
@[simp] theorem State.emReturn_pending (ve : Nat) : (s.emReturn ve).state.pending = s.pending := by simp [State.emReturn]

@[simp] theorem State.emCmd_pending (v : Nat) : (s.emCmd v).state.pending = s.pending := by
  unfold State.emCmd
  split <;> simp

@[simp] theorem State.emMap_pending (slot v : Nat) : (s.emMap slot v).state.pending = s.pending := by
  unfold State.emMap
  split <;> simp

@[simp] theorem State.unlockedReg_pending (f : Fld) (low v : Nat) : (s.unlockedReg f low v).state.pending = s.pending := by
  simp [State.unlockedReg]

@[simp] theorem State.veCtrl_pending (n v : Nat) : (s.veCtrl n v).state.pending = s.pending := by simp [State.veCtrl]

/-! ### Timers, CRC units and 64-bit pairs -/

@[simp] theorem State.forceCmp_pending (n : Nat) : (s.forceCmp n).pending = s.pending := rfl
@[simp] theorem State.forceTop_pending (n : Nat) : (s.forceTop n).pending = s.pending := rfl
@[simp] theorem State.tmrBehind_pending (n : Nat) : (s.tmrBehind n).pending = s.pending := by simp [State.tmrBehind]

@[simp] theorem State.tmrCommit_pending (n : Nat) (top : Bool) : (s.tmrCommit n top).pending = s.pending := by
  simp [State.tmrCommit]

@[simp] theorem State.tmrCtrl_pending (n v : Nat) : (s.tmrCtrl n v).state.pending = s.pending := by simp [State.tmrCtrl]
@[simp] theorem State.tmrShow_pending (n : Nat) (q : List Nat) : (s.tmrShow n q).pending = s.pending := rfl
@[simp] theorem State.tmrCmd_pending (n v : Nat) : (s.tmrCmd n v).state.pending = s.pending := by simp [State.tmrCmd]
@[simp] theorem State.calCtrl_pending (v : Nat) : (s.calCtrl v).state.pending = s.pending := by simp [State.calCtrl]
@[simp] theorem State.setCrc_pending (u v : Nat) : (s.setCrc u v).pending = s.pending := rfl
@[simp] theorem State.crcFeed_pending (u : Nat) (bs : List Byte) : (s.crcFeed u bs).state.pending = s.pending := rfl
@[simp] theorem State.crcWait_pending (u : Nat) : (s.crcWait u).pending = s.pending := rfl
@[simp] theorem State.crcCmd_pending (u v : Nat) : (s.crcCmd u v).state.pending = s.pending := by simp [State.crcCmd]
@[simp] theorem State.crcCfg_pending (u v : Nat) : (s.crcCfg u v).state.pending = s.pending := by simp [State.crcCfg]

@[simp] theorem State.pairLo_pending (m : Nat) (p : Pair) (v : Nat) : (s.pairLo m p v).state.pending = s.pending := by
  simp [State.pairLo]

@[simp] theorem State.setPair_pending (p : Pair) (v : Nat) : (s.setPair p v).pending = s.pending := rfl

@[simp] theorem State.pairHi_pending (m : Nat) (p : Pair) (v : Nat) : (s.pairHi m p v).state.pending = s.pending := by
  rw [State.pairHi.eq_def]
  split
  · rfl
  · split
    case h_1 | h_2 => rw [WRes.state_ok, State.tmrCommit_pending, State.setPair_pending]
    case h_3 =>
      split
      · rfl
      · rw [WRes.state_ok, State.set_pending, State.setPair_pending]
    case h_4 | h_5 => rw [WRes.state_ok, State.setPair_pending]

@[simp] theorem State.ecCtrl_pending (n v : Nat) : (s.ecCtrl n v).state.pending = s.pending := by
  rw [State.ecCtrl]
  split
  · generalize List.range 128 = l
    refine foldl_pending (fun s a => ?_) ..
    rfl
  · rfl

@[simp] theorem State.tagCfg_pending (n v : Nat) : (s.tagCfg n v).state.pending = s.pending := by simp [State.tagCfg]

/-! ### Reliability commands -/

@[simp] theorem State.blLbistCmd_pending (t : Nat) : (s.blLbistCmd t).state.pending = s.pending := by
  simp [State.blLbistCmd]

@[simp] theorem State.blSpareCmd_pending : s.blSpareCmd.state.pending = s.pending := by
  simp only [State.blSpareCmd]
  repeat' split
  all_goals simp

@[simp] theorem State.blRotCmd_pending (t : Nat) : (s.blRotCmd t).state.pending = s.pending := by simp [State.blRotCmd]
@[simp] theorem State.blLoopCmd_pending (t : Nat) : (s.blLoopCmd t).state.pending = s.pending := by simp [State.blLoopCmd]

@[simp] theorem State.blCmd_pending (v : Nat) : (s.blCmd v).state.pending = s.pending := by
  unfold State.blCmd
  split <;> simp

@[simp] theorem State.blCfg_pending (v : Nat) : (s.blCfg v).state.pending = s.pending := by simp [State.blCfg]
@[simp] theorem State.rlClass_pending (c v : Nat) : (s.rlClass c v).state.pending = s.pending := by simp [State.rlClass]

/-! ### The journal -/

@[simp] theorem State.jnlCtrl_pending (v : Nat) : (s.jnlCtrl v).state.pending = s.pending := by simp [State.jnlCtrl]
@[simp] theorem State.jnlPush_pending (v : Nat) : (s.jnlPush v).state.pending = s.pending := by simp [State.jnlPush]

@[simp] theorem State.jnlOff_pending (f : Fld) (low v : Nat) : (s.jnlOff f low v).state.pending = s.pending := by
  simp [State.jnlOff]

/-! ### The host link -/

@[simp] theorem State.msi_pending (v : Nat) : (s.msi v).pending = s.pending := by simp [State.msi]
@[simp] theorem State.wakeMerge_pending : s.wakeMerge.pending = s.pending := rfl
@[simp] theorem State.wake_pending : s.wake.pending = s.pending := by simp [State.wake]
@[simp] theorem State.wakeFor_pending (r : Nat) : (s.wakeFor r).pending = s.pending := by simp [State.wakeFor]
@[simp] theorem State.wakeWaiting_pending : s.wakeWaiting.pending = s.pending := foldl_pending State.wakeFor_pending ..
@[simp] theorem State.waitOver_pending (r : Nat) : (s.waitOver r).pending = s.pending := rfl

/-! ### Verdicts and readout -/

@[simp] theorem State.freeze_pending : s.freeze.pending = s.pending := by simp [State.freeze]
@[simp] theorem State.freezeOn_pending (bit : Nat) : (s.freezeOn bit).pending = s.pending := by simp [State.freezeOn]
@[simp] theorem State.modLane_pending (l : Nat) (f : LaneState → LaneState) : (s.modLane l f).pending = s.pending := rfl
@[simp] theorem State.vuSilCfg_pending (v : Nat) : (s.vuSilCfg v).state.pending = s.pending := by simp [State.vuSilCfg]
@[simp] theorem State.vuStatus_pending (v : Nat) : (s.vuStatus v).state.pending = s.pending := by simp [State.vuStatus]
@[simp] theorem State.rdCfg_pending (r v : Nat) : (s.rdCfg r v).state.pending = s.pending := by simp [State.rdCfg]
@[simp] theorem State.rdType_pending (r v : Nat) : (s.rdType r v).state.pending = s.pending := by simp [State.rdType]

@[simp] theorem State.rdRing_pending (r : Nat) (f : Fld) (v : Nat) : (s.rdRing r f v).state.pending = s.pending := by
  simp [State.rdRing]

@[simp] theorem State.rdRead_pending (q : Nat) : (s.rdRead q).2.2.pending = s.pending := by
  unfold State.rdRead
  split
  · rfl
  · refine foldl_keeps (g := fun b : Option (List Nat) × Nat × State => b.2.2.pending) (fun b j => ?_) (some [], 0, s) _
    split
    · rfl
    · split <;> (rename_i h; simp [pending_of_eq h])

@[simp] theorem State.rdPut_pending (r : Nat) (l : List Nat) : (s.rdPut r l).pending = s.pending := by
  induction l generalizing s with
  | nil => rfl
  | cons a l ih => simp [State.rdPut, ih]

@[simp] theorem State.rdRelease_pending (r head : Nat) : (s.rdRelease r head).pending = s.pending := by
  simp only [State.rdRelease]
  repeat' split
  all_goals simp

@[simp] theorem State.rdHost_pending (r : Nat) (ws : List Nat) : (s.rdHost r ws).pending = s.pending := by
  simp [State.rdHost]

@[simp] theorem State.rdLane_pending (r : Nat) (h : Nat) (ws : List Nat) : (s.rdLane r h ws).pending = s.pending := by
  simp [State.rdLane]

@[simp] theorem State.rdPause_pending : s.rdPause.pending = s.pending := by
  unfold State.rdPause
  refine foldl_pending (fun s a => ?_) ..
  rfl

@[simp] theorem State.readoutItem_pending (r : Nat) : (s.readoutItem r).pending = s.pending := by
  simp only [State.readoutItem]
  split <;> split
  case isTrue.isTrue | isFalse.isTrue => simp
  case isTrue.isFalse | isFalse.isFalse => split <;> (rename_i h; simp [pending_of_eq₂ h])

@[simp] theorem State.rdCmd_pending (r v : Nat) : (s.rdCmd r v).state.pending = s.pending := by simp [State.rdCmd]

/-! ### The Triad -/

@[simp] theorem State.modTriad_pending (f : Triad → Triad) : (s.modTriad f).pending = s.pending := rfl
@[simp] theorem State.vtEvent_pending (bit : Nat) : (s.vtEvent bit).pending = s.pending := by simp [State.vtEvent]

@[simp] theorem State.dualEnter_pending (core : Nat) (out : Bool) : (s.dualEnter core out).pending = s.pending := by
  simp [State.dualEnter]

@[simp] theorem State.vtCmd_pending (v : Nat) : (s.vtCmd v).state.pending = s.pending := by simp [State.vtCmd]
@[simp] theorem State.vtCfg_pending (v : Nat) : (s.vtCfg v).state.pending = s.pending := by simp [State.vtCfg]

theorem State.ownReg_pending (low v : Nat) {f : State → State} (h : ∀ s, (f s).pending = s.pending) :
    (s.ownReg low v f).state.pending = s.pending := by
  unfold State.ownReg
  split
  · rfl
  · exact h s

/-! ### Debug and interrupts -/

@[simp] theorem State.engResume_pending (n : Nat) : (s.engResume n).pending = s.pending := rfl
@[simp] theorem State.dbgCtrl_pending (n v : Nat) : (s.dbgCtrl n v).state.pending = s.pending := by simp [State.dbgCtrl]
@[simp] theorem State.dbgS_pending (n r v : Nat) : (s.dbgS n r v).state.pending = s.pending := by simp [State.dbgS]
@[simp] theorem State.dbgPc_pending (n v : Nat) : (s.dbgPc n v).state.pending = s.pending := by simp [State.dbgPc]
@[simp] theorem State.tdCtrl_pending (v : Nat) : (s.tdCtrl v).state.pending = s.pending := by simp [State.tdCtrl]
@[simp] theorem State.tdS_pending (r v : Nat) : (s.tdS r v).state.pending = s.pending := by simp [State.tdS]
@[simp] theorem State.seqCtrl_pending (n v : Nat) : (s.seqCtrl n v).state.pending = s.pending := by simp [State.seqCtrl]
@[simp] theorem State.icSrc_pending (n v : Nat) : (s.icSrc n v).pending = s.pending := by simp [State.icSrc]
@[simp] theorem State.veIrq_pending (n v : Nat) : (s.veIrq n v).pending = s.pending := rfl

/-! ### The channel table -/

@[simp] theorem State.ctCheck_pending : s.ctCheck.pending = s.pending := rfl
@[simp] theorem State.ctBusy_pending : s.ctBusy.pending = s.pending := rfl
@[simp] theorem State.ctBegin_pending (k : CtKind) (rs : List (Nat × Nat)) : (s.ctBegin k rs).pending = s.pending := rfl

@[simp] theorem State.ctMarkLane_pending (lane : Nat) : (s.ctMarkLane lane).pending = s.pending := by
  simp [State.ctMarkLane]

@[simp] theorem State.ctCmd_pending (v : Nat) : (s.ctCmd v).state.pending = s.pending := by simp [State.ctCmd]
@[simp] theorem State.sweepCut_pending : s.sweepCut.pending = s.pending := rfl
@[simp] theorem State.sweepNext_pending (p : Sweep) : (s.sweepNext p).pending = s.pending := by simp [State.sweepNext]
@[simp] theorem State.ctBase_pending (v : Nat) : (s.ctBase v).state.pending = s.pending := by simp [State.ctBase]

@[simp] theorem State.ctSize_pending (v : Nat) : (s.ctSize v).state.pending = s.pending := by
  simp only [State.ctSize]
  repeat' split
  all_goals simp

@[simp] theorem State.ctSweepCfg_pending (v : Nat) : (s.ctSweepCfg v).state.pending = s.pending := by
  simp [State.ctSweepCfg]

@[simp] theorem State.ctLoader_pending (v : Nat) : (s.ctLoader v).state.pending = s.pending := by simp [State.ctLoader]

/-! ### Lanes -/

@[simp] theorem State.dropProg_pending (l vc : Nat) : (s.dropProg l vc).pending = s.pending := by
  unfold State.dropProg
  split <;> simp

@[simp] theorem State.dropAllProg_pending (l : Nat) : (s.dropAllProg l).pending = s.pending :=
  foldl_pending (fun s vc => s.dropProg_pending l vc) ..

@[simp] theorem State.lnDark_pending (l : Nat) : (s.lnDark l).pending = s.pending := rfl

@[simp] theorem State.reinstateDrop_pending (l : Nat) : (s.reinstateDrop l).pending = s.pending := by
  simp [State.reinstateDrop]

@[simp] theorem State.lnLeave_pending (l st : Nat) : (s.lnLeave l st).pending = s.pending := by simp [State.lnLeave]
@[simp] theorem State.lnRetire_pending (l : Nat) : (s.lnRetire l).pending = s.pending := by simp [State.lnRetire]
@[simp] theorem State.lnFast_pending (l : Nat) : (s.lnFast l).pending = s.pending := rfl
@[simp] theorem State.lnFull_pending (l st : Nat) : (s.lnFull l st).pending = s.pending := rfl
@[simp] theorem State.lnReturnEnd_pending (l : Nat) : (s.lnReturnEnd l).pending = s.pending := by simp [State.lnReturnEnd]

@[simp] theorem State.lnReturnFail_pending (l : Nat) : (s.lnReturnFail l).pending = s.pending := by
  simp [State.lnReturnFail]

@[simp] theorem State.lnLoopNext_pending : s.lnLoopNext.pending = s.pending := by
  simp only [State.lnLoopNext]
  repeat' split
  all_goals simp

@[simp] theorem State.lnReturn_pending (l : Nat) : (s.lnReturn l).pending = s.pending := by simp [State.lnReturn]

@[simp] theorem State.othersAbort_pending : s.othersAbort.pending = s.pending := by
  simp only [State.othersAbort]
  repeat' split
  all_goals simp

@[simp] theorem State.testsAbort_pending : s.testsAbort.pending = s.pending := by simp [State.testsAbort]
@[simp] theorem State.lnCtrl_pending (l v : Nat) : (s.lnCtrl l v).state.pending = s.pending := by simp [State.lnCtrl]
@[simp] theorem State.lnRetireCmd_pending (l : Nat) : (s.lnRetireCmd l).pending = s.pending := by simp [State.lnRetireCmd]
@[simp] theorem State.lnCmd_pending (l v : Nat) : (s.lnCmd l v).state.pending = s.pending := by simp [State.lnCmd]
@[simp] theorem State.lnAdapt_pending (l v : Nat) : (s.lnAdapt l v).state.pending = s.pending := by simp [State.lnAdapt]

@[simp] theorem State.lnHeart_pending : s.lnHeart.pending = s.pending := by
  refine foldl_pending (fun s l => ?_) ..
  split <;> simp

/-! ### Drydown tiers -/

@[simp] theorem State.engineOff_pending (n : Nat) : (s.engineOff n).pending = s.pending := by simp [State.engineOff]
@[simp] theorem State.powerKeep_pending (p : Nat → Bool) : (s.powerKeep p).pending = s.pending := by simp [State.powerKeep]

@[simp] theorem State.heartApply_pending : s.heartApply.pending = s.pending := by
  simp [State.heartApply, foldl_pending State.engineOff_pending]

@[simp] theorem State.baseApply_pending : s.baseApply.pending = s.pending := by
  simp [State.baseApply, foldl_pending State.engineOff_pending]

@[simp] theorem State.baseStop_pending : s.baseStop.pending = s.pending := by simp [State.baseStop]
@[simp] theorem State.topEnter_pending : s.topEnter.pending = s.pending := by simp [State.topEnter]

@[simp] theorem State.heartEnter_pending : s.heartEnter.pending = s.pending := by
  simp only [State.heartEnter]
  split <;> simp

@[simp] theorem State.baseEnter_pending : s.baseEnter.pending = s.pending := by
  simp only [State.baseEnter]
  repeat' split
  all_goals simp

@[simp] theorem State.ddEnter_pending (t : Nat) : (s.ddEnter t).pending = s.pending := by simp [State.ddEnter]
@[simp] theorem State.ddCtrl_pending (v : Nat) : (s.ddCtrl v).state.pending = s.pending := by simp [State.ddCtrl]

@[simp] theorem State.ddThr_pending (top heart base : Nat) : (s.ddThr top heart base).state.pending = s.pending := by
  simp [State.ddThr]

@[simp] theorem State.ddLean_pending (lo hi : Nat) : (s.ddLean lo hi).state.pending = s.pending := by simp [State.ddLean]
@[simp] theorem State.ddCfg_pending (v : Nat) : (s.ddCfg v).state.pending = s.pending := by simp [State.ddCfg]

/-! ### Frame ticks -/

@[simp] theorem State.modFt_pending (f : FrameTick → FrameTick) : (s.modFt f).pending = s.pending := rfl
@[simp] theorem State.ftState_pending (st : Nat) : (s.ftState st).pending = s.pending := rfl

@[simp] theorem State.ftReq_pending (lock unlock : Bool) : (s.ftReq lock unlock).pending = s.pending := by
  simp [State.ftReq]

@[simp] theorem State.ftCtrl_pending (v : Nat) : (s.ftCtrl v).state.pending = s.pending := by simp [State.ftCtrl]
@[simp] theorem State.ftCfg_pending (v : Nat) : (s.ftCfg v).state.pending = s.pending := by simp [State.ftCfg]
@[simp] theorem State.ftSync_pending (v : Nat) : (s.ftSync v).state.pending = s.pending := by simp [State.ftSync]
@[simp] theorem State.ftBudget_pending (v : Nat) : (s.ftBudget v).state.pending = s.pending := by simp [State.ftBudget]

/-! ### Power, reset and boot -/

@[simp] theorem State.rotCmd_pending (v : Nat) : (s.rotCmd v).state.pending = s.pending := by simp [State.rotCmd]
@[simp] theorem State.vaultCmd_pending (v : Nat) : (s.vaultCmd v).state.pending = s.pending := by simp [State.vaultCmd]
@[simp] theorem State.laneBlock_pending (l : Nat) : (s.laneBlock l).pending = s.pending := rfl
@[simp] theorem State.crcBlock_pending (u : Nat) : (s.crcBlock u).pending = s.pending := rfl
@[simp] theorem State.readoutBlock_pending (r : Nat) : (s.readoutBlock r).pending = s.pending := rfl
@[simp] theorem State.flashBlock_pending : s.flashBlock.pending = s.pending := rfl

@[simp] theorem State.rstBlk_pending (v : Nat) : (s.rstBlk v).state.pending = s.pending := by
  simp only [State.rstBlk]
  repeat' split
  all_goals simp

@[simp] theorem State.lcCmd_pending (v : Nat) : (s.lcCmd v).state.pending = s.pending := by simp [State.lcCmd]

@[simp] theorem State.bootConfirm_pending (v : Nat) : (s.bootConfirm v).state.pending = s.pending := by
  simp [State.bootConfirm]

@[simp] theorem State.bootGoReg_pending (m v : Nat) : (s.bootGoReg m v).state.pending = s.pending := by
  unfold State.bootGoReg
  split <;> simp

@[simp] theorem State.hbCtrl_pending (v : Nat) : (s.hbCtrl v).state.pending = s.pending := by simp [State.hbCtrl]
@[simp] theorem State.hbWake_pending (v : Nat) : (s.hbWake v).state.pending = s.pending := by simp [State.hbWake]
@[simp] theorem State.hbMsi_pending (m v : Nat) : (s.hbMsi m v).state.pending = s.pending := by simp [State.hbMsi]
@[simp] theorem State.hbLoad_pending (m v : Nat) : (s.hbLoad m v).state.pending = s.pending := by simp [State.hbLoad]
@[simp] theorem State.padCtrl_pending (v : Nat) : (s.padCtrl v).state.pending = s.pending := by simp [State.padCtrl]
@[simp] theorem State.padFilt_pending (v : Nat) : (s.padFilt v).state.pending = s.pending := rfl
@[simp] theorem State.padSsc_pending (v : Nat) : (s.padSsc v).state.pending = s.pending := rfl

/-! ### Registers with rules of their own -/

@[simp] theorem State.lowZero_pending (f : Fld) (low v : Nat) : (s.lowZero f low v).state.pending = s.pending := by
  simp [State.lowZero]

@[simp] theorem State.atLeast_pending (f : Fld) (least v : Nat) : (s.atLeast f least v).state.pending = s.pending := by
  simp [State.atLeast]

@[simp] theorem State.ownClassReg_pending (n v : Nat) : (s.ownClassReg n v).state.pending = s.pending := by
  unfold State.ownClassReg
  split
  · rfl
  · exact s.ownReg_pending _ _ fun _ => rfl

@[simp] theorem State.ownOvrReg_pending (n v : Nat) : (s.ownOvrReg n v).state.pending = s.pending := by
  unfold State.ownOvrReg
  split
  · rfl
  · exact s.ownReg_pending _ _ fun _ => rfl

/-! ### Reads of a register -/

@[simp] theorem State.readEffect_pending (r : RegRef) : (s.readEffect r).pending = s.pending := by
  have hrc : (s.resetRc (r.row.flds r.n r.k)).pending = s.pending := by rw [State.resetRc_frame]
  unfold State.readEffect
  dsimp only
  repeat' split
  all_goals exact hrc

/-! ### Every register write -/

/-- Every writer of a list leaves the queue as it is. -/
def KeepQueue (ws : List (Nat × Writer)) : Prop :=
  ∀ p ∈ ws, ∀ (s : State) (m n k v : Nat), (p.2 s m n k v).state.pending = s.pending

theorem KeepQueue.nil : KeepQueue [] := fun _ h => nomatch h

theorem KeepQueue.cons {b : Nat} {w : Writer} {ws : List (Nat × Writer)}
    (hw : ∀ (s : State) (m n k v : Nat), (w s m n k v).state.pending = s.pending) (hs : KeepQueue ws) :
    KeepQueue ((b, w) :: ws) :=
  List.forall_mem_cons.mpr ⟨hw, hs⟩

theorem frameW_keepQueue : KeepQueue frameW := by simp [KeepQueue, frameW]
theorem enginesW_keepQueue : KeepQueue enginesW := by simp [KeepQueue, enginesW]
theorem storeW_keepQueue : KeepQueue storeW := by simp [KeepQueue, storeW]
theorem verdictW_keepQueue : KeepQueue verdictW := by simp [KeepQueue, verdictW]

theorem systemW_keepQueue : KeepQueue systemW := by
  simp only [KeepQueue, systemW, List.forall_mem_cons]
  simpa using ⟨fun s n v => s.ownReg_pending 64 v fun _ => rfl, fun s n v => s.ownReg_pending 1 v fun _ => rfl⟩

theorem timersW_keepQueue : KeepQueue timersW := by
  unfold timersW
  exact
    .cons (fun s _ n _ v => s.tmrCtrl_pending n v) <|
    .cons (fun s _ n _ v => s.tmrCmd_pending n v) <|
    .cons (fun s m n _ v => s.pairLo_pending m (.tmrCmp (Fin.ofNat 8 n)) v) <|
    .cons (fun s m n _ v => s.pairHi_pending m (.tmrCmp (Fin.ofNat 8 n)) v) <|
    .cons (fun s m n _ v => s.pairLo_pending m (.tmrTop (Fin.ofNat 8 n)) v) <|
    .cons (fun s m n _ v => s.pairHi_pending m (.tmrTop (Fin.ofNat 8 n)) v) <|
    .cons (fun s m _ _ v => s.pairLo_pending m .calSet v) <|
    .cons (fun s m _ _ v => s.pairHi_pending m .calSet v) <|
    .cons (fun s m _ _ v => s.pairLo_pending m .calAlarm v) <|
    .cons (fun s m _ _ v => s.pairHi_pending m .calAlarm v) <|
    .cons (fun s _ _ _ v => s.calCtrl_pending v) <|
    .cons (fun s _ n _ v => s.crcCfg_pending n v) <|
    .cons (fun s _ n _ v => s.crcCmd_pending n v) <|
    .cons (fun s _ n _ v => s.crcFeed_pending n (leBytes 1 v)) <|
    .cons (fun s _ n _ v => s.crcFeed_pending n (leBytes 2 v)) <|
    .cons (fun s _ n _ v => s.crcFeed_pending n (leBytes 4 v)) <|
    .cons (fun s m n _ v => s.pairLo_pending m (.crcPoly (Fin.ofNat 16 n)) v) <|
    .cons (fun s m n _ v => s.pairHi_pending m (.crcPoly (Fin.ofNat 16 n)) v) <|
    .cons (fun s m n _ v => s.pairLo_pending m (.crcInit (Fin.ofNat 16 n)) v) <|
    .cons (fun s m n _ v => s.pairHi_pending m (.crcInit (Fin.ofNat 16 n)) v) <|
    .cons (fun s m n _ v => s.pairLo_pending m (.crcXorout (Fin.ofNat 16 n)) v) <|
    .cons (fun s m n _ v => s.pairHi_pending m (.crcXorout (Fin.ofNat 16 n)) v) <|
    .cons (fun s m n _ v => s.pairLo_pending m (.crcValue (Fin.ofNat 16 n)) v) <|
    .cons (fun s m n _ v => s.pairHi_pending m (.crcValue (Fin.ofNat 16 n)) v) <|
    .cons (fun s m n _ v => s.pairLo_pending m (.crcExpect (Fin.ofNat 16 n)) v) <|
    .cons (fun s m n _ v => s.pairHi_pending m (.crcExpect (Fin.ofNat 16 n)) v) <|
    .nil

theorem relW_keepQueue : KeepQueue relW := by simp [KeepQueue, relW]

theorem KeepQueue.append {ws us : List (Nat × Writer)} (hw : KeepQueue ws) (hu : KeepQueue us) : KeepQueue (ws ++ us) :=
  fun p hp => (List.mem_append.mp hp).elim (hw p) (hu p)

theorem writers_keepQueue : KeepQueue writers :=
  (((((frameW_keepQueue.append enginesW_keepQueue).append storeW_keepQueue).append verdictW_keepQueue).append
    systemW_keepQueue).append timersW_keepQueue).append relW_keepQueue

/-- The writer found for a row is one of the list. -/
theorem mem_of_writerOf {base : Nat} {w : Writer} :
    ∀ {l : List (Nat × Writer)}, writerOf base l = some w → (base, w) ∈ l
  | (b, u) :: l, h => by
    unfold writerOf at h
    split at h
    next hb => cases h; simp [hb]
    next => exact List.mem_cons_of_mem _ (mem_of_writerOf h)

theorem State.writeFlds_pending (v : Nat) (fs : List (Fld × Acc)) : (s.writeFlds v fs).pending = s.pending := by
  refine foldl_pending (fun s p => ?_) ..
  unfold State.writeFld
  dsimp only
  split <;> rfl

theorem State.regWrite_pending (m : Nat) (q : RegRef) (n v : Nat) : (s.regWrite m q n v).state.pending = s.pending := by
  unfold State.regWrite
  split
  · rfl
  · dsimp only
    split
    next w h => exact writers_keepQueue _ (mem_of_writerOf h) ..
    next => simp [State.ctRange, State.writeFlds_pending]

end Sys2Proof.Machine
end

section
/-! Register accesses of REGISTER_WRITE and RC_READ (R4, R7, R351): one beat to one register, and how the
command answers. -/

namespace Sys2Proof.Machine

/-! ### Little-endian bytes (R3) -/

@[simp] theorem length_leBytes (n v : Nat) : (leBytes n v).length = n := by
  induction n generalizing v with
  | zero => rfl
  | succ n ih => simp [leBytes, ih]

theorem leNat_leBytes (n v : Nat) : leNat (leBytes n v) = v % 2 ^ (8 * n) := by
  induction n generalizing v with
  | zero => simp [leBytes, leNat, Nat.mod_one]
  | succ n ih =>
    have hp : 2 ^ (8 * (n + 1)) = 256 * 2 ^ (8 * n) := by rw [Nat.mul_succ, Nat.pow_add, Nat.mul_comm]
    rw [leBytes, leNat, ih, BitVec.toNat_ofNat, hp, Nat.mod_mul]

theorem cutHalf_lt (off n v : Nat) : cutHalf off n v < 2 ^ (8 * n) := Nat.mod_lt _ (Nat.two_pow_pos _)

/-! ### One beat to a register (R4, R351) -/

/-- An access within a line is one beat. -/
theorem beatsOf_line {a n : Nat} (hn : 0 < n) (h : a % 16 + n ≤ 16) : beatsOf a n = [(a, n)] := by
  have hc : (a + n - 1) / 16 - a / 16 + 1 = 1 := by omega
  have hlo : max a (a / 16 * 16) = a := by omega
  have hlen : min (a + n) (a / 16 * 16 + 16) - a = n := by omega
  simp [beatsOf, hc, hlo, hlen, Nat.ne_of_gt hn]

/-- An access to a register that passes the checks lies within a line. -/
theorem line_of_mxCheck {s : State} {m a n : Nat} {w p : Bool} {r : RegRef} (hr : targetOf a = .register r)
    (h : s.mxCheck m a n w p = none) : a % 16 + n ≤ 16 := by
  have hf : formOk a n = true := by
    cases hf : formOk a n with
    | true => rfl
    | false =>
      unfold State.mxCheck at h
      repeat' split at h
      all_goals simp_all
  simpa [formOk, hr] using hf

theorem writePieces_line {a n : Nat} (hn : 0 < n) (h : a % 16 + n ≤ 16) : writePieces a n = [(a, n)] := by
  unfold writePieces
  split
  · rfl
  · exact beatsOf_line hn h

/-- A write of a register that passes the checks is the register's own. -/
theorem State.busPut_register {s : State} {m a n : Nat} {r : RegRef} (v : Nat) (hr : targetOf a = .register r) (hn : 0 < n)
    (h : s.mxCheck m a n true false = none) :
    s.busPut m a (leBytes n v) =
      match s.regWrite m r n (v % 2 ^ (8 * n)) with
      | .ok t => (0, t)
      | .refused t => (4, t) := by
  have hl := line_of_mxCheck hr h
  have ht : (leBytes n v).take n = leBytes n v := List.take_of_length_le (by simp)
  simp only [State.busPut, length_leBytes, h, writePieces_line hn hl, State.beatsWrite, State.beatWrite, hr, ht,
    leNat_leBytes]
  cases s.regWrite m r n (v % 2 ^ (8 * n)) <;> rfl

/-- A read of a register that passes the checks and gives a value. -/
theorem State.readReq_ok {s t : State} {m a n v : Nat} {p : Bool} {r : RegRef} (hr : targetOf a = .register r) (hn : 0 < n)
    (h : s.mxCheck m a n false p = none) (hv : s.regRead r n p = (.ok v, t)) :
    s.readReq m a n p =
      { t with resp := some { master := m, code := 0, data := v % 2 ^ (8 * n), beats := [some (v % 2 ^ (8 * n))] } } := by
  simp [State.readReq, State.busRead, h, beatsOf_line hn (line_of_mxCheck hr h), State.beatsRead, State.beatRead, hr, hv,
    firstErr, joinBeats, beatData, leNat_leBytes]

/-- A read of a register that passes the checks and fails. -/
theorem State.readReq_error {s t : State} {m a n c : Nat} {p : Bool} {r : RegRef} (hr : targetOf a = .register r)
    (hn : 0 < n) (h : s.mxCheck m a n false p = none) (hv : s.regRead r n p = (.error c, t)) :
    s.readReq m a n p = { t with resp := some { master := m, code := c, data := 0, beats := [none] } } := by
  simp [State.readReq, State.busRead, h, beatsOf_line hn (line_of_mxCheck hr h), State.beatsRead, State.beatRead, hr, hv,
    firstErr, joinBeats, beatData, leNat]

/-! ### Reads of a register -/

theorem State.regRead_width {s : State} {r : RegRef} {n : Nat} (h : r.widthOk n = false) (p : Bool) :
    s.regRead r n p = (.error 4, s) := by simp [State.regRead, h]

theorem State.regRead_plain {s : State} {r : RegRef} {n : Nat} (h : r.widthOk n = true) (hp : r.row.base ∉ ptrRows)
    (hq : r.row.base ≠ (Rg.Q_POP_HDR 0).addr) :
    s.regRead r n false = (.ok (cutHalf r.off n (s.regShow r)), s.readEffect r) := by simp [State.regRead, h, hp, hq]

theorem State.regRead_pointers {s : State} {r : RegRef} {n : Nat} (h : r.widthOk n = true) (hp : r.row.base ∈ ptrRows) :
    s.regRead r n false = (.ok (cutHalf r.off n ((s.qUse r.n).regShow r)), s.qUse r.n) := by simp [State.regRead, h, hp]

theorem popHdr_not_ptrRow : (Rg.Q_POP_HDR 0).addr ∉ ptrRows := by decide

theorem State.regRead_popHdr {s : State} {r : RegRef} {n : Nat} (h : r.widthOk n = true)
    (hq : r.row.base = (Rg.Q_POP_HDR 0).addr) :
    s.regRead r n false = ((match (s.qPopHdr r.n).1 with | some v => .ok v | none => .error 5), (s.qPopHdr r.n).2) := by
  have hp : r.row.base ∉ ptrRows := hq ▸ popHdr_not_ptrRow
  unfold State.regRead
  rw [if_neg (by simp [h]), if_neg hp, if_pos hq]
  obtain ⟨x, t⟩ := s.qPopHdr r.n
  cases x <;> rfl

theorem State.regWrite_width {s : State} {r : RegRef} {n : Nat} (h : r.widthOk n = false) (m v : Nat) :
    s.regWrite m r n v = .refused s := by simp [State.regWrite, h]

/-! ### The commands -/

/-- A command whose effect leaves the queue alone answers its effect. -/
theorem act_next {s t : State} {f : State → State} (h : s.held = false) (hf : f s = t) (hp : t.pending = s.pending) :
    act s f = .next t := by
  rw [act_eq h, hf, ← hp]

/-- The boot ROM, which waits for nothing, does nothing. -/
theorem State.romRun_none {s : State} (h : s.rom = .none) : s.romRun = s := by
  unfold State.romRun
  split
  · rw [h]
  · rfl

theorem accessBytes_pos (wide : Bool) : 0 < if wide then 8 else 4 := by cases wide <;> decide

theorem accessBits (wide : Bool) : (8 * if wide then 8 else 4) = if wide then 64 else 32 := by cases wide <;> rfl

section
variable {s t : State} {m : Master} {a : Addr} {wide : Bool} {r : RegRef} (hh : s.held = false)
  (hr : targetOf a.toNat = .register r)
include hh hr

/-- REGISTER_WRITE of a register, every check passed, answers as its register does. -/
theorem exec_registerWrite {v : DWord} {w : WRes}
    (hm : s.mxCheck m a.toNat (if wide then 8 else 4) true false = none)
    (hw : s.regWrite m r (if wide then 8 else 4) (v.toNat % 2 ^ (if wide then 64 else 32)) = w)
    (hrom : w.state.rom = .none) (hp : w.state.pending = s.pending) :
    exec (.registerWrite m a wide v) s = .next (w.state.respond m (match w with | .ok _ => 0 | .refused _ => 4) 0) := by
  have hput := State.busPut_register v.toNat hr (accessBytes_pos wide) hm
  rw [accessBits, hw] at hput
  refine act_next (f := fun s => (s.writeReq m a.toNat (leBytes (if wide then 8 else 4) v.toNat)).romRun) hh ?_ hp
  cases w <;> simp only [State.writeReq, hput] <;> exact State.romRun_none hrom

/-- RC_READ of a register that gives a value. -/
theorem exec_rcRead_ok {v : Nat} (hm : s.mxCheck m a.toNat (if wide then 8 else 4) false false = none)
    (hv : s.regRead r (if wide then 8 else 4) false = (.ok v, t)) (hp : t.pending = s.pending) :
    exec (.rcRead m a wide) s = .next
      { t with resp := some { master := m, code := 0, data := v % 2 ^ (8 * if wide then 8 else 4),
                              beats := [some (v % 2 ^ (8 * if wide then 8 else 4))] } } :=
  act_next (f := fun s => s.readReq m a.toNat (if wide then 8 else 4) false) hh
    (State.readReq_ok hr (accessBytes_pos wide) hm hv) hp

/-- RC_READ of a register that fails. -/
theorem exec_rcRead_error {c : Nat} (hm : s.mxCheck m a.toNat (if wide then 8 else 4) false false = none)
    (hv : s.regRead r (if wide then 8 else 4) false = (.error c, t)) (hp : t.pending = s.pending) :
    exec (.rcRead m a wide) s = .next { t with resp := some { master := m, code := c, data := 0, beats := [none] } } :=
  act_next (f := fun s => s.readReq m a.toNat (if wide then 8 else 4) false) hh
    (State.readReq_error hr (accessBytes_pos wide) hm hv) hp

end

/-- Settles O9: an access that passes the checks is one beat to its register, so the command answers what the register makes
of it; and no register touches the commands that wait. -/
theorem registerAccessesComplete : Obligations.RegisterAccessesComplete := by
  unfold Obligations.RegisterAccessesComplete
  refine ⟨?write, ?width, ?plain, ?pointers, ?popHdr⟩
  case write =>
    intro s m a wide v r t hh hrom _ hr hm _
    refine ⟨fun hw ht => ?_, fun hw => exec_registerWrite hh hr hm hw hrom rfl⟩
    exact exec_registerWrite hh hr hm hw ht (hw ▸ s.regWrite_pending m r _ _)
  case width =>
    intro s m a wide v r hh hrom hr hm hwd
    refine ⟨exec_registerWrite hh hr hm (State.regWrite_width hwd ..) hrom rfl, fun hm' => ?_⟩
    exact ⟨_, exec_rcRead_error hh hr hm' (State.regRead_width hwd _) rfl, rfl⟩
  case plain =>
    intro s m a wide r hh hr hm hwd hq hp
    refine ⟨_, exec_rcRead_ok hh hr hm (State.regRead_plain hwd hp hq) (s.readEffect_pending r), rfl, ?_⟩
    rw [Nat.mod_eq_of_lt (cutHalf_lt ..)]
  case pointers =>
    intro s m a r hh hr hm hp hwd
    refine ⟨_, exec_rcRead_ok (wide := false) hh hr hm (State.regRead_pointers hwd hp) (s.qUse_pending _), rfl, ?_⟩
    rw [Nat.mod_eq_of_lt (cutHalf_lt ..)]
    rfl
  case popHdr =>
    intro s m a r hh hr hm hq hwd
    have hread := State.regRead_popHdr (s := s) hwd hq
    have hp := s.qPopHdr_pending r.n
    cases hv : (s.qPopHdr r.n).1 with
    | some v => exact ⟨_, exec_rcRead_ok (wide := true) hh hr hm (by rw [if_pos rfl, hread, hv]) hp, rfl, rfl⟩
    | none => exact ⟨_, exec_rcRead_error (wide := true) hh hr hm (by rw [if_pos rfl, hread, hv]) hp, rfl, rfl⟩

end Sys2Proof.Machine
end

section
/-! Frames (R14 to R43) and the instructions that end them. The states in which five statements about them fail, each
with the step that the model takes from it. -/

namespace Sys2Proof.Machine

/-! ### The one answer of a command -/

/-- The state in which command `c` leaves the machine, where it completes. -/
def nextOf (c : Instr) (s : State) : State :=
  match exec c s with
  | .next t => t
  | _ => s

/-- A command that answers has one next state, so what is said of its answer is said of that state. -/
theorem Answers.nextOf {c : Instr} {s : State} {P : State → Prop} (h : Answers c s P) : P (nextOf c s) := by
  obtain ⟨t, ht, hP⟩ := h
  simpa only [Machine.nextOf, ht] using hP

/-- A machine that is not held in reset and lists nothing but some register fields. -/
def stateWith (fs : List (Fld × Nat)) : State := fs.foldl (fun s p => s.set p.1 p.2) {}

/-! ### A copy to an engine that does not exist (R126, R130)

`State.copies` holds engine numbers that nothing bounds, and the statements about frames ask nothing of it. The register
windows of the engines lie 0x10000 apart from 0x2_0000_0000 on (R130), so the window of a number far above 67 lies on the
frame/tick unit's registers, and the copy's `VE_SAT` becomes `FT_STATUS.STATE`. Every boundary that completes the copies under
way then leaves the unit in a state that the statements do not allow. -/

/-- The number whose `VE_SAT` has the address of `FT_STATUS`. -/
def strayEngine : Nat := (Rg.FT_STATUS_STATE.addr - (Rg.VE_SAT 0).addr) / 0x10000

/-- The unit is LOCKED, and a copy of slot 0 from engine 0, whose `VE_SAT` is 5, to `strayEngine` is under way. -/
def strayCopy (fs : List (Fld × Nat)) (ft : FrameTick) : State :=
  { stateWith ((Rg.FT_STATUS_STATE, 4) :: (Rg.VE_SAT 0, 5) :: fs) with
    ft := ft, copies := [⟨0, 0, strayEngine, .command⟩] }

/-- Refutes O11: REF_LOSS in LOCKED completes the copies under way after it has entered UNLOCKED, and one to `strayEngine`
leaves `FT_STATUS.STATE` at 5. -/
theorem not_lockSequenceFollowsR16 : ¬ Obligations.LockSequenceFollowsR16 := by
  unfold Obligations.LockSequenceFollowsR16
  rintro ⟨-, -, -, -, -, -, -, -, -, -, -, -, refLossLocked, -⟩
  obtain ⟨hunlocked, -⟩ := (refLossLocked (strayCopy [] {}) (by decide) (by decide)).nextOf
  have hstate : (nextOf .refLoss (strayCopy [] {})).get Rg.FT_STATUS_STATE = 5 := by decide +kernel
  exact absurd (hstate.symm.trans hunlocked) (by decide)

/-- Refutes O12: the crossing that ends a position without its marker raises SYNC_LOST, and with RELOCK_EN enters SEEKING;
the copies under way complete after that, and one to `strayEngine` leaves `FT_STATUS.STATE` at 5. -/
theorem not_markersAndCrossingsFollowR39 : ¬ Obligations.MarkersAndCrossingsFollowR39 := by
  unfold Obligations.MarkersAndCrossingsFollowR39
  rintro ⟨-, -, -, -, -, missing, -⟩
  let s := strayCopy [(Rg.FT_CTRL_RELOCK_EN, 1), (Rg.FT_SYNC_MISS_LIMIT, 1)] { cross := 1, crossOpen := true }
  obtain ⟨-, -, relocks⟩ := missing s (by decide) (by decide) (by decide) (by decide) (by decide)
  obtain ⟨-, -, hseeking, -⟩ := (relocks (by decide) (by decide) (by decide)).nextOf
  have hstate : (nextOf .crossingTick s).get Rg.FT_STATUS_STATE = 5 := by decide +kernel
  exact absurd (hstate.symm.trans hseeking) (by decide)

/-- Refutes O13: FRAME_TICK completes the copies under way first, and one to `strayEngine` leaves `FT_STATUS.STATE` at 5,
so the unit is not LOCKED after it. -/
theorem not_frameTickRotatesTheBuffers : ¬ Obligations.FrameTickRotatesTheBuffers := by
  unfold Obligations.FrameTickRotatesTheBuffers
  rintro ⟨rotates, -⟩
  let s := strayCopy [(Rg.FT_CFG_F_M1, 0)] { phase := 5, inFrame := 1 }
  obtain ⟨-, -, -, -, -, -, -, -, -, hlocked, -⟩ :=
    (rotates s (by decide) (by decide) (by decide) (by decide)).nextOf
  have hlost : (nextOf .frameTick s).locked = false := by decide +kernel
  exact absurd (hlost.symm.trans hlocked) (by decide)

/-! ### A checkpoint corrects the masks that it sends (R113, R120) -/

/-- The lean programs are in force and slot 2 alone is lean, so the checkpoints of slots 2 and 5 began at cc 0, and only slot 2
starts (R120, R442). Group 0 of mask m1 of engine 5, which serves slot 5, holds a single-bit error. -/
def leanCheckpoint : State :=
  { stateWith [(Rg.FT_STATUS_STATE, 4), (Rg.DD_LEAN_LO, 2 ^ 2)] with
    ft := { frames := 1, evalRun := true, starts := [2] },
    dd := { lean := true },
    chks := [(2, some ⟨2, 0, false, 0, false⟩), (5, some ⟨5, 0, false, 0, false⟩)],
    engines := [(5, { stErr := [(1024, false)] })] }

/-- Refutes O14: at cc 96 the checkpoint of engine 5 has been sent, and reading the mask group that holds a single-bit error
has corrected it (R113), though no slot that engine 5 serves starts. -/
theorem not_framePhasesFollowR21 : ¬ Obligations.FramePhasesFollowR21 := by
  unfold Obligations.FramePhasesFollowR21
  rintro ⟨-, -, programStart, -⟩
  obtain ⟨-, -, -, -, -, -, -, -, -, -, -, others⟩ :=
    (programStart leanCheckpoint 2 2 (by decide) (by decide) (by decide) (by decide) (by decide) (by decide) (by decide)
      (by decide) (by decide) (by decide) (by decide)).nextOf
  have hsame : (nextOf .frameProgramStart leanCheckpoint).eng 5 = leanCheckpoint.eng 5 := others 5 (by decide)
  have hcorrected : ((nextOf .frameProgramStart leanCheckpoint).eng 5).stErr = [] := by decide +kernel
  have herror : (leanCheckpoint.eng 5).stErr = [(1024, false)] := by decide
  exact absurd (hcorrected.symm.trans ((congrArg Engine.stErr hsame).trans herror)) (by decide)

/-! ### A fenced core's last PC is known in the mc of its fence only (R327, R336) -/

/-- Core 2 of the Triad was fenced in this mc, and its last retired PC is known; the voted Triad stands at offset 0x100 of
local memory, whose line stands in its line buffer. -/
def fencedTriad : State :=
  { stateWith [(Rg.VT_STATUS_STATE, 1), (Rg.VT_STATUS_FENCED_CORE, 2)] with
    engines := [(triadNo, { run := true, pc := 0x100, lineBuf := some 0x4000004, caps := rootCaps })],
    triad := { awayPc := some 0xFC } }

/-- Refutes O33: an instruction that retires on the Triad makes the last PC of the core out of the vote unknown, so FEND
on the Triad changes more than its core, its event counters and the interval of its tagging. -/
theorem not_fendTrapAndReleaseFollowTheSpec : ¬ Obligations.FendTrapAndReleaseFollowTheSpec := by
  unfold Obligations.FendTrapAndReleaseFollowTheSpec
  rintro ⟨-, triadFend, -⟩
  obtain ⟨⟨honly, -⟩, -⟩ := (triadFend fencedTriad ⟨0, 0, 0⟩ 0 (by decide) (by decide) (by decide)).nextOf
  have hkept : (nextOf (.fend .triad ⟨0, 0, 0⟩ 0) fencedTriad).triad = fencedTriad.triad := by rw [honly]
  have hdropped : (nextOf (.fend .triad ⟨0, 0, 0⟩ 0) fencedTriad).triad.awayPc = none := by decide +kernel
  have hknown : fencedTriad.triad.awayPc = some 0xFC := rfl
  exact absurd (hdropped.symm.trans ((congrArg Triad.awayPc hkept).trans hknown)) (by decide)

end Sys2Proof.Machine
end
